-- ==== Sys2Proof/Word.lean ====
section
/-! DEFINITION. The word types of the S-1 (00_scope.md, 10_state.md, 20_memory.md): quarter-, half-, single- and
double-words, virtual and physical addresses, and the four precisions. Bit 0 of every word is its most significant
bit, as the spec numbers bits. -/

namespace Sys2Proof

/-- A quarter-word, 9 bits: the unit an address names (R121). -/
abbrev QW := BitVec 9
/-- A half-word, 18 bits. -/
abbrev HW := BitVec 18
/-- A single-word, 36 bits. -/
abbrev SW := BitVec 36
/-- A double-word, 72 bits. -/
abbrev DW := BitVec 72
/-- A virtual quarter-word address, 30 bits (R121). -/
abbrev VAddr := BitVec 30
/-- A physical quarter-word address, 34 bits (R120). -/
abbrev PAddr := BitVec 34
/-- A register number within a file. -/
abbrev RegNum := BitVec 5
/-- A register file number (R41). -/
abbrev FileNum := BitVec 4

/-- The four precisions Q, H, S, D (R126). -/
inductive Prec where
  | q | h | s | d
  deriving DecidableEq, Repr

/-- The width in bits of a word of precision `p`. -/
@[reducible] def Prec.bits : Prec → Nat
  | .q => 9
  | .h => 18
  | .s => 36
  | .d => 72

/-- The number of quarter-words in a word of precision `p` (R126). -/
@[reducible] def Prec.qws : Prec → Nat
  | .q => 1
  | .h => 2
  | .s => 4
  | .d => 8

end Sys2Proof
end

