-- ==== Sys2Proof/Machine/Bits.lean ====
section
/-! DEFINITION. Bit fields with the spec's numbering: bit 0 is the most significant bit of every word (R20). -/

namespace Sys2Proof.Machine

/-- `field w start len` is `w<start : start+len-1>`. -/
def field {n : Nat} (w : BitVec n) (start len : Nat) : BitVec len := w.extractLsb' (n - start - len) len

/-- Bit `i` of `w`, `w<i>`. -/
def bitAt {n : Nat} (w : BitVec n) (i : Nat) : Bool := w.getMsbD i

/-- `w` with `w<start : start+len-1>` replaced by `v`; every other bit unchanged. -/
def setField {n len : Nat} (w : BitVec n) (start : Nat) (v : BitVec len) : BitVec n :=
  (w &&& ~~~((BitVec.allOnes len).setWidth n <<< (n - start - len))) ||| (v.setWidth n <<< (n - start - len))

/-- `w` with bit `i` replaced by `b`. -/
def setBit {n : Nat} (w : BitVec n) (i : Nat) (b : Bool) : BitVec n := setField w i (BitVec.ofBool b)

/-- A saved program counter: `6*0 || a` (R51). -/
def pcWord (a : VAddr) : SW := a.setWidth 36

/-- The address in the low-order 30 bits of a word, `w<6:35>`. -/
def addrOfWord (w : SW) : VAddr := w.setWidth 30

/-- `a + k` on virtual addresses, modulo 2^30 (R156). -/
def vaAdd (a : VAddr) (k : Nat) : VAddr := a + BitVec.ofNat 30 k

end Sys2Proof.Machine
end

