-- ==== Sys2Proof/Syntax.lean ====
section
/-! DEFINITION. The instructions of the S-1 as syntax: operand descriptors with their extended words, jump
destinations, and one constructor of `Instr` per row of the opcode map (R268). Register numbers, constants and
modes are taken out of the words by the decoder; nothing here knows a bit position. -/

namespace Sys2Proof

/-- A short operand, the reading of `MODE` and `F` of a descriptor (R221, Table 4-2). -/
inductive Short where
  /-- register-direct: `MODE` = 0, `F` in 0..31 -/
  | reg (r : RegNum)
  /-- `MODE` = 0 with `F` = 32 + f: no register of that number (fatal 9) -/
  | regOut (f : BitVec 5)
  /-- short-constant: `MODE` = 1 -/
  | const (f : BitVec 6)
  /-- the reserved `MODE` = 2 (fatal 10) -/
  | mode2 (f : BitVec 6)
  /-- short-indexed: `MODE` = `base` in 3..31, `F` = `disp` single-words; base 3 is the PC -/
  | indexed (base : RegNum) (disp : BitVec 6)
  deriving DecidableEq, Repr

/-- A fixed-based or variable-based extended word (R225): the bits P and I, the scale S, the unused bit 5, and the
30-bit base address, or the base register and its displacement. -/
inductive ExtWord where
  | fixedBased (p i : Bool) (s : BitVec 2) (spare : Bool) (addr : VAddr)
  | variableBased (p i : Bool) (s : BitVec 2) (spare : Bool) (reg : RegNum) (disp : BitVec 25)
  deriving DecidableEq, Repr

/-- How an immediate is widened to a double-word (R227): sign-extended, zero-extended, left-justified. -/
inductive ConstKind where
  | sx | zx | lj
  deriving DecidableEq, Repr

/-- An operand descriptor with the extended word that belongs to it, if any (R220, R224). -/
inductive OD where
  /-- X = 0: the short operand itself -/
  | short (so : Short)
  /-- X = 1, `MODE` = 1, `F` = 1, 2, 3: immediate long constant (R227) -/
  | longConst (k : ConstKind) (w : SW)
  /-- X = 1, `MODE` = 1, `F` in 4..31: reserved (fatal 7) -/
  | illegalF (f : BitVec 5) (w : SW)
  /-- X = 1, `MODE` = 1, `F` = 32 + r: indexed long constant (R229) -/
  | indexedConst (r : RegNum) (w : SW)
  /-- X = 1, `MODE` = 1, `F` = 0: fixed- or variable-based with a short operand of zero (R230) -/
  | based0 (ew : ExtWord)
  /-- X = 1, any other `MODE`: fixed- or variable-based with `so` as index (R230); `MODE` = 2 is reserved (R224) -/
  | based (so : Short) (ew : ExtWord)
  deriving DecidableEq, Repr

/-- The T field of a three-address instruction: which operands DEST and S1 are (R207, Table 4-1). -/
inductive TMode where
  /-- DEST = OP1, S1 = OP1 -/
  | t00
  /-- DEST = OP1, S1 = RTA -/
  | t01
  /-- DEST = RTA, S1 = OP1 -/
  | t10
  /-- DEST = RTB, S1 = OP1 -/
  | t11
  deriving DecidableEq, Repr

/-- The J field with the PR bit (R210): PC-relative by a signed number of single-words, or a general operand. -/
inductive JDest where
  | rel (j : BitVec 12)
  | gen (od : OD)
  deriving DecidableEq, Repr

set_option maxHeartbeats 4000000 in
/-- The instructions of the opcode map (R268), in the order of the map. Three-address: T, OD1, OD2; two-address: OD1,
OD2; skip: SKP, OD1, OD2; jump: OD1, J; hop: the displacement. -/
inductive Instr where
  -- ADD, TOP (R310)
  | addQ (t : TMode) (o1 o2 : OD)
  | addH (t : TMode) (o1 o2 : OD)
  | addS (t : TMode) (o1 o2 : OD)
  | addD (t : TMode) (o1 o2 : OD)
  -- ADDC, TOP (R311)
  | addcQ (t : TMode) (o1 o2 : OD)
  | addcH (t : TMode) (o1 o2 : OD)
  | addcS (t : TMode) (o1 o2 : OD)
  | addcD (t : TMode) (o1 o2 : OD)
  -- SUB, TOP (R312)
  | subQ (t : TMode) (o1 o2 : OD)
  | subH (t : TMode) (o1 o2 : OD)
  | subS (t : TMode) (o1 o2 : OD)
  | subD (t : TMode) (o1 o2 : OD)
  -- SUBV, TOP (R313)
  | subvQ (t : TMode) (o1 o2 : OD)
  | subvH (t : TMode) (o1 o2 : OD)
  | subvS (t : TMode) (o1 o2 : OD)
  | subvD (t : TMode) (o1 o2 : OD)
  -- SUBC, TOP (R314)
  | subcQ (t : TMode) (o1 o2 : OD)
  | subcH (t : TMode) (o1 o2 : OD)
  | subcS (t : TMode) (o1 o2 : OD)
  | subcD (t : TMode) (o1 o2 : OD)
  -- SUBCV, TOP (R315)
  | subcvQ (t : TMode) (o1 o2 : OD)
  | subcvH (t : TMode) (o1 o2 : OD)
  | subcvS (t : TMode) (o1 o2 : OD)
  | subcvD (t : TMode) (o1 o2 : OD)
  -- MULT, TOP (R320)
  | multQ (t : TMode) (o1 o2 : OD)
  | multH (t : TMode) (o1 o2 : OD)
  | multS (t : TMode) (o1 o2 : OD)
  | multD (t : TMode) (o1 o2 : OD)
  -- MULTL, TOP (R321)
  | multlQ (t : TMode) (o1 o2 : OD)
  | multlH (t : TMode) (o1 o2 : OD)
  | multlS (t : TMode) (o1 o2 : OD)
  -- QUO, TOP (R324)
  | quoQ (t : TMode) (o1 o2 : OD)
  | quoH (t : TMode) (o1 o2 : OD)
  | quoS (t : TMode) (o1 o2 : OD)
  | quoD (t : TMode) (o1 o2 : OD)
  -- QUOV, TOP (R325)
  | quovQ (t : TMode) (o1 o2 : OD)
  | quovH (t : TMode) (o1 o2 : OD)
  | quovS (t : TMode) (o1 o2 : OD)
  | quovD (t : TMode) (o1 o2 : OD)
  -- QUOL, TOP (R326)
  | quolQ (t : TMode) (o1 o2 : OD)
  | quolH (t : TMode) (o1 o2 : OD)
  | quolS (t : TMode) (o1 o2 : OD)
  -- QUOLV, TOP (R327)
  | quolvQ (t : TMode) (o1 o2 : OD)
  | quolvH (t : TMode) (o1 o2 : OD)
  | quolvS (t : TMode) (o1 o2 : OD)
  -- QUO2, TOP (R330)
  | quo2Q (t : TMode) (o1 o2 : OD)
  | quo2H (t : TMode) (o1 o2 : OD)
  | quo2S (t : TMode) (o1 o2 : OD)
  | quo2D (t : TMode) (o1 o2 : OD)
  -- QUO2V, TOP (R331)
  | quo2vQ (t : TMode) (o1 o2 : OD)
  | quo2vH (t : TMode) (o1 o2 : OD)
  | quo2vS (t : TMode) (o1 o2 : OD)
  | quo2vD (t : TMode) (o1 o2 : OD)
  -- QUO2L, TOP (R332)
  | quo2lQ (t : TMode) (o1 o2 : OD)
  | quo2lH (t : TMode) (o1 o2 : OD)
  | quo2lS (t : TMode) (o1 o2 : OD)
  -- QUO2LV, TOP (R333)
  | quo2lvQ (t : TMode) (o1 o2 : OD)
  | quo2lvH (t : TMode) (o1 o2 : OD)
  | quo2lvS (t : TMode) (o1 o2 : OD)
  -- REM, TOP (R336)
  | remQ (t : TMode) (o1 o2 : OD)
  | remH (t : TMode) (o1 o2 : OD)
  | remS (t : TMode) (o1 o2 : OD)
  | remD (t : TMode) (o1 o2 : OD)
  -- REMV, TOP (R337)
  | remvQ (t : TMode) (o1 o2 : OD)
  | remvH (t : TMode) (o1 o2 : OD)
  | remvS (t : TMode) (o1 o2 : OD)
  | remvD (t : TMode) (o1 o2 : OD)
  -- REML, TOP (R338)
  | remlQ (t : TMode) (o1 o2 : OD)
  | remlH (t : TMode) (o1 o2 : OD)
  | remlS (t : TMode) (o1 o2 : OD)
  -- REMLV, TOP (R339)
  | remlvQ (t : TMode) (o1 o2 : OD)
  | remlvH (t : TMode) (o1 o2 : OD)
  | remlvS (t : TMode) (o1 o2 : OD)
  -- MOD, TOP (R342)
  | modQ (t : TMode) (o1 o2 : OD)
  | modH (t : TMode) (o1 o2 : OD)
  | modS (t : TMode) (o1 o2 : OD)
  | modD (t : TMode) (o1 o2 : OD)
  -- MODV, TOP (R343)
  | modvQ (t : TMode) (o1 o2 : OD)
  | modvH (t : TMode) (o1 o2 : OD)
  | modvS (t : TMode) (o1 o2 : OD)
  | modvD (t : TMode) (o1 o2 : OD)
  -- MODL, TOP (R344)
  | modlQ (t : TMode) (o1 o2 : OD)
  | modlH (t : TMode) (o1 o2 : OD)
  | modlS (t : TMode) (o1 o2 : OD)
  -- MODLV, TOP (R345)
  | modlvQ (t : TMode) (o1 o2 : OD)
  | modlvH (t : TMode) (o1 o2 : OD)
  | modlvS (t : TMode) (o1 o2 : OD)
  -- DIV, TOP (R348)
  | divQ (t : TMode) (o1 o2 : OD)
  | divH (t : TMode) (o1 o2 : OD)
  | divS (t : TMode) (o1 o2 : OD)
  | divD (t : TMode) (o1 o2 : OD)
  -- DIVV, TOP (R349)
  | divvQ (t : TMode) (o1 o2 : OD)
  | divvH (t : TMode) (o1 o2 : OD)
  | divvS (t : TMode) (o1 o2 : OD)
  | divvD (t : TMode) (o1 o2 : OD)
  -- DIVL, TOP (R350)
  | divlQ (t : TMode) (o1 o2 : OD)
  | divlH (t : TMode) (o1 o2 : OD)
  | divlS (t : TMode) (o1 o2 : OD)
  -- DIVLV, TOP (R351)
  | divlvQ (t : TMode) (o1 o2 : OD)
  | divlvH (t : TMode) (o1 o2 : OD)
  | divlvS (t : TMode) (o1 o2 : OD)
  -- INC, XOP (R354)
  | incQ (o1 o2 : OD)
  | incH (o1 o2 : OD)
  | incS (o1 o2 : OD)
  | incD (o1 o2 : OD)
  -- DEC, XOP (R355)
  | decQ (o1 o2 : OD)
  | decH (o1 o2 : OD)
  | decS (o1 o2 : OD)
  | decD (o1 o2 : OD)
  -- TRANS, XOP (R358)
  | transQQ (o1 o2 : OD)
  | transQH (o1 o2 : OD)
  | transQS (o1 o2 : OD)
  | transQD (o1 o2 : OD)
  | transHQ (o1 o2 : OD)
  | transHH (o1 o2 : OD)
  | transHS (o1 o2 : OD)
  | transHD (o1 o2 : OD)
  | transSQ (o1 o2 : OD)
  | transSH (o1 o2 : OD)
  | transSS (o1 o2 : OD)
  | transSD (o1 o2 : OD)
  | transDQ (o1 o2 : OD)
  | transDH (o1 o2 : OD)
  | transDS (o1 o2 : OD)
  | transDD (o1 o2 : OD)
  -- NEG, XOP (R360)
  | negQ (o1 o2 : OD)
  | negH (o1 o2 : OD)
  | negS (o1 o2 : OD)
  | negD (o1 o2 : OD)
  -- ABS, XOP (R361)
  | absQ (o1 o2 : OD)
  | absH (o1 o2 : OD)
  | absS (o1 o2 : OD)
  | absD (o1 o2 : OD)
  -- MIN, TOP (R364)
  | minQ (t : TMode) (o1 o2 : OD)
  | minH (t : TMode) (o1 o2 : OD)
  | minS (t : TMode) (o1 o2 : OD)
  | minD (t : TMode) (o1 o2 : OD)
  -- MAX, TOP (R365)
  | maxQ (t : TMode) (o1 o2 : OD)
  | maxH (t : TMode) (o1 o2 : OD)
  | maxS (t : TMode) (o1 o2 : OD)
  | maxD (t : TMode) (o1 o2 : OD)
  -- UMULT, TOP (R370)
  | umultQ (t : TMode) (o1 o2 : OD)
  | umultH (t : TMode) (o1 o2 : OD)
  | umultS (t : TMode) (o1 o2 : OD)
  | umultD (t : TMode) (o1 o2 : OD)
  -- UMULTL, TOP (R371)
  | umultlQ (t : TMode) (o1 o2 : OD)
  | umultlH (t : TMode) (o1 o2 : OD)
  | umultlS (t : TMode) (o1 o2 : OD)
  -- UDIV, TOP (R374)
  | udivQ (t : TMode) (o1 o2 : OD)
  | udivH (t : TMode) (o1 o2 : OD)
  | udivS (t : TMode) (o1 o2 : OD)
  | udivD (t : TMode) (o1 o2 : OD)
  -- UDIVL, TOP (R375)
  | udivlQ (t : TMode) (o1 o2 : OD)
  | udivlH (t : TMode) (o1 o2 : OD)
  | udivlS (t : TMode) (o1 o2 : OD)
  -- FADD, TOP (R430)
  | faddH (t : TMode) (o1 o2 : OD)
  | faddS (t : TMode) (o1 o2 : OD)
  | faddD (t : TMode) (o1 o2 : OD)
  -- FSUB, TOP (R431)
  | fsubH (t : TMode) (o1 o2 : OD)
  | fsubS (t : TMode) (o1 o2 : OD)
  | fsubD (t : TMode) (o1 o2 : OD)
  -- FSUBV, TOP (R432)
  | fsubvH (t : TMode) (o1 o2 : OD)
  | fsubvS (t : TMode) (o1 o2 : OD)
  | fsubvD (t : TMode) (o1 o2 : OD)
  -- FMULT, TOP (R434)
  | fmultH (t : TMode) (o1 o2 : OD)
  | fmultS (t : TMode) (o1 o2 : OD)
  | fmultD (t : TMode) (o1 o2 : OD)
  -- FMULTL, TOP (R435)
  | fmultlH (t : TMode) (o1 o2 : OD)
  | fmultlS (t : TMode) (o1 o2 : OD)
  -- FDIV, TOP (R437)
  | fdivH (t : TMode) (o1 o2 : OD)
  | fdivS (t : TMode) (o1 o2 : OD)
  | fdivD (t : TMode) (o1 o2 : OD)
  -- FDIVV, TOP (R438)
  | fdivvH (t : TMode) (o1 o2 : OD)
  | fdivvS (t : TMode) (o1 o2 : OD)
  | fdivvD (t : TMode) (o1 o2 : OD)
  -- FDIVL, TOP (R439)
  | fdivlH (t : TMode) (o1 o2 : OD)
  | fdivlS (t : TMode) (o1 o2 : OD)
  -- FDIVLV, TOP (R440)
  | fdivlvH (t : TMode) (o1 o2 : OD)
  | fdivlvS (t : TMode) (o1 o2 : OD)
  -- FSC, TOP (R442)
  | fscH (t : TMode) (o1 o2 : OD)
  | fscS (t : TMode) (o1 o2 : OD)
  | fscD (t : TMode) (o1 o2 : OD)
  -- FSCV, TOP (R443)
  | fscvH (t : TMode) (o1 o2 : OD)
  | fscvS (t : TMode) (o1 o2 : OD)
  | fscvD (t : TMode) (o1 o2 : OD)
  -- FIX, XOP (R446)
  | fixFlQH (o1 o2 : OD)
  | fixFlQS (o1 o2 : OD)
  | fixFlQD (o1 o2 : OD)
  | fixFlHH (o1 o2 : OD)
  | fixFlHS (o1 o2 : OD)
  | fixFlHD (o1 o2 : OD)
  | fixFlSH (o1 o2 : OD)
  | fixFlSS (o1 o2 : OD)
  | fixFlSD (o1 o2 : OD)
  | fixFlDH (o1 o2 : OD)
  | fixFlDS (o1 o2 : OD)
  | fixFlDD (o1 o2 : OD)
  | fixClQH (o1 o2 : OD)
  | fixClQS (o1 o2 : OD)
  | fixClQD (o1 o2 : OD)
  | fixClHH (o1 o2 : OD)
  | fixClHS (o1 o2 : OD)
  | fixClHD (o1 o2 : OD)
  | fixClSH (o1 o2 : OD)
  | fixClSS (o1 o2 : OD)
  | fixClSD (o1 o2 : OD)
  | fixClDH (o1 o2 : OD)
  | fixClDS (o1 o2 : OD)
  | fixClDD (o1 o2 : OD)
  | fixDmQH (o1 o2 : OD)
  | fixDmQS (o1 o2 : OD)
  | fixDmQD (o1 o2 : OD)
  | fixDmHH (o1 o2 : OD)
  | fixDmHS (o1 o2 : OD)
  | fixDmHD (o1 o2 : OD)
  | fixDmSH (o1 o2 : OD)
  | fixDmSS (o1 o2 : OD)
  | fixDmSD (o1 o2 : OD)
  | fixDmDH (o1 o2 : OD)
  | fixDmDS (o1 o2 : OD)
  | fixDmDD (o1 o2 : OD)
  | fixHpQH (o1 o2 : OD)
  | fixHpQS (o1 o2 : OD)
  | fixHpQD (o1 o2 : OD)
  | fixHpHH (o1 o2 : OD)
  | fixHpHS (o1 o2 : OD)
  | fixHpHD (o1 o2 : OD)
  | fixHpSH (o1 o2 : OD)
  | fixHpSS (o1 o2 : OD)
  | fixHpSD (o1 o2 : OD)
  | fixHpDH (o1 o2 : OD)
  | fixHpDS (o1 o2 : OD)
  | fixHpDD (o1 o2 : OD)
  | fixUsQH (o1 o2 : OD)
  | fixUsQS (o1 o2 : OD)
  | fixUsQD (o1 o2 : OD)
  | fixUsHH (o1 o2 : OD)
  | fixUsHS (o1 o2 : OD)
  | fixUsHD (o1 o2 : OD)
  | fixUsSH (o1 o2 : OD)
  | fixUsSS (o1 o2 : OD)
  | fixUsSD (o1 o2 : OD)
  | fixUsDH (o1 o2 : OD)
  | fixUsDS (o1 o2 : OD)
  | fixUsDD (o1 o2 : OD)
  -- FLOAT, XOP (R448)
  | floatHQ (o1 o2 : OD)
  | floatHH (o1 o2 : OD)
  | floatHS (o1 o2 : OD)
  | floatHD (o1 o2 : OD)
  | floatSQ (o1 o2 : OD)
  | floatSH (o1 o2 : OD)
  | floatSS (o1 o2 : OD)
  | floatSD (o1 o2 : OD)
  | floatDQ (o1 o2 : OD)
  | floatDH (o1 o2 : OD)
  | floatDS (o1 o2 : OD)
  | floatDD (o1 o2 : OD)
  -- FTRANS, XOP (R450)
  | ftransHH (o1 o2 : OD)
  | ftransHS (o1 o2 : OD)
  | ftransHD (o1 o2 : OD)
  | ftransSH (o1 o2 : OD)
  | ftransSS (o1 o2 : OD)
  | ftransSD (o1 o2 : OD)
  | ftransDH (o1 o2 : OD)
  | ftransDS (o1 o2 : OD)
  | ftransDD (o1 o2 : OD)
  -- FNEG, XOP (R452)
  | fnegH (o1 o2 : OD)
  | fnegS (o1 o2 : OD)
  | fnegD (o1 o2 : OD)
  -- FABS, XOP (R453)
  | fabsH (o1 o2 : OD)
  | fabsS (o1 o2 : OD)
  | fabsD (o1 o2 : OD)
  -- FMIN, TOP (R455)
  | fminH (t : TMode) (o1 o2 : OD)
  | fminS (t : TMode) (o1 o2 : OD)
  | fminD (t : TMode) (o1 o2 : OD)
  -- FMAX, TOP (R456)
  | fmaxH (t : TMode) (o1 o2 : OD)
  | fmaxS (t : TMode) (o1 o2 : OD)
  | fmaxD (t : TMode) (o1 o2 : OD)
  -- MOV, XOP (R472)
  | movQQ (o1 o2 : OD)
  | movQH (o1 o2 : OD)
  | movQS (o1 o2 : OD)
  | movQD (o1 o2 : OD)
  | movHQ (o1 o2 : OD)
  | movHH (o1 o2 : OD)
  | movHS (o1 o2 : OD)
  | movHD (o1 o2 : OD)
  | movSQ (o1 o2 : OD)
  | movSH (o1 o2 : OD)
  | movSS (o1 o2 : OD)
  | movSD (o1 o2 : OD)
  | movDQ (o1 o2 : OD)
  | movDH (o1 o2 : OD)
  | movDS (o1 o2 : OD)
  | movDD (o1 o2 : OD)
  -- MOVMQ, XOP (R474)
  | movmq2 (o1 o2 : OD)
  | movmq3 (o1 o2 : OD)
  | movmq4 (o1 o2 : OD)
  | movmq5 (o1 o2 : OD)
  | movmq6 (o1 o2 : OD)
  | movmq7 (o1 o2 : OD)
  | movmq8 (o1 o2 : OD)
  | movmq9 (o1 o2 : OD)
  | movmq10 (o1 o2 : OD)
  | movmq11 (o1 o2 : OD)
  | movmq12 (o1 o2 : OD)
  | movmq13 (o1 o2 : OD)
  | movmq14 (o1 o2 : OD)
  | movmq15 (o1 o2 : OD)
  | movmq16 (o1 o2 : OD)
  | movmq17 (o1 o2 : OD)
  | movmq18 (o1 o2 : OD)
  | movmq19 (o1 o2 : OD)
  | movmq20 (o1 o2 : OD)
  | movmq21 (o1 o2 : OD)
  | movmq22 (o1 o2 : OD)
  | movmq23 (o1 o2 : OD)
  | movmq24 (o1 o2 : OD)
  | movmq25 (o1 o2 : OD)
  | movmq26 (o1 o2 : OD)
  | movmq27 (o1 o2 : OD)
  | movmq28 (o1 o2 : OD)
  | movmq29 (o1 o2 : OD)
  | movmq30 (o1 o2 : OD)
  | movmq31 (o1 o2 : OD)
  | movmq32 (o1 o2 : OD)
  | movmq64 (o1 o2 : OD)
  | movmq128 (o1 o2 : OD)
  -- MOVMS, XOP (R475)
  | movms2 (o1 o2 : OD)
  | movms3 (o1 o2 : OD)
  | movms4 (o1 o2 : OD)
  | movms5 (o1 o2 : OD)
  | movms6 (o1 o2 : OD)
  | movms7 (o1 o2 : OD)
  | movms8 (o1 o2 : OD)
  | movms9 (o1 o2 : OD)
  | movms10 (o1 o2 : OD)
  | movms11 (o1 o2 : OD)
  | movms12 (o1 o2 : OD)
  | movms13 (o1 o2 : OD)
  | movms14 (o1 o2 : OD)
  | movms15 (o1 o2 : OD)
  | movms16 (o1 o2 : OD)
  | movms17 (o1 o2 : OD)
  | movms18 (o1 o2 : OD)
  | movms19 (o1 o2 : OD)
  | movms20 (o1 o2 : OD)
  | movms21 (o1 o2 : OD)
  | movms22 (o1 o2 : OD)
  | movms23 (o1 o2 : OD)
  | movms24 (o1 o2 : OD)
  | movms25 (o1 o2 : OD)
  | movms26 (o1 o2 : OD)
  | movms27 (o1 o2 : OD)
  | movms28 (o1 o2 : OD)
  | movms29 (o1 o2 : OD)
  | movms30 (o1 o2 : OD)
  | movms31 (o1 o2 : OD)
  | movms32 (o1 o2 : OD)
  -- EXCH, XOP (R477)
  | exchQ (o1 o2 : OD)
  | exchH (o1 o2 : OD)
  | exchS (o1 o2 : OD)
  | exchD (o1 o2 : OD)
  -- SLR, XOP (R479)
  | slr0 (o1 o2 : OD)
  | slr1 (o1 o2 : OD)
  | slr2 (o1 o2 : OD)
  | slr3 (o1 o2 : OD)
  | slr4 (o1 o2 : OD)
  | slr5 (o1 o2 : OD)
  | slr6 (o1 o2 : OD)
  | slr7 (o1 o2 : OD)
  | slr8 (o1 o2 : OD)
  | slr9 (o1 o2 : OD)
  | slr10 (o1 o2 : OD)
  | slr11 (o1 o2 : OD)
  | slr12 (o1 o2 : OD)
  | slr13 (o1 o2 : OD)
  | slr14 (o1 o2 : OD)
  | slr15 (o1 o2 : OD)
  | slr16 (o1 o2 : OD)
  | slr17 (o1 o2 : OD)
  | slr18 (o1 o2 : OD)
  | slr19 (o1 o2 : OD)
  | slr20 (o1 o2 : OD)
  | slr21 (o1 o2 : OD)
  | slr22 (o1 o2 : OD)
  | slr23 (o1 o2 : OD)
  | slr24 (o1 o2 : OD)
  | slr25 (o1 o2 : OD)
  | slr26 (o1 o2 : OD)
  | slr27 (o1 o2 : OD)
  | slr28 (o1 o2 : OD)
  | slr29 (o1 o2 : OD)
  | slr30 (o1 o2 : OD)
  | slr31 (o1 o2 : OD)
  -- SLRADR, XOP (R480)
  | slradr0 (o1 o2 : OD)
  | slradr1 (o1 o2 : OD)
  | slradr2 (o1 o2 : OD)
  | slradr3 (o1 o2 : OD)
  | slradr4 (o1 o2 : OD)
  | slradr5 (o1 o2 : OD)
  | slradr6 (o1 o2 : OD)
  | slradr7 (o1 o2 : OD)
  | slradr8 (o1 o2 : OD)
  | slradr9 (o1 o2 : OD)
  | slradr10 (o1 o2 : OD)
  | slradr11 (o1 o2 : OD)
  | slradr12 (o1 o2 : OD)
  | slradr13 (o1 o2 : OD)
  | slradr14 (o1 o2 : OD)
  | slradr15 (o1 o2 : OD)
  | slradr16 (o1 o2 : OD)
  | slradr17 (o1 o2 : OD)
  | slradr18 (o1 o2 : OD)
  | slradr19 (o1 o2 : OD)
  | slradr20 (o1 o2 : OD)
  | slradr21 (o1 o2 : OD)
  | slradr22 (o1 o2 : OD)
  | slradr23 (o1 o2 : OD)
  | slradr24 (o1 o2 : OD)
  | slradr25 (o1 o2 : OD)
  | slradr26 (o1 o2 : OD)
  | slradr27 (o1 o2 : OD)
  | slradr28 (o1 o2 : OD)
  | slradr29 (o1 o2 : OD)
  | slradr30 (o1 o2 : OD)
  | slradr31 (o1 o2 : OD)
  -- MOVADR, XOP (R484)
  | movadr (o1 o2 : OD)
  -- MOVPHY, XOP (R486)
  | movphy (o1 o2 : OD)
  -- CMPSF, TOP (R492)
  | cmpsfGtrQ (t : TMode) (o1 o2 : OD)
  | cmpsfGtrH (t : TMode) (o1 o2 : OD)
  | cmpsfGtrS (t : TMode) (o1 o2 : OD)
  | cmpsfGtrD (t : TMode) (o1 o2 : OD)
  | cmpsfEqlQ (t : TMode) (o1 o2 : OD)
  | cmpsfEqlH (t : TMode) (o1 o2 : OD)
  | cmpsfEqlS (t : TMode) (o1 o2 : OD)
  | cmpsfEqlD (t : TMode) (o1 o2 : OD)
  | cmpsfGeqQ (t : TMode) (o1 o2 : OD)
  | cmpsfGeqH (t : TMode) (o1 o2 : OD)
  | cmpsfGeqS (t : TMode) (o1 o2 : OD)
  | cmpsfGeqD (t : TMode) (o1 o2 : OD)
  | cmpsfLssQ (t : TMode) (o1 o2 : OD)
  | cmpsfLssH (t : TMode) (o1 o2 : OD)
  | cmpsfLssS (t : TMode) (o1 o2 : OD)
  | cmpsfLssD (t : TMode) (o1 o2 : OD)
  | cmpsfNeqQ (t : TMode) (o1 o2 : OD)
  | cmpsfNeqH (t : TMode) (o1 o2 : OD)
  | cmpsfNeqS (t : TMode) (o1 o2 : OD)
  | cmpsfNeqD (t : TMode) (o1 o2 : OD)
  | cmpsfLeqQ (t : TMode) (o1 o2 : OD)
  | cmpsfLeqH (t : TMode) (o1 o2 : OD)
  | cmpsfLeqS (t : TMode) (o1 o2 : OD)
  | cmpsfLeqD (t : TMode) (o1 o2 : OD)
  -- BNDSF, TOP (R494)
  | bndsfBQ (t : TMode) (o1 o2 : OD)
  | bndsfBH (t : TMode) (o1 o2 : OD)
  | bndsfBS (t : TMode) (o1 o2 : OD)
  | bndsfBD (t : TMode) (o1 o2 : OD)
  | bndsfMinQ (t : TMode) (o1 o2 : OD)
  | bndsfMinH (t : TMode) (o1 o2 : OD)
  | bndsfMinS (t : TMode) (o1 o2 : OD)
  | bndsfMinD (t : TMode) (o1 o2 : OD)
  | bndsfM1Q (t : TMode) (o1 o2 : OD)
  | bndsfM1H (t : TMode) (o1 o2 : OD)
  | bndsfM1S (t : TMode) (o1 o2 : OD)
  | bndsfM1D (t : TMode) (o1 o2 : OD)
  | bndsf0Q (t : TMode) (o1 o2 : OD)
  | bndsf0H (t : TMode) (o1 o2 : OD)
  | bndsf0S (t : TMode) (o1 o2 : OD)
  | bndsf0D (t : TMode) (o1 o2 : OD)
  | bndsf1Q (t : TMode) (o1 o2 : OD)
  | bndsf1H (t : TMode) (o1 o2 : OD)
  | bndsf1S (t : TMode) (o1 o2 : OD)
  | bndsf1D (t : TMode) (o1 o2 : OD)
  -- NOT, XOP (R502)
  | notQ (o1 o2 : OD)
  | notH (o1 o2 : OD)
  | notS (o1 o2 : OD)
  | notD (o1 o2 : OD)
  -- AND, TOP (R504)
  | andQ (t : TMode) (o1 o2 : OD)
  | andH (t : TMode) (o1 o2 : OD)
  | andS (t : TMode) (o1 o2 : OD)
  | andD (t : TMode) (o1 o2 : OD)
  -- ANDTC, TOP (R505)
  | andtcQ (t : TMode) (o1 o2 : OD)
  | andtcH (t : TMode) (o1 o2 : OD)
  | andtcS (t : TMode) (o1 o2 : OD)
  | andtcD (t : TMode) (o1 o2 : OD)
  -- ANDCT, TOP (R506)
  | andctQ (t : TMode) (o1 o2 : OD)
  | andctH (t : TMode) (o1 o2 : OD)
  | andctS (t : TMode) (o1 o2 : OD)
  | andctD (t : TMode) (o1 o2 : OD)
  -- OR, TOP (R507)
  | orQ (t : TMode) (o1 o2 : OD)
  | orH (t : TMode) (o1 o2 : OD)
  | orS (t : TMode) (o1 o2 : OD)
  | orD (t : TMode) (o1 o2 : OD)
  -- ORTC, TOP (R508)
  | ortcQ (t : TMode) (o1 o2 : OD)
  | ortcH (t : TMode) (o1 o2 : OD)
  | ortcS (t : TMode) (o1 o2 : OD)
  | ortcD (t : TMode) (o1 o2 : OD)
  -- ORCT, TOP (R509)
  | orctQ (t : TMode) (o1 o2 : OD)
  | orctH (t : TMode) (o1 o2 : OD)
  | orctS (t : TMode) (o1 o2 : OD)
  | orctD (t : TMode) (o1 o2 : OD)
  -- NAND, TOP (R510)
  | nandQ (t : TMode) (o1 o2 : OD)
  | nandH (t : TMode) (o1 o2 : OD)
  | nandS (t : TMode) (o1 o2 : OD)
  | nandD (t : TMode) (o1 o2 : OD)
  -- NOR, TOP (R511)
  | norQ (t : TMode) (o1 o2 : OD)
  | norH (t : TMode) (o1 o2 : OD)
  | norS (t : TMode) (o1 o2 : OD)
  | norD (t : TMode) (o1 o2 : OD)
  -- XOR, TOP (R512)
  | xorQ (t : TMode) (o1 o2 : OD)
  | xorH (t : TMode) (o1 o2 : OD)
  | xorS (t : TMode) (o1 o2 : OD)
  | xorD (t : TMode) (o1 o2 : OD)
  -- EQV, TOP (R513)
  | eqvQ (t : TMode) (o1 o2 : OD)
  | eqvH (t : TMode) (o1 o2 : OD)
  | eqvS (t : TMode) (o1 o2 : OD)
  | eqvD (t : TMode) (o1 o2 : OD)
  -- SHF, TOP (R534)
  | shfLfQ (t : TMode) (o1 o2 : OD)
  | shfLfH (t : TMode) (o1 o2 : OD)
  | shfLfS (t : TMode) (o1 o2 : OD)
  | shfLfD (t : TMode) (o1 o2 : OD)
  | shfRtQ (t : TMode) (o1 o2 : OD)
  | shfRtH (t : TMode) (o1 o2 : OD)
  | shfRtS (t : TMode) (o1 o2 : OD)
  | shfRtD (t : TMode) (o1 o2 : OD)
  -- SHFV, TOP (R535)
  | shfvLfQ (t : TMode) (o1 o2 : OD)
  | shfvLfH (t : TMode) (o1 o2 : OD)
  | shfvLfS (t : TMode) (o1 o2 : OD)
  | shfvLfD (t : TMode) (o1 o2 : OD)
  | shfvRtQ (t : TMode) (o1 o2 : OD)
  | shfvRtH (t : TMode) (o1 o2 : OD)
  | shfvRtS (t : TMode) (o1 o2 : OD)
  | shfvRtD (t : TMode) (o1 o2 : OD)
  -- DSHF, TOP (R538)
  | dshfLfQ (t : TMode) (o1 o2 : OD)
  | dshfLfH (t : TMode) (o1 o2 : OD)
  | dshfLfS (t : TMode) (o1 o2 : OD)
  | dshfRtQ (t : TMode) (o1 o2 : OD)
  | dshfRtH (t : TMode) (o1 o2 : OD)
  | dshfRtS (t : TMode) (o1 o2 : OD)
  -- DSHFV, TOP (R539)
  | dshfvLfQ (t : TMode) (o1 o2 : OD)
  | dshfvLfH (t : TMode) (o1 o2 : OD)
  | dshfvLfS (t : TMode) (o1 o2 : OD)
  | dshfvRtQ (t : TMode) (o1 o2 : OD)
  | dshfvRtH (t : TMode) (o1 o2 : OD)
  | dshfvRtS (t : TMode) (o1 o2 : OD)
  -- SHFA, TOP (R542)
  | shfaLfQ (t : TMode) (o1 o2 : OD)
  | shfaLfH (t : TMode) (o1 o2 : OD)
  | shfaLfS (t : TMode) (o1 o2 : OD)
  | shfaLfD (t : TMode) (o1 o2 : OD)
  | shfaRtQ (t : TMode) (o1 o2 : OD)
  | shfaRtH (t : TMode) (o1 o2 : OD)
  | shfaRtS (t : TMode) (o1 o2 : OD)
  | shfaRtD (t : TMode) (o1 o2 : OD)
  -- SHFAV, TOP (R543)
  | shfavLfQ (t : TMode) (o1 o2 : OD)
  | shfavLfH (t : TMode) (o1 o2 : OD)
  | shfavLfS (t : TMode) (o1 o2 : OD)
  | shfavLfD (t : TMode) (o1 o2 : OD)
  | shfavRtQ (t : TMode) (o1 o2 : OD)
  | shfavRtH (t : TMode) (o1 o2 : OD)
  | shfavRtS (t : TMode) (o1 o2 : OD)
  | shfavRtD (t : TMode) (o1 o2 : OD)
  -- ROT, TOP (R546)
  | rotLfQ (t : TMode) (o1 o2 : OD)
  | rotLfH (t : TMode) (o1 o2 : OD)
  | rotLfS (t : TMode) (o1 o2 : OD)
  | rotLfD (t : TMode) (o1 o2 : OD)
  | rotRtQ (t : TMode) (o1 o2 : OD)
  | rotRtH (t : TMode) (o1 o2 : OD)
  | rotRtS (t : TMode) (o1 o2 : OD)
  | rotRtD (t : TMode) (o1 o2 : OD)
  -- ROTV, TOP (R547)
  | rotvLfQ (t : TMode) (o1 o2 : OD)
  | rotvLfH (t : TMode) (o1 o2 : OD)
  | rotvLfS (t : TMode) (o1 o2 : OD)
  | rotvLfD (t : TMode) (o1 o2 : OD)
  | rotvRtQ (t : TMode) (o1 o2 : OD)
  | rotvRtH (t : TMode) (o1 o2 : OD)
  | rotvRtS (t : TMode) (o1 o2 : OD)
  | rotvRtD (t : TMode) (o1 o2 : OD)
  -- SKP, SOP (R570)
  | skpGtrQ (skp : BitVec 4) (o1 o2 : OD)
  | skpGtrH (skp : BitVec 4) (o1 o2 : OD)
  | skpGtrS (skp : BitVec 4) (o1 o2 : OD)
  | skpGtrD (skp : BitVec 4) (o1 o2 : OD)
  | skpEqlQ (skp : BitVec 4) (o1 o2 : OD)
  | skpEqlH (skp : BitVec 4) (o1 o2 : OD)
  | skpEqlS (skp : BitVec 4) (o1 o2 : OD)
  | skpEqlD (skp : BitVec 4) (o1 o2 : OD)
  | skpGeqQ (skp : BitVec 4) (o1 o2 : OD)
  | skpGeqH (skp : BitVec 4) (o1 o2 : OD)
  | skpGeqS (skp : BitVec 4) (o1 o2 : OD)
  | skpGeqD (skp : BitVec 4) (o1 o2 : OD)
  | skpLssQ (skp : BitVec 4) (o1 o2 : OD)
  | skpLssH (skp : BitVec 4) (o1 o2 : OD)
  | skpLssS (skp : BitVec 4) (o1 o2 : OD)
  | skpLssD (skp : BitVec 4) (o1 o2 : OD)
  | skpNeqQ (skp : BitVec 4) (o1 o2 : OD)
  | skpNeqH (skp : BitVec 4) (o1 o2 : OD)
  | skpNeqS (skp : BitVec 4) (o1 o2 : OD)
  | skpNeqD (skp : BitVec 4) (o1 o2 : OD)
  | skpLeqQ (skp : BitVec 4) (o1 o2 : OD)
  | skpLeqH (skp : BitVec 4) (o1 o2 : OD)
  | skpLeqS (skp : BitVec 4) (o1 o2 : OD)
  | skpLeqD (skp : BitVec 4) (o1 o2 : OD)
  | skpNonQ (skp : BitVec 4) (o1 o2 : OD)
  | skpNonH (skp : BitVec 4) (o1 o2 : OD)
  | skpNonS (skp : BitVec 4) (o1 o2 : OD)
  | skpNonD (skp : BitVec 4) (o1 o2 : OD)
  | skpAllQ (skp : BitVec 4) (o1 o2 : OD)
  | skpAllH (skp : BitVec 4) (o1 o2 : OD)
  | skpAllS (skp : BitVec 4) (o1 o2 : OD)
  | skpAllD (skp : BitVec 4) (o1 o2 : OD)
  | skpNalQ (skp : BitVec 4) (o1 o2 : OD)
  | skpNalH (skp : BitVec 4) (o1 o2 : OD)
  | skpNalS (skp : BitVec 4) (o1 o2 : OD)
  | skpNalD (skp : BitVec 4) (o1 o2 : OD)
  | skpAnyQ (skp : BitVec 4) (o1 o2 : OD)
  | skpAnyH (skp : BitVec 4) (o1 o2 : OD)
  | skpAnyS (skp : BitVec 4) (o1 o2 : OD)
  | skpAnyD (skp : BitVec 4) (o1 o2 : OD)
  -- ISKP, SOP (R572)
  | iskpGtr (skp : BitVec 4) (o1 o2 : OD)
  | iskpEql (skp : BitVec 4) (o1 o2 : OD)
  | iskpGeq (skp : BitVec 4) (o1 o2 : OD)
  | iskpLss (skp : BitVec 4) (o1 o2 : OD)
  | iskpNeq (skp : BitVec 4) (o1 o2 : OD)
  | iskpLeq (skp : BitVec 4) (o1 o2 : OD)
  -- DSKP, SOP (R573)
  | dskpGtr (skp : BitVec 4) (o1 o2 : OD)
  | dskpEql (skp : BitVec 4) (o1 o2 : OD)
  | dskpGeq (skp : BitVec 4) (o1 o2 : OD)
  | dskpLss (skp : BitVec 4) (o1 o2 : OD)
  | dskpNeq (skp : BitVec 4) (o1 o2 : OD)
  | dskpLeq (skp : BitVec 4) (o1 o2 : OD)
  -- JMP, JOP (R576)
  | jmpGtr (o1 : OD) (j : JDest)
  | jmpEql (o1 : OD) (j : JDest)
  | jmpGeq (o1 : OD) (j : JDest)
  | jmpLss (o1 : OD) (j : JDest)
  | jmpNeq (o1 : OD) (j : JDest)
  | jmpLeq (o1 : OD) (j : JDest)
  -- JMPZ, JOP (R577)
  | jmpzGtrQ (o1 : OD) (j : JDest)
  | jmpzGtrH (o1 : OD) (j : JDest)
  | jmpzGtrS (o1 : OD) (j : JDest)
  | jmpzGtrD (o1 : OD) (j : JDest)
  | jmpzEqlQ (o1 : OD) (j : JDest)
  | jmpzEqlH (o1 : OD) (j : JDest)
  | jmpzEqlS (o1 : OD) (j : JDest)
  | jmpzEqlD (o1 : OD) (j : JDest)
  | jmpzGeqQ (o1 : OD) (j : JDest)
  | jmpzGeqH (o1 : OD) (j : JDest)
  | jmpzGeqS (o1 : OD) (j : JDest)
  | jmpzGeqD (o1 : OD) (j : JDest)
  | jmpzLssQ (o1 : OD) (j : JDest)
  | jmpzLssH (o1 : OD) (j : JDest)
  | jmpzLssS (o1 : OD) (j : JDest)
  | jmpzLssD (o1 : OD) (j : JDest)
  | jmpzNeqQ (o1 : OD) (j : JDest)
  | jmpzNeqH (o1 : OD) (j : JDest)
  | jmpzNeqS (o1 : OD) (j : JDest)
  | jmpzNeqD (o1 : OD) (j : JDest)
  | jmpzLeqQ (o1 : OD) (j : JDest)
  | jmpzLeqH (o1 : OD) (j : JDest)
  | jmpzLeqS (o1 : OD) (j : JDest)
  | jmpzLeqD (o1 : OD) (j : JDest)
  -- JMPA, JOP (R578)
  | jmpa (o1 : OD) (j : JDest)
  -- IJMP, JOP (R582)
  | ijmpGtr (o1 : OD) (j : JDest)
  | ijmpEql (o1 : OD) (j : JDest)
  | ijmpGeq (o1 : OD) (j : JDest)
  | ijmpLss (o1 : OD) (j : JDest)
  | ijmpNeq (o1 : OD) (j : JDest)
  | ijmpLeq (o1 : OD) (j : JDest)
  -- IJMPZ, JOP (R583)
  | ijmpzGtr (o1 : OD) (j : JDest)
  | ijmpzEql (o1 : OD) (j : JDest)
  | ijmpzGeq (o1 : OD) (j : JDest)
  | ijmpzLss (o1 : OD) (j : JDest)
  | ijmpzNeq (o1 : OD) (j : JDest)
  | ijmpzLeq (o1 : OD) (j : JDest)
  -- IJMPA, JOP (R584)
  | ijmpa (o1 : OD) (j : JDest)
  -- DJMP, JOP (R586)
  | djmpGtr (o1 : OD) (j : JDest)
  | djmpEql (o1 : OD) (j : JDest)
  | djmpGeq (o1 : OD) (j : JDest)
  | djmpLss (o1 : OD) (j : JDest)
  | djmpNeq (o1 : OD) (j : JDest)
  | djmpLeq (o1 : OD) (j : JDest)
  -- DJMPZ, JOP (R587)
  | djmpzGtr (o1 : OD) (j : JDest)
  | djmpzEql (o1 : OD) (j : JDest)
  | djmpzGeq (o1 : OD) (j : JDest)
  | djmpzLss (o1 : OD) (j : JDest)
  | djmpzNeq (o1 : OD) (j : JDest)
  | djmpzLeq (o1 : OD) (j : JDest)
  -- DJMPA, JOP (R588)
  | djmpa (o1 : OD) (j : JDest)
  -- BNDTRP, XOP (R592)
  | bndtrpBQ (o1 o2 : OD)
  | bndtrpBH (o1 o2 : OD)
  | bndtrpBS (o1 o2 : OD)
  | bndtrpBD (o1 o2 : OD)
  | bndtrpMinQ (o1 o2 : OD)
  | bndtrpMinH (o1 o2 : OD)
  | bndtrpMinS (o1 o2 : OD)
  | bndtrpMinD (o1 o2 : OD)
  | bndtrpM1Q (o1 o2 : OD)
  | bndtrpM1H (o1 o2 : OD)
  | bndtrpM1S (o1 o2 : OD)
  | bndtrpM1D (o1 o2 : OD)
  | bndtrp0Q (o1 o2 : OD)
  | bndtrp0H (o1 o2 : OD)
  | bndtrp0S (o1 o2 : OD)
  | bndtrp0D (o1 o2 : OD)
  | bndtrp1Q (o1 o2 : OD)
  | bndtrp1H (o1 o2 : OD)
  | bndtrp1S (o1 o2 : OD)
  | bndtrp1D (o1 o2 : OD)
  -- JPATCH, HOP (R596)
  | jpatch (disp : BitVec 24)
  -- JSR, JOP (R620)
  | jsr (o1 : OD) (j : JDest)
  -- JCR, XOP (R624)
  | jcr (o1 o2 : OD)
  -- ALLOC, XOP (R628)
  | alloc1 (o1 o2 : OD)
  | alloc2 (o1 o2 : OD)
  | alloc3 (o1 o2 : OD)
  | alloc4 (o1 o2 : OD)
  | alloc5 (o1 o2 : OD)
  | alloc6 (o1 o2 : OD)
  | alloc7 (o1 o2 : OD)
  | alloc8 (o1 o2 : OD)
  | alloc9 (o1 o2 : OD)
  | alloc10 (o1 o2 : OD)
  | alloc11 (o1 o2 : OD)
  | alloc12 (o1 o2 : OD)
  | alloc13 (o1 o2 : OD)
  | alloc14 (o1 o2 : OD)
  | alloc15 (o1 o2 : OD)
  | alloc16 (o1 o2 : OD)
  | alloc17 (o1 o2 : OD)
  | alloc18 (o1 o2 : OD)
  | alloc19 (o1 o2 : OD)
  | alloc20 (o1 o2 : OD)
  | alloc21 (o1 o2 : OD)
  | alloc22 (o1 o2 : OD)
  | alloc23 (o1 o2 : OD)
  | alloc24 (o1 o2 : OD)
  | alloc25 (o1 o2 : OD)
  | alloc26 (o1 o2 : OD)
  | alloc27 (o1 o2 : OD)
  | alloc28 (o1 o2 : OD)
  | alloc29 (o1 o2 : OD)
  | alloc30 (o1 o2 : OD)
  | alloc31 (o1 o2 : OD)
  | alloc32 (o1 o2 : OD)
  -- RETSR, XOP (R634)
  | retsr (o1 o2 : OD)
  -- RET, XOP (R636)
  | ret (o1 o2 : OD)
  -- RETUS, XOP (R638)
  | retus (o1 o2 : OD)
  -- RETFS, XOP (R640)
  | retfs (o1 o2 : OD)
  -- TRPSLF, XOP (R650)
  | trpslf0 (o1 o2 : OD)
  | trpslf1 (o1 o2 : OD)
  | trpslf2 (o1 o2 : OD)
  | trpslf3 (o1 o2 : OD)
  | trpslf4 (o1 o2 : OD)
  | trpslf5 (o1 o2 : OD)
  | trpslf6 (o1 o2 : OD)
  | trpslf7 (o1 o2 : OD)
  | trpslf8 (o1 o2 : OD)
  | trpslf9 (o1 o2 : OD)
  | trpslf10 (o1 o2 : OD)
  | trpslf11 (o1 o2 : OD)
  | trpslf12 (o1 o2 : OD)
  | trpslf13 (o1 o2 : OD)
  | trpslf14 (o1 o2 : OD)
  | trpslf15 (o1 o2 : OD)
  | trpslf16 (o1 o2 : OD)
  | trpslf17 (o1 o2 : OD)
  | trpslf18 (o1 o2 : OD)
  | trpslf19 (o1 o2 : OD)
  | trpslf20 (o1 o2 : OD)
  | trpslf21 (o1 o2 : OD)
  | trpslf22 (o1 o2 : OD)
  | trpslf23 (o1 o2 : OD)
  | trpslf24 (o1 o2 : OD)
  | trpslf25 (o1 o2 : OD)
  | trpslf26 (o1 o2 : OD)
  | trpslf27 (o1 o2 : OD)
  | trpslf28 (o1 o2 : OD)
  | trpslf29 (o1 o2 : OD)
  | trpslf30 (o1 o2 : OD)
  | trpslf31 (o1 o2 : OD)
  | trpslf32 (o1 o2 : OD)
  | trpslf33 (o1 o2 : OD)
  | trpslf34 (o1 o2 : OD)
  | trpslf35 (o1 o2 : OD)
  | trpslf36 (o1 o2 : OD)
  | trpslf37 (o1 o2 : OD)
  | trpslf38 (o1 o2 : OD)
  | trpslf39 (o1 o2 : OD)
  | trpslf40 (o1 o2 : OD)
  | trpslf41 (o1 o2 : OD)
  | trpslf42 (o1 o2 : OD)
  | trpslf43 (o1 o2 : OD)
  | trpslf44 (o1 o2 : OD)
  | trpslf45 (o1 o2 : OD)
  | trpslf46 (o1 o2 : OD)
  | trpslf47 (o1 o2 : OD)
  | trpslf48 (o1 o2 : OD)
  | trpslf49 (o1 o2 : OD)
  | trpslf50 (o1 o2 : OD)
  | trpslf51 (o1 o2 : OD)
  | trpslf52 (o1 o2 : OD)
  | trpslf53 (o1 o2 : OD)
  | trpslf54 (o1 o2 : OD)
  | trpslf55 (o1 o2 : OD)
  | trpslf56 (o1 o2 : OD)
  | trpslf57 (o1 o2 : OD)
  | trpslf58 (o1 o2 : OD)
  | trpslf59 (o1 o2 : OD)
  | trpslf60 (o1 o2 : OD)
  | trpslf61 (o1 o2 : OD)
  | trpslf62 (o1 o2 : OD)
  | trpslf63 (o1 o2 : OD)
  -- TRPEXE, XOP (R652)
  | trpexe0 (o1 o2 : OD)
  | trpexe1 (o1 o2 : OD)
  | trpexe2 (o1 o2 : OD)
  | trpexe3 (o1 o2 : OD)
  | trpexe4 (o1 o2 : OD)
  | trpexe5 (o1 o2 : OD)
  | trpexe6 (o1 o2 : OD)
  | trpexe7 (o1 o2 : OD)
  | trpexe8 (o1 o2 : OD)
  | trpexe9 (o1 o2 : OD)
  | trpexe10 (o1 o2 : OD)
  | trpexe11 (o1 o2 : OD)
  | trpexe12 (o1 o2 : OD)
  | trpexe13 (o1 o2 : OD)
  | trpexe14 (o1 o2 : OD)
  | trpexe15 (o1 o2 : OD)
  | trpexe16 (o1 o2 : OD)
  | trpexe17 (o1 o2 : OD)
  | trpexe18 (o1 o2 : OD)
  | trpexe19 (o1 o2 : OD)
  | trpexe20 (o1 o2 : OD)
  | trpexe21 (o1 o2 : OD)
  | trpexe22 (o1 o2 : OD)
  | trpexe23 (o1 o2 : OD)
  | trpexe24 (o1 o2 : OD)
  | trpexe25 (o1 o2 : OD)
  | trpexe26 (o1 o2 : OD)
  | trpexe27 (o1 o2 : OD)
  | trpexe28 (o1 o2 : OD)
  | trpexe29 (o1 o2 : OD)
  | trpexe30 (o1 o2 : OD)
  | trpexe31 (o1 o2 : OD)
  | trpexe32 (o1 o2 : OD)
  | trpexe33 (o1 o2 : OD)
  | trpexe34 (o1 o2 : OD)
  | trpexe35 (o1 o2 : OD)
  | trpexe36 (o1 o2 : OD)
  | trpexe37 (o1 o2 : OD)
  | trpexe38 (o1 o2 : OD)
  | trpexe39 (o1 o2 : OD)
  | trpexe40 (o1 o2 : OD)
  | trpexe41 (o1 o2 : OD)
  | trpexe42 (o1 o2 : OD)
  | trpexe43 (o1 o2 : OD)
  | trpexe44 (o1 o2 : OD)
  | trpexe45 (o1 o2 : OD)
  | trpexe46 (o1 o2 : OD)
  | trpexe47 (o1 o2 : OD)
  | trpexe48 (o1 o2 : OD)
  | trpexe49 (o1 o2 : OD)
  | trpexe50 (o1 o2 : OD)
  | trpexe51 (o1 o2 : OD)
  | trpexe52 (o1 o2 : OD)
  | trpexe53 (o1 o2 : OD)
  | trpexe54 (o1 o2 : OD)
  | trpexe55 (o1 o2 : OD)
  | trpexe56 (o1 o2 : OD)
  | trpexe57 (o1 o2 : OD)
  | trpexe58 (o1 o2 : OD)
  | trpexe59 (o1 o2 : OD)
  | trpexe60 (o1 o2 : OD)
  | trpexe61 (o1 o2 : OD)
  | trpexe62 (o1 o2 : OD)
  | trpexe63 (o1 o2 : OD)
  -- ADJSP, XOP (R666)
  | adjspUp (o1 o2 : OD)
  | adjspDn (o1 o2 : OD)
  -- PUSH, XOP (R668)
  | pushUpQ (o1 o2 : OD)
  | pushUpH (o1 o2 : OD)
  | pushUpS (o1 o2 : OD)
  | pushUpD (o1 o2 : OD)
  | pushDnQ (o1 o2 : OD)
  | pushDnH (o1 o2 : OD)
  | pushDnS (o1 o2 : OD)
  | pushDnD (o1 o2 : OD)
  -- POP, XOP (R670)
  | popUpQ (o1 o2 : OD)
  | popUpH (o1 o2 : OD)
  | popUpS (o1 o2 : OD)
  | popUpD (o1 o2 : OD)
  | popDnQ (o1 o2 : OD)
  | popDnH (o1 o2 : OD)
  | popDnS (o1 o2 : OD)
  | popDnD (o1 o2 : OD)
  -- LBYT, XOP (R686)
  | lbytS (o1 o2 : OD)
  | lbytD (o1 o2 : OD)
  -- LIBYT, TOP (R687)
  | libytS (t : TMode) (o1 o2 : OD)
  | libytD (t : TMode) (o1 o2 : OD)
  -- LSBYT, XOP (R688)
  | lsbytS (o1 o2 : OD)
  | lsbytD (o1 o2 : OD)
  -- LISBYT, TOP (R689)
  | lisbytS (t : TMode) (o1 o2 : OD)
  | lisbytD (t : TMode) (o1 o2 : OD)
  -- DBYT, XOP (R691)
  | dbytS (o1 o2 : OD)
  | dbytD (o1 o2 : OD)
  -- DIBYT, TOP (R692)
  | dibytS (t : TMode) (o1 o2 : OD)
  | dibytD (t : TMode) (o1 o2 : OD)
  -- ADJBP, TOP (R694)
  | adjbpS (t : TMode) (o1 o2 : OD)
  | adjbpD (t : TMode) (o1 o2 : OD)
  -- BITRV, TOP (R702)
  | bitrvQ (t : TMode) (o1 o2 : OD)
  | bitrvH (t : TMode) (o1 o2 : OD)
  | bitrvS (t : TMode) (o1 o2 : OD)
  | bitrvD (t : TMode) (o1 o2 : OD)
  -- BITRVV, TOP (R703)
  | bitrvvQ (t : TMode) (o1 o2 : OD)
  | bitrvvH (t : TMode) (o1 o2 : OD)
  | bitrvvS (t : TMode) (o1 o2 : OD)
  | bitrvvD (t : TMode) (o1 o2 : OD)
  -- BITEX, TOP (R705)
  | bitexQ (t : TMode) (o1 o2 : OD)
  | bitexH (t : TMode) (o1 o2 : OD)
  | bitexS (t : TMode) (o1 o2 : OD)
  | bitexD (t : TMode) (o1 o2 : OD)
  -- BITEXV, TOP (R706)
  | bitexvQ (t : TMode) (o1 o2 : OD)
  | bitexvH (t : TMode) (o1 o2 : OD)
  | bitexvS (t : TMode) (o1 o2 : OD)
  | bitexvD (t : TMode) (o1 o2 : OD)
  -- BITCNT, XOP (R708)
  | bitcntQ (o1 o2 : OD)
  | bitcntH (o1 o2 : OD)
  | bitcntS (o1 o2 : OD)
  | bitcntD (o1 o2 : OD)
  -- BITFST, XOP (R709)
  | bitfstQ (o1 o2 : OD)
  | bitfstH (o1 o2 : OD)
  | bitfstS (o1 o2 : OD)
  | bitfstD (o1 o2 : OD)
  -- STRCMP, XOP (R726)
  | strcmpRta (o1 o2 : OD)
  | strcmpRtb (o1 o2 : OD)
  -- BLKMOV, XOP (R730)
  | blkmovRta (o1 o2 : OD)
  | blkmovRtb (o1 o2 : OD)
  -- BLKINI, XOP (R733)
  | blkiniRtaQ (o1 o2 : OD)
  | blkiniRtaH (o1 o2 : OD)
  | blkiniRtaS (o1 o2 : OD)
  | blkiniRtaD (o1 o2 : OD)
  | blkiniRtbQ (o1 o2 : OD)
  | blkiniRtbH (o1 o2 : OD)
  | blkiniRtbS (o1 o2 : OD)
  | blkiniRtbD (o1 o2 : OD)
  -- BLKID, XOP (R736)
  | blkidRta (o1 o2 : OD)
  | blkidRtb (o1 o2 : OD)
  -- BLKDI, XOP (R738)
  | blkdiRta (o1 o2 : OD)
  | blkdiRtb (o1 o2 : OD)
  -- RUS, XOP (R752)
  | rus (o1 o2 : OD)
  -- JUSCLR, JOP (R754)
  | jusclrNon (o1 : OD) (j : JDest)
  | jusclrAll (o1 : OD) (j : JDest)
  | jusclrNal (o1 : OD) (j : JDest)
  | jusclrAny (o1 : OD) (j : JDest)
  -- JUS, JOP (R753)
  | jusNon (o1 : OD) (j : JDest)
  | jusAll (o1 : OD) (j : JDest)
  | jusNal (o1 : OD) (j : JDest)
  | jusAny (o1 : OD) (j : JDest)
  -- WUSJMP, JOP (R756)
  | wusjmp (o1 : OD) (j : JDest)
  -- SETUS, XOP (R758)
  | setus (o1 o2 : OD)
  -- CLRUS, XOP (R759)
  | clrus (o1 o2 : OD)
  -- RSPID, XOP (R762)
  | rspid (o1 o2 : OD)
  -- WSPID, XOP (R763)
  | wspid (o1 o2 : OD)
  -- RRNDMD, XOP (R765)
  | rrndmd (o1 o2 : OD)
  -- WRNDMD, XOP (R766)
  | wrndmd (o1 o2 : OD)
  -- RPS, XOP (R770)
  | rps (o1 o2 : OD)
  -- WFSJMP, JOP (R774)
  | wfsjmp (o1 : OD) (j : JDest)
  -- RCFILE, XOP (R777)
  | rcfile (o1 o2 : OD)
  -- WCFILE, XOP (R778)
  | wcfile (o1 o2 : OD)
  -- RPFILE, XOP (R779)
  | rpfile (o1 o2 : OD)
  -- WPFILE, XOP (R780)
  | wpfile (o1 o2 : OD)
  -- RPID, XOP (R782)
  | rpid (o1 o2 : OD)
  -- SWPIC, XOP (R796)
  | swpicRtaV (o1 o2 : OD)
  | swpicRtaP (o1 o2 : OD)
  | swpicRtbV (o1 o2 : OD)
  | swpicRtbP (o1 o2 : OD)
  -- SWPDC, XOP (R798)
  | swpdcRtaVU (o1 o2 : OD)
  | swpdcRtaVUk (o1 o2 : OD)
  | swpdcRtaPU (o1 o2 : OD)
  | swpdcRtaPUk (o1 o2 : OD)
  | swpdcRtbVU (o1 o2 : OD)
  | swpdcRtbVUk (o1 o2 : OD)
  | swpdcRtbPU (o1 o2 : OD)
  | swpdcRtbPUk (o1 o2 : OD)
  -- SWPIM, XOP (R800)
  | swpimE (o1 o2 : OD)
  | swpimU (o1 o2 : OD)
  -- SWPDM, XOP (R802)
  | swpdmE (o1 o2 : OD)
  | swpdmU (o1 o2 : OD)
  -- WUPJMP, JOP (R806)
  | wupjmp (o1 : OD) (j : JDest)
  -- WEPJMP, JOP (R808)
  | wepjmp (o1 : OD) (j : JDest)
  -- RIEN, XOP (R814)
  | rien (o1 o2 : OD)
  -- WIEN, XOP (R815)
  | wien (o1 o2 : OD)
  -- SIEN, XOP (R816)
  | sien (o1 o2 : OD)
  -- CIEN, XOP (R817)
  | cien (o1 o2 : OD)
  -- RIPND, XOP (R820)
  | ripnd (o1 o2 : OD)
  -- WIPND, XOP (R821)
  | wipnd (o1 o2 : OD)
  -- SIPND, XOP (R822)
  | sipnd (o1 o2 : OD)
  -- CIPND, XOP (R823)
  | cipnd (o1 o2 : OD)
  -- RIPAR, XOP (R826)
  | ripar (o1 o2 : OD)
  -- WIPAR, XOP (R827)
  | wipar (o1 o2 : OD)
  -- BLKIOR, XOP (R840)
  | blkiorRtaB (o1 o2 : OD)
  | blkiorRtaQ (o1 o2 : OD)
  | blkiorRtaH (o1 o2 : OD)
  | blkiorRtaS (o1 o2 : OD)
  | blkiorRtbB (o1 o2 : OD)
  | blkiorRtbQ (o1 o2 : OD)
  | blkiorRtbH (o1 o2 : OD)
  | blkiorRtbS (o1 o2 : OD)
  -- BLKIOW, XOP (R842)
  | blkiowRtaB (o1 o2 : OD)
  | blkiowRtaQ (o1 o2 : OD)
  | blkiowRtaH (o1 o2 : OD)
  | blkiowRtaS (o1 o2 : OD)
  | blkiowRtbB (o1 o2 : OD)
  | blkiowRtbQ (o1 o2 : OD)
  | blkiowRtbH (o1 o2 : OD)
  | blkiowRtbS (o1 o2 : OD)
  -- INTIOP, XOP (R844)
  | intiop (o1 o2 : OD)
  -- RCTR, XOP (R850)
  | rctr (o1 o2 : OD)
  -- WCTR, XOP (R851)
  | wctr (o1 o2 : OD)
  -- RECTR, XOP (R852)
  | rectr (o1 o2 : OD)
  -- WECTR, XOP (R853)
  | wectr (o1 o2 : OD)
  -- NOP, XOP (R856)
  | nop (o1 o2 : OD)
  -- XCT, XOP (R862)
  | xct (o1 o2 : OD)
  -- RMW, TOP (R860)
  | rmw (t : TMode) (o1 o2 : OD)
  -- WAIT, XOP (R864)
  | wait (o1 o2 : OD)
  -- HALT, JOP (R866)
  | halt (o1 : OD) (j : JDest)
  deriving DecidableEq, Repr

end Sys2Proof
end

