-- ==== Sys2Proof/Machine/Form.lean ====
section
/-! DEFINITION. The class of an instruction (R202), its number within the class in the order of the opcode map
(R264), and its operand fields. The encoder, the decoder, the length and the well-formedness read an instruction
through this one view. -/

namespace Sys2Proof

/-- An instruction as its class, its number `k` in the class (R264), and its fields (R205). -/
inductive Form where
  | hop (k : Nat) (disp : BitVec 24)
  | xop (k : Nat) (o1 o2 : OD)
  | jop (k : Nat) (o1 : OD) (j : JDest)
  | sop (k : Nat) (skp : BitVec 4) (o1 o2 : OD)
  | top (k : Nat) (t : TMode) (o1 o2 : OD)
  deriving DecidableEq, Repr

/-- The class, number and fields of every instruction. -/
def Instr.form (i : Instr) : Form :=
  match i with
  | .addQ t o1 o2 => .top 0 t o1 o2
  | .addH t o1 o2 => .top 1 t o1 o2
  | .addS t o1 o2 => .top 2 t o1 o2
  | .addD t o1 o2 => .top 3 t o1 o2
  | .addcQ t o1 o2 => .top 4 t o1 o2
  | .addcH t o1 o2 => .top 5 t o1 o2
  | .addcS t o1 o2 => .top 6 t o1 o2
  | .addcD t o1 o2 => .top 7 t o1 o2
  | .subQ t o1 o2 => .top 8 t o1 o2
  | .subH t o1 o2 => .top 9 t o1 o2
  | .subS t o1 o2 => .top 10 t o1 o2
  | .subD t o1 o2 => .top 11 t o1 o2
  | .subvQ t o1 o2 => .top 12 t o1 o2
  | .subvH t o1 o2 => .top 13 t o1 o2
  | .subvS t o1 o2 => .top 14 t o1 o2
  | .subvD t o1 o2 => .top 15 t o1 o2
  | .subcQ t o1 o2 => .top 16 t o1 o2
  | .subcH t o1 o2 => .top 17 t o1 o2
  | .subcS t o1 o2 => .top 18 t o1 o2
  | .subcD t o1 o2 => .top 19 t o1 o2
  | .subcvQ t o1 o2 => .top 20 t o1 o2
  | .subcvH t o1 o2 => .top 21 t o1 o2
  | .subcvS t o1 o2 => .top 22 t o1 o2
  | .subcvD t o1 o2 => .top 23 t o1 o2
  | .multQ t o1 o2 => .top 24 t o1 o2
  | .multH t o1 o2 => .top 25 t o1 o2
  | .multS t o1 o2 => .top 26 t o1 o2
  | .multD t o1 o2 => .top 27 t o1 o2
  | .multlQ t o1 o2 => .top 28 t o1 o2
  | .multlH t o1 o2 => .top 29 t o1 o2
  | .multlS t o1 o2 => .top 30 t o1 o2
  | .quoQ t o1 o2 => .top 31 t o1 o2
  | .quoH t o1 o2 => .top 32 t o1 o2
  | .quoS t o1 o2 => .top 33 t o1 o2
  | .quoD t o1 o2 => .top 34 t o1 o2
  | .quovQ t o1 o2 => .top 35 t o1 o2
  | .quovH t o1 o2 => .top 36 t o1 o2
  | .quovS t o1 o2 => .top 37 t o1 o2
  | .quovD t o1 o2 => .top 38 t o1 o2
  | .quolQ t o1 o2 => .top 39 t o1 o2
  | .quolH t o1 o2 => .top 40 t o1 o2
  | .quolS t o1 o2 => .top 41 t o1 o2
  | .quolvQ t o1 o2 => .top 42 t o1 o2
  | .quolvH t o1 o2 => .top 43 t o1 o2
  | .quolvS t o1 o2 => .top 44 t o1 o2
  | .quo2Q t o1 o2 => .top 45 t o1 o2
  | .quo2H t o1 o2 => .top 46 t o1 o2
  | .quo2S t o1 o2 => .top 47 t o1 o2
  | .quo2D t o1 o2 => .top 48 t o1 o2
  | .quo2vQ t o1 o2 => .top 49 t o1 o2
  | .quo2vH t o1 o2 => .top 50 t o1 o2
  | .quo2vS t o1 o2 => .top 51 t o1 o2
  | .quo2vD t o1 o2 => .top 52 t o1 o2
  | .quo2lQ t o1 o2 => .top 53 t o1 o2
  | .quo2lH t o1 o2 => .top 54 t o1 o2
  | .quo2lS t o1 o2 => .top 55 t o1 o2
  | .quo2lvQ t o1 o2 => .top 56 t o1 o2
  | .quo2lvH t o1 o2 => .top 57 t o1 o2
  | .quo2lvS t o1 o2 => .top 58 t o1 o2
  | .remQ t o1 o2 => .top 59 t o1 o2
  | .remH t o1 o2 => .top 60 t o1 o2
  | .remS t o1 o2 => .top 61 t o1 o2
  | .remD t o1 o2 => .top 62 t o1 o2
  | .remvQ t o1 o2 => .top 63 t o1 o2
  | .remvH t o1 o2 => .top 64 t o1 o2
  | .remvS t o1 o2 => .top 65 t o1 o2
  | .remvD t o1 o2 => .top 66 t o1 o2
  | .remlQ t o1 o2 => .top 67 t o1 o2
  | .remlH t o1 o2 => .top 68 t o1 o2
  | .remlS t o1 o2 => .top 69 t o1 o2
  | .remlvQ t o1 o2 => .top 70 t o1 o2
  | .remlvH t o1 o2 => .top 71 t o1 o2
  | .remlvS t o1 o2 => .top 72 t o1 o2
  | .modQ t o1 o2 => .top 73 t o1 o2
  | .modH t o1 o2 => .top 74 t o1 o2
  | .modS t o1 o2 => .top 75 t o1 o2
  | .modD t o1 o2 => .top 76 t o1 o2
  | .modvQ t o1 o2 => .top 77 t o1 o2
  | .modvH t o1 o2 => .top 78 t o1 o2
  | .modvS t o1 o2 => .top 79 t o1 o2
  | .modvD t o1 o2 => .top 80 t o1 o2
  | .modlQ t o1 o2 => .top 81 t o1 o2
  | .modlH t o1 o2 => .top 82 t o1 o2
  | .modlS t o1 o2 => .top 83 t o1 o2
  | .modlvQ t o1 o2 => .top 84 t o1 o2
  | .modlvH t o1 o2 => .top 85 t o1 o2
  | .modlvS t o1 o2 => .top 86 t o1 o2
  | .divQ t o1 o2 => .top 87 t o1 o2
  | .divH t o1 o2 => .top 88 t o1 o2
  | .divS t o1 o2 => .top 89 t o1 o2
  | .divD t o1 o2 => .top 90 t o1 o2
  | .divvQ t o1 o2 => .top 91 t o1 o2
  | .divvH t o1 o2 => .top 92 t o1 o2
  | .divvS t o1 o2 => .top 93 t o1 o2
  | .divvD t o1 o2 => .top 94 t o1 o2
  | .divlQ t o1 o2 => .top 95 t o1 o2
  | .divlH t o1 o2 => .top 96 t o1 o2
  | .divlS t o1 o2 => .top 97 t o1 o2
  | .divlvQ t o1 o2 => .top 98 t o1 o2
  | .divlvH t o1 o2 => .top 99 t o1 o2
  | .divlvS t o1 o2 => .top 100 t o1 o2
  | .incQ o1 o2 => .xop 0 o1 o2
  | .incH o1 o2 => .xop 1 o1 o2
  | .incS o1 o2 => .xop 2 o1 o2
  | .incD o1 o2 => .xop 3 o1 o2
  | .decQ o1 o2 => .xop 4 o1 o2
  | .decH o1 o2 => .xop 5 o1 o2
  | .decS o1 o2 => .xop 6 o1 o2
  | .decD o1 o2 => .xop 7 o1 o2
  | .transQQ o1 o2 => .xop 8 o1 o2
  | .transQH o1 o2 => .xop 9 o1 o2
  | .transQS o1 o2 => .xop 10 o1 o2
  | .transQD o1 o2 => .xop 11 o1 o2
  | .transHQ o1 o2 => .xop 12 o1 o2
  | .transHH o1 o2 => .xop 13 o1 o2
  | .transHS o1 o2 => .xop 14 o1 o2
  | .transHD o1 o2 => .xop 15 o1 o2
  | .transSQ o1 o2 => .xop 16 o1 o2
  | .transSH o1 o2 => .xop 17 o1 o2
  | .transSS o1 o2 => .xop 18 o1 o2
  | .transSD o1 o2 => .xop 19 o1 o2
  | .transDQ o1 o2 => .xop 20 o1 o2
  | .transDH o1 o2 => .xop 21 o1 o2
  | .transDS o1 o2 => .xop 22 o1 o2
  | .transDD o1 o2 => .xop 23 o1 o2
  | .negQ o1 o2 => .xop 24 o1 o2
  | .negH o1 o2 => .xop 25 o1 o2
  | .negS o1 o2 => .xop 26 o1 o2
  | .negD o1 o2 => .xop 27 o1 o2
  | .absQ o1 o2 => .xop 28 o1 o2
  | .absH o1 o2 => .xop 29 o1 o2
  | .absS o1 o2 => .xop 30 o1 o2
  | .absD o1 o2 => .xop 31 o1 o2
  | .minQ t o1 o2 => .top 101 t o1 o2
  | .minH t o1 o2 => .top 102 t o1 o2
  | .minS t o1 o2 => .top 103 t o1 o2
  | .minD t o1 o2 => .top 104 t o1 o2
  | .maxQ t o1 o2 => .top 105 t o1 o2
  | .maxH t o1 o2 => .top 106 t o1 o2
  | .maxS t o1 o2 => .top 107 t o1 o2
  | .maxD t o1 o2 => .top 108 t o1 o2
  | .umultQ t o1 o2 => .top 109 t o1 o2
  | .umultH t o1 o2 => .top 110 t o1 o2
  | .umultS t o1 o2 => .top 111 t o1 o2
  | .umultD t o1 o2 => .top 112 t o1 o2
  | .umultlQ t o1 o2 => .top 113 t o1 o2
  | .umultlH t o1 o2 => .top 114 t o1 o2
  | .umultlS t o1 o2 => .top 115 t o1 o2
  | .udivQ t o1 o2 => .top 116 t o1 o2
  | .udivH t o1 o2 => .top 117 t o1 o2
  | .udivS t o1 o2 => .top 118 t o1 o2
  | .udivD t o1 o2 => .top 119 t o1 o2
  | .udivlQ t o1 o2 => .top 120 t o1 o2
  | .udivlH t o1 o2 => .top 121 t o1 o2
  | .udivlS t o1 o2 => .top 122 t o1 o2
  | .faddH t o1 o2 => .top 123 t o1 o2
  | .faddS t o1 o2 => .top 124 t o1 o2
  | .faddD t o1 o2 => .top 125 t o1 o2
  | .fsubH t o1 o2 => .top 126 t o1 o2
  | .fsubS t o1 o2 => .top 127 t o1 o2
  | .fsubD t o1 o2 => .top 128 t o1 o2
  | .fsubvH t o1 o2 => .top 129 t o1 o2
  | .fsubvS t o1 o2 => .top 130 t o1 o2
  | .fsubvD t o1 o2 => .top 131 t o1 o2
  | .fmultH t o1 o2 => .top 132 t o1 o2
  | .fmultS t o1 o2 => .top 133 t o1 o2
  | .fmultD t o1 o2 => .top 134 t o1 o2
  | .fmultlH t o1 o2 => .top 135 t o1 o2
  | .fmultlS t o1 o2 => .top 136 t o1 o2
  | .fdivH t o1 o2 => .top 137 t o1 o2
  | .fdivS t o1 o2 => .top 138 t o1 o2
  | .fdivD t o1 o2 => .top 139 t o1 o2
  | .fdivvH t o1 o2 => .top 140 t o1 o2
  | .fdivvS t o1 o2 => .top 141 t o1 o2
  | .fdivvD t o1 o2 => .top 142 t o1 o2
  | .fdivlH t o1 o2 => .top 143 t o1 o2
  | .fdivlS t o1 o2 => .top 144 t o1 o2
  | .fdivlvH t o1 o2 => .top 145 t o1 o2
  | .fdivlvS t o1 o2 => .top 146 t o1 o2
  | .fscH t o1 o2 => .top 147 t o1 o2
  | .fscS t o1 o2 => .top 148 t o1 o2
  | .fscD t o1 o2 => .top 149 t o1 o2
  | .fscvH t o1 o2 => .top 150 t o1 o2
  | .fscvS t o1 o2 => .top 151 t o1 o2
  | .fscvD t o1 o2 => .top 152 t o1 o2
  | .fixFlQH o1 o2 => .xop 32 o1 o2
  | .fixFlQS o1 o2 => .xop 33 o1 o2
  | .fixFlQD o1 o2 => .xop 34 o1 o2
  | .fixFlHH o1 o2 => .xop 35 o1 o2
  | .fixFlHS o1 o2 => .xop 36 o1 o2
  | .fixFlHD o1 o2 => .xop 37 o1 o2
  | .fixFlSH o1 o2 => .xop 38 o1 o2
  | .fixFlSS o1 o2 => .xop 39 o1 o2
  | .fixFlSD o1 o2 => .xop 40 o1 o2
  | .fixFlDH o1 o2 => .xop 41 o1 o2
  | .fixFlDS o1 o2 => .xop 42 o1 o2
  | .fixFlDD o1 o2 => .xop 43 o1 o2
  | .fixClQH o1 o2 => .xop 44 o1 o2
  | .fixClQS o1 o2 => .xop 45 o1 o2
  | .fixClQD o1 o2 => .xop 46 o1 o2
  | .fixClHH o1 o2 => .xop 47 o1 o2
  | .fixClHS o1 o2 => .xop 48 o1 o2
  | .fixClHD o1 o2 => .xop 49 o1 o2
  | .fixClSH o1 o2 => .xop 50 o1 o2
  | .fixClSS o1 o2 => .xop 51 o1 o2
  | .fixClSD o1 o2 => .xop 52 o1 o2
  | .fixClDH o1 o2 => .xop 53 o1 o2
  | .fixClDS o1 o2 => .xop 54 o1 o2
  | .fixClDD o1 o2 => .xop 55 o1 o2
  | .fixDmQH o1 o2 => .xop 56 o1 o2
  | .fixDmQS o1 o2 => .xop 57 o1 o2
  | .fixDmQD o1 o2 => .xop 58 o1 o2
  | .fixDmHH o1 o2 => .xop 59 o1 o2
  | .fixDmHS o1 o2 => .xop 60 o1 o2
  | .fixDmHD o1 o2 => .xop 61 o1 o2
  | .fixDmSH o1 o2 => .xop 62 o1 o2
  | .fixDmSS o1 o2 => .xop 63 o1 o2
  | .fixDmSD o1 o2 => .xop 64 o1 o2
  | .fixDmDH o1 o2 => .xop 65 o1 o2
  | .fixDmDS o1 o2 => .xop 66 o1 o2
  | .fixDmDD o1 o2 => .xop 67 o1 o2
  | .fixHpQH o1 o2 => .xop 68 o1 o2
  | .fixHpQS o1 o2 => .xop 69 o1 o2
  | .fixHpQD o1 o2 => .xop 70 o1 o2
  | .fixHpHH o1 o2 => .xop 71 o1 o2
  | .fixHpHS o1 o2 => .xop 72 o1 o2
  | .fixHpHD o1 o2 => .xop 73 o1 o2
  | .fixHpSH o1 o2 => .xop 74 o1 o2
  | .fixHpSS o1 o2 => .xop 75 o1 o2
  | .fixHpSD o1 o2 => .xop 76 o1 o2
  | .fixHpDH o1 o2 => .xop 77 o1 o2
  | .fixHpDS o1 o2 => .xop 78 o1 o2
  | .fixHpDD o1 o2 => .xop 79 o1 o2
  | .fixUsQH o1 o2 => .xop 80 o1 o2
  | .fixUsQS o1 o2 => .xop 81 o1 o2
  | .fixUsQD o1 o2 => .xop 82 o1 o2
  | .fixUsHH o1 o2 => .xop 83 o1 o2
  | .fixUsHS o1 o2 => .xop 84 o1 o2
  | .fixUsHD o1 o2 => .xop 85 o1 o2
  | .fixUsSH o1 o2 => .xop 86 o1 o2
  | .fixUsSS o1 o2 => .xop 87 o1 o2
  | .fixUsSD o1 o2 => .xop 88 o1 o2
  | .fixUsDH o1 o2 => .xop 89 o1 o2
  | .fixUsDS o1 o2 => .xop 90 o1 o2
  | .fixUsDD o1 o2 => .xop 91 o1 o2
  | .floatHQ o1 o2 => .xop 92 o1 o2
  | .floatHH o1 o2 => .xop 93 o1 o2
  | .floatHS o1 o2 => .xop 94 o1 o2
  | .floatHD o1 o2 => .xop 95 o1 o2
  | .floatSQ o1 o2 => .xop 96 o1 o2
  | .floatSH o1 o2 => .xop 97 o1 o2
  | .floatSS o1 o2 => .xop 98 o1 o2
  | .floatSD o1 o2 => .xop 99 o1 o2
  | .floatDQ o1 o2 => .xop 100 o1 o2
  | .floatDH o1 o2 => .xop 101 o1 o2
  | .floatDS o1 o2 => .xop 102 o1 o2
  | .floatDD o1 o2 => .xop 103 o1 o2
  | .ftransHH o1 o2 => .xop 104 o1 o2
  | .ftransHS o1 o2 => .xop 105 o1 o2
  | .ftransHD o1 o2 => .xop 106 o1 o2
  | .ftransSH o1 o2 => .xop 107 o1 o2
  | .ftransSS o1 o2 => .xop 108 o1 o2
  | .ftransSD o1 o2 => .xop 109 o1 o2
  | .ftransDH o1 o2 => .xop 110 o1 o2
  | .ftransDS o1 o2 => .xop 111 o1 o2
  | .ftransDD o1 o2 => .xop 112 o1 o2
  | .fnegH o1 o2 => .xop 113 o1 o2
  | .fnegS o1 o2 => .xop 114 o1 o2
  | .fnegD o1 o2 => .xop 115 o1 o2
  | .fabsH o1 o2 => .xop 116 o1 o2
  | .fabsS o1 o2 => .xop 117 o1 o2
  | .fabsD o1 o2 => .xop 118 o1 o2
  | .fminH t o1 o2 => .top 153 t o1 o2
  | .fminS t o1 o2 => .top 154 t o1 o2
  | .fminD t o1 o2 => .top 155 t o1 o2
  | .fmaxH t o1 o2 => .top 156 t o1 o2
  | .fmaxS t o1 o2 => .top 157 t o1 o2
  | .fmaxD t o1 o2 => .top 158 t o1 o2
  | .movQQ o1 o2 => .xop 119 o1 o2
  | .movQH o1 o2 => .xop 120 o1 o2
  | .movQS o1 o2 => .xop 121 o1 o2
  | .movQD o1 o2 => .xop 122 o1 o2
  | .movHQ o1 o2 => .xop 123 o1 o2
  | .movHH o1 o2 => .xop 124 o1 o2
  | .movHS o1 o2 => .xop 125 o1 o2
  | .movHD o1 o2 => .xop 126 o1 o2
  | .movSQ o1 o2 => .xop 127 o1 o2
  | .movSH o1 o2 => .xop 128 o1 o2
  | .movSS o1 o2 => .xop 129 o1 o2
  | .movSD o1 o2 => .xop 130 o1 o2
  | .movDQ o1 o2 => .xop 131 o1 o2
  | .movDH o1 o2 => .xop 132 o1 o2
  | .movDS o1 o2 => .xop 133 o1 o2
  | .movDD o1 o2 => .xop 134 o1 o2
  | .movmq2 o1 o2 => .xop 135 o1 o2
  | .movmq3 o1 o2 => .xop 136 o1 o2
  | .movmq4 o1 o2 => .xop 137 o1 o2
  | .movmq5 o1 o2 => .xop 138 o1 o2
  | .movmq6 o1 o2 => .xop 139 o1 o2
  | .movmq7 o1 o2 => .xop 140 o1 o2
  | .movmq8 o1 o2 => .xop 141 o1 o2
  | .movmq9 o1 o2 => .xop 142 o1 o2
  | .movmq10 o1 o2 => .xop 143 o1 o2
  | .movmq11 o1 o2 => .xop 144 o1 o2
  | .movmq12 o1 o2 => .xop 145 o1 o2
  | .movmq13 o1 o2 => .xop 146 o1 o2
  | .movmq14 o1 o2 => .xop 147 o1 o2
  | .movmq15 o1 o2 => .xop 148 o1 o2
  | .movmq16 o1 o2 => .xop 149 o1 o2
  | .movmq17 o1 o2 => .xop 150 o1 o2
  | .movmq18 o1 o2 => .xop 151 o1 o2
  | .movmq19 o1 o2 => .xop 152 o1 o2
  | .movmq20 o1 o2 => .xop 153 o1 o2
  | .movmq21 o1 o2 => .xop 154 o1 o2
  | .movmq22 o1 o2 => .xop 155 o1 o2
  | .movmq23 o1 o2 => .xop 156 o1 o2
  | .movmq24 o1 o2 => .xop 157 o1 o2
  | .movmq25 o1 o2 => .xop 158 o1 o2
  | .movmq26 o1 o2 => .xop 159 o1 o2
  | .movmq27 o1 o2 => .xop 160 o1 o2
  | .movmq28 o1 o2 => .xop 161 o1 o2
  | .movmq29 o1 o2 => .xop 162 o1 o2
  | .movmq30 o1 o2 => .xop 163 o1 o2
  | .movmq31 o1 o2 => .xop 164 o1 o2
  | .movmq32 o1 o2 => .xop 165 o1 o2
  | .movmq64 o1 o2 => .xop 166 o1 o2
  | .movmq128 o1 o2 => .xop 167 o1 o2
  | .movms2 o1 o2 => .xop 168 o1 o2
  | .movms3 o1 o2 => .xop 169 o1 o2
  | .movms4 o1 o2 => .xop 170 o1 o2
  | .movms5 o1 o2 => .xop 171 o1 o2
  | .movms6 o1 o2 => .xop 172 o1 o2
  | .movms7 o1 o2 => .xop 173 o1 o2
  | .movms8 o1 o2 => .xop 174 o1 o2
  | .movms9 o1 o2 => .xop 175 o1 o2
  | .movms10 o1 o2 => .xop 176 o1 o2
  | .movms11 o1 o2 => .xop 177 o1 o2
  | .movms12 o1 o2 => .xop 178 o1 o2
  | .movms13 o1 o2 => .xop 179 o1 o2
  | .movms14 o1 o2 => .xop 180 o1 o2
  | .movms15 o1 o2 => .xop 181 o1 o2
  | .movms16 o1 o2 => .xop 182 o1 o2
  | .movms17 o1 o2 => .xop 183 o1 o2
  | .movms18 o1 o2 => .xop 184 o1 o2
  | .movms19 o1 o2 => .xop 185 o1 o2
  | .movms20 o1 o2 => .xop 186 o1 o2
  | .movms21 o1 o2 => .xop 187 o1 o2
  | .movms22 o1 o2 => .xop 188 o1 o2
  | .movms23 o1 o2 => .xop 189 o1 o2
  | .movms24 o1 o2 => .xop 190 o1 o2
  | .movms25 o1 o2 => .xop 191 o1 o2
  | .movms26 o1 o2 => .xop 192 o1 o2
  | .movms27 o1 o2 => .xop 193 o1 o2
  | .movms28 o1 o2 => .xop 194 o1 o2
  | .movms29 o1 o2 => .xop 195 o1 o2
  | .movms30 o1 o2 => .xop 196 o1 o2
  | .movms31 o1 o2 => .xop 197 o1 o2
  | .movms32 o1 o2 => .xop 198 o1 o2
  | .exchQ o1 o2 => .xop 199 o1 o2
  | .exchH o1 o2 => .xop 200 o1 o2
  | .exchS o1 o2 => .xop 201 o1 o2
  | .exchD o1 o2 => .xop 202 o1 o2
  | .slr0 o1 o2 => .xop 203 o1 o2
  | .slr1 o1 o2 => .xop 204 o1 o2
  | .slr2 o1 o2 => .xop 205 o1 o2
  | .slr3 o1 o2 => .xop 206 o1 o2
  | .slr4 o1 o2 => .xop 207 o1 o2
  | .slr5 o1 o2 => .xop 208 o1 o2
  | .slr6 o1 o2 => .xop 209 o1 o2
  | .slr7 o1 o2 => .xop 210 o1 o2
  | .slr8 o1 o2 => .xop 211 o1 o2
  | .slr9 o1 o2 => .xop 212 o1 o2
  | .slr10 o1 o2 => .xop 213 o1 o2
  | .slr11 o1 o2 => .xop 214 o1 o2
  | .slr12 o1 o2 => .xop 215 o1 o2
  | .slr13 o1 o2 => .xop 216 o1 o2
  | .slr14 o1 o2 => .xop 217 o1 o2
  | .slr15 o1 o2 => .xop 218 o1 o2
  | .slr16 o1 o2 => .xop 219 o1 o2
  | .slr17 o1 o2 => .xop 220 o1 o2
  | .slr18 o1 o2 => .xop 221 o1 o2
  | .slr19 o1 o2 => .xop 222 o1 o2
  | .slr20 o1 o2 => .xop 223 o1 o2
  | .slr21 o1 o2 => .xop 224 o1 o2
  | .slr22 o1 o2 => .xop 225 o1 o2
  | .slr23 o1 o2 => .xop 226 o1 o2
  | .slr24 o1 o2 => .xop 227 o1 o2
  | .slr25 o1 o2 => .xop 228 o1 o2
  | .slr26 o1 o2 => .xop 229 o1 o2
  | .slr27 o1 o2 => .xop 230 o1 o2
  | .slr28 o1 o2 => .xop 231 o1 o2
  | .slr29 o1 o2 => .xop 232 o1 o2
  | .slr30 o1 o2 => .xop 233 o1 o2
  | .slr31 o1 o2 => .xop 234 o1 o2
  | .slradr0 o1 o2 => .xop 235 o1 o2
  | .slradr1 o1 o2 => .xop 236 o1 o2
  | .slradr2 o1 o2 => .xop 237 o1 o2
  | .slradr3 o1 o2 => .xop 238 o1 o2
  | .slradr4 o1 o2 => .xop 239 o1 o2
  | .slradr5 o1 o2 => .xop 240 o1 o2
  | .slradr6 o1 o2 => .xop 241 o1 o2
  | .slradr7 o1 o2 => .xop 242 o1 o2
  | .slradr8 o1 o2 => .xop 243 o1 o2
  | .slradr9 o1 o2 => .xop 244 o1 o2
  | .slradr10 o1 o2 => .xop 245 o1 o2
  | .slradr11 o1 o2 => .xop 246 o1 o2
  | .slradr12 o1 o2 => .xop 247 o1 o2
  | .slradr13 o1 o2 => .xop 248 o1 o2
  | .slradr14 o1 o2 => .xop 249 o1 o2
  | .slradr15 o1 o2 => .xop 250 o1 o2
  | .slradr16 o1 o2 => .xop 251 o1 o2
  | .slradr17 o1 o2 => .xop 252 o1 o2
  | .slradr18 o1 o2 => .xop 253 o1 o2
  | .slradr19 o1 o2 => .xop 254 o1 o2
  | .slradr20 o1 o2 => .xop 255 o1 o2
  | .slradr21 o1 o2 => .xop 256 o1 o2
  | .slradr22 o1 o2 => .xop 257 o1 o2
  | .slradr23 o1 o2 => .xop 258 o1 o2
  | .slradr24 o1 o2 => .xop 259 o1 o2
  | .slradr25 o1 o2 => .xop 260 o1 o2
  | .slradr26 o1 o2 => .xop 261 o1 o2
  | .slradr27 o1 o2 => .xop 262 o1 o2
  | .slradr28 o1 o2 => .xop 263 o1 o2
  | .slradr29 o1 o2 => .xop 264 o1 o2
  | .slradr30 o1 o2 => .xop 265 o1 o2
  | .slradr31 o1 o2 => .xop 266 o1 o2
  | .movadr o1 o2 => .xop 267 o1 o2
  | .movphy o1 o2 => .xop 268 o1 o2
  | .cmpsfGtrQ t o1 o2 => .top 159 t o1 o2
  | .cmpsfGtrH t o1 o2 => .top 160 t o1 o2
  | .cmpsfGtrS t o1 o2 => .top 161 t o1 o2
  | .cmpsfGtrD t o1 o2 => .top 162 t o1 o2
  | .cmpsfEqlQ t o1 o2 => .top 163 t o1 o2
  | .cmpsfEqlH t o1 o2 => .top 164 t o1 o2
  | .cmpsfEqlS t o1 o2 => .top 165 t o1 o2
  | .cmpsfEqlD t o1 o2 => .top 166 t o1 o2
  | .cmpsfGeqQ t o1 o2 => .top 167 t o1 o2
  | .cmpsfGeqH t o1 o2 => .top 168 t o1 o2
  | .cmpsfGeqS t o1 o2 => .top 169 t o1 o2
  | .cmpsfGeqD t o1 o2 => .top 170 t o1 o2
  | .cmpsfLssQ t o1 o2 => .top 171 t o1 o2
  | .cmpsfLssH t o1 o2 => .top 172 t o1 o2
  | .cmpsfLssS t o1 o2 => .top 173 t o1 o2
  | .cmpsfLssD t o1 o2 => .top 174 t o1 o2
  | .cmpsfNeqQ t o1 o2 => .top 175 t o1 o2
  | .cmpsfNeqH t o1 o2 => .top 176 t o1 o2
  | .cmpsfNeqS t o1 o2 => .top 177 t o1 o2
  | .cmpsfNeqD t o1 o2 => .top 178 t o1 o2
  | .cmpsfLeqQ t o1 o2 => .top 179 t o1 o2
  | .cmpsfLeqH t o1 o2 => .top 180 t o1 o2
  | .cmpsfLeqS t o1 o2 => .top 181 t o1 o2
  | .cmpsfLeqD t o1 o2 => .top 182 t o1 o2
  | .bndsfBQ t o1 o2 => .top 183 t o1 o2
  | .bndsfBH t o1 o2 => .top 184 t o1 o2
  | .bndsfBS t o1 o2 => .top 185 t o1 o2
  | .bndsfBD t o1 o2 => .top 186 t o1 o2
  | .bndsfMinQ t o1 o2 => .top 187 t o1 o2
  | .bndsfMinH t o1 o2 => .top 188 t o1 o2
  | .bndsfMinS t o1 o2 => .top 189 t o1 o2
  | .bndsfMinD t o1 o2 => .top 190 t o1 o2
  | .bndsfM1Q t o1 o2 => .top 191 t o1 o2
  | .bndsfM1H t o1 o2 => .top 192 t o1 o2
  | .bndsfM1S t o1 o2 => .top 193 t o1 o2
  | .bndsfM1D t o1 o2 => .top 194 t o1 o2
  | .bndsf0Q t o1 o2 => .top 195 t o1 o2
  | .bndsf0H t o1 o2 => .top 196 t o1 o2
  | .bndsf0S t o1 o2 => .top 197 t o1 o2
  | .bndsf0D t o1 o2 => .top 198 t o1 o2
  | .bndsf1Q t o1 o2 => .top 199 t o1 o2
  | .bndsf1H t o1 o2 => .top 200 t o1 o2
  | .bndsf1S t o1 o2 => .top 201 t o1 o2
  | .bndsf1D t o1 o2 => .top 202 t o1 o2
  | .notQ o1 o2 => .xop 269 o1 o2
  | .notH o1 o2 => .xop 270 o1 o2
  | .notS o1 o2 => .xop 271 o1 o2
  | .notD o1 o2 => .xop 272 o1 o2
  | .andQ t o1 o2 => .top 203 t o1 o2
  | .andH t o1 o2 => .top 204 t o1 o2
  | .andS t o1 o2 => .top 205 t o1 o2
  | .andD t o1 o2 => .top 206 t o1 o2
  | .andtcQ t o1 o2 => .top 207 t o1 o2
  | .andtcH t o1 o2 => .top 208 t o1 o2
  | .andtcS t o1 o2 => .top 209 t o1 o2
  | .andtcD t o1 o2 => .top 210 t o1 o2
  | .andctQ t o1 o2 => .top 211 t o1 o2
  | .andctH t o1 o2 => .top 212 t o1 o2
  | .andctS t o1 o2 => .top 213 t o1 o2
  | .andctD t o1 o2 => .top 214 t o1 o2
  | .orQ t o1 o2 => .top 215 t o1 o2
  | .orH t o1 o2 => .top 216 t o1 o2
  | .orS t o1 o2 => .top 217 t o1 o2
  | .orD t o1 o2 => .top 218 t o1 o2
  | .ortcQ t o1 o2 => .top 219 t o1 o2
  | .ortcH t o1 o2 => .top 220 t o1 o2
  | .ortcS t o1 o2 => .top 221 t o1 o2
  | .ortcD t o1 o2 => .top 222 t o1 o2
  | .orctQ t o1 o2 => .top 223 t o1 o2
  | .orctH t o1 o2 => .top 224 t o1 o2
  | .orctS t o1 o2 => .top 225 t o1 o2
  | .orctD t o1 o2 => .top 226 t o1 o2
  | .nandQ t o1 o2 => .top 227 t o1 o2
  | .nandH t o1 o2 => .top 228 t o1 o2
  | .nandS t o1 o2 => .top 229 t o1 o2
  | .nandD t o1 o2 => .top 230 t o1 o2
  | .norQ t o1 o2 => .top 231 t o1 o2
  | .norH t o1 o2 => .top 232 t o1 o2
  | .norS t o1 o2 => .top 233 t o1 o2
  | .norD t o1 o2 => .top 234 t o1 o2
  | .xorQ t o1 o2 => .top 235 t o1 o2
  | .xorH t o1 o2 => .top 236 t o1 o2
  | .xorS t o1 o2 => .top 237 t o1 o2
  | .xorD t o1 o2 => .top 238 t o1 o2
  | .eqvQ t o1 o2 => .top 239 t o1 o2
  | .eqvH t o1 o2 => .top 240 t o1 o2
  | .eqvS t o1 o2 => .top 241 t o1 o2
  | .eqvD t o1 o2 => .top 242 t o1 o2
  | .shfLfQ t o1 o2 => .top 243 t o1 o2
  | .shfLfH t o1 o2 => .top 244 t o1 o2
  | .shfLfS t o1 o2 => .top 245 t o1 o2
  | .shfLfD t o1 o2 => .top 246 t o1 o2
  | .shfRtQ t o1 o2 => .top 247 t o1 o2
  | .shfRtH t o1 o2 => .top 248 t o1 o2
  | .shfRtS t o1 o2 => .top 249 t o1 o2
  | .shfRtD t o1 o2 => .top 250 t o1 o2
  | .shfvLfQ t o1 o2 => .top 251 t o1 o2
  | .shfvLfH t o1 o2 => .top 252 t o1 o2
  | .shfvLfS t o1 o2 => .top 253 t o1 o2
  | .shfvLfD t o1 o2 => .top 254 t o1 o2
  | .shfvRtQ t o1 o2 => .top 255 t o1 o2
  | .shfvRtH t o1 o2 => .top 256 t o1 o2
  | .shfvRtS t o1 o2 => .top 257 t o1 o2
  | .shfvRtD t o1 o2 => .top 258 t o1 o2
  | .dshfLfQ t o1 o2 => .top 259 t o1 o2
  | .dshfLfH t o1 o2 => .top 260 t o1 o2
  | .dshfLfS t o1 o2 => .top 261 t o1 o2
  | .dshfRtQ t o1 o2 => .top 262 t o1 o2
  | .dshfRtH t o1 o2 => .top 263 t o1 o2
  | .dshfRtS t o1 o2 => .top 264 t o1 o2
  | .dshfvLfQ t o1 o2 => .top 265 t o1 o2
  | .dshfvLfH t o1 o2 => .top 266 t o1 o2
  | .dshfvLfS t o1 o2 => .top 267 t o1 o2
  | .dshfvRtQ t o1 o2 => .top 268 t o1 o2
  | .dshfvRtH t o1 o2 => .top 269 t o1 o2
  | .dshfvRtS t o1 o2 => .top 270 t o1 o2
  | .shfaLfQ t o1 o2 => .top 271 t o1 o2
  | .shfaLfH t o1 o2 => .top 272 t o1 o2
  | .shfaLfS t o1 o2 => .top 273 t o1 o2
  | .shfaLfD t o1 o2 => .top 274 t o1 o2
  | .shfaRtQ t o1 o2 => .top 275 t o1 o2
  | .shfaRtH t o1 o2 => .top 276 t o1 o2
  | .shfaRtS t o1 o2 => .top 277 t o1 o2
  | .shfaRtD t o1 o2 => .top 278 t o1 o2
  | .shfavLfQ t o1 o2 => .top 279 t o1 o2
  | .shfavLfH t o1 o2 => .top 280 t o1 o2
  | .shfavLfS t o1 o2 => .top 281 t o1 o2
  | .shfavLfD t o1 o2 => .top 282 t o1 o2
  | .shfavRtQ t o1 o2 => .top 283 t o1 o2
  | .shfavRtH t o1 o2 => .top 284 t o1 o2
  | .shfavRtS t o1 o2 => .top 285 t o1 o2
  | .shfavRtD t o1 o2 => .top 286 t o1 o2
  | .rotLfQ t o1 o2 => .top 287 t o1 o2
  | .rotLfH t o1 o2 => .top 288 t o1 o2
  | .rotLfS t o1 o2 => .top 289 t o1 o2
  | .rotLfD t o1 o2 => .top 290 t o1 o2
  | .rotRtQ t o1 o2 => .top 291 t o1 o2
  | .rotRtH t o1 o2 => .top 292 t o1 o2
  | .rotRtS t o1 o2 => .top 293 t o1 o2
  | .rotRtD t o1 o2 => .top 294 t o1 o2
  | .rotvLfQ t o1 o2 => .top 295 t o1 o2
  | .rotvLfH t o1 o2 => .top 296 t o1 o2
  | .rotvLfS t o1 o2 => .top 297 t o1 o2
  | .rotvLfD t o1 o2 => .top 298 t o1 o2
  | .rotvRtQ t o1 o2 => .top 299 t o1 o2
  | .rotvRtH t o1 o2 => .top 300 t o1 o2
  | .rotvRtS t o1 o2 => .top 301 t o1 o2
  | .rotvRtD t o1 o2 => .top 302 t o1 o2
  | .skpGtrQ skp o1 o2 => .sop 0 skp o1 o2
  | .skpGtrH skp o1 o2 => .sop 1 skp o1 o2
  | .skpGtrS skp o1 o2 => .sop 2 skp o1 o2
  | .skpGtrD skp o1 o2 => .sop 3 skp o1 o2
  | .skpEqlQ skp o1 o2 => .sop 4 skp o1 o2
  | .skpEqlH skp o1 o2 => .sop 5 skp o1 o2
  | .skpEqlS skp o1 o2 => .sop 6 skp o1 o2
  | .skpEqlD skp o1 o2 => .sop 7 skp o1 o2
  | .skpGeqQ skp o1 o2 => .sop 8 skp o1 o2
  | .skpGeqH skp o1 o2 => .sop 9 skp o1 o2
  | .skpGeqS skp o1 o2 => .sop 10 skp o1 o2
  | .skpGeqD skp o1 o2 => .sop 11 skp o1 o2
  | .skpLssQ skp o1 o2 => .sop 12 skp o1 o2
  | .skpLssH skp o1 o2 => .sop 13 skp o1 o2
  | .skpLssS skp o1 o2 => .sop 14 skp o1 o2
  | .skpLssD skp o1 o2 => .sop 15 skp o1 o2
  | .skpNeqQ skp o1 o2 => .sop 16 skp o1 o2
  | .skpNeqH skp o1 o2 => .sop 17 skp o1 o2
  | .skpNeqS skp o1 o2 => .sop 18 skp o1 o2
  | .skpNeqD skp o1 o2 => .sop 19 skp o1 o2
  | .skpLeqQ skp o1 o2 => .sop 20 skp o1 o2
  | .skpLeqH skp o1 o2 => .sop 21 skp o1 o2
  | .skpLeqS skp o1 o2 => .sop 22 skp o1 o2
  | .skpLeqD skp o1 o2 => .sop 23 skp o1 o2
  | .skpNonQ skp o1 o2 => .sop 24 skp o1 o2
  | .skpNonH skp o1 o2 => .sop 25 skp o1 o2
  | .skpNonS skp o1 o2 => .sop 26 skp o1 o2
  | .skpNonD skp o1 o2 => .sop 27 skp o1 o2
  | .skpAllQ skp o1 o2 => .sop 28 skp o1 o2
  | .skpAllH skp o1 o2 => .sop 29 skp o1 o2
  | .skpAllS skp o1 o2 => .sop 30 skp o1 o2
  | .skpAllD skp o1 o2 => .sop 31 skp o1 o2
  | .skpNalQ skp o1 o2 => .sop 32 skp o1 o2
  | .skpNalH skp o1 o2 => .sop 33 skp o1 o2
  | .skpNalS skp o1 o2 => .sop 34 skp o1 o2
  | .skpNalD skp o1 o2 => .sop 35 skp o1 o2
  | .skpAnyQ skp o1 o2 => .sop 36 skp o1 o2
  | .skpAnyH skp o1 o2 => .sop 37 skp o1 o2
  | .skpAnyS skp o1 o2 => .sop 38 skp o1 o2
  | .skpAnyD skp o1 o2 => .sop 39 skp o1 o2
  | .iskpGtr skp o1 o2 => .sop 40 skp o1 o2
  | .iskpEql skp o1 o2 => .sop 41 skp o1 o2
  | .iskpGeq skp o1 o2 => .sop 42 skp o1 o2
  | .iskpLss skp o1 o2 => .sop 43 skp o1 o2
  | .iskpNeq skp o1 o2 => .sop 44 skp o1 o2
  | .iskpLeq skp o1 o2 => .sop 45 skp o1 o2
  | .dskpGtr skp o1 o2 => .sop 46 skp o1 o2
  | .dskpEql skp o1 o2 => .sop 47 skp o1 o2
  | .dskpGeq skp o1 o2 => .sop 48 skp o1 o2
  | .dskpLss skp o1 o2 => .sop 49 skp o1 o2
  | .dskpNeq skp o1 o2 => .sop 50 skp o1 o2
  | .dskpLeq skp o1 o2 => .sop 51 skp o1 o2
  | .jmpGtr o1 j => .jop 0 o1 j
  | .jmpEql o1 j => .jop 1 o1 j
  | .jmpGeq o1 j => .jop 2 o1 j
  | .jmpLss o1 j => .jop 3 o1 j
  | .jmpNeq o1 j => .jop 4 o1 j
  | .jmpLeq o1 j => .jop 5 o1 j
  | .jmpzGtrQ o1 j => .jop 6 o1 j
  | .jmpzGtrH o1 j => .jop 7 o1 j
  | .jmpzGtrS o1 j => .jop 8 o1 j
  | .jmpzGtrD o1 j => .jop 9 o1 j
  | .jmpzEqlQ o1 j => .jop 10 o1 j
  | .jmpzEqlH o1 j => .jop 11 o1 j
  | .jmpzEqlS o1 j => .jop 12 o1 j
  | .jmpzEqlD o1 j => .jop 13 o1 j
  | .jmpzGeqQ o1 j => .jop 14 o1 j
  | .jmpzGeqH o1 j => .jop 15 o1 j
  | .jmpzGeqS o1 j => .jop 16 o1 j
  | .jmpzGeqD o1 j => .jop 17 o1 j
  | .jmpzLssQ o1 j => .jop 18 o1 j
  | .jmpzLssH o1 j => .jop 19 o1 j
  | .jmpzLssS o1 j => .jop 20 o1 j
  | .jmpzLssD o1 j => .jop 21 o1 j
  | .jmpzNeqQ o1 j => .jop 22 o1 j
  | .jmpzNeqH o1 j => .jop 23 o1 j
  | .jmpzNeqS o1 j => .jop 24 o1 j
  | .jmpzNeqD o1 j => .jop 25 o1 j
  | .jmpzLeqQ o1 j => .jop 26 o1 j
  | .jmpzLeqH o1 j => .jop 27 o1 j
  | .jmpzLeqS o1 j => .jop 28 o1 j
  | .jmpzLeqD o1 j => .jop 29 o1 j
  | .jmpa o1 j => .jop 30 o1 j
  | .ijmpGtr o1 j => .jop 31 o1 j
  | .ijmpEql o1 j => .jop 32 o1 j
  | .ijmpGeq o1 j => .jop 33 o1 j
  | .ijmpLss o1 j => .jop 34 o1 j
  | .ijmpNeq o1 j => .jop 35 o1 j
  | .ijmpLeq o1 j => .jop 36 o1 j
  | .ijmpzGtr o1 j => .jop 37 o1 j
  | .ijmpzEql o1 j => .jop 38 o1 j
  | .ijmpzGeq o1 j => .jop 39 o1 j
  | .ijmpzLss o1 j => .jop 40 o1 j
  | .ijmpzNeq o1 j => .jop 41 o1 j
  | .ijmpzLeq o1 j => .jop 42 o1 j
  | .ijmpa o1 j => .jop 43 o1 j
  | .djmpGtr o1 j => .jop 44 o1 j
  | .djmpEql o1 j => .jop 45 o1 j
  | .djmpGeq o1 j => .jop 46 o1 j
  | .djmpLss o1 j => .jop 47 o1 j
  | .djmpNeq o1 j => .jop 48 o1 j
  | .djmpLeq o1 j => .jop 49 o1 j
  | .djmpzGtr o1 j => .jop 50 o1 j
  | .djmpzEql o1 j => .jop 51 o1 j
  | .djmpzGeq o1 j => .jop 52 o1 j
  | .djmpzLss o1 j => .jop 53 o1 j
  | .djmpzNeq o1 j => .jop 54 o1 j
  | .djmpzLeq o1 j => .jop 55 o1 j
  | .djmpa o1 j => .jop 56 o1 j
  | .bndtrpBQ o1 o2 => .xop 273 o1 o2
  | .bndtrpBH o1 o2 => .xop 274 o1 o2
  | .bndtrpBS o1 o2 => .xop 275 o1 o2
  | .bndtrpBD o1 o2 => .xop 276 o1 o2
  | .bndtrpMinQ o1 o2 => .xop 277 o1 o2
  | .bndtrpMinH o1 o2 => .xop 278 o1 o2
  | .bndtrpMinS o1 o2 => .xop 279 o1 o2
  | .bndtrpMinD o1 o2 => .xop 280 o1 o2
  | .bndtrpM1Q o1 o2 => .xop 281 o1 o2
  | .bndtrpM1H o1 o2 => .xop 282 o1 o2
  | .bndtrpM1S o1 o2 => .xop 283 o1 o2
  | .bndtrpM1D o1 o2 => .xop 284 o1 o2
  | .bndtrp0Q o1 o2 => .xop 285 o1 o2
  | .bndtrp0H o1 o2 => .xop 286 o1 o2
  | .bndtrp0S o1 o2 => .xop 287 o1 o2
  | .bndtrp0D o1 o2 => .xop 288 o1 o2
  | .bndtrp1Q o1 o2 => .xop 289 o1 o2
  | .bndtrp1H o1 o2 => .xop 290 o1 o2
  | .bndtrp1S o1 o2 => .xop 291 o1 o2
  | .bndtrp1D o1 o2 => .xop 292 o1 o2
  | .jpatch disp => .hop 0 disp
  | .jsr o1 j => .jop 57 o1 j
  | .jcr o1 o2 => .xop 293 o1 o2
  | .alloc1 o1 o2 => .xop 294 o1 o2
  | .alloc2 o1 o2 => .xop 295 o1 o2
  | .alloc3 o1 o2 => .xop 296 o1 o2
  | .alloc4 o1 o2 => .xop 297 o1 o2
  | .alloc5 o1 o2 => .xop 298 o1 o2
  | .alloc6 o1 o2 => .xop 299 o1 o2
  | .alloc7 o1 o2 => .xop 300 o1 o2
  | .alloc8 o1 o2 => .xop 301 o1 o2
  | .alloc9 o1 o2 => .xop 302 o1 o2
  | .alloc10 o1 o2 => .xop 303 o1 o2
  | .alloc11 o1 o2 => .xop 304 o1 o2
  | .alloc12 o1 o2 => .xop 305 o1 o2
  | .alloc13 o1 o2 => .xop 306 o1 o2
  | .alloc14 o1 o2 => .xop 307 o1 o2
  | .alloc15 o1 o2 => .xop 308 o1 o2
  | .alloc16 o1 o2 => .xop 309 o1 o2
  | .alloc17 o1 o2 => .xop 310 o1 o2
  | .alloc18 o1 o2 => .xop 311 o1 o2
  | .alloc19 o1 o2 => .xop 312 o1 o2
  | .alloc20 o1 o2 => .xop 313 o1 o2
  | .alloc21 o1 o2 => .xop 314 o1 o2
  | .alloc22 o1 o2 => .xop 315 o1 o2
  | .alloc23 o1 o2 => .xop 316 o1 o2
  | .alloc24 o1 o2 => .xop 317 o1 o2
  | .alloc25 o1 o2 => .xop 318 o1 o2
  | .alloc26 o1 o2 => .xop 319 o1 o2
  | .alloc27 o1 o2 => .xop 320 o1 o2
  | .alloc28 o1 o2 => .xop 321 o1 o2
  | .alloc29 o1 o2 => .xop 322 o1 o2
  | .alloc30 o1 o2 => .xop 323 o1 o2
  | .alloc31 o1 o2 => .xop 324 o1 o2
  | .alloc32 o1 o2 => .xop 325 o1 o2
  | .retsr o1 o2 => .xop 326 o1 o2
  | .ret o1 o2 => .xop 327 o1 o2
  | .retus o1 o2 => .xop 328 o1 o2
  | .retfs o1 o2 => .xop 329 o1 o2
  | .trpslf0 o1 o2 => .xop 330 o1 o2
  | .trpslf1 o1 o2 => .xop 331 o1 o2
  | .trpslf2 o1 o2 => .xop 332 o1 o2
  | .trpslf3 o1 o2 => .xop 333 o1 o2
  | .trpslf4 o1 o2 => .xop 334 o1 o2
  | .trpslf5 o1 o2 => .xop 335 o1 o2
  | .trpslf6 o1 o2 => .xop 336 o1 o2
  | .trpslf7 o1 o2 => .xop 337 o1 o2
  | .trpslf8 o1 o2 => .xop 338 o1 o2
  | .trpslf9 o1 o2 => .xop 339 o1 o2
  | .trpslf10 o1 o2 => .xop 340 o1 o2
  | .trpslf11 o1 o2 => .xop 341 o1 o2
  | .trpslf12 o1 o2 => .xop 342 o1 o2
  | .trpslf13 o1 o2 => .xop 343 o1 o2
  | .trpslf14 o1 o2 => .xop 344 o1 o2
  | .trpslf15 o1 o2 => .xop 345 o1 o2
  | .trpslf16 o1 o2 => .xop 346 o1 o2
  | .trpslf17 o1 o2 => .xop 347 o1 o2
  | .trpslf18 o1 o2 => .xop 348 o1 o2
  | .trpslf19 o1 o2 => .xop 349 o1 o2
  | .trpslf20 o1 o2 => .xop 350 o1 o2
  | .trpslf21 o1 o2 => .xop 351 o1 o2
  | .trpslf22 o1 o2 => .xop 352 o1 o2
  | .trpslf23 o1 o2 => .xop 353 o1 o2
  | .trpslf24 o1 o2 => .xop 354 o1 o2
  | .trpslf25 o1 o2 => .xop 355 o1 o2
  | .trpslf26 o1 o2 => .xop 356 o1 o2
  | .trpslf27 o1 o2 => .xop 357 o1 o2
  | .trpslf28 o1 o2 => .xop 358 o1 o2
  | .trpslf29 o1 o2 => .xop 359 o1 o2
  | .trpslf30 o1 o2 => .xop 360 o1 o2
  | .trpslf31 o1 o2 => .xop 361 o1 o2
  | .trpslf32 o1 o2 => .xop 362 o1 o2
  | .trpslf33 o1 o2 => .xop 363 o1 o2
  | .trpslf34 o1 o2 => .xop 364 o1 o2
  | .trpslf35 o1 o2 => .xop 365 o1 o2
  | .trpslf36 o1 o2 => .xop 366 o1 o2
  | .trpslf37 o1 o2 => .xop 367 o1 o2
  | .trpslf38 o1 o2 => .xop 368 o1 o2
  | .trpslf39 o1 o2 => .xop 369 o1 o2
  | .trpslf40 o1 o2 => .xop 370 o1 o2
  | .trpslf41 o1 o2 => .xop 371 o1 o2
  | .trpslf42 o1 o2 => .xop 372 o1 o2
  | .trpslf43 o1 o2 => .xop 373 o1 o2
  | .trpslf44 o1 o2 => .xop 374 o1 o2
  | .trpslf45 o1 o2 => .xop 375 o1 o2
  | .trpslf46 o1 o2 => .xop 376 o1 o2
  | .trpslf47 o1 o2 => .xop 377 o1 o2
  | .trpslf48 o1 o2 => .xop 378 o1 o2
  | .trpslf49 o1 o2 => .xop 379 o1 o2
  | .trpslf50 o1 o2 => .xop 380 o1 o2
  | .trpslf51 o1 o2 => .xop 381 o1 o2
  | .trpslf52 o1 o2 => .xop 382 o1 o2
  | .trpslf53 o1 o2 => .xop 383 o1 o2
  | .trpslf54 o1 o2 => .xop 384 o1 o2
  | .trpslf55 o1 o2 => .xop 385 o1 o2
  | .trpslf56 o1 o2 => .xop 386 o1 o2
  | .trpslf57 o1 o2 => .xop 387 o1 o2
  | .trpslf58 o1 o2 => .xop 388 o1 o2
  | .trpslf59 o1 o2 => .xop 389 o1 o2
  | .trpslf60 o1 o2 => .xop 390 o1 o2
  | .trpslf61 o1 o2 => .xop 391 o1 o2
  | .trpslf62 o1 o2 => .xop 392 o1 o2
  | .trpslf63 o1 o2 => .xop 393 o1 o2
  | .trpexe0 o1 o2 => .xop 394 o1 o2
  | .trpexe1 o1 o2 => .xop 395 o1 o2
  | .trpexe2 o1 o2 => .xop 396 o1 o2
  | .trpexe3 o1 o2 => .xop 397 o1 o2
  | .trpexe4 o1 o2 => .xop 398 o1 o2
  | .trpexe5 o1 o2 => .xop 399 o1 o2
  | .trpexe6 o1 o2 => .xop 400 o1 o2
  | .trpexe7 o1 o2 => .xop 401 o1 o2
  | .trpexe8 o1 o2 => .xop 402 o1 o2
  | .trpexe9 o1 o2 => .xop 403 o1 o2
  | .trpexe10 o1 o2 => .xop 404 o1 o2
  | .trpexe11 o1 o2 => .xop 405 o1 o2
  | .trpexe12 o1 o2 => .xop 406 o1 o2
  | .trpexe13 o1 o2 => .xop 407 o1 o2
  | .trpexe14 o1 o2 => .xop 408 o1 o2
  | .trpexe15 o1 o2 => .xop 409 o1 o2
  | .trpexe16 o1 o2 => .xop 410 o1 o2
  | .trpexe17 o1 o2 => .xop 411 o1 o2
  | .trpexe18 o1 o2 => .xop 412 o1 o2
  | .trpexe19 o1 o2 => .xop 413 o1 o2
  | .trpexe20 o1 o2 => .xop 414 o1 o2
  | .trpexe21 o1 o2 => .xop 415 o1 o2
  | .trpexe22 o1 o2 => .xop 416 o1 o2
  | .trpexe23 o1 o2 => .xop 417 o1 o2
  | .trpexe24 o1 o2 => .xop 418 o1 o2
  | .trpexe25 o1 o2 => .xop 419 o1 o2
  | .trpexe26 o1 o2 => .xop 420 o1 o2
  | .trpexe27 o1 o2 => .xop 421 o1 o2
  | .trpexe28 o1 o2 => .xop 422 o1 o2
  | .trpexe29 o1 o2 => .xop 423 o1 o2
  | .trpexe30 o1 o2 => .xop 424 o1 o2
  | .trpexe31 o1 o2 => .xop 425 o1 o2
  | .trpexe32 o1 o2 => .xop 426 o1 o2
  | .trpexe33 o1 o2 => .xop 427 o1 o2
  | .trpexe34 o1 o2 => .xop 428 o1 o2
  | .trpexe35 o1 o2 => .xop 429 o1 o2
  | .trpexe36 o1 o2 => .xop 430 o1 o2
  | .trpexe37 o1 o2 => .xop 431 o1 o2
  | .trpexe38 o1 o2 => .xop 432 o1 o2
  | .trpexe39 o1 o2 => .xop 433 o1 o2
  | .trpexe40 o1 o2 => .xop 434 o1 o2
  | .trpexe41 o1 o2 => .xop 435 o1 o2
  | .trpexe42 o1 o2 => .xop 436 o1 o2
  | .trpexe43 o1 o2 => .xop 437 o1 o2
  | .trpexe44 o1 o2 => .xop 438 o1 o2
  | .trpexe45 o1 o2 => .xop 439 o1 o2
  | .trpexe46 o1 o2 => .xop 440 o1 o2
  | .trpexe47 o1 o2 => .xop 441 o1 o2
  | .trpexe48 o1 o2 => .xop 442 o1 o2
  | .trpexe49 o1 o2 => .xop 443 o1 o2
  | .trpexe50 o1 o2 => .xop 444 o1 o2
  | .trpexe51 o1 o2 => .xop 445 o1 o2
  | .trpexe52 o1 o2 => .xop 446 o1 o2
  | .trpexe53 o1 o2 => .xop 447 o1 o2
  | .trpexe54 o1 o2 => .xop 448 o1 o2
  | .trpexe55 o1 o2 => .xop 449 o1 o2
  | .trpexe56 o1 o2 => .xop 450 o1 o2
  | .trpexe57 o1 o2 => .xop 451 o1 o2
  | .trpexe58 o1 o2 => .xop 452 o1 o2
  | .trpexe59 o1 o2 => .xop 453 o1 o2
  | .trpexe60 o1 o2 => .xop 454 o1 o2
  | .trpexe61 o1 o2 => .xop 455 o1 o2
  | .trpexe62 o1 o2 => .xop 456 o1 o2
  | .trpexe63 o1 o2 => .xop 457 o1 o2
  | .adjspUp o1 o2 => .xop 458 o1 o2
  | .adjspDn o1 o2 => .xop 459 o1 o2
  | .pushUpQ o1 o2 => .xop 460 o1 o2
  | .pushUpH o1 o2 => .xop 461 o1 o2
  | .pushUpS o1 o2 => .xop 462 o1 o2
  | .pushUpD o1 o2 => .xop 463 o1 o2
  | .pushDnQ o1 o2 => .xop 464 o1 o2
  | .pushDnH o1 o2 => .xop 465 o1 o2
  | .pushDnS o1 o2 => .xop 466 o1 o2
  | .pushDnD o1 o2 => .xop 467 o1 o2
  | .popUpQ o1 o2 => .xop 468 o1 o2
  | .popUpH o1 o2 => .xop 469 o1 o2
  | .popUpS o1 o2 => .xop 470 o1 o2
  | .popUpD o1 o2 => .xop 471 o1 o2
  | .popDnQ o1 o2 => .xop 472 o1 o2
  | .popDnH o1 o2 => .xop 473 o1 o2
  | .popDnS o1 o2 => .xop 474 o1 o2
  | .popDnD o1 o2 => .xop 475 o1 o2
  | .lbytS o1 o2 => .xop 476 o1 o2
  | .lbytD o1 o2 => .xop 477 o1 o2
  | .libytS t o1 o2 => .top 303 t o1 o2
  | .libytD t o1 o2 => .top 304 t o1 o2
  | .lsbytS o1 o2 => .xop 478 o1 o2
  | .lsbytD o1 o2 => .xop 479 o1 o2
  | .lisbytS t o1 o2 => .top 305 t o1 o2
  | .lisbytD t o1 o2 => .top 306 t o1 o2
  | .dbytS o1 o2 => .xop 480 o1 o2
  | .dbytD o1 o2 => .xop 481 o1 o2
  | .dibytS t o1 o2 => .top 307 t o1 o2
  | .dibytD t o1 o2 => .top 308 t o1 o2
  | .adjbpS t o1 o2 => .top 309 t o1 o2
  | .adjbpD t o1 o2 => .top 310 t o1 o2
  | .bitrvQ t o1 o2 => .top 311 t o1 o2
  | .bitrvH t o1 o2 => .top 312 t o1 o2
  | .bitrvS t o1 o2 => .top 313 t o1 o2
  | .bitrvD t o1 o2 => .top 314 t o1 o2
  | .bitrvvQ t o1 o2 => .top 315 t o1 o2
  | .bitrvvH t o1 o2 => .top 316 t o1 o2
  | .bitrvvS t o1 o2 => .top 317 t o1 o2
  | .bitrvvD t o1 o2 => .top 318 t o1 o2
  | .bitexQ t o1 o2 => .top 319 t o1 o2
  | .bitexH t o1 o2 => .top 320 t o1 o2
  | .bitexS t o1 o2 => .top 321 t o1 o2
  | .bitexD t o1 o2 => .top 322 t o1 o2
  | .bitexvQ t o1 o2 => .top 323 t o1 o2
  | .bitexvH t o1 o2 => .top 324 t o1 o2
  | .bitexvS t o1 o2 => .top 325 t o1 o2
  | .bitexvD t o1 o2 => .top 326 t o1 o2
  | .bitcntQ o1 o2 => .xop 482 o1 o2
  | .bitcntH o1 o2 => .xop 483 o1 o2
  | .bitcntS o1 o2 => .xop 484 o1 o2
  | .bitcntD o1 o2 => .xop 485 o1 o2
  | .bitfstQ o1 o2 => .xop 486 o1 o2
  | .bitfstH o1 o2 => .xop 487 o1 o2
  | .bitfstS o1 o2 => .xop 488 o1 o2
  | .bitfstD o1 o2 => .xop 489 o1 o2
  | .strcmpRta o1 o2 => .xop 490 o1 o2
  | .strcmpRtb o1 o2 => .xop 491 o1 o2
  | .blkmovRta o1 o2 => .xop 492 o1 o2
  | .blkmovRtb o1 o2 => .xop 493 o1 o2
  | .blkiniRtaQ o1 o2 => .xop 494 o1 o2
  | .blkiniRtaH o1 o2 => .xop 495 o1 o2
  | .blkiniRtaS o1 o2 => .xop 496 o1 o2
  | .blkiniRtaD o1 o2 => .xop 497 o1 o2
  | .blkiniRtbQ o1 o2 => .xop 498 o1 o2
  | .blkiniRtbH o1 o2 => .xop 499 o1 o2
  | .blkiniRtbS o1 o2 => .xop 500 o1 o2
  | .blkiniRtbD o1 o2 => .xop 501 o1 o2
  | .blkidRta o1 o2 => .xop 502 o1 o2
  | .blkidRtb o1 o2 => .xop 503 o1 o2
  | .blkdiRta o1 o2 => .xop 504 o1 o2
  | .blkdiRtb o1 o2 => .xop 505 o1 o2
  | .rus o1 o2 => .xop 506 o1 o2
  | .jusclrNon o1 j => .jop 58 o1 j
  | .jusclrAll o1 j => .jop 59 o1 j
  | .jusclrNal o1 j => .jop 60 o1 j
  | .jusclrAny o1 j => .jop 61 o1 j
  | .jusNon o1 j => .jop 62 o1 j
  | .jusAll o1 j => .jop 63 o1 j
  | .jusNal o1 j => .jop 64 o1 j
  | .jusAny o1 j => .jop 65 o1 j
  | .wusjmp o1 j => .jop 66 o1 j
  | .setus o1 o2 => .xop 507 o1 o2
  | .clrus o1 o2 => .xop 508 o1 o2
  | .rspid o1 o2 => .xop 509 o1 o2
  | .wspid o1 o2 => .xop 510 o1 o2
  | .rrndmd o1 o2 => .xop 511 o1 o2
  | .wrndmd o1 o2 => .xop 512 o1 o2
  | .rps o1 o2 => .xop 513 o1 o2
  | .wfsjmp o1 j => .jop 67 o1 j
  | .rcfile o1 o2 => .xop 514 o1 o2
  | .wcfile o1 o2 => .xop 515 o1 o2
  | .rpfile o1 o2 => .xop 516 o1 o2
  | .wpfile o1 o2 => .xop 517 o1 o2
  | .rpid o1 o2 => .xop 518 o1 o2
  | .swpicRtaV o1 o2 => .xop 519 o1 o2
  | .swpicRtaP o1 o2 => .xop 520 o1 o2
  | .swpicRtbV o1 o2 => .xop 521 o1 o2
  | .swpicRtbP o1 o2 => .xop 522 o1 o2
  | .swpdcRtaVU o1 o2 => .xop 523 o1 o2
  | .swpdcRtaVUk o1 o2 => .xop 524 o1 o2
  | .swpdcRtaPU o1 o2 => .xop 525 o1 o2
  | .swpdcRtaPUk o1 o2 => .xop 526 o1 o2
  | .swpdcRtbVU o1 o2 => .xop 527 o1 o2
  | .swpdcRtbVUk o1 o2 => .xop 528 o1 o2
  | .swpdcRtbPU o1 o2 => .xop 529 o1 o2
  | .swpdcRtbPUk o1 o2 => .xop 530 o1 o2
  | .swpimE o1 o2 => .xop 531 o1 o2
  | .swpimU o1 o2 => .xop 532 o1 o2
  | .swpdmE o1 o2 => .xop 533 o1 o2
  | .swpdmU o1 o2 => .xop 534 o1 o2
  | .wupjmp o1 j => .jop 68 o1 j
  | .wepjmp o1 j => .jop 69 o1 j
  | .rien o1 o2 => .xop 535 o1 o2
  | .wien o1 o2 => .xop 536 o1 o2
  | .sien o1 o2 => .xop 537 o1 o2
  | .cien o1 o2 => .xop 538 o1 o2
  | .ripnd o1 o2 => .xop 539 o1 o2
  | .wipnd o1 o2 => .xop 540 o1 o2
  | .sipnd o1 o2 => .xop 541 o1 o2
  | .cipnd o1 o2 => .xop 542 o1 o2
  | .ripar o1 o2 => .xop 543 o1 o2
  | .wipar o1 o2 => .xop 544 o1 o2
  | .blkiorRtaB o1 o2 => .xop 545 o1 o2
  | .blkiorRtaQ o1 o2 => .xop 546 o1 o2
  | .blkiorRtaH o1 o2 => .xop 547 o1 o2
  | .blkiorRtaS o1 o2 => .xop 548 o1 o2
  | .blkiorRtbB o1 o2 => .xop 549 o1 o2
  | .blkiorRtbQ o1 o2 => .xop 550 o1 o2
  | .blkiorRtbH o1 o2 => .xop 551 o1 o2
  | .blkiorRtbS o1 o2 => .xop 552 o1 o2
  | .blkiowRtaB o1 o2 => .xop 553 o1 o2
  | .blkiowRtaQ o1 o2 => .xop 554 o1 o2
  | .blkiowRtaH o1 o2 => .xop 555 o1 o2
  | .blkiowRtaS o1 o2 => .xop 556 o1 o2
  | .blkiowRtbB o1 o2 => .xop 557 o1 o2
  | .blkiowRtbQ o1 o2 => .xop 558 o1 o2
  | .blkiowRtbH o1 o2 => .xop 559 o1 o2
  | .blkiowRtbS o1 o2 => .xop 560 o1 o2
  | .intiop o1 o2 => .xop 561 o1 o2
  | .rctr o1 o2 => .xop 562 o1 o2
  | .wctr o1 o2 => .xop 563 o1 o2
  | .rectr o1 o2 => .xop 564 o1 o2
  | .wectr o1 o2 => .xop 565 o1 o2
  | .nop o1 o2 => .xop 566 o1 o2
  | .xct o1 o2 => .xop 567 o1 o2
  | .rmw t o1 o2 => .top 327 t o1 o2
  | .wait o1 o2 => .xop 568 o1 o2
  | .halt o1 j => .jop 70 o1 j

end Sys2Proof
end

