-- ==== Sys2Proof/WellFormed.lean ====
section
/-! DEFINITION. Which terms of the syntax stand for instruction words: each condition below says that a field takes
a value its encoding can hold (R221 to R225). Reserved encodings that hard-trap (mode 2, register numbers above 31,
reserved F) are well-formed: they can be written in a word, and executing them takes the trap the spec names. -/

namespace Sys2Proof

/-- The base of a short-indexed operand is 3..31: 0, 1 and 2 select other modes (R221). -/
def Short.wellFormed : Short → Bool
  | .indexed base _ => decide (3 ≤ base.toNat)
  | _ => true

/-- Is the short operand the constant mode (`MODE` = 1), which with X = 1 has another meaning (R224)? -/
def Short.isConst : Short → Bool
  | .const _ => true
  | _ => false

/-- A reserved `F` is 4..31; the index of a based operand is not a short constant (R224). -/
def OD.wellFormed : OD → Bool
  | .short so => so.wellFormed
  | .illegalF f _ => decide (4 ≤ f.toNat)
  | .based so _ => so.wellFormed && !so.isConst
  | _ => true

/-- The J field of a jump (R210). -/
def JDest.wellFormed : JDest → Bool
  | .rel _ => true
  | .gen od => od.wellFormed

/-- The fields of an instruction, class by class. -/
def Form.wellFormed : Form → Bool
  | .hop _ _ => true
  | .xop _ o1 o2 => o1.wellFormed && o2.wellFormed
  | .jop _ o1 j => o1.wellFormed && j.wellFormed
  | .sop _ _ o1 o2 => o1.wellFormed && o2.wellFormed
  | .top _ _ o1 o2 => o1.wellFormed && o2.wellFormed

/-- An instruction is well-formed when each of its operand fields is. -/
def Instr.wellFormed (i : Instr) : Bool := i.form.wellFormed

end Sys2Proof
end

