-- ==== Sys2Proof/Decode.lean ====
section
/-! DEFINITION. Decoding and encoding (30_encoding.md). The decoder is total on any bytes: it reads three
single-words, answers the instruction with the number of words it occupies, or rejects by name. The encoder writes
the words of an instruction from the same field positions. Field positions: R205 (classes), R217 (descriptor), R225
(extended word), R264 (opcode numbers).

What builds an `Instr` is marked noncomputable: Lean's compiler has no object for a constructor beyond the 244th of a
type, and the opcode map has 1021 rows. The kernel evaluates these definitions all the same. -/

namespace Sys2Proof
open Machine (field bitAt)

/-- Why a sequence of bytes is no instruction. -/
inductive DecodeError where
  /-- the opcode field holds no instruction (R272): executing it is fatal hard trap 6 -/
  | illegalOpcode (c : BitVec 12)
  /-- fewer than three whole single-words were given (the look-ahead of R251 always reads three) -/
  | tooShort
  deriving DecidableEq, Repr

/-! ### Descriptors -/

/-- The short operand of `MODE` and `F` (R221). -/
def decodeShort (mode : BitVec 5) (f : BitVec 6) : Short :=
  match mode.toNat with
  | 0 => if bitAt f 0 then .regOut (field f 1 5) else .reg (field f 1 5)
  | 1 => .const f
  | 2 => .mode2 f
  | _ => .indexed mode f

/-- `MODE` and `F` of a short operand. -/
def encodeShort : Short → BitVec 5 × BitVec 6
  | .reg r => (0, 0#1 ++ r)
  | .regOut f => (0, 1#1 ++ f)
  | .const f => (1, f)
  | .mode2 f => (2, f)
  | .indexed b d => (b, d)

/-- A fixed-based (V = 0) or variable-based (V = 1) extended word (R225). -/
def decodeExtWord (w : SW) : ExtWord :=
  if bitAt w 2 then
    .variableBased (bitAt w 0) (bitAt w 1) (field w 3 2) (bitAt w 5) (field w 6 5) (field w 11 25)
  else .fixedBased (bitAt w 0) (bitAt w 1) (field w 3 2) (bitAt w 5) (field w 6 30)

/-- The word of an extended word (R225). -/
def encodeExtWord : ExtWord → SW
  | .fixedBased p i s spare addr =>
    BitVec.ofBool p ++ BitVec.ofBool i ++ 0#1 ++ s ++ BitVec.ofBool spare ++ addr
  | .variableBased p i s spare reg disp =>
    BitVec.ofBool p ++ BitVec.ofBool i ++ 1#1 ++ s ++ BitVec.ofBool spare ++ reg ++ disp

/-- The operand descriptor of the 12 bits `d` (`X<0>`, `MODE<1:5>`, `F<6:11>`, R217) whose extended word, where it
has one, is `ew` (R224). -/
def decodeOD (d : BitVec 12) (ew : SW) : OD :=
  let mode := field d 1 5
  let f := field d 6 6
  if bitAt d 0 then
    if mode = 1 then
      if bitAt f 0 then .indexedConst (field f 1 5) ew
      else
        match f.toNat with
        | 0 => .based0 (decodeExtWord ew)
        | 1 => .longConst .sx ew
        | 2 => .longConst .zx ew
        | 3 => .longConst .lj ew
        | _ => .illegalF (field f 1 5) ew
    else .based (decodeShort mode f) (decodeExtWord ew)
  else .short (decodeShort mode f)

/-- The `F` of an immediate long constant (R227). -/
def encodeConstKind : ConstKind → BitVec 6
  | .sx => 1
  | .zx => 2
  | .lj => 3

/-- The 12 bits of a descriptor and its extended word, if it has one. -/
def encodeOD : OD → BitVec 12 × Option SW
  | .short so => (0#1 ++ (encodeShort so).1 ++ (encodeShort so).2, none)
  | .longConst k w => (1#1 ++ 1#5 ++ encodeConstKind k, some w)
  | .illegalF f w => (1#1 ++ 1#5 ++ (0#1 ++ f), some w)
  | .indexedConst r w => (1#1 ++ 1#5 ++ (1#1 ++ r), some w)
  | .based0 ew => (1#1 ++ 1#5 ++ 0#6, some (encodeExtWord ew))
  | .based so ew => (1#1 ++ (encodeShort so).1 ++ (encodeShort so).2, some (encodeExtWord ew))

/-- Does the descriptor have an extended word (X = 1)? -/
def OD.extended : OD → Bool
  | .short _ => false
  | _ => true

/-- Does the J field have an extended word? With PR = 1 it has no X bit (R204). -/
def JDest.extended : JDest → Bool
  | .rel _ => false
  | .gen od => od.extended

/-- The two descriptors of a first word with their extended words: OD2's comes first (R203). -/
def decodePair (d1 d2 : BitVec 12) (w1 w2 : SW) : OD × OD :=
  let o2 := decodeOD d2 w1
  (decodeOD d1 (if o2.extended then w2 else w1), o2)

/-- The T field (R207, Table 4-1). -/
def decodeT (t : BitVec 2) : TMode :=
  match t.toNat with
  | 0 => .t00
  | 1 => .t01
  | 2 => .t10
  | _ => .t11

/-- The bits of the T field. -/
def encodeT : TMode → BitVec 2
  | .t00 => 0
  | .t01 => 1
  | .t10 => 2
  | .t11 => 3

/-! ### The opcode map: the instructions of each class in the order of R264 -/

/-- XOP numbers 0 to 39. -/
noncomputable def xopTable0 : List (OD → OD → Instr) := [
  .incQ, .incH, .incS, .incD, .decQ, .decH, .decS, .decD, .transQQ, .transQH, .transQS, .transQD, .transHQ,
  .transHH, .transHS, .transHD, .transSQ, .transSH, .transSS, .transSD, .transDQ, .transDH, .transDS, .transDD,
  .negQ, .negH, .negS, .negD, .absQ, .absH, .absS, .absD, .fixFlQH, .fixFlQS, .fixFlQD, .fixFlHH, .fixFlHS,
  .fixFlHD, .fixFlSH, .fixFlSS]

/-- XOP numbers 40 to 79. -/
noncomputable def xopTable1 : List (OD → OD → Instr) := [
  .fixFlSD, .fixFlDH, .fixFlDS, .fixFlDD, .fixClQH, .fixClQS, .fixClQD, .fixClHH, .fixClHS, .fixClHD, .fixClSH,
  .fixClSS, .fixClSD, .fixClDH, .fixClDS, .fixClDD, .fixDmQH, .fixDmQS, .fixDmQD, .fixDmHH, .fixDmHS, .fixDmHD,
  .fixDmSH, .fixDmSS, .fixDmSD, .fixDmDH, .fixDmDS, .fixDmDD, .fixHpQH, .fixHpQS, .fixHpQD, .fixHpHH, .fixHpHS,
  .fixHpHD, .fixHpSH, .fixHpSS, .fixHpSD, .fixHpDH, .fixHpDS, .fixHpDD]

/-- XOP numbers 80 to 119. -/
noncomputable def xopTable2 : List (OD → OD → Instr) := [
  .fixUsQH, .fixUsQS, .fixUsQD, .fixUsHH, .fixUsHS, .fixUsHD, .fixUsSH, .fixUsSS, .fixUsSD, .fixUsDH, .fixUsDS,
  .fixUsDD, .floatHQ, .floatHH, .floatHS, .floatHD, .floatSQ, .floatSH, .floatSS, .floatSD, .floatDQ, .floatDH,
  .floatDS, .floatDD, .ftransHH, .ftransHS, .ftransHD, .ftransSH, .ftransSS, .ftransSD, .ftransDH, .ftransDS,
  .ftransDD, .fnegH, .fnegS, .fnegD, .fabsH, .fabsS, .fabsD, .movQQ]

/-- XOP numbers 120 to 159. -/
noncomputable def xopTable3 : List (OD → OD → Instr) := [
  .movQH, .movQS, .movQD, .movHQ, .movHH, .movHS, .movHD, .movSQ, .movSH, .movSS, .movSD, .movDQ, .movDH, .movDS,
  .movDD, .movmq2, .movmq3, .movmq4, .movmq5, .movmq6, .movmq7, .movmq8, .movmq9, .movmq10, .movmq11, .movmq12,
  .movmq13, .movmq14, .movmq15, .movmq16, .movmq17, .movmq18, .movmq19, .movmq20, .movmq21, .movmq22, .movmq23,
  .movmq24, .movmq25, .movmq26]

/-- XOP numbers 160 to 199. -/
noncomputable def xopTable4 : List (OD → OD → Instr) := [
  .movmq27, .movmq28, .movmq29, .movmq30, .movmq31, .movmq32, .movmq64, .movmq128, .movms2, .movms3, .movms4,
  .movms5, .movms6, .movms7, .movms8, .movms9, .movms10, .movms11, .movms12, .movms13, .movms14, .movms15, .movms16,
  .movms17, .movms18, .movms19, .movms20, .movms21, .movms22, .movms23, .movms24, .movms25, .movms26, .movms27,
  .movms28, .movms29, .movms30, .movms31, .movms32, .exchQ]

/-- XOP numbers 200 to 239. -/
noncomputable def xopTable5 : List (OD → OD → Instr) := [
  .exchH, .exchS, .exchD, .slr0, .slr1, .slr2, .slr3, .slr4, .slr5, .slr6, .slr7, .slr8, .slr9, .slr10, .slr11,
  .slr12, .slr13, .slr14, .slr15, .slr16, .slr17, .slr18, .slr19, .slr20, .slr21, .slr22, .slr23, .slr24, .slr25,
  .slr26, .slr27, .slr28, .slr29, .slr30, .slr31, .slradr0, .slradr1, .slradr2, .slradr3, .slradr4]

/-- XOP numbers 240 to 279. -/
noncomputable def xopTable6 : List (OD → OD → Instr) := [
  .slradr5, .slradr6, .slradr7, .slradr8, .slradr9, .slradr10, .slradr11, .slradr12, .slradr13, .slradr14,
  .slradr15, .slradr16, .slradr17, .slradr18, .slradr19, .slradr20, .slradr21, .slradr22, .slradr23, .slradr24,
  .slradr25, .slradr26, .slradr27, .slradr28, .slradr29, .slradr30, .slradr31, .movadr, .movphy, .notQ, .notH,
  .notS, .notD, .bndtrpBQ, .bndtrpBH, .bndtrpBS, .bndtrpBD, .bndtrpMinQ, .bndtrpMinH, .bndtrpMinS]

/-- XOP numbers 280 to 319. -/
noncomputable def xopTable7 : List (OD → OD → Instr) := [
  .bndtrpMinD, .bndtrpM1Q, .bndtrpM1H, .bndtrpM1S, .bndtrpM1D, .bndtrp0Q, .bndtrp0H, .bndtrp0S, .bndtrp0D,
  .bndtrp1Q, .bndtrp1H, .bndtrp1S, .bndtrp1D, .jcr, .alloc1, .alloc2, .alloc3, .alloc4, .alloc5, .alloc6, .alloc7,
  .alloc8, .alloc9, .alloc10, .alloc11, .alloc12, .alloc13, .alloc14, .alloc15, .alloc16, .alloc17, .alloc18,
  .alloc19, .alloc20, .alloc21, .alloc22, .alloc23, .alloc24, .alloc25, .alloc26]

/-- XOP numbers 320 to 359. -/
noncomputable def xopTable8 : List (OD → OD → Instr) := [
  .alloc27, .alloc28, .alloc29, .alloc30, .alloc31, .alloc32, .retsr, .ret, .retus, .retfs, .trpslf0, .trpslf1,
  .trpslf2, .trpslf3, .trpslf4, .trpslf5, .trpslf6, .trpslf7, .trpslf8, .trpslf9, .trpslf10, .trpslf11, .trpslf12,
  .trpslf13, .trpslf14, .trpslf15, .trpslf16, .trpslf17, .trpslf18, .trpslf19, .trpslf20, .trpslf21, .trpslf22,
  .trpslf23, .trpslf24, .trpslf25, .trpslf26, .trpslf27, .trpslf28, .trpslf29]

/-- XOP numbers 360 to 399. -/
noncomputable def xopTable9 : List (OD → OD → Instr) := [
  .trpslf30, .trpslf31, .trpslf32, .trpslf33, .trpslf34, .trpslf35, .trpslf36, .trpslf37, .trpslf38, .trpslf39,
  .trpslf40, .trpslf41, .trpslf42, .trpslf43, .trpslf44, .trpslf45, .trpslf46, .trpslf47, .trpslf48, .trpslf49,
  .trpslf50, .trpslf51, .trpslf52, .trpslf53, .trpslf54, .trpslf55, .trpslf56, .trpslf57, .trpslf58, .trpslf59,
  .trpslf60, .trpslf61, .trpslf62, .trpslf63, .trpexe0, .trpexe1, .trpexe2, .trpexe3, .trpexe4, .trpexe5]

/-- XOP numbers 400 to 439. -/
noncomputable def xopTable10 : List (OD → OD → Instr) := [
  .trpexe6, .trpexe7, .trpexe8, .trpexe9, .trpexe10, .trpexe11, .trpexe12, .trpexe13, .trpexe14, .trpexe15,
  .trpexe16, .trpexe17, .trpexe18, .trpexe19, .trpexe20, .trpexe21, .trpexe22, .trpexe23, .trpexe24, .trpexe25,
  .trpexe26, .trpexe27, .trpexe28, .trpexe29, .trpexe30, .trpexe31, .trpexe32, .trpexe33, .trpexe34, .trpexe35,
  .trpexe36, .trpexe37, .trpexe38, .trpexe39, .trpexe40, .trpexe41, .trpexe42, .trpexe43, .trpexe44, .trpexe45]

/-- XOP numbers 440 to 479. -/
noncomputable def xopTable11 : List (OD → OD → Instr) := [
  .trpexe46, .trpexe47, .trpexe48, .trpexe49, .trpexe50, .trpexe51, .trpexe52, .trpexe53, .trpexe54, .trpexe55,
  .trpexe56, .trpexe57, .trpexe58, .trpexe59, .trpexe60, .trpexe61, .trpexe62, .trpexe63, .adjspUp, .adjspDn,
  .pushUpQ, .pushUpH, .pushUpS, .pushUpD, .pushDnQ, .pushDnH, .pushDnS, .pushDnD, .popUpQ, .popUpH, .popUpS,
  .popUpD, .popDnQ, .popDnH, .popDnS, .popDnD, .lbytS, .lbytD, .lsbytS, .lsbytD]

/-- XOP numbers 480 to 519. -/
noncomputable def xopTable12 : List (OD → OD → Instr) := [
  .dbytS, .dbytD, .bitcntQ, .bitcntH, .bitcntS, .bitcntD, .bitfstQ, .bitfstH, .bitfstS, .bitfstD, .strcmpRta,
  .strcmpRtb, .blkmovRta, .blkmovRtb, .blkiniRtaQ, .blkiniRtaH, .blkiniRtaS, .blkiniRtaD, .blkiniRtbQ, .blkiniRtbH,
  .blkiniRtbS, .blkiniRtbD, .blkidRta, .blkidRtb, .blkdiRta, .blkdiRtb, .rus, .setus, .clrus, .rspid, .wspid,
  .rrndmd, .wrndmd, .rps, .rcfile, .wcfile, .rpfile, .wpfile, .rpid, .swpicRtaV]

/-- XOP numbers 520 to 559. -/
noncomputable def xopTable13 : List (OD → OD → Instr) := [
  .swpicRtaP, .swpicRtbV, .swpicRtbP, .swpdcRtaVU, .swpdcRtaVUk, .swpdcRtaPU, .swpdcRtaPUk, .swpdcRtbVU,
  .swpdcRtbVUk, .swpdcRtbPU, .swpdcRtbPUk, .swpimE, .swpimU, .swpdmE, .swpdmU, .rien, .wien, .sien, .cien, .ripnd,
  .wipnd, .sipnd, .cipnd, .ripar, .wipar, .blkiorRtaB, .blkiorRtaQ, .blkiorRtaH, .blkiorRtaS, .blkiorRtbB,
  .blkiorRtbQ, .blkiorRtbH, .blkiorRtbS, .blkiowRtaB, .blkiowRtaQ, .blkiowRtaH, .blkiowRtaS, .blkiowRtbB,
  .blkiowRtbQ, .blkiowRtbH]

/-- XOP numbers 560 to 568. -/
noncomputable def xopTable14 : List (OD → OD → Instr) := [
  .blkiowRtbS, .intiop, .rctr, .wctr, .rectr, .wectr, .nop, .xct, .wait]

/-- The XOP instructions in the order of the opcode map, in blocks of 40. -/
noncomputable def xopTables : List (List (OD → OD → Instr)) := [
  xopTable0, xopTable1, xopTable2, xopTable3, xopTable4, xopTable5, xopTable6, xopTable7, xopTable8, xopTable9,
  xopTable10, xopTable11, xopTable12, xopTable13, xopTable14]

/-- JOP numbers 0 to 39. -/
noncomputable def jopTable0 : List (OD → JDest → Instr) := [
  .jmpGtr, .jmpEql, .jmpGeq, .jmpLss, .jmpNeq, .jmpLeq, .jmpzGtrQ, .jmpzGtrH, .jmpzGtrS, .jmpzGtrD, .jmpzEqlQ,
  .jmpzEqlH, .jmpzEqlS, .jmpzEqlD, .jmpzGeqQ, .jmpzGeqH, .jmpzGeqS, .jmpzGeqD, .jmpzLssQ, .jmpzLssH, .jmpzLssS,
  .jmpzLssD, .jmpzNeqQ, .jmpzNeqH, .jmpzNeqS, .jmpzNeqD, .jmpzLeqQ, .jmpzLeqH, .jmpzLeqS, .jmpzLeqD, .jmpa,
  .ijmpGtr, .ijmpEql, .ijmpGeq, .ijmpLss, .ijmpNeq, .ijmpLeq, .ijmpzGtr, .ijmpzEql, .ijmpzGeq]

/-- JOP numbers 40 to 70. -/
noncomputable def jopTable1 : List (OD → JDest → Instr) := [
  .ijmpzLss, .ijmpzNeq, .ijmpzLeq, .ijmpa, .djmpGtr, .djmpEql, .djmpGeq, .djmpLss, .djmpNeq, .djmpLeq, .djmpzGtr,
  .djmpzEql, .djmpzGeq, .djmpzLss, .djmpzNeq, .djmpzLeq, .djmpa, .jsr, .jusclrNon, .jusclrAll, .jusclrNal,
  .jusclrAny, .jusNon, .jusAll, .jusNal, .jusAny, .wusjmp, .wfsjmp, .wupjmp, .wepjmp, .halt]

/-- The JOP instructions in the order of the opcode map, in blocks of 40. -/
noncomputable def jopTables : List (List (OD → JDest → Instr)) := [
  jopTable0, jopTable1]

/-- SOP numbers 0 to 39. -/
noncomputable def sopTable0 : List (BitVec 4 → OD → OD → Instr) := [
  .skpGtrQ, .skpGtrH, .skpGtrS, .skpGtrD, .skpEqlQ, .skpEqlH, .skpEqlS, .skpEqlD, .skpGeqQ, .skpGeqH, .skpGeqS,
  .skpGeqD, .skpLssQ, .skpLssH, .skpLssS, .skpLssD, .skpNeqQ, .skpNeqH, .skpNeqS, .skpNeqD, .skpLeqQ, .skpLeqH,
  .skpLeqS, .skpLeqD, .skpNonQ, .skpNonH, .skpNonS, .skpNonD, .skpAllQ, .skpAllH, .skpAllS, .skpAllD, .skpNalQ,
  .skpNalH, .skpNalS, .skpNalD, .skpAnyQ, .skpAnyH, .skpAnyS, .skpAnyD]

/-- SOP numbers 40 to 51. -/
noncomputable def sopTable1 : List (BitVec 4 → OD → OD → Instr) := [
  .iskpGtr, .iskpEql, .iskpGeq, .iskpLss, .iskpNeq, .iskpLeq, .dskpGtr, .dskpEql, .dskpGeq, .dskpLss, .dskpNeq,
  .dskpLeq]

/-- The SOP instructions in the order of the opcode map, in blocks of 40. -/
noncomputable def sopTables : List (List (BitVec 4 → OD → OD → Instr)) := [
  sopTable0, sopTable1]

/-- TOP numbers 0 to 39. -/
noncomputable def topTable0 : List (TMode → OD → OD → Instr) := [
  .addQ, .addH, .addS, .addD, .addcQ, .addcH, .addcS, .addcD, .subQ, .subH, .subS, .subD, .subvQ, .subvH, .subvS,
  .subvD, .subcQ, .subcH, .subcS, .subcD, .subcvQ, .subcvH, .subcvS, .subcvD, .multQ, .multH, .multS, .multD,
  .multlQ, .multlH, .multlS, .quoQ, .quoH, .quoS, .quoD, .quovQ, .quovH, .quovS, .quovD, .quolQ]

/-- TOP numbers 40 to 79. -/
noncomputable def topTable1 : List (TMode → OD → OD → Instr) := [
  .quolH, .quolS, .quolvQ, .quolvH, .quolvS, .quo2Q, .quo2H, .quo2S, .quo2D, .quo2vQ, .quo2vH, .quo2vS, .quo2vD,
  .quo2lQ, .quo2lH, .quo2lS, .quo2lvQ, .quo2lvH, .quo2lvS, .remQ, .remH, .remS, .remD, .remvQ, .remvH, .remvS,
  .remvD, .remlQ, .remlH, .remlS, .remlvQ, .remlvH, .remlvS, .modQ, .modH, .modS, .modD, .modvQ, .modvH, .modvS]

/-- TOP numbers 80 to 119. -/
noncomputable def topTable2 : List (TMode → OD → OD → Instr) := [
  .modvD, .modlQ, .modlH, .modlS, .modlvQ, .modlvH, .modlvS, .divQ, .divH, .divS, .divD, .divvQ, .divvH, .divvS,
  .divvD, .divlQ, .divlH, .divlS, .divlvQ, .divlvH, .divlvS, .minQ, .minH, .minS, .minD, .maxQ, .maxH, .maxS, .maxD,
  .umultQ, .umultH, .umultS, .umultD, .umultlQ, .umultlH, .umultlS, .udivQ, .udivH, .udivS, .udivD]

/-- TOP numbers 120 to 159. -/
noncomputable def topTable3 : List (TMode → OD → OD → Instr) := [
  .udivlQ, .udivlH, .udivlS, .faddH, .faddS, .faddD, .fsubH, .fsubS, .fsubD, .fsubvH, .fsubvS, .fsubvD, .fmultH,
  .fmultS, .fmultD, .fmultlH, .fmultlS, .fdivH, .fdivS, .fdivD, .fdivvH, .fdivvS, .fdivvD, .fdivlH, .fdivlS,
  .fdivlvH, .fdivlvS, .fscH, .fscS, .fscD, .fscvH, .fscvS, .fscvD, .fminH, .fminS, .fminD, .fmaxH, .fmaxS, .fmaxD,
  .cmpsfGtrQ]

/-- TOP numbers 160 to 199. -/
noncomputable def topTable4 : List (TMode → OD → OD → Instr) := [
  .cmpsfGtrH, .cmpsfGtrS, .cmpsfGtrD, .cmpsfEqlQ, .cmpsfEqlH, .cmpsfEqlS, .cmpsfEqlD, .cmpsfGeqQ, .cmpsfGeqH,
  .cmpsfGeqS, .cmpsfGeqD, .cmpsfLssQ, .cmpsfLssH, .cmpsfLssS, .cmpsfLssD, .cmpsfNeqQ, .cmpsfNeqH, .cmpsfNeqS,
  .cmpsfNeqD, .cmpsfLeqQ, .cmpsfLeqH, .cmpsfLeqS, .cmpsfLeqD, .bndsfBQ, .bndsfBH, .bndsfBS, .bndsfBD, .bndsfMinQ,
  .bndsfMinH, .bndsfMinS, .bndsfMinD, .bndsfM1Q, .bndsfM1H, .bndsfM1S, .bndsfM1D, .bndsf0Q, .bndsf0H, .bndsf0S,
  .bndsf0D, .bndsf1Q]

/-- TOP numbers 200 to 239. -/
noncomputable def topTable5 : List (TMode → OD → OD → Instr) := [
  .bndsf1H, .bndsf1S, .bndsf1D, .andQ, .andH, .andS, .andD, .andtcQ, .andtcH, .andtcS, .andtcD, .andctQ, .andctH,
  .andctS, .andctD, .orQ, .orH, .orS, .orD, .ortcQ, .ortcH, .ortcS, .ortcD, .orctQ, .orctH, .orctS, .orctD, .nandQ,
  .nandH, .nandS, .nandD, .norQ, .norH, .norS, .norD, .xorQ, .xorH, .xorS, .xorD, .eqvQ]

/-- TOP numbers 240 to 279. -/
noncomputable def topTable6 : List (TMode → OD → OD → Instr) := [
  .eqvH, .eqvS, .eqvD, .shfLfQ, .shfLfH, .shfLfS, .shfLfD, .shfRtQ, .shfRtH, .shfRtS, .shfRtD, .shfvLfQ, .shfvLfH,
  .shfvLfS, .shfvLfD, .shfvRtQ, .shfvRtH, .shfvRtS, .shfvRtD, .dshfLfQ, .dshfLfH, .dshfLfS, .dshfRtQ, .dshfRtH,
  .dshfRtS, .dshfvLfQ, .dshfvLfH, .dshfvLfS, .dshfvRtQ, .dshfvRtH, .dshfvRtS, .shfaLfQ, .shfaLfH, .shfaLfS,
  .shfaLfD, .shfaRtQ, .shfaRtH, .shfaRtS, .shfaRtD, .shfavLfQ]

/-- TOP numbers 280 to 319. -/
noncomputable def topTable7 : List (TMode → OD → OD → Instr) := [
  .shfavLfH, .shfavLfS, .shfavLfD, .shfavRtQ, .shfavRtH, .shfavRtS, .shfavRtD, .rotLfQ, .rotLfH, .rotLfS, .rotLfD,
  .rotRtQ, .rotRtH, .rotRtS, .rotRtD, .rotvLfQ, .rotvLfH, .rotvLfS, .rotvLfD, .rotvRtQ, .rotvRtH, .rotvRtS,
  .rotvRtD, .libytS, .libytD, .lisbytS, .lisbytD, .dibytS, .dibytD, .adjbpS, .adjbpD, .bitrvQ, .bitrvH, .bitrvS,
  .bitrvD, .bitrvvQ, .bitrvvH, .bitrvvS, .bitrvvD, .bitexQ]

/-- TOP numbers 320 to 327. -/
noncomputable def topTable8 : List (TMode → OD → OD → Instr) := [
  .bitexH, .bitexS, .bitexD, .bitexvQ, .bitexvH, .bitexvS, .bitexvD, .rmw]

/-- The TOP instructions in the order of the opcode map, in blocks of 40. -/
noncomputable def topTables : List (List (TMode → OD → OD → Instr)) := [
  topTable0, topTable1, topTable2, topTable3, topTable4, topTable5, topTable6, topTable7, topTable8]

/-- Entry `k` of a table cut into blocks of 40. -/
def tableGet {α : Type} (t : List (List α)) (k : Nat) : Option α :=
  match t[k / 40]? with
  | some b => b[k % 40]?
  | none => none

/-! ### Words and bytes -/

/-- The number of instructions in the classes XOP, JOP, SOP and TOP (R264). -/
def classCount : Form → Nat
  | .hop _ _ => 1
  | .xop _ _ _ => 569
  | .jop _ _ _ => 71
  | .sop _ _ _ _ => 52
  | .top _ _ _ _ => 328

/-- The number of an instruction within its class. -/
def Form.number : Form → Nat
  | .hop k _ | .xop k _ _ | .jop k _ _ | .sop k _ _ _ | .top k _ _ _ => k

/-- The class, the number within the class and the fields of the three single-words of a fetch, before the opcode map is
asked whether the number names an instruction (R202, R205, R264). -/
def splitWords (w0 w1 w2 : SW) : Form :=
  let c := (field w0 0 12).toNat
  let d1 := field w0 12 12
  let d2 := field w0 24 12
  let p := decodePair d1 d2 w1 w2
  if c < 0o100 then .hop (c - 1) (field w0 12 24)
  else if c < 0o1400 then .xop (c - 0o100) p.1 p.2
  else if c < 0o2000 then
    if bitAt w0 11 then .jop ((c - 0o1400) / 2) (decodeOD d1 w1) (.rel d2)
    else .jop ((c - 0o1400) / 2) p.1 (.gen p.2)
  else if c < 0o4000 then .sop ((c - 0o2000) / 16) (field w0 8 4) p.1 p.2
  else .top ((c - 0o4000) / 4) (decodeT (field w0 10 2)) p.1 p.2

/-- Decode the first word and the two that follow it (R270); an opcode that holds no instruction is rejected (R272), the
all-zero opcode among them. -/
def decodeForm (w0 w1 w2 : SW) : Except DecodeError Form :=
  let f := splitWords w0 w1 w2
  if field w0 0 12 = 0 ∨ classCount f ≤ f.number then .error (.illegalOpcode (field w0 0 12)) else .ok f

/-- The instruction of a class, number and fields: the opcode map. -/
noncomputable def Form.instr : Form → Option Instr
  | .hop _ d => some (.jpatch d)
  | .xop k o1 o2 => (tableGet xopTables k).map fun f => f o1 o2
  | .jop k o1 j => (tableGet jopTables k).map fun f => f o1 j
  | .sop k skp o1 o2 => (tableGet sopTables k).map fun f => f skp o1 o2
  | .top k t o1 o2 => (tableGet topTables k).map fun f => f t o1 o2

/-- The instruction of three single-words (R270). -/
noncomputable def decodeWords (w0 w1 w2 : SW) : Except DecodeError Instr :=
  match decodeForm w0 w1 w2 with
  | .error e => .error e
  | .ok f =>
    match f.instr with
    | some i => .ok i
    | none => .error (.illegalOpcode (field w0 0 12))

/-- The single-word of the first four quarter-words of a list, most significant first (R125), and the rest. -/
def takeWord : List QW → Option (SW × List QW)
  | a :: b :: c :: d :: rest => some (a ++ b ++ c ++ d, rest)
  | _ => none

/-- The bits of the first word that belong to the opcode field. -/
def Form.opcode : Form → Nat
  | .hop _ _ => 0o1
  | .xop k _ _ => 0o100 + k
  | .jop k _ (.rel _) => 0o1400 + 2 * k + 1
  | .jop k _ (.gen _) => 0o1400 + 2 * k
  | .sop k skp _ _ => 0o2000 + 16 * k + skp.toNat
  | .top k t _ _ => 0o4000 + 4 * k + (encodeT t).toNat

/-- Bits 12 to 35 of the first word (R205). -/
def Form.fields : Form → BitVec 24
  | .hop _ disp => disp
  | .xop _ o1 o2 => (encodeOD o1).1 ++ (encodeOD o2).1
  | .jop _ o1 (.rel j) => (encodeOD o1).1 ++ j
  | .jop _ o1 (.gen od) => (encodeOD o1).1 ++ (encodeOD od).1
  | .sop _ _ o1 o2 => (encodeOD o1).1 ++ (encodeOD o2).1
  | .top _ _ o1 o2 => (encodeOD o1).1 ++ (encodeOD o2).1

/-- The extended words in the order they follow the first word: OD2's, then OD1's (R203). -/
def Form.extWords : Form → List SW
  | .hop _ _ => []
  | .jop _ o1 (.rel _) => (encodeOD o1).2.toList
  | .jop _ o1 (.gen od) => (encodeOD od).2.toList ++ (encodeOD o1).2.toList
  | .xop _ o1 o2 | .sop _ _ o1 o2 | .top _ _ o1 o2 => (encodeOD o2).2.toList ++ (encodeOD o1).2.toList

/-- The first word of an instruction (R200). -/
def Instr.firstWord (i : Instr) : SW := BitVec.ofNat 12 i.form.opcode ++ i.form.fields

/-- The words of an instruction: the encoder. -/
def encode (i : Instr) : List SW := i.firstWord :: i.form.extWords

/-- The number of single-words an instruction occupies: 1, 2 or 3 (R204). -/
def Form.length : Form → Nat
  | .hop _ _ => 1
  | .jop _ o1 j => 1 + o1.extended.toNat + j.extended.toNat
  | .xop _ o1 o2 | .sop _ _ o1 o2 | .top _ _ o1 o2 => 1 + o1.extended.toNat + o2.extended.toNat

/-- The number of single-words of an instruction (R204). -/
def Instr.length (i : Instr) : Nat := i.form.length

/-- Decode the bytes (quarter-words) at an address: the instruction, and the bytes after it. -/
noncomputable def decode (bytes : List QW) : Except DecodeError (Instr × List QW) :=
  match takeWord bytes with
  | none => .error .tooShort
  | some (w0, r1) =>
    match takeWord r1 with
    | none => .error .tooShort
    | some (w1, r2) =>
      match takeWord r2 with
      | none => .error .tooShort
      | some (w2, _) =>
        match decodeWords w0 w1 w2 with
        | .error e => .error e
        | .ok i => .ok (i, bytes.drop (4 * i.length))

/-- A single-word as four quarter-words, the most significant first (R125). -/
def wordBytes (w : SW) : List QW := [field w 0 9, field w 9 9, field w 18 9, field w 27 9]

/-- The three single-words of an instruction whose bits are `w` with bit 0 the least significant bit of the first
word; every bit from `nbits` on is 0. -/
def tableWords (nbits w : Nat) : SW × SW × SW :=
  let v := w % 2 ^ nbits
  (BitVec.ofNat 36 v, BitVec.ofNat 36 (v / 2 ^ 36), BitVec.ofNat 36 (v / 2 ^ 72))

/-- The instruction the decoder reads from the bits `w` of an opcode-table row, laid out as the machine stores
them. -/
noncomputable def decodeTableWord (nbits w : Nat) : Option Instr :=
  let t := tableWords nbits w
  match decode (wordBytes t.1 ++ wordBytes t.2.1 ++ wordBytes t.2.2) with
  | .ok (i, _) => some i
  | .error _ => none

end Sys2Proof
end

