-- ==== Sys2Proof/Config.lean ====
section
/-! DEFINITION. The parameters of the model (93_implementation_defined.md section 3), each at the default the spec
gives it, and the free values: constants without a body, so that nothing can be proved of what they are. -/

namespace Sys2Proof.Config

/-- `N_IOBUF`, the number of I/O buffers (R830). -/
def nIobuf : Nat := 8
/-- `IOBUF_SIZE`, the number of words of an I/O buffer (R830). -/
def iobufSize : Nat := 2048
/-- `N_CTR`, the number of performance counters (R81, D10). -/
def nCtr : Nat := 1
/-- `RESET_PC` (R95, R960). -/
def resetPc : VAddr := 0o26000
/-- `PROC_ID` (R83), the default of D11. -/
def procId : SW := 0
/-- `XCT_DEPTH_MAX`, the number of links of an `XCT` chain (R863). -/
def xctDepthMax : Nat := 8
/-- `E_OTHER`, the error number of a hard trap that Table 6-2 does not list (R937). -/
def eOther : Nat := 6

/-- `TRPSLF_STRIDE` (R885). -/
def trpslfStride : Nat := 8
/-- `SFTERR_STRIDE` (R886). -/
def sfterrStride : Nat := 12
/-- `TRPEXE_STRIDE` (R887). -/
def trpexeStride : Nat := 16
/-- `HRDERR_STRIDE` (R888). -/
def hrderrStride : Nat := 12
/-- `INTUPT_STRIDE` (R889). -/
def intuptStride : Nat := 12

/-- The physical single-word addresses that hold memory after reset, as (first, count) pairs: `PHYS_MEM` (R120, D12).
DESIGN CHOICE (log 4): all of the physical address space. -/
def resetPhysMem : List (Nat × Nat) := [(0, 2 ^ 32)]

/-- `UNDEFINED(w)` (R28): the `k`-th free value drawn by a run, `w` bits wide. It has no body: nothing constrains it
(log 1). -/
opaque freeValue (w : Nat) (k : Nat) : BitVec w

/-- How far counter 0, the real-time cycle counter, advances before its `k`-th read, less one: a free value (R81,
R850; log 9). -/
opaque cycleAdvance (k : Nat) : Nat

end Sys2Proof.Config
end

