-- ==== Sys2Proof/Machine/State.lean ====
section
/-! DEFINITION. The state of one S-1 processor (R40): plain data, one field for each piece of state the spec names.
The reasons for which a step can stop. The state after reset (R95, R960). -/

namespace Sys2Proof.Machine

/-- One quarter-word of memory at a physical address. The smallest unit this machine addresses is 9 bits wide. -/
abbrev Cell := Nat × QW

/-- Physical memory (R120): the quarter-words that are not zero, addresses strictly rising. An address that is not
listed reads as zero (`Memory.unlisted`, log 3). -/
abbrev Memory := List Cell

/-- The I/O buffers (R91): the words that are not zero, by `IOBUF_SIZE * buffer + word`, strictly rising. -/
abbrev IoBuffers := List (Nat × SW)

/-- The run state `RUN` (R93). -/
inductive RunState where
  | running | waiting | halted
  deriving DecidableEq, Repr

/-- The state of one processor. -/
structure State where
  /-- `register_file[0:511]`: register `n` of file `f` is element `32*f + n` (R41) -/
  rf : Vector SW 512
  /-- `PC` (R47) -/
  pc : VAddr
  /-- `PROC_STATUS` (R52) -/
  ps : SW
  /-- `USER_STATUS` (R62) -/
  us : SW
  /-- `EXEC_STP` (R74) -/
  execStp : PAddr
  /-- `EXEC_STL` (R74) -/
  execStl : PAddr
  /-- `USER_STP` (R74) -/
  userStp : PAddr
  /-- `USER_STL` (R74) -/
  userStl : PAddr
  /-- `INTUPT_PEND[0..7]` (R76) -/
  intPend : Vector SW 8
  /-- `INTUPT_ENB[0..7]` (R77) -/
  intEnb : Vector SW 8
  /-- `INTUPT_PARM[0..255]` (R79) -/
  intParm : Vector SW 256
  /-- `CTR[0..N_CTR-1]` (R81) -/
  ctr : Vector DW Config.nCtr
  /-- `CTR_ENB[0..N_CTR-1]` (R82) -/
  ctrEnb : Vector DW Config.nCtr
  /-- `PROC_ID` (R83): no instruction writes it -/
  procId : SW
  /-- `INSTRUCTION_STATE` (R85, R86): always zero, every instruction being one indivisible step -/
  instructionState : SW
  /-- `TRACE_ENB_OLD` (R87): written at stage 4 of every instruction -/
  traceEnbOld : Bool
  /-- `RUN` (R93) -/
  run : RunState
  /-- `DOUBLE_FAULT` (R932) -/
  doubleFault : Bool
  /-- physical memory (R120) -/
  mem : Memory
  /-- `PHYS_MEM` (R120): the physical single-word addresses that hold memory, as (first, count) pairs -/
  physMem : List (Nat × Nat)
  /-- the I/O buffers (R91) -/
  iobuf : IoBuffers
  /-- the I/O processors interrupted by `INTIOP`, oldest first (R844): the processor's only output event -/
  iopOut : List (BitVec 9)
  /-- how many free values the run has drawn: the model's own field (log 1) -/
  freeCount : Nat
  deriving DecidableEq, Repr

/-- Why a step stops with a fault. -/
inductive Fault where
  /-- A reference to a physical address that no memory backs (R120, D12: the spec refuses such a run). Raised by every
  access to physical memory. Safe: the model stops where the spec says nothing of the hardware. -/
  | noPhysicalMemory (pa : PAddr)
  deriving DecidableEq, Repr

/-- Why a step is refused. -/
inductive Refusal where
  /-- The instruction has no meaning in this model. Raised by an arm of `exec`; safe. -/
  | notModelled (mnemonic : String)
  /-- `EMULATION` selects an instruction set that no source describes (R56, R273, D14). Raised by `step`; safe. -/
  | emulation
  /-- `USER_STATUS` holds an illegal value, which no instruction can load (R71, X9 and U10 of
  93_implementation_defined.md). Raised by `step`, and by an instruction that meets an undefined mode; safe. -/
  | illegalUserStatus
  deriving DecidableEq, Repr

/-- The machine right after `Reset` (R95, R960). Register files, `INTUPT_PARM`, counters, memory and I/O buffers,
which the spec leaves unspecified, hold zero: DESIGN CHOICE, unsafe (logs 2, 3). -/
def State.reset : State where
  rf := Vector.replicate 512 0
  pc := Config.resetPc
  ps := 0o042003000000
  us := 0o740053400000
  execStp := 0
  execStl := 0
  userStp := 0
  userStl := 0
  intPend := Vector.replicate 8 0
  intEnb := Vector.replicate 8 0
  intParm := Vector.replicate 256 0
  ctr := Vector.replicate Config.nCtr 0
  ctrEnb := Vector.replicate Config.nCtr 0
  procId := Config.procId
  instructionState := 0
  traceEnbOld := false
  run := .running
  doubleFault := false
  mem := []
  physMem := Config.resetPhysMem
  iobuf := []
  iopOut := []
  freeCount := 0

end Sys2Proof.Machine
end

