-- ==== Sys2Proof/Machine/Status.lean ====
section
/-! DEFINITION. The fields of the two status words (R52, R62), the legality of `USER_STATUS` (R71), partial load of
`PROC_STATUS` (R58), and the registers of the current and previous files (R41, R42). -/

namespace Sys2Proof.Machine

/-! ### `PROC_STATUS` (R52) -/

/-- `CRNT_FILE`. -/
def Ps.crntFile (w : SW) : FileNum := field w 0 4
/-- `PREV_FILE`. -/
def Ps.prevFile (w : SW) : FileNum := field w 4 4
/-- `USE_SHADOW_PREV`. -/
def Ps.useShadowPrev (w : SW) : Bool := bitAt w 8
/-- `PRIO`. -/
def Ps.prio (w : SW) : BitVec 3 := field w 9 3
/-- `EMULATION`. -/
def Ps.emulation (w : SW) : BitVec 2 := field w 12 2
/-- `TRACE_ENB`. -/
def Ps.traceEnb (w : SW) : Bool := bitAt w 14
/-- `TRACE_PEND`. -/
def Ps.tracePend (w : SW) : Bool := bitAt w 15
/-- `CRNT_MODE`: true in executive mode. -/
def Ps.crntMode (w : SW) : Bool := bitAt w 16
/-- `PREV_MODE`: true for the executive. -/
def Ps.prevMode (w : SW) : Bool := bitAt w 17
/-- The word with another `CRNT_FILE`. -/
def Ps.setCrntFile (w : SW) (f : FileNum) : SW := setField w 0 f
/-- The word with another `PREV_FILE`. -/
def Ps.setPrevFile (w : SW) (f : FileNum) : SW := setField w 4 f
/-- The word with another `TRACE_PEND`. -/
def Ps.setTracePend (w : SW) (b : Bool) : SW := setBit w 15 b

/-- Loading partial processor status (R58): `PREV_MODE` and `PREV_FILE` come from the old word's current fields, all
else from the new word. -/
def Ps.partialLoad (old new : SW) : SW :=
  setBit (setField new 4 (Ps.crntFile old)) 17 (Ps.crntMode old)

/-! ### `USER_STATUS` (R62) -/

/-- `SP_ID`. -/
def Us.spId (w : SW) : RegNum := field w 0 5
/-- `CARRY`. -/
def Us.carry (w : SW) : Bool := bitAt w 5
/-- `FLT_OVFL`. -/
def Us.fltOvfl (w : SW) : Bool := bitAt w 6
/-- `FLT_UNFL`. -/
def Us.fltUnfl (w : SW) : Bool := bitAt w 7
/-- `FLT_NAN`. -/
def Us.fltNan (w : SW) : Bool := bitAt w 8
/-- `INT_OVFL`. -/
def Us.intOvfl (w : SW) : Bool := bitAt w 9
/-- `INT_Z_DIV`. -/
def Us.intZDiv (w : SW) : Bool := bitAt w 10
/-- `FLT_OVFL_MODE` (R66). -/
def Us.fltOvflMode (w : SW) : BitVec 2 := field w 11 2
/-- `FLT_UNFL_MODE` (R67). -/
def Us.fltUnflMode (w : SW) : BitVec 2 := field w 13 2
/-- `FLT_NAN_MODE` (R68). -/
def Us.fltNanMode (w : SW) : BitVec 2 := field w 15 2
/-- `INT_OVFL_MODE` (R69): false when overflow traps. -/
def Us.intOvflMode (w : SW) : Bool := bitAt w 17
/-- `INT_Z_DIV_MODE` (R70): false when a zero-divide traps. -/
def Us.intZDivMode (w : SW) : Bool := bitAt w 18
/-- `RND_MODE` (R410). -/
def Us.rndMode (w : SW) : BitVec 5 := field w 19 5
/-- The word with another `CARRY`. -/
def Us.setCarry (w : SW) (b : Bool) : SW := setBit w 5 b
/-- The word with another `FLT_OVFL`. -/
def Us.setFltOvfl (w : SW) (b : Bool) : SW := setBit w 6 b
/-- The word with another `FLT_UNFL`. -/
def Us.setFltUnfl (w : SW) (b : Bool) : SW := setBit w 7 b
/-- The word with another `FLT_NAN`. -/
def Us.setFltNan (w : SW) (b : Bool) : SW := setBit w 8 b
/-- The word with another `INT_OVFL`. -/
def Us.setIntOvfl (w : SW) (b : Bool) : SW := setBit w 9 b
/-- The word with another `INT_Z_DIV`. -/
def Us.setIntZDiv (w : SW) (b : Bool) : SW := setBit w 10 b
/-- The word with another `SP_ID`. -/
def Us.setSpId (w : SW) (r : RegNum) : SW := setField w 0 r
/-- The word with another `RND_MODE`. -/
def Us.setRndMode (w : SW) (m : BitVec 5) : SW := setField w 19 m

/-- Is the word a legal `USER_STATUS` (R71)? -/
def Us.legal (w : SW) : Bool :=
  Us.spId w != 3 && Us.spId w != 31 && Us.fltOvflMode w != 3 && Us.fltUnflMode w != 3 &&
    Us.fltNanMode w != 2 && Us.fltNanMode w != 3

/-! ### Registers (R41, R42) -/

/-- The element of `register_file[0:511]` that is register `n` of file `f` (R41). -/
def regIndex (f : FileNum) (n : RegNum) : BitVec 9 := f ++ n

/-- `RF[f][n]`. -/
def State.getReg (s : State) (f : FileNum) (n : RegNum) : SW := s.rf[(regIndex f n).toNat]'(regIndex f n).isLt

/-- `RF[f][n] <- v`. -/
def State.setReg (s : State) (f : FileNum) (n : RegNum) (v : SW) : State :=
  { s with rf := s.rf.set (regIndex f n).toNat v (regIndex f n).isLt }

/-- The current register file. -/
def State.file (s : State) : FileNum := Ps.crntFile s.ps

/-- `R[n]`, a register of the current file (R42). -/
def State.reg (s : State) (n : RegNum) : SW := s.getReg s.file n

/-- `R[n] <- v`. -/
def State.putReg (s : State) (n : RegNum) (v : SW) : State := s.setReg s.file n v

/-- `SP`, the register `SP_ID` names (R64). -/
def State.sp (s : State) : SW := s.reg (Us.spId s.us)

/-- `SL`, the register after `SP` (R64). -/
def State.sl (s : State) : SW := s.reg (Us.spId s.us + 1)

/-! ### Free values (R28) -/

/-- `UNDEFINED(w)`: the next free value of the run (log 1). -/
def State.free (s : State) (w : Nat) : BitVec w := Config.freeValue w s.freeCount

/-- The state after a free value has been drawn. -/
def State.drawn (s : State) : State := { s with freeCount := s.freeCount + 1 }

end Sys2Proof.Machine
end

