-- ==== Sys2Proof/Machine/Trap.lean ====
section
/-! DEFINITION. The exceptions an instruction can raise: the recoverable and fatal hard traps of Tables 6-1 and 6-2
(R934, R936), the soft traps of Table 6-3 (R938) with what their save area holds (R906), and the ends of a step that
are no trap. -/

namespace Sys2Proof.Machine

/-- The recoverable hard traps (R934, Table 6-1). -/
inductive HardVec where
  | trace | stkOvfl | pgFault | addressMd | userP | execOnly
  deriving DecidableEq, Repr

/-- The index of the vector of a recoverable hard trap (R888, D6). -/
def HardVec.index : HardVec → Nat
  | .trace => 2
  | .stkOvfl => 3
  | .pgFault => 4
  | .addressMd => 5
  | .userP => 6
  | .execOnly => 7

/-- `NESTED_VEC` (R888). -/
def nestedVecIndex : Nat := 0
/-- `FATAL_VEC` (R888). -/
def fatalVecIndex : Nat := 1

/-- The fatal hard traps (R936, Table 6-2), and the one number for those the table does not list (R937). -/
inductive Fatal where
  | softTrapError | notAligned | registerBoundary | pBit | trapDescriptor | illegalInstruction | illegalF | unusedOd
  | registerNumber | mode2 | jumpToRegisters | immediate | bytePointer | blockAlignment | iobufRange | other
  deriving DecidableEq, Repr

/-- The error number in the save area (R936, R937). Number 5 is not raised for TMODE 7 of a trap descriptor: DESIGN CHOICE, log
29. -/
def Fatal.number : Fatal → Nat
  | .softTrapError => 1
  | .notAligned => 2
  | .registerBoundary => 3
  | .pBit => 4
  | .trapDescriptor => 5
  | .illegalInstruction => 6
  | .illegalF => 7
  | .unusedOd => 8
  | .registerNumber => 9
  | .mode2 => 10
  | .jumpToRegisters => 12
  | .immediate => 13
  | .bytePointer => 14
  | .blockAlignment => 15
  | .iobufRange => 16
  | .other => Config.eOther

/-- The soft traps (R938, Table 6-3). -/
inductive SoftVec where
  | fltOvfl | fltUnfl | fltNan | intOvfl | intZDiv | bndChk
  deriving DecidableEq, Repr

/-- The index of a soft-trap vector (R938). -/
def SoftVec.index : SoftVec → Nat
  | .fltOvfl => 0
  | .fltUnfl => 1
  | .fltNan => 2
  | .intOvfl => 3
  | .intZDiv => 4
  | .bndChk => 5

/-- The saved `USER_STATUS` of a soft trap: the error bit of the trap is reset (R900, R938). -/
def SoftVec.resetBit (k : SoftVec) (us : SW) : SW :=
  match k with
  | .fltOvfl => Us.setFltOvfl us false
  | .fltUnfl => Us.setFltUnfl us false
  | .fltNan => Us.setFltNan us false
  | .intOvfl => Us.setIntOvfl us false
  | .intZDiv => Us.setIntZDiv us false
  | .bndChk => us

/-- The two words a source operand has in the soft-trap save area (R907); `none` is `UNDEFINED(36)`. -/
abbrev SoftWords := Option SW × Option SW

/-- The two words of an absent operand (R907). -/
def SoftWords.absent : SoftWords := (none, none)

/-- The two words of a source value of precision `p` (R907): a quarter-word or half-word left-justified. -/
def SoftWords.ofValue : (p : Prec) → BitVec p.bits → SoftWords
  | .q, v => (some (v ++ 0#27), none)
  | .h, v => (some (v ++ 0#18), none)
  | .s, v => (some v, none)
  | .d, v => (some (field v 0 36), some (field v 36 36))

/-- What the soft-trap save area says of the instruction (R906): the address word of DEST, the words of S1 and S2, the
first word of the instruction, and `PC_NEXT_INSTR`. -/
structure SoftInfo where
  dest : Option SW
  s1 : SoftWords
  s2 : SoftWords
  w0 : SW
  next : VAddr
  deriving DecidableEq, Repr

/-- How an instruction can end otherwise than by completing. -/
inductive Exc where
  /-- a recoverable hard trap with its parameter (R934) -/
  | hard (v : HardVec) (parm : SW)
  /-- a fatal hard trap (R936) -/
  | fatal (n : Fatal)
  /-- a fatal hard trap that depends on a free value, whose draw therefore counts (R763) -/
  | drawnFatal (n : Fatal)
  /-- a soft trap (R944) -/
  | soft (k : SoftVec) (info : SoftInfo)
  /-- the initiation of the trap whose vector lies at `va` failed (R930) -/
  | nested (va : VAddr)
  /-- an `XCT` chain that reached `XCT_DEPTH_MAX`: the step changes nothing (R863) -/
  | stuck
  /-- the machine stops with a fault -/
  | fault (f : Fault)
  /-- the step is refused -/
  | refuse (r : Refusal)
  deriving DecidableEq, Repr

/-- A computation of an instruction: a value, or the exception it raises. -/
abbrev M := Except Exc

/-- What the rules of an instruction may use beside the state: its first word, and `PC_NEXT_INSTR` (R49). -/
structure Env where
  w0 : SW
  next : VAddr
  deriving DecidableEq, Repr

/-- The body of an instruction: the state it leaves, its PC included, or the exception it raises with nothing stored. -/
abbrev Body := Env → State → M State

/-- Raise the fatal hard trap `n` when the condition holds. -/
def fatalIf (c : Bool) (n : Fatal) : M Unit := if c then .error (.fatal n) else .ok ()

end Sys2Proof.Machine
end

