-- ==== Sys2Proof/Machine/Memory.lean ====
section
/-! DEFINITION. Sparse storage in one canonical form, physical memory (R120, R125, R153), address translation and the
access checks (R140 to R148), and the resolution of a virtual reference to the storage it names (R128 to R131, R150).
-/

namespace Sys2Proof.Machine

/-! ### Sparse storage -/

/-- The value at key `a` of a list of cells whose keys rise; a key that is not listed reads as zero. -/
def Cells.get {w : Nat} (a : Nat) : List (Nat × BitVec w) → BitVec w
  | [] => 0
  | (k, v) :: t => if k < a then Cells.get a t else if k = a then v else 0

/-- Store `v` at key `a`: keys go on rising, and a zero is not listed. -/
def Cells.set {w : Nat} (a : Nat) (v : BitVec w) : List (Nat × BitVec w) → List (Nat × BitVec w)
  | [] => if v = 0 then [] else [(a, v)]
  | (k, x) :: t =>
    if k < a then (k, x) :: Cells.set a v t
    else if k = a then (if v = 0 then t else (a, v) :: t)
    else if v = 0 then (k, x) :: t else (a, v) :: (k, x) :: t

/-- The canonical form above a lower bound: keys strictly rising, no value zero. -/
def Cells.wfFrom {w : Nat} (lo : Nat) : List (Nat × BitVec w) → Bool
  | [] => true
  | (k, v) :: t => decide (lo ≤ k) && v != 0 && Cells.wfFrom (k + 1) t

/-- What a quarter-word of memory that nothing has written reads as (log 3). -/
def Memory.unlisted : QW := 0

/-- The quarter-word at a physical address. -/
def Memory.read (m : Memory) (a : Nat) : QW := Cells.get a m

/-- Store a quarter-word at a physical address. -/
def Memory.write (m : Memory) (a : Nat) (v : QW) : Memory := Cells.set a v m

/-- The canonical form of memory: addresses strictly rising, no entry equal to `Memory.unlisted`. -/
def Memory.wf (m : Memory) : Bool := Cells.wfFrom 0 m

/-- The canonical form of the I/O buffers. -/
def IoBuffers.wf (b : IoBuffers) : Bool := Cells.wfFrom 0 b

/-! ### Physical memory (R153) -/

/-- Is the single-word that holds `pa` backed by memory (R120)? -/
def State.backed (s : State) (pa : PAddr) : Bool :=
  s.physMem.any fun r => decide (r.1 ≤ pa.toNat / 4) && decide (pa.toNat / 4 < r.1 + r.2)

/-- `pa + k` on physical addresses. -/
def paAdd (pa : PAddr) (k : Nat) : PAddr := pa + BitVec.ofNat 34 k

/-- `PhysRead(pa, 1)`. -/
def State.physQ (s : State) (pa : PAddr) : QW := Memory.read s.mem pa.toNat

/-- `PhysRead(pa, 2)`. -/
def State.physH (s : State) (pa : PAddr) : HW := s.physQ pa ++ s.physQ (paAdd pa 1)

/-- `PhysRead(pa, 4)`. -/
def State.physS (s : State) (pa : PAddr) : SW := s.physH pa ++ s.physH (paAdd pa 2)

/-- `PhysWrite(pa, 1, v)`. -/
def State.putQ (s : State) (pa : PAddr) (v : QW) : State := { s with mem := Memory.write s.mem pa.toNat v }

/-- `PhysWrite(pa, 2, v)`. -/
def State.putH (s : State) (pa : PAddr) (v : HW) : State :=
  (s.putQ pa (field v 0 9)).putQ (paAdd pa 1) (field v 9 9)

/-- `PhysWrite(pa, 4, v)`. -/
def State.putS (s : State) (pa : PAddr) (v : SW) : State :=
  (s.putH pa (field v 0 18)).putH (paAdd pa 2) (field v 18 18)

/-! ### Translation (R140 to R148) -/

/-- The context of a reference (R134). -/
inductive Ctx where
  | cur | prev
  deriving DecidableEq, Repr

/-- The kinds of reference the access check distinguishes (R147): instruction fetch, operand read and write, the
source block of `BLKID`, the destination block of `BLKDI`, the I/O-buffer operand of an I/O instruction. -/
inductive Access where
  | fetch | read | write | codeRead | codeWrite | io
  deriving DecidableEq, Repr

/-- Does a page with these ACCESS bits (R146) permit the reference (R147)? -/
def Access.permits (a : BitVec 6) : Access → Bool
  | .fetch => bitAt a 0
  | .read => bitAt a 1 && !bitAt a 4
  | .write => bitAt a 1 && (bitAt a 3 || bitAt a 5)
  | .codeRead => bitAt a 0
  | .codeWrite => bitAt a 0 && (bitAt a 3 || bitAt a 5)
  | .io => !bitAt a 0 && !bitAt a 1

/-- The address space of a context: true for the executive's (R53, R134). -/
def State.space (s : State) : Ctx → Bool
  | .cur => Ps.crntMode s.ps
  | .prev => Ps.prevMode s.ps

/-- The recovery parameter of a translation or access fault: `m || 5*0 || va` (R934). -/
def faultParm (space : Bool) (va : VAddr) : SW := BitVec.ofBool space ++ 0#5 ++ va

/-- A physical single-word of a segment or page table (R143); a fault where no memory backs it. -/
def State.tableWord (s : State) (pa : PAddr) : M SW :=
  if s.backed pa && s.backed (paAdd pa 3) then .ok (s.physS pa) else .error (.fault (.noPhysicalMemory pa))

/-- `Translate(space, VA)` (R143): the physical address and the ACCESS bits, `none` under absolute addressing, where
nothing is checked (R141). Every failure is `PG_FAULT_VEC` (R144). -/
def State.translate (s : State) (space : Bool) (va : VAddr) : M (PAddr × Option (BitVec 6)) :=
  let stp := if space then s.execStp else s.userStp
  let stl := if space then s.execStl else s.userStl
  if stp.toNat < 128 then .ok (va.setWidth 34, none)
  else
    let steAddr := stp + (field va 0 10 ++ 0#2).setWidth 34
    if stl.toNat ≤ steAddr.toNat then .error (.hard .pgFault (faultParm space va))
    else do
      let ste ← s.tableWord steAddr
      if !bitAt ste 0 then .error (.hard .pgFault (faultParm space va))
      else do
        let pte ← s.tableWord (field ste 13 23 ++ field va 10 9 ++ 0#2)
        if !bitAt pte 0 then .error (.hard .pgFault (faultParm space va))
        else .ok (field pte 13 23 ++ field va 19 11, some (field pte 7 6))

/-- The access check (R147, R148), which absolute addressing never fails (R141). -/
def checkAccess (acc : Access) (space : Bool) (va : VAddr) : Option (BitVec 6) → M Unit
  | none => .ok ()
  | some a => if acc.permits a then .ok () else .error (.hard .addressMd (faultParm space va))

/-- Translate, check the access, and require memory behind the address. -/
def State.physAddr (s : State) (acc : Access) (space : Bool) (va : VAddr) : M PAddr := do
  let (pa, a) ← s.translate space va
  checkAccess acc space va a
  if s.backed pa then .ok pa else .error (.fault (.noPhysicalMemory pa))

/-! ### Places: what a virtual reference names (R150) -/

/-- The storage behind one piece of a reference: a quarter-word address 0..127 of a register file, or a physical
address. -/
inductive Place where
  | reg (f : FileNum) (a : BitVec 7)
  | phys (pa : PAddr)
  deriving DecidableEq, Repr

/-- Does the address name a register in this context (R128, R131)? -/
def State.isRegAddr (s : State) (ctx : Ctx) (va : VAddr) : Bool :=
  decide (va.toNat < 128) && (ctx == .cur || !Ps.useShadowPrev s.ps)

/-- The register file of a context. -/
def State.ctxFile (s : State) : Ctx → FileNum
  | .cur => Ps.crntFile s.ps
  | .prev => Ps.prevFile s.ps

/-- The place of one piece of a reference: a register, or the translated and checked address (R150). -/
def State.resolve (s : State) (acc : Access) (ctx : Ctx) (va : VAddr) : M Place :=
  if s.isRegAddr ctx va then .ok (.reg (s.ctxFile ctx) (va.setWidth 7))
  else do
    let pa ← s.physAddr acc (s.space ctx) va
    .ok (.phys pa)

/-- The quarter-word of a place. -/
def State.readQ (s : State) : Place → QW
  | .reg f a => field (s.getReg f (field a 0 5)) (9 * (field a 5 2).toNat) 9
  | .phys pa => s.physQ pa

/-- The half-word of a place. -/
def State.readH (s : State) : Place → HW
  | .reg f a => field (s.getReg f (field a 0 5)) (9 * (field a 5 2).toNat) 18
  | .phys pa => s.physH pa

/-- The single-word of a place. -/
def State.readS (s : State) : Place → SW
  | .reg f a => s.getReg f (field a 0 5)
  | .phys pa => s.physS pa

/-- Store a quarter-word: the other bits of a register are unchanged (R45, R243). -/
def State.writeQ (s : State) (v : QW) : Place → State
  | .reg f a => s.setReg f (field a 0 5) (setField (s.getReg f (field a 0 5)) (9 * (field a 5 2).toNat) v)
  | .phys pa => s.putQ pa v

/-- Store a half-word: the other bits of a register are unchanged (R45, R243). -/
def State.writeH (s : State) (v : HW) : Place → State
  | .reg f a => s.setReg f (field a 0 5) (setField (s.getReg f (field a 0 5)) (9 * (field a 5 2).toNat) v)
  | .phys pa => s.putH pa v

/-- Store a single-word. -/
def State.writeS (s : State) (v : SW) : Place → State
  | .reg f a => s.setReg f (field a 0 5) v
  | .phys pa => s.putS pa v

/-- The storage of an operand: one place, and for a double-word the place of its second single-word, resolved on its
own (R129, R150). -/
structure Span where
  fst : Place
  snd : Place
  deriving DecidableEq, Repr

/-- The word of precision `p` in a span. -/
def State.readSpan (s : State) (p : Prec) (sp : Span) : BitVec p.bits :=
  match p with
  | .q => s.readQ sp.fst
  | .h => s.readH sp.fst
  | .s => s.readS sp.fst
  | .d => s.readS sp.fst ++ s.readS sp.snd

/-- Store a word of precision `p` in a span. -/
def State.writeSpan (s : State) (p : Prec) (sp : Span) (v : BitVec p.bits) : State :=
  match p, v with
  | .q, v => s.writeQ v sp.fst
  | .h, v => s.writeH v sp.fst
  | .s, v => s.writeS v sp.fst
  | .d, v => (s.writeS (field v 0 36) sp.fst).writeS (field v 36 36) sp.snd

/-- Is the address aligned for precision `p` (R123)? -/
def aligned (p : Prec) (va : VAddr) : Bool :=
  match p with
  | .q => true
  | .h => field va 29 1 == 0
  | .s | .d => field va 28 2 == 0

/-- The storage of a reference of precision `p`, with its checks in the order of R154: alignment, use of the previous
context by a user, translation, access mode. -/
def State.locate (s : State) (acc : Access) (ctx : Ctx) (va : VAddr) (p : Prec) : M Span :=
  if !aligned p va then .error (.fatal .notAligned)
  else if ctx == .prev && !Ps.crntMode s.ps then .error (.hard .userP (pcWord va))
  else do
    let a ← s.resolve acc ctx va
    match p with
    | .d => do
      let b ← s.resolve acc ctx (vaAdd va 4)
      .ok ⟨a, b⟩
    | _ => .ok ⟨a, a⟩

/-- `MemRead(ctx, va, qws(p))` (R150). -/
def State.memRead (s : State) (ctx : Ctx) (va : VAddr) (p : Prec) : M (BitVec p.bits) := do
  let sp ← s.locate .read ctx va p
  .ok (s.readSpan p sp)

/-- The storage of `n` words of precision `p` from `va` on, each resolved on its own. -/
def State.locateRun (s : State) (acc : Access) (ctx : Ctx) (p : Prec) : Nat → VAddr → M (List Span)
  | 0, _ => .ok []
  | n + 1, va => do
    let a ← s.locate acc ctx va p
    let rest ← s.locateRun acc ctx p n (vaAdd va p.qws)
    .ok (a :: rest)

/-- The words of a run of spans. -/
def State.readRun (s : State) (p : Prec) (sps : List Span) : List (BitVec p.bits) := sps.map (s.readSpan p)

/-- Store words in a run of spans, the first span first. -/
def State.writeRun (s : State) (p : Prec) : List Span → List (BitVec p.bits) → State
  | sp :: sps, v :: vs => (s.writeSpan p sp v).writeRun p sps vs
  | _, _ => s

/-- `InstrFetch(va)` (R152): never from the registers (R133). -/
def State.instrFetch (s : State) (va : VAddr) : M SW :=
  if va.toNat < 128 then .error (.fatal .jumpToRegisters)
  else do
    let pa ← s.physAddr .fetch (Ps.crntMode s.ps) va
    .ok (s.physS pa)

/-- `VecRead(va)` (R892): a word of a vector in the executive address space, never a register. -/
def State.vecRead (s : State) (va : VAddr) : M SW := do
  let pa ← s.physAddr .read true va
  .ok (s.physS pa)

end Sys2Proof.Machine
end

