-- ==== Sys2Proof/Machine/Operands.lean ====
section
/-! DEFINITION. Operand evaluation (30_encoding.md sections 4 to 6): short, long-constant, based and indirect operands,
the operand access functions, the arguments of each class, and jump and skip destinations. -/

namespace Sys2Proof.Machine

/-- A location operand (R219): the context, the virtual address, and whether it is register-direct. -/
structure Loc where
  ctx : Ctx
  va : VAddr
  rd : Bool
  deriving DecidableEq, Repr

/-- The result of evaluating a descriptor (R219). -/
inductive Operand where
  | imm (k : ConstKind) (w : SW)
  | loc (l : Loc)
  deriving DecidableEq, Repr

/-- The location of register `n` as a register-direct operand (R221). -/
def regLoc (n : RegNum) : Loc := ⟨.cur, n.setWidth 30 <<< 2, true⟩

/-- The value of a register used as an index or base: register 3 is the PC (R231). -/
def State.indexReg (s : State) (n : RegNum) : SW := if n = 3 then pcWord s.pc else s.reg n

/-- `ShortOperand` (R221). -/
def State.shortOperand (s : State) : Short → M Operand
  | .reg r => .ok (.loc (regLoc r))
  | .regOut _ => .error (.fatal .registerNumber)
  | .const f => .ok (.imm .sx (f.signExtend 36))
  | .mode2 _ => .error (.fatal .mode2)
  | .indexed b d => .ok (.loc ⟨.cur, addrOfWord (s.indexReg b) + (d.signExtend 30 <<< 2), false⟩)

/-- The value of a short operand used as an index: a register, or a single-word of memory (R230). -/
def State.indexValue (s : State) (so : Short) : M SW :=
  match so with
  | .reg r => .ok (s.indexReg r)
  | _ => do
    match ← s.shortOperand so with
    | .imm _ w => .ok w
    | .loc l => s.memRead l.ctx l.va .s

/-- `UsePrev` (R238): a reference to the previous context is for the executive only (R135); `va` is the address
computed so far. -/
def State.usePrev (s : State) (va : VAddr) : M Ctx :=
  if Ps.crntMode s.ps then .ok .prev else .error (.hard .userP (pcWord va))

/-- The index register of an indirect address pointer that lies in context `ctx` (R236): register 3 is the PC. -/
def State.iapIndex (s : State) (ctx : Ctx) (r : RegNum) : M VAddr :=
  if r = 0 then .ok 0
  else if r = 3 then .ok s.pc
  else do
    let w ← s.memRead ctx (r.setWidth 30 <<< 2) .s
    .ok (addrOfWord w)

/-- The location an indirect address pointer that lies in context `ctx` names (R236); a second P-bit is fatal 4
(R239). -/
def State.iapLoc (s : State) (ctx : Ctx) (iap : SW) : M Loc := do
  let base ← s.iapIndex ctx (field iap 1 5)
  let ia := base + field iap 6 30
  if bitAt iap 0 then
    if ctx = .prev then .error (.fatal .pBit)
    else do
      let c ← s.usePrev ia
      .ok ⟨c, ia, false⟩
  else .ok ⟨ctx, ia, false⟩

/-- `Indirect(ctx, addr)` (R236): the operand an indirect address pointer in memory names. -/
def State.indirect (s : State) (ctx : Ctx) (addr : VAddr) : M Operand := do
  let iap ← s.memRead ctx addr .s
  let l ← s.iapLoc ctx iap
  .ok (.loc l)

/-- The base address of an extended word (R230). -/
def State.ewBase (s : State) : ExtWord → VAddr
  | .fixedBased _ _ _ _ addr => addr
  | .variableBased _ _ _ _ reg disp => addrOfWord (s.indexReg reg) + disp.signExtend 30

/-- The P-bit of an extended word. -/
def ewP : ExtWord → Bool
  | .fixedBased p _ _ _ _ | .variableBased p _ _ _ _ _ => p

/-- The I-bit of an extended word. -/
def ewI : ExtWord → Bool
  | .fixedBased _ i _ _ _ | .variableBased _ i _ _ _ _ => i

/-- The scale S of an extended word (R232). -/
def ewS : ExtWord → BitVec 2
  | .fixedBased _ _ s _ _ | .variableBased _ _ s _ _ _ => s

/-- `BasedOperand` once the index `so` is known (R230): `base + so * 2^S` modulo 2^30, then the P-bit, then
indirection. -/
def State.basedOperand (s : State) (so : SW) (ew : ExtWord) : M Operand := do
  let addr := s.ewBase ew + (addrOfWord so <<< (ewS ew).toNat)
  let ctx ← if ewP ew then s.usePrev addr else .ok .cur
  if ewI ew then s.indirect ctx addr else .ok (.loc ⟨ctx, addr, false⟩)

/-- `EvalOD` (R240). -/
def State.evalOD (s : State) : OD → M Operand
  | .short so => s.shortOperand so
  | .longConst k w => .ok (.imm k w)
  | .illegalF _ _ => .error (.fatal .illegalF)
  | .indexedConst r w => .ok (.imm .sx (w + s.indexReg r))
  | .based0 ew => s.basedOperand 0 ew
  | .based so ew => do
    let ix ← s.indexValue so
    s.basedOperand ix ew

/-! ### Operand access -/

/-- The value of an immediate at precision `p` (R228). -/
def immValue (k : ConstKind) (w : SW) : (p : Prec) → BitVec p.bits
  | .q => w.setWidth 9
  | .h => w.setWidth 18
  | .s => w
  | .d =>
    match k with
    | .sx => w.signExtend 72
    | .zx => w.setWidth 72
    | .lj => w ++ 0#36

/-- `BoundaryCheck` (R253): a register-direct operand does not run past register 31. -/
def boundaryCheck (va : VAddr) (n : Nat) (rd : Bool) : M Unit :=
  fatalIf (rd && decide (128 < va.toNat + n)) .registerBoundary

/-- The context of an operand: the current one for an immediate (R681). -/
def Operand.ctx : Operand → Ctx
  | .imm _ _ => .cur
  | .loc l => l.ctx

/-- The location of an operand; an immediate has none (fatal 13: R242, R244, R245). -/
def Operand.asLoc : Operand → M Loc
  | .imm _ _ => .error (.fatal .immediate)
  | .loc l => .ok l

/-- `IsImm` (R246). -/
def Operand.isImm : Operand → Bool
  | .imm _ _ => true
  | .loc _ => false

/-- `ReadOp` of a location (R241). -/
def State.readLoc (s : State) (l : Loc) (p : Prec) : M (BitVec p.bits) := do
  boundaryCheck l.va p.qws l.rd
  s.memRead l.ctx l.va p

/-- `ReadOp` (R241). -/
def State.readOp (s : State) (o : Operand) (p : Prec) : M (BitVec p.bits) :=
  match o with
  | .imm k w => .ok (immValue k w p)
  | .loc l => s.readLoc l p

/-- `CheckWrite` of a location (R247): every check of the write, and the storage it will change. -/
def State.checkWriteLoc (s : State) (l : Loc) (p : Prec) : M Span := do
  boundaryCheck l.va p.qws l.rd
  s.locate .write l.ctx l.va p

/-- `CheckWrite` (R242, R247). -/
def State.checkWrite (s : State) (o : Operand) (p : Prec) : M Span := do
  let l ← o.asLoc
  s.checkWriteLoc l p

/-- `NextOf` (R245). -/
def Loc.next (l : Loc) (p : Prec) : Loc := ⟨l.ctx, vaAdd l.va p.qws, l.rd⟩

/-- `AddrWord` (R244): P-bit, five zero bits, and the address. -/
def Loc.addrWord (l : Loc) : SW := BitVec.ofBool (l.ctx == .prev) ++ 0#5 ++ l.va

/-- `IsReg` (R246): does the operand name a register? -/
def State.isRegOp (s : State) : Operand → Bool
  | .imm _ _ => false
  | .loc l => s.isRegAddr l.ctx l.va

/-! ### Arguments of the classes -/

/-- An unused descriptor is identically zero, or fatal 8 (R218). -/
def checkUnused (od : OD) : M Unit := fatalIf (od != .short (.reg 0)) .unusedOd

/-- A privileged instruction in user mode is `EXEC_ONLY_VEC` with its first word (R940). -/
def State.privileged (s : State) (env : Env) : M Unit :=
  if Ps.crntMode s.ps then .ok () else .error (.hard .execOnly env.w0)

/-- RTA as a register-direct operand (R207). -/
def rta : Operand := .loc (regLoc 4)
/-- RTB as a register-direct operand (R207). -/
def rtb : Operand := .loc (regLoc 6)

/-- The arguments of a three-address instruction. -/
structure TopArgs where
  dest : Operand
  s1 : Operand
  s2 : Operand
  deriving DecidableEq, Repr

/-- DEST, S1 and S2 for each T (R207, Table 4-1). -/
def topArgs (t : TMode) (x1 x2 : Operand) : TopArgs :=
  match t with
  | .t00 => ⟨x1, x1, x2⟩
  | .t01 => ⟨x1, rta, x2⟩
  | .t10 => ⟨rta, x1, x2⟩
  | .t11 => ⟨rtb, x1, x2⟩

/-- Evaluate the descriptors of a three-address instruction, OD1 first (R214). -/
def State.evalTop (s : State) (t : TMode) (o1 o2 : OD) : M TopArgs := do
  let x1 ← s.evalOD o1
  let x2 ← s.evalOD o2
  .ok (topArgs t x1 x2)

/-- `CheckPC` (R615): a loaded program counter is aligned and not in the registers. -/
def checkPC (a : VAddr) : M Unit := do
  fatalIf (!aligned .s a) .notAligned
  fatalIf (decide (a.toNat < 128)) .jumpToRegisters

/-- The destination of a jump with its checks (R562, R566). -/
def State.jumpDest (s : State) : JDest → M VAddr
  | .rel j => do
    let d := s.pc + (j.signExtend 30 <<< 2)
    fatalIf (decide (d.toNat < 128)) .jumpToRegisters
    .ok d
  | .gen od => do
    let x ← s.evalOD od
    let l ← x.asLoc
    fatalIf (l.ctx == .prev) .pBit
    checkPC l.va
    .ok l.va

/-- The destination of a skip with its check (R209, R562, R567). -/
def State.skipDest (s : State) (skp : BitVec 4) : M VAddr := do
  let d := s.pc + (skp.signExtend 30 <<< 2)
  fatalIf (decide (d.toNat < 128)) .jumpToRegisters
  .ok d

/-- The destination of a hop with its check (R211, R596). -/
def State.hopDest (s : State) (disp : BitVec 24) : M VAddr := do
  let d := s.pc + (disp.signExtend 30 <<< 2)
  fatalIf (decide (d.toNat < 128)) .jumpToRegisters
  .ok d

end Sys2Proof.Machine
end

