-- ==== Sys2Proof/Machine/Ops.lean ====
section
/-! DEFINITION. Taking an exception and returning from one, as shared operations (60_exceptions.md, and the implicit
stack of 45_routine_linkage.md section 1), and the frame that runs the body of an instruction (R871 stages 4 to 7). -/

namespace Sys2Proof.Machine

/-- The outcome of a step. -/
abbrev Res := Host.Outcome State Fault Refusal

/-- The state with another PC. -/
def State.setPc (s : State) (a : VAddr) : State := { s with pc := a }
/-- The state with another `USER_STATUS`. -/
def State.setUs (s : State) (w : SW) : State := { s with us := w }
/-- The state with another `PROC_STATUS`. -/
def State.setPs (s : State) (w : SW) : State := { s with ps := w }
/-- The state with another `RUN`. -/
def State.setRun (s : State) (r : RunState) : State := { s with run := r }

/-! ### The implicit stack (R610 to R613) -/

/-- `StackCheck` (R612): growth past `SL` is `STK_OVFL_VEC`, with the new stack pointer as its parameter (R934). -/
def State.stackCheck (s : State) (new : SW) : M Unit :=
  if s.sl.toInt < new.toInt then .error (.hard .stkOvfl new) else .ok ()

/-- `PushWords` (R613): push words on the implicit stack, the first at the lowest address; every check comes before any
write. -/
def State.pushWords (s : State) (ws : List SW) : M State := do
  let new := s.sp + BitVec.ofNat 36 (4 * ws.length)
  s.stackCheck new
  let sps ← s.locateRun .write .cur .s ws.length (addrOfWord s.sp)
  .ok ((s.writeRun .s sps ws).putReg (Us.spId s.us) new)

/-- `CheckUS` (R751): loading an illegal `USER_STATUS` hard-traps. -/
def checkUS (w : SW) : M Unit := fatalIf (!Us.legal w) .other

/-- Words of a save area, each `UNDEFINED(36)` word a free value (R28): the words, and the state that has drawn
them. -/
def State.fillUndefined (s : State) : List (Option SW) → List SW × State
  | [] => ([], s)
  | some w :: t => let r := s.fillUndefined t; (w :: r.1, r.2)
  | none :: t => let r := s.drawn.fillUndefined t; (s.free 36 :: r.1, r.2)

/-! ### Vectors (R884 to R889) -/

/-- `HrdVecAddr(k)` (R888). -/
def hrdVecAddr (k : Nat) : VAddr := BitVec.ofNat 30 (0o14000 + Config.hrderrStride * k)
/-- `SftVecAddr(k)` (R886). -/
def sftVecAddr (k : Nat) : VAddr := BitVec.ofNat 30 (0o6000 + Config.sfterrStride * k)
/-- `IntVecAddr(v)` (R889). -/
def intVecAddr (v : Nat) : VAddr := BitVec.ofNat 30 (0o20000 + Config.intuptStride * v)
/-- `TrpslfVecAddr(n)` (R885). -/
def trpslfVecAddr (n : Nat) : VAddr := BitVec.ofNat 30 (0o4000 + Config.trpslfStride * n)
/-- `TrpexeVecAddr(n)` (R887). -/
def trpexeVecAddr (n : Nat) : VAddr := BitVec.ofNat 30 (0o10000 + Config.trpexeStride * n)

/-! ### Taking an exception -/

/-- Steps 3 to 6 of a trap initiation that loads both status words (R890): load them, push the save area on the stack
they define, and go to the handler. -/
def State.loadAndPush (s : State) (h nus nps : SW) (ws : List SW) : M State := do
  let s1 := (s.setUs nus).setPs (Ps.partialLoad s.ps nps)
  let s2 ← s1.pushWords ws
  .ok ((s2.setPc (addrOfWord h)).setRun .running)

/-- `InitiateFull` (R904): read the three words of the vector at `va`, check them, load the status words and push the
save area. An error leaves the state as it was (R898). -/
def State.initiateFull (s : State) (va : VAddr) (ws : List SW) : M State := do
  let h ← s.vecRead va
  let nus ← s.vecRead (vaAdd va 4)
  let nps ← s.vecRead (vaAdd va 8)
  checkPC (addrOfWord h)
  checkUS nus
  s.loadAndPush h nus nps ws

/-- The words of a hard-trap save area after the first (R902): PC, `INSTRUCTION_STATE`, the old status words, and the PC
again as the return word (R903). -/
def State.hardSaveArea (s : State) (first : SW) : List SW :=
  [first, pcWord s.pc, s.instructionState, s.us, s.ps, pcWord s.pc]

/-- A nested hard trap (R930): the initiation through the vector at `va` failed. If this one fails too, the processor
halts with `DOUBLE_FAULT` (R932). -/
def State.nested (s : State) (va : VAddr) : Res :=
  match s.initiateFull (hrdVecAddr nestedVecIndex) (s.hardSaveArea (pcWord va)) with
  | .ok s' => .next s'
  | .error (.fault f) => .fault f
  | .error (.refuse r) => .refused r
  | .error _ => .next { s with run := .halted, doubleFault := true }

/-- `EnterHard` (R904): take the hard trap of vector index `k` whose save area begins with `first`. -/
def State.enterHard (s : State) (k : Nat) (first : SW) : Res :=
  match s.initiateFull (hrdVecAddr k) (s.hardSaveArea first) with
  | .ok s' => .next s'
  | .error (.fault f) => .fault f
  | .error (.refuse r) => .refused r
  | .error _ => s.nested (hrdVecAddr k)

/-- Take the fatal hard trap `n`: `FATAL_VEC` with the error number (R904, R936). -/
def State.enterFatal (s : State) (n : Fatal) : Res := s.enterHard fatalVecIndex (BitVec.ofNat 36 n.number)

/-- The words of a soft-trap save area (R906). -/
def State.softSaveArea (s : State) (k : SoftVec) (i : SoftInfo) : List (Option SW) :=
  [i.dest, none, none, i.s1.1, i.s1.2, i.s2.1, i.s2.2, some i.w0, some (pcWord s.pc), some s.instructionState,
    some (k.resetBit s.us), some (pcWord i.next)]

/-- The initiation of a soft trap (R908): the vector is read in the current space, only `USER_STATUS` is loaded, and the
save area goes on the stack the new word names. -/
def State.initiateSoft (s : State) (k : SoftVec) (i : SoftInfo) : M State := do
  let va := sftVecAddr k.index
  let h ← s.memRead .cur va .s
  let nus ← s.memRead .cur (vaAdd va 4) .s
  checkPC (addrOfWord h)
  checkUS nus
  let ws := s.fillUndefined (s.softSaveArea k i)
  let s2 ← (ws.2.setUs nus).pushWords ws.1
  .ok (s2.setPc (addrOfWord h))

/-- `EnterSoft` (R908): any fault of the initiation is fatal 1 (R931). -/
def State.enterSoft (s : State) (k : SoftVec) (i : SoftInfo) : Res :=
  match s.initiateSoft k i with
  | .ok s' => .next s'
  | .error (.fault f) => .fault f
  | .error (.refuse r) => .refused r
  | .error _ => s.enterFatal .softTrapError

/-! ### Interrupts (R920 to R924) -/

/-- The requests of a level that are pending and enabled, bits 0..31 (R920). -/
def State.levelRequests (s : State) (i : Fin 8) : BitVec 32 := field (s.intPend[i] &&& s.intEnb[i]) 0 32

/-- The smallest bit number, from `j` on, that is one; 32 if none is. -/
def firstOne (w : BitVec 32) : (fuel : Nat) → (j : Nat) → Nat
  | 0, j => j
  | n + 1, j => if bitAt w j then j else firstOne w n (j + 1)

/-- The interrupt that would be accepted (R920, R921): the smallest level below `PRIO` with a request, and its smallest
bit. -/
def State.pendingInterrupt (s : State) : Option (Fin 8 × Nat) :=
  match (List.finRange 8).find? fun i => decide (i.val < (Ps.prio s.ps).toNat) && s.levelRequests i != 0 with
  | some i => some (i, firstOne (s.levelRequests i) 32 0)
  | none => none

/-- `INTUPT_PARM[v]`. -/
def State.intParmAt (s : State) (v : BitVec 8) : SW := s.intParm[v.toNat]'v.isLt

/-- `AcceptInterrupt` (R922): the save area of R924; the pending bit is cleared only if the initiation succeeds. -/
def State.acceptInterrupt (s : State) (i : Fin 8) (j : Nat) : Res :=
  let v := 32 * i.val + j
  match s.initiateFull (intVecAddr v)
      [s.intParmAt (BitVec.ofNat 8 v), s.instructionState, s.us, s.ps, pcWord s.pc] with
  | .ok s' => .next { s' with intPend := s'.intPend.set i (setBit s'.intPend[i] j false) }
  | .error (.fault f) => .fault f
  | .error (.refuse r) => .refused r
  | .error _ => s.nested (intVecAddr v)

/-! ### Returning (R632) -/

/-- The words at fixed offsets below ADDRESS(OP2) that a return instruction reads: the single-word `k` quarter-words
below `l`, in the context of OP2. -/
def State.wordBelow (s : State) (l : Loc) (k : Nat) : M SW := s.memRead l.ctx (l.va - BitVec.ofNat 30 k) .s

/-- The stack pointer after `ADDRESS(OP2) - k - 4*n` (R632): modulo 2^30, zero-extended. -/
def poppedSp (l : Loc) (k : Nat) (n : SW) : SW := pcWord (l.va - BitVec.ofNat 30 k - (addrOfWord n <<< 2))

/-- Return from an exception (R632): set `SP` of the old register file under the old `USER_STATUS`, then load the status
words given, then the PC (D45). -/
def State.returnTo (s : State) (sp : SW) (us : Option SW) (ps : Option SW) (pc : VAddr) : State :=
  let s1 := s.putReg (Us.spId s.us) sp
  { s1 with us := us.getD s1.us, ps := ps.getD s1.ps, pc := pc }

/-! ### Running one instruction (R871 stages 4 to 7) -/

/-- Stage 4: `TRACE_ENB` is saved as `TRACE_ENB_OLD`. -/
def State.stage4 (s : State) : State := { s with traceEnbOld := Ps.traceEnb s.ps }

/-- Stage 6: `TRACE_PEND <- TRACE_PEND or TRACE_ENB_OLD`. -/
def State.stage6 (s : State) : State := s.setPs (Ps.setTracePend s.ps (Ps.tracePend s.ps || s.traceEnbOld))

/-- What an exception of the instruction at `s` does (R871): a hard trap is entered from the state before the
instruction, a soft trap after stage 6. -/
def State.takeExc (s : State) : Exc → Res
  | .hard v parm => s.enterHard v.index parm
  | .fatal n => s.enterFatal n
  | .drawnFatal n => s.drawn.enterFatal n
  | .soft k i => s.stage6.enterSoft k i
  | .nested va => s.nested va
  | .stuck => .next s
  | .fault f => .fault f
  | .refuse r => .refused r

/-- The environment of an instruction executed at the PC: its first word, and `PC + 4*len` (R49). -/
def State.envOf (s : State) (f : Form) : Env :=
  ⟨BitVec.ofNat 12 f.opcode ++ f.fields, vaAdd s.pc (4 * f.length)⟩

/-- Run the body of an instruction, stages 4 to 7 of R871. -/
def runInstr (f : Form) (body : Body) (s : State) : Res :=
  let s1 := s.stage4
  match body (s.envOf f) s1 with
  | .ok s2 => .next s2.stage6
  | .error .stuck => .next s
  | .error e => s1.takeExc e

end Sys2Proof.Machine
end

