-- ==== Sys2Proof/Machine/Flags.lean ====
section
/-! DEFINITION. The side-effect bits of `USER_STATUS`: carry and overflow of integer addition and subtraction (R302,
R304), the overflow and zero-divide steps (R303, R308), and what a computation may answer: its results with the new
`USER_STATUS`, or the soft trap it raises. -/

namespace Sys2Proof.Machine

/-- Why a computation stores nothing. -/
inductive AluStop where
  /-- a soft trap (R944) -/
  | soft (k : SoftVec)
  /-- a mode field of `USER_STATUS` holds a value that the spec leaves undefined (R66 to R68, U10): the step is refused -/
  | undefinedMode
  deriving DecidableEq, Repr

/-- The answer of a computation: its result, or why it stores nothing. -/
abbrev Alu := Except AluStop

/-- Run a computation inside an instruction whose soft-trap save area would hold `info`. -/
def liftAlu {α : Type} (info : SoftInfo) : Alu α → M α
  | .ok a => .ok a
  | .error (.soft k) => .error (.soft k info)
  | .error .undefinedMode => .error (.refuse .illegalUserStatus)

/-- A sum or difference of `n` bits with the carry out of bit 0 and the overflow (R302). -/
structure Sum (n : Nat) where
  val : BitVec n
  carry : Bool
  ov : Bool
  deriving DecidableEq, Repr

/-- `AddC(x, y, cin)` (R302). -/
def addC {n : Nat} (x y : BitVec n) (cin : Bool) : Sum n :=
  let z := x.toNat + y.toNat + cin.toNat
  let sum := BitVec.ofNat n z
  ⟨sum, decide (2 ^ n ≤ z), x.msb == y.msb && sum.msb != x.msb⟩

/-- `SubC(x, y, cin)` (R302): `x - y - 1 + cin`. -/
def subC {n : Nat} (x y : BitVec n) (cin : Bool) : Sum n :=
  let z := x.toNat + (~~~y).toNat + cin.toNat
  let dif := BitVec.ofNat n z
  ⟨dif, decide (2 ^ n ≤ z), x.msb != y.msb && dif.msb == y.msb⟩

/-- `IntOvf(ov)` (R303): the new `USER_STATUS`, or the soft trap. -/
def intOvf (us : SW) (ov : Bool) : Alu SW :=
  if ov && !Us.intOvflMode us then .error (.soft .intOvfl) else .ok (Us.setIntOvfl us ov)

/-- `IntZDiv(isZero)` (R308). -/
def intZDiv (us : SW) (isZero : Bool) : Alu SW :=
  if isZero && !Us.intZDivMode us then .error (.soft .intZDiv) else .ok (Us.setIntZDiv us isZero)

/-- Does an integer lie in the signed range of `n` bits (R300)? -/
def fits (n : Nat) (v : Int) : Bool := decide (-2 ^ (n - 1) ≤ v) && decide (v ≤ 2 ^ (n - 1) - 1)

/-- Deliver a sum or difference: overflow step, then the value and `CARRY` (R310 to R315). -/
def deliverSum {n : Nat} (us : SW) (r : Sum n) : Alu (BitVec n × SW) := do
  let us1 ← intOvf us r.ov
  .ok (r.val, Us.setCarry us1 r.carry)

/-- Deliver an integer in `n` bits with `INT_OVFL` (R303, R306): its low-order bits when overflow does not trap. -/
def deliverInt (us : SW) (n : Nat) (v : Int) : Alu (BitVec n × SW) := do
  let us1 ← intOvf us (!fits n v)
  .ok (BitVec.ofInt n v, us1)

end Sys2Proof.Machine
end

