-- ==== Sys2Proof/Machine/Frames.lean ====
section
/-! DEFINITION. The frame of R247, once for each shape of instruction: evaluate the descriptors, check the destinations,
read the sources, compute, store, and go on to the next instruction. -/

namespace Sys2Proof.Machine

/-- The address word of a destination for the soft-trap save area (R906). -/
def Operand.softDest : Operand → Option SW
  | .imm _ _ => none
  | .loc l => some l.addrWord

/-- The soft-trap words of a three-address instruction (R907). -/
def softTop (env : Env) (a : TopArgs) (p1 p2 : Prec) (x : BitVec p1.bits) (y : BitVec p2.bits) : SoftInfo :=
  ⟨a.dest.softDest, .ofValue p1 x, .ofValue p2 y, env.w0, env.next⟩

/-- The soft-trap words of an instruction that computes OP1 from OP2: S1 is absent, S2 is OP2 (R907). -/
def softUnary (env : Env) (x1 : Operand) (p2 : Prec) (y : BitVec p2.bits) : SoftInfo :=
  ⟨x1.softDest, .absent, .ofValue p2 y, env.w0, env.next⟩

/-- A three-address instruction `{pd,W; p1,R; p2,R}` that computes DEST from S1 and S2. -/
def top3 (pd p1 p2 : Prec) (op : SW → BitVec p1.bits → BitVec p2.bits → Alu (BitVec pd.bits × SW))
    (t : TMode) (o1 o2 : OD) : Body := fun env s => do
  let a ← s.evalTop t o1 o2
  let d ← s.checkWrite a.dest pd
  let x ← s.readOp a.s1 p1
  let y ← s.readOp a.s2 p2
  let r ← liftAlu (softTop env a p1 p2 x y) (op s.us x y)
  .ok (((s.writeSpan pd d r.1).setUs r.2).setPc env.next)

/-- A three-address instruction `{pd,W and NEXT; p1,R; p2,R}` that computes DEST and NEXT(DEST). -/
def top3Next (pd p1 p2 : Prec)
    (op : SW → BitVec p1.bits → BitVec p2.bits → Alu (BitVec pd.bits × BitVec pd.bits × SW))
    (t : TMode) (o1 o2 : OD) : Body := fun env s => do
  let a ← s.evalTop t o1 o2
  let l ← a.dest.asLoc
  let d ← s.checkWriteLoc l pd
  let d2 ← s.checkWriteLoc (l.next pd) pd
  let x ← s.readOp a.s1 p1
  let y ← s.readOp a.s2 p2
  let r ← liftAlu (softTop env a p1 p2 x y) (op s.us x y)
  .ok ((((s.writeSpan pd d r.1).writeSpan pd d2 r.2.1).setUs r.2.2).setPc env.next)

/-- A three-address instruction `{pd,W; p1,R; p2,R}` whose computation can raise a hard trap. -/
def top3Trap (pd p1 p2 : Prec) (op : BitVec p1.bits → BitVec p2.bits → M (BitVec pd.bits))
    (t : TMode) (o1 o2 : OD) : Body := fun env s => do
  let a ← s.evalTop t o1 o2
  let d ← s.checkWrite a.dest pd
  let x ← s.readOp a.s1 p1
  let y ← s.readOp a.s2 p2
  let r ← op x y
  .ok ((s.writeSpan pd d r).setPc env.next)

/-- A two-address instruction `{p1,W; p2,R}` that computes OP1 from OP2. -/
def xop2 (p1 p2 : Prec) (op : SW → BitVec p2.bits → Alu (BitVec p1.bits × SW)) (o1 o2 : OD) : Body := fun env s => do
  let x1 ← s.evalOD o1
  let x2 ← s.evalOD o2
  let d ← s.checkWrite x1 p1
  let y ← s.readOp x2 p2
  let r ← liftAlu (softUnary env x1 p2 y) (op s.us y)
  .ok (((s.writeSpan p1 d r.1).setUs r.2).setPc env.next)

/-- A pure computation that changes no side-effect bit. -/
def pureAlu {α β γ : Type} (f : α → β → γ) : SW → α → β → Alu (γ × SW) := fun us x y => .ok (f x y, us)

/-- A pure computation of one operand that changes no side-effect bit. -/
def pureAlu1 {α γ : Type} (f : α → γ) : SW → α → Alu (γ × SW) := fun us x => .ok (f x, us)

end Sys2Proof.Machine
end

