-- ==== Sys2Proof/Machine/IntegerAlu.lean ====
section
/-! DEFINITION. The computations of the integer instructions (40_integer.md): each answers the results and the new
`USER_STATUS`, or the soft trap. `n` is the width of the operands, `m` of a longer operand or result. -/

namespace Sys2Proof.Machine

/-- `ADD`: S1 + S2 (R310). -/
def aluAdd {n : Nat} (us : SW) (x y : BitVec n) : Alu (BitVec n × SW) := deliverSum us (addC x y false)
/-- `ADDC`: S1 + S2 + CARRY (R311). -/
def aluAddc {n : Nat} (us : SW) (x y : BitVec n) : Alu (BitVec n × SW) := deliverSum us (addC x y (Us.carry us))
/-- `SUB`: S1 - S2 (R312). -/
def aluSub {n : Nat} (us : SW) (x y : BitVec n) : Alu (BitVec n × SW) := deliverSum us (subC x y true)
/-- `SUBV`: S2 - S1 (R313). -/
def aluSubv {n : Nat} (us : SW) (x y : BitVec n) : Alu (BitVec n × SW) := deliverSum us (subC y x true)
/-- `SUBC`: S1 - S2 - 1 + CARRY (R314). -/
def aluSubc {n : Nat} (us : SW) (x y : BitVec n) : Alu (BitVec n × SW) := deliverSum us (subC x y (Us.carry us))
/-- `SUBCV`: S2 - S1 - 1 + CARRY (R315). -/
def aluSubcv {n : Nat} (us : SW) (x y : BitVec n) : Alu (BitVec n × SW) := deliverSum us (subC y x (Us.carry us))

/-- `MULT`: the low-order part of S1*S2 (R320). -/
def aluMult {n : Nat} (us : SW) (x y : BitVec n) : Alu (BitVec n × SW) := deliverInt us n (x.toInt * y.toInt)
/-- `MULTL`: S1*S2 at twice the precision (R321). -/
def mulLong {n m : Nat} (x y : BitVec n) : BitVec m := BitVec.ofInt m (x.toInt * y.toInt)

/-- `quo(a, b)`, rounded towards zero (R322). -/
def quoInt (a b : Int) : Int := a.tdiv b
/-- `rem(a, b)`, the sign of the dividend (R322). -/
def remInt (a b : Int) : Int := a.tmod b
/-- `mod(a, b)`, the sign of the divisor (R322). -/
def modInt (a b : Int) : Int := a.fmod b

/-- `DivideFrame` with the quotient only (R323). -/
def divideQuo (us : SW) (n : Nat) (a b : Int) : Alu (BitVec n × SW) := do
  let us1 ← intZDiv us (decide (b = 0))
  if b = 0 then .ok (0, Us.setIntOvfl us1 false)
  else do
    let us2 ← intOvf us1 (!fits n (quoInt a b))
    .ok (BitVec.ofInt n (quoInt a b), us2)

/-- `DivideFrame` with a remainder only (R323): `INT_OVFL` is not written. -/
def divideRem (r : Int → Int → Int) (us : SW) (n : Nat) (a b : Int) : Alu (BitVec n × SW) := do
  let us1 ← intZDiv us (decide (b = 0))
  if b = 0 then .ok (0, us1) else .ok (BitVec.ofInt n (r a b), us1)

/-- `DivideFrame` with quotient and remainder (R323). -/
def divideBoth (us : SW) (n : Nat) (a b : Int) : Alu (BitVec n × BitVec n × SW) := do
  let us1 ← intZDiv us (decide (b = 0))
  if b = 0 then .ok (0, 0, Us.setIntOvfl us1 false)
  else do
    let us2 ← intOvf us1 (!fits n (quoInt a b))
    .ok (BitVec.ofInt n (quoInt a b), BitVec.ofInt n (remInt a b), us2)

/-- `QUO`, `QUOL`: S1/S2 (R324, R326). -/
def aluQuo {n m : Nat} (us : SW) (x : BitVec m) (y : BitVec n) : Alu (BitVec n × SW) := divideQuo us n x.toInt y.toInt
/-- `QUOV`, `QUOLV`: S2/S1 (R325, R327). -/
def aluQuov {n m : Nat} (us : SW) (x : BitVec n) (y : BitVec m) : Alu (BitVec n × SW) := divideQuo us n y.toInt x.toInt
/-- `REM`, `REML`: S1 rem S2 (R336, R338). -/
def aluRem {n m : Nat} (us : SW) (x : BitVec m) (y : BitVec n) : Alu (BitVec n × SW) :=
  divideRem remInt us n x.toInt y.toInt
/-- `REMV`, `REMLV`: S2 rem S1 (R337, R339). -/
def aluRemv {n m : Nat} (us : SW) (x : BitVec n) (y : BitVec m) : Alu (BitVec n × SW) :=
  divideRem remInt us n y.toInt x.toInt
/-- `MOD`, `MODL`: S1 mod S2 (R342, R344). -/
def aluMod {n m : Nat} (us : SW) (x : BitVec m) (y : BitVec n) : Alu (BitVec n × SW) :=
  divideRem modInt us n x.toInt y.toInt
/-- `MODV`, `MODLV`: S2 mod S1 (R343, R345). -/
def aluModv {n m : Nat} (us : SW) (x : BitVec n) (y : BitVec m) : Alu (BitVec n × SW) :=
  divideRem modInt us n y.toInt x.toInt
/-- `DIV`, `DIVL`: quotient and remainder of S1/S2 (R348, R350). -/
def aluDiv {n m : Nat} (us : SW) (x : BitVec m) (y : BitVec n) : Alu (BitVec n × BitVec n × SW) :=
  divideBoth us n x.toInt y.toInt
/-- `DIVV`, `DIVLV`: quotient and remainder of S2/S1 (R349, R351). -/
def aluDivv {n m : Nat} (us : SW) (x : BitVec n) (y : BitVec m) : Alu (BitVec n × BitVec n × SW) :=
  divideBoth us n y.toInt x.toInt

/-- `Quo2(x, k)` (R328), with `x` of `m` bits: for `k` at or past `m` the quotient is 0; for `-k` at or past `m + n` the
low-order bits are 0 and any `x` but 0 overflows, so no large power is formed (R307). -/
def quo2 (us : SW) (m n : Nat) (x k : Int) : Alu (BitVec n × SW) :=
  if 0 ≤ k then deliverInt us n (if (m : Int) ≤ k then 0 else x.tdiv (2 ^ k.toNat))
  else if (m + n : Int) ≤ -k then do
    let us1 ← intOvf us (decide (x ≠ 0))
    .ok (0, us1)
  else deliverInt us n (x * 2 ^ (-k).toNat)

/-- `QUO2`, `QUO2L`: S1/2^S2 (R330, R332). -/
def aluQuo2 {n m : Nat} (us : SW) (x : BitVec m) (k : BitVec n) : Alu (BitVec n × SW) := quo2 us m n x.toInt k.toInt
/-- `QUO2V`, `QUO2LV`: S2/2^S1 (R331, R333). -/
def aluQuo2v {n m : Nat} (us : SW) (k : BitVec n) (x : BitVec m) : Alu (BitVec n × SW) := quo2 us m n x.toInt k.toInt

/-- `INC`: OP2 + 1 (R354). -/
def aluInc {n : Nat} (us : SW) (y : BitVec n) : Alu (BitVec n × SW) := deliverSum us (addC y 1 false)
/-- `DEC`: OP2 - 1 (R355). -/
def aluDec {n : Nat} (us : SW) (y : BitVec n) : Alu (BitVec n × SW) := deliverSum us (subC y 1 true)
/-- `TRANS`: OP2 at another precision (R358). -/
def aluTrans {n m : Nat} (us : SW) (y : BitVec n) : Alu (BitVec m × SW) := deliverInt us m y.toInt
/-- `NEG`: 0 - OP2 (R360). -/
def aluNeg {n : Nat} (us : SW) (y : BitVec n) : Alu (BitVec n × SW) := deliverSum us (subC 0 y true)
/-- `ABS`: the magnitude of OP2 (R361). `CARRY` is 1 exactly when OP2 is 0. -/
def aluAbs {n : Nat} (us : SW) (y : BitVec n) : Alu (BitVec n × SW) := do
  let r := subC 0 y true
  let us1 ← intOvf us (y.msb && r.ov)
  .ok (if y.msb then r.val else y, Us.setCarry us1 (y == 0))
/-- `MIN` (R364). -/
def minInt {n : Nat} (x y : BitVec n) : BitVec n := if x.toInt < y.toInt then x else y
/-- `MAX` (R365). -/
def maxInt {n : Nat} (x y : BitVec n) : BitVec n := if y.toInt < x.toInt then x else y

/-- `UMULT` (R370): overflow whenever `MULT` overflows, and whenever one operand has its high-order bit set and the other
exceeds one. -/
def aluUmult {n : Nat} (us : SW) (x y : BitVec n) : Alu (BitVec n × SW) := do
  let us1 ← intOvf us (!fits n (x.toInt * y.toInt) || (x.msb && decide (1 < y.toNat)) || (y.msb && decide (1 < x.toNat)))
  .ok (BitVec.ofNat n (x.toNat * y.toNat), us1)
/-- `UMULTL` (R371). -/
def umulLong {n m : Nat} (x y : BitVec n) : BitVec m := BitVec.ofNat m (x.toNat * y.toNat)
/-- `UDIV`, `UDIVL` (R374, R375): unsigned quotient and remainder; the quotient overflows when it needs more than `n`
bits. -/
def aluUdiv {n m : Nat} (us : SW) (x : BitVec m) (y : BitVec n) : Alu (BitVec n × BitVec n × SW) := do
  let us1 ← intZDiv us (y == 0)
  if y = 0 then .ok (0, 0, Us.setIntOvfl us1 false)
  else do
    let us2 ← intOvf us1 (decide (2 ^ n ≤ x.toNat / y.toNat))
    .ok (BitVec.ofNat n (x.toNat / y.toNat), BitVec.ofNat n (x.toNat % y.toNat), us2)

end Sys2Proof.Machine
end

