-- ==== Sys2Proof/Machine/FloatAlu.lean ====
section
/-! DEFINITION. Floating-point numbers (41_float.md): the format, exact values, rounding, encoding with range check,
delivery of results with the side-effect bits, the propagation of the special symbols, and the computations of the
floating-point instructions. -/

namespace Sys2Proof.Machine

/-! ### The format (R400 to R404) -/

/-- The width of MANT (R400). There is no quarter-word format. -/
def mantBits : Prec → Nat
  | .q => 2
  | .h => 11
  | .s => 26
  | .d => 60

/-- The width of EXP (R400). -/
def expBits : Prec → Nat
  | .q => 6
  | .h => 6
  | .s => 9
  | .d => 11

/-- The excess of EXP (R401). -/
def excess (p : Prec) : Nat := 2 ^ (expBits p - 1)

/-- The meaning of a floating-point word (R403, R404): a special symbol, zero, or an ordinary number by its sign. -/
inductive FClass where
  | nan | movf | neg | munf | zero | unf | pos | ovf
  deriving DecidableEq, Repr

/-- `Class(w)` (R404), an ordinary number with its sign. -/
def fclass {n : Nat} (w : BitVec n) : FClass :=
  if w = 0 then .zero
  else if w = BitVec.intMin n then .nan
  else if w = BitVec.intMax n then .ovf
  else if w = BitVec.intMin n + 1 then .movf
  else if w = 1 then .unf
  else if w = BitVec.allOnes n then .munf
  else if w.msb then .neg else .pos

/-- The word of a symbol or of zero (R403). -/
def symWord (n : Nat) : FClass → BitVec n
  | .nan => BitVec.intMin n
  | .movf => BitVec.intMin n + 1
  | .munf => BitVec.allOnes n
  | .unf => 1
  | .ovf => BitVec.intMax n
  | .zero | .neg | .pos => 0

/-- An exact number `num / den * 2^exp`, `den` positive. The exponent is apart, so that scaling by any power of two
forms no large number (R442). -/
structure Exact where
  num : Int
  den : Nat
  exp : Int
  deriving DecidableEq, Repr

/-- `Val(w)` of an ordinary word (R401, R402). -/
def fval (p : Prec) (w : BitVec p.bits) : Exact :=
  let mag := if w.msb then -w else w
  let m := 2 ^ mantBits p + mag.toNat % 2 ^ mantBits p
  let e := mag.toNat / 2 ^ mantBits p
  ⟨if w.msb then -(m : Int) else m, 1, (e : Int) - excess p - mantBits p - 1⟩

/-- An integer as an exact number. -/
def Exact.ofInt (v : Int) : Exact := ⟨v, 1, 0⟩

/-- The sum of two exact numbers with denominator 1, aligned to the smaller exponent. -/
def Exact.add (a b : Exact) : Exact :=
  let e := min a.exp b.exp
  ⟨a.num * 2 ^ (a.exp - e).toNat + b.num * 2 ^ (b.exp - e).toNat, 1, e⟩

/-- The product of two exact numbers. -/
def Exact.mul (a b : Exact) : Exact := ⟨a.num * b.num, a.den * b.den, a.exp + b.exp⟩

/-- The quotient of two exact numbers with denominator 1, the divisor not zero. -/
def Exact.div (a b : Exact) : Exact :=
  ⟨if b.num < 0 then -a.num else a.num, b.num.natAbs, a.exp - b.exp⟩

/-- An exact number times a power of two. -/
def Exact.scale (a : Exact) (k : Int) : Exact := ⟨a.num, a.den, a.exp + k⟩

/-! ### Rounding (R410, R411) -/

/-- The choice of R411 between a grid point and the next one up: `k` is the lower point, `rem / den` the fraction `F` above
it, `neg` whether the true result is negative. -/
def roundChoice (rm : BitVec 5) (k rem : Int) (den : Nat) (neg : Bool) : Int :=
  if rem = 0 then k
  else
    let up := bitAt rm 2 ^^ (bitAt rm 3 && decide (k % 2 = 1)) ^^ (bitAt rm 4 && neg)
    let up := if bitAt rm 1 && decide (2 * rem < den) then false
      else if bitAt rm 1 && decide (2 * rem > den) then true
      else up
    if up then k + 1 else k

/-- `num / den * 2^sh` rounded to an integer (R411 with the grid spacing taken out). -/
def roundScaled (rm : BitVec 5) (num : Int) (den : Nat) (sh : Int) : Int :=
  let a := num * 2 ^ sh.toNat
  let b := den * 2 ^ (-sh).toNat
  roundChoice rm (a / b) (a % b) b (decide (num < 0))

/-- The `L` with `2^(L-1) <= a / b < 2^L`, `a` and `b` positive. -/
def binade (a b : Nat) : Int :=
  let l : Int := (a.log2 : Int) - b.log2
  if a * 2 ^ (-l).toNat < b * 2 ^ l.toNat then l else l + 1

/-- A rounded non-zero result: `k * 2^(e - m - 1)` with `2^m <= |k| < 2^(m+1)`. -/
structure Rounded where
  k : Int
  e : Int
  deriving DecidableEq, Repr

/-- `Round(R, m, rm)` (R411), normalized: a result rounded up to the next binade begins it. -/
def roundTo (m : Nat) (rm : BitVec 5) (r : Exact) : Rounded :=
  let l := binade r.num.natAbs r.den
  let k := roundScaled rm r.num r.den (m + 1 - l)
  let e := l + r.exp
  if k.natAbs = 2 ^ (m + 1) then ⟨if k < 0 then -(2 ^ m : Int) else 2 ^ m, e + 1⟩ else ⟨k, e⟩

/-- `RoundInt(R, rm)` (R411). -/
def roundInt (rm : BitVec 5) (r : Exact) : Int := roundScaled rm r.num r.den r.exp

/-- An encoded result (R406): its word with the exponent wrapped, and whether it overflowed or underflowed. -/
structure Encoded (n : Nat) where
  word : BitVec n
  ovf : Bool
  unf : Bool
  deriving DecidableEq, Repr

/-- `Enc(r, p)` (R406). The patterns of the infinity, of zero and of the infinitesimal count as overflow and underflow;
the pattern of the infinity is looked for in the word with the wrapped exponent, as the rule writes it (log 15). -/
def encFloat (p : Prec) (r : Rounded) : Encoded p.bits :=
  let be := r.e + excess p
  let frac := r.k.natAbs - 2 ^ mantBits p
  let mag := BitVec.ofNat p.bits ((be % 2 ^ expBits p).toNat * 2 ^ mantBits p + frac)
  ⟨if r.k < 0 then -mag else mag,
    decide ((2 : Int) ^ expBits p - 1 < be) || mag == BitVec.intMax p.bits,
    decide (be < 0) || (decide (be = 0) && decide (frac ≤ 1))⟩

/-! ### Delivery (R416 to R419) -/

/-- `SetFltFlags(sym)` (R419); `wn` tells whether the instruction writes `FLT_NAN` (R426). -/
def setFltFlags (us : SW) (wn : Bool) (c : FClass) : SW :=
  let u := Us.setFltUnfl (Us.setFltOvfl us (c == .ovf || c == .movf)) (c == .unf || c == .munf)
  if wn then Us.setFltNan u (c == .nan) else u

/-- The mode field of a floating overflow or underflow (R66, R67): 0 traps, 3 is undefined. -/
def fltMode (mode : BitVec 2) (k : SoftVec) : Alu Unit :=
  if mode = 0 then .error (.soft k) else if mode = 3 then .error .undefinedMode else .ok ()

/-- The mode field of a NAN result (R68): 0 traps, 2 and 3 are undefined. -/
def nanMode (us : SW) : Alu Unit :=
  if Us.fltNanMode us = 0 then .error (.soft .fltNan)
  else if Us.fltNanMode us = 1 then .ok () else .error .undefinedMode

/-- What the mode fields say of a symbol as a result (R419). -/
def symMode (us : SW) : FClass → Alu Unit
  | .nan => nanMode us
  | .ovf | .movf => fltMode (Us.fltOvflMode us) .fltOvfl
  | .unf | .munf => fltMode (Us.fltUnflMode us) .fltUnfl
  | .zero | .neg | .pos => .ok ()

/-- `DeliverSym` (R419). -/
def deliverSym (us : SW) (wn : Bool) (n : Nat) (c : FClass) : Alu (BitVec n × SW) := do
  symMode us c
  .ok (symWord n c, setFltFlags us wn c)

/-- A word stored as it is, all bits cleared (R421, R452). -/
def deliverWord {n : Nat} (us : SW) (w : BitVec n) : Alu (BitVec n × SW) := .ok (w, setFltFlags us true .zero)

/-- `DeliverNum` (R419). -/
def deliverNum (us : SW) (wn : Bool) (p : Prec) (r : Exact) : Alu (BitVec p.bits × SW) :=
  if r.num = 0 then deliverSym us wn p.bits .zero
  else
    let x := encFloat p (roundTo (mantBits p) (Us.rndMode us) r)
    if x.ovf then do
      fltMode (Us.fltOvflMode us) .fltOvfl
      let sym := if r.num < 0 then FClass.movf else .ovf
      .ok (if Us.fltOvflMode us = 1 then symWord p.bits sym else x.word, setFltFlags us wn .ovf)
    else if x.unf then do
      fltMode (Us.fltUnflMode us) .fltUnfl
      let sym := if r.num < 0 then FClass.munf else .unf
      .ok (if Us.fltUnflMode us = 1 then symWord p.bits sym else x.word, setFltFlags us wn .unf)
    else .ok (x.word, setFltFlags us wn .zero)

/-! ### Propagation (R420 to R427) -/

/-- The symbol of the opposite sign (R424). -/
def negSym : FClass → FClass
  | .ovf => .movf
  | .movf => .ovf
  | .unf => .munf
  | .munf => .unf
  | .pos => .neg
  | .neg => .pos
  | c => c

/-- A word negated (R452, `FNegWord`): NAN stays NAN. -/
def fnegWord {n : Nat} (w : BitVec n) : BitVec n := -w

/-- An entry of the propagation tables: a symbol, one of the operands, or the exact result. -/
inductive FEntry where
  | sym (c : FClass)
  | left
  | right
  | expr
  deriving DecidableEq, Repr

/-- Is the class an ordinary number? -/
def FClass.isOrd : FClass → Bool
  | .pos | .neg => true
  | _ => false

/-- The table of A + B (R421). -/
def addEntry (a b : FClass) : FEntry :=
  match a, b with
  | .nan, _ | _, .nan => .sym .nan
  | .movf, .ovf | .ovf, .movf => .sym .nan
  | .movf, _ | _, .movf => .sym .movf
  | .ovf, _ | _, .ovf => .sym .ovf
  | .munf, .unf | .unf, .munf => .sym .nan
  | .zero, .zero => .sym .zero
  | a, b =>
    if a.isOrd then (if b.isOrd then .expr else .left)
    else if b.isOrd then .right
    else if a = .zero then .sym b else .sym a

/-- The magnitude of a class: NAN, an infinity, an ordinary number, an infinitesimal, zero. -/
inductive FMag where
  | nan | inf | ord | eps | zero
  deriving DecidableEq, Repr

/-- The magnitude of a class. -/
def FClass.mag : FClass → FMag
  | .nan => .nan
  | .ovf | .movf => .inf
  | .pos | .neg => .ord
  | .unf | .munf => .eps
  | .zero => .zero

/-- Is the class negative? -/
def FClass.isNeg : FClass → Bool
  | .movf | .neg | .munf => true
  | _ => false

/-- The infinity of a sign. -/
def infSym (neg : Bool) : FClass := if neg then .movf else .ovf
/-- The infinitesimal of a sign. -/
def epsSym (neg : Bool) : FClass := if neg then .munf else .unf

/-- The table of A * B (R422): the sign is the product of the signs. -/
def mulEntry (a b : FClass) : FEntry :=
  let neg := a.isNeg != b.isNeg
  match a.mag, b.mag with
  | .nan, _ | _, .nan => .sym .nan
  | .zero, _ | _, .zero => .sym .zero
  | .inf, .eps | .eps, .inf => .sym .nan
  | .inf, _ | _, .inf => .sym (infSym neg)
  | .eps, _ | _, .eps => .sym (epsSym neg)
  | .ord, .ord => .expr

/-- The table of A / B (R423): the sign is the product of the signs. -/
def divEntry (a b : FClass) : FEntry :=
  let neg := a.isNeg != b.isNeg
  match a.mag, b.mag with
  | .nan, _ | _, .nan => .sym .nan
  | .zero, _ => .sym .zero
  | _, .zero => .sym .nan
  | .inf, .inf | .eps, .eps => .sym .nan
  | .inf, _ | .ord, .eps => .sym (infSym neg)
  | .eps, _ | .ord, .inf => .sym (epsSym neg)
  | .ord, .ord => .expr

/-! ### The computations -/

/-- `FADD` (R430): the sum at one precision. -/
def fAdd (p : Prec) (us : SW) (x y : BitVec p.bits) : Alu (BitVec p.bits × SW) :=
  match addEntry (fclass x) (fclass y) with
  | .sym c => deliverSym us true p.bits c
  | .left => deliverWord us x
  | .right => deliverWord us y
  | .expr => deliverNum us true p ((fval p x).add (fval p y))

/-- `FSUB` (R431): S1 plus the negated S2. -/
def fSub (p : Prec) (us : SW) (x y : BitVec p.bits) : Alu (BitVec p.bits × SW) := fAdd p us x (fnegWord y)
/-- `FSUBV` (R432): S2 plus the negated S1. -/
def fSubv (p : Prec) (us : SW) (x y : BitVec p.bits) : Alu (BitVec p.bits × SW) := fAdd p us y (fnegWord x)

/-- `FMULT`, `FMULTL` (R434, R435): the product of two words of precision `p`, delivered at `pd`. -/
def fMul (pd p : Prec) (us : SW) (x y : BitVec p.bits) : Alu (BitVec pd.bits × SW) :=
  match mulEntry (fclass x) (fclass y) with
  | .sym c => deliverSym us true pd.bits c
  | _ => deliverNum us true pd ((fval p x).mul (fval p y))

/-- The quotient of a word of precision `pa` by one of precision `pb`, delivered at `pd` (R437 to R440). -/
def fDiv (pd pa pb : Prec) (us : SW) (x : BitVec pa.bits) (y : BitVec pb.bits) : Alu (BitVec pd.bits × SW) :=
  match divEntry (fclass x) (fclass y) with
  | .sym c => deliverSym us true pd.bits c
  | _ => deliverNum us true pd ((fval pa x).div (fval pb y))

/-- `FDIVV`, `FDIVLV` (R438, R440): S2 divided by S1. -/
def fDivv (pd pa pb : Prec) (us : SW) (x : BitVec pa.bits) (y : BitVec pb.bits) : Alu (BitVec pd.bits × SW) :=
  fDiv pd pb pa us y x

/-- `FSC` (R442): S1 * 2^S2. -/
def fSc (p : Prec) (us : SW) (x : BitVec p.bits) (k : SW) : Alu (BitVec p.bits × SW) :=
  if (fclass x).isOrd then deliverNum us true p ((fval p x).scale k.toInt) else deliverSym us true p.bits (fclass x)

/-- `FSCV` (R443): S2 * 2^S1. -/
def fScv (p : Prec) (us : SW) (k : SW) (x : BitVec p.bits) : Alu (BitVec p.bits × SW) := fSc p us x k

/-- The rounding modifiers of `FIX` (R413). -/
inductive FixRnd where
  | fl | cl | dm | hp | us
  deriving DecidableEq, Repr

/-- `FixMode(rnd)` (R413). -/
def fixMode (us : SW) : FixRnd → BitVec 5
  | .fl => 0
  | .cl => 4
  | .dm => 1
  | .hp => 0o14
  | .us => Us.rndMode us

/-- `FIX` (R446): a special symbol is MINNUM or the NAN trap; `INT_OVFL` alone is written. -/
def fFix (rnd : FixRnd) (n : Nat) (p : Prec) (us : SW) (y : BitVec p.bits) : Alu (BitVec n × SW) :=
  match fclass y with
  | .zero => deliverInt us n 0
  | .pos | .neg => deliverInt us n (roundInt (fixMode us rnd) (fval p y))
  | _ => do
    nanMode us
    .ok (BitVec.intMin n, Us.setIntOvfl us false)

/-- `FLOAT` (R448): `FLT_NAN` is not written. -/
def fFloat {n : Nat} (p : Prec) (us : SW) (y : BitVec n) : Alu (BitVec p.bits × SW) :=
  deliverNum us false p (.ofInt y.toInt)

/-- `FTRANS` (R450). -/
def fTrans (pd p : Prec) (us : SW) (y : BitVec p.bits) : Alu (BitVec pd.bits × SW) :=
  if (fclass y).isOrd then deliverNum us true pd (fval p y) else deliverSym us true pd.bits (fclass y)

/-- `FNEG` (R452). -/
def fNeg {n : Nat} (us : SW) (y : BitVec n) : Alu (BitVec n × SW) :=
  if (fclass y).isOrd then deliverWord us (-y) else deliverSym us true n (negSym (fclass y))

/-- `FABS` (R453). -/
def fAbs {n : Nat} (us : SW) (y : BitVec n) : Alu (BitVec n × SW) :=
  if (fclass y).isOrd then deliverWord us (if y.msb then -y else y)
  else deliverSym us true n (if (fclass y).isNeg then negSym (fclass y) else fclass y)

/-- A word as the result of `FMIN` or `FMAX` (R455). -/
def deliverPick {n : Nat} (us : SW) (w : BitVec n) : Alu (BitVec n × SW) :=
  if (fclass w).isOrd then deliverWord us w else deliverSym us true n (fclass w)

/-- `FMIN` (R455). -/
def fMin {n : Nat} (us : SW) (x y : BitVec n) : Alu (BitVec n × SW) :=
  if fclass x = .nan ∨ fclass y = .nan then deliverSym us true n .nan else deliverPick us (minInt x y)

/-- `FMAX` (R456). -/
def fMax {n : Nat} (us : SW) (x y : BitVec n) : Alu (BitVec n × SW) :=
  if fclass x = .nan ∨ fclass y = .nan then deliverSym us true n .nan else deliverPick us (maxInt x y)

end Sys2Proof.Machine
end

