-- ==== Sys2Proof/Machine/LogicAlu.lean ====
section
/-! DEFINITION. Conditions (R561), flag results (R490), boolean operations (R500 to R513), shifts and rotates (R530 to
R547), and the shapes of the move instructions (R472 to R486). -/

namespace Sys2Proof.Machine

/-! ### Conditions (R561) -/

/-- `ACOND`: comparisons of signed integers. -/
inductive ACond where
  | gtr | eql | geq | lss | neq | leq
  deriving DecidableEq, Repr

/-- `LCOND`: tests of the bits of the first operand that a mask selects. -/
inductive LCond where
  | non | all | nal | any
  deriving DecidableEq, Repr

/-- `rel_c(a, b)` for an arithmetic condition (R561). -/
def ACond.rel {n : Nat} (c : ACond) (a b : BitVec n) : Bool :=
  match c with
  | .gtr => decide (b.toInt < a.toInt)
  | .eql => a == b
  | .geq => decide (b.toInt ≤ a.toInt)
  | .lss => decide (a.toInt < b.toInt)
  | .neq => a != b
  | .leq => decide (a.toInt ≤ b.toInt)

/-- `rel_c(a, m)` for a logical condition with mask `m` (R561). -/
def LCond.rel {n : Nat} (c : LCond) (a m : BitVec n) : Bool :=
  match c with
  | .non => a &&& m == 0
  | .all => ~~~a &&& m == 0
  | .nal => ~~~a &&& m != 0
  | .any => a &&& m != 0

/-- A flag word: all ones for true, all zeros for false (R490). -/
def flagWord (b : Bool) : SW := if b then BitVec.allOnes 36 else 0

/-- `CMPSF` (R492). -/
def compareFlag {n : Nat} (c : ACond) (x y : BitVec n) : SW := flagWord (c.rel x y)

/-- The bounds modifiers of `BNDSF` and `BNDTRP` that compare with a constant (R494, R592). -/
inductive BoundKind where
  | min | m1 | zero | one
  deriving DecidableEq, Repr

/-- The lower bound of a modifier at a width of `n` bits. -/
def BoundKind.lo (n : Nat) : BoundKind → Int
  | .min => -2 ^ (n - 1)
  | .m1 => -1
  | .zero => 0
  | .one => 1

/-- Is `v` between `lo` and `hi`? -/
def inBounds {n : Nat} (lo : Int) (hi v : BitVec n) : Bool := decide (lo ≤ v.toInt) && decide (v.toInt ≤ hi.toInt)

/-- `BNDSF` with a constant bound (R494): S1 is the upper bound, S2 the value. -/
def boundFlag {n : Nat} (b : BoundKind) (x y : BitVec n) : SW := flagWord (inBounds (b.lo n) x y)

/-- `BNDSF.B` (R494): S1 <= S2 <= NEXT(S1). -/
def bndsfB (p : Prec) (t : TMode) (o1 o2 : OD) : Body := fun env s => do
  let a ← s.evalTop t o1 o2
  let l ← a.s1.asLoc
  let d ← s.checkWrite a.dest .s
  let lo ← s.readLoc l p
  let v ← s.readOp a.s2 p
  let hi ← s.readLoc (l.next p) p
  .ok ((s.writeSpan .s d (flagWord (inBounds lo.toInt hi v))).setPc env.next)

/-! ### Shifts and rotates (R530 to R547) -/

/-- The direction modifier. -/
inductive ShiftDir where
  | lf | rt
  deriving DecidableEq, Repr

/-- The signed distance to the left, `k` (R530). -/
def shiftK (d : ShiftDir) (cnt : SW) : Int :=
  match d with
  | .lf => cnt.toInt
  | .rt => -cnt.toInt

/-- `shift(x, k)` (R531): zero for any distance of at least the width. -/
def shiftWord {n : Nat} (x : BitVec n) (k : Int) : BitVec n :=
  if (n : Int) ≤ k ∨ k ≤ -(n : Int) then 0
  else if 0 ≤ k then x <<< k.toNat else x >>> (-k).toNat

/-- `rot(x, k)` (R532): the count is reduced modulo the width. -/
def rotWord {n : Nat} (x : BitVec n) (k : Int) : BitVec n :=
  let r := (k % (n : Int)).toNat
  x <<< r ||| x >>> (n - r)

/-- `AShift(x, k)` (R541): the word and the overflow. No large power is formed: from a distance of the width on, every
word but zero overflows and leaves its sign followed by zeros. -/
def ashiftWord {n : Nat} (x : BitVec n) (k : Int) : BitVec n × Bool :=
  if 0 ≤ k then
    let exact : Int := if (n : Int) ≤ k then 0 else x.toInt * 2 ^ k.toNat
    let ov := if (n : Int) ≤ k then x != 0 else !fits n exact
    (if ov then setBit (BitVec.ofInt n exact) 0 x.msb else BitVec.ofInt n exact, ov)
  else (x.sshiftRight (min (-k).toNat n), false)

/-- `SHF` (R534). -/
def shf {n : Nat} (d : ShiftDir) (x : BitVec n) (cnt : SW) : BitVec n := shiftWord x (shiftK d cnt)
/-- `SHFV` (R535). -/
def shfv {n : Nat} (d : ShiftDir) (cnt : SW) (x : BitVec n) : BitVec n := shiftWord x (shiftK d cnt)
/-- `ROT` (R546). -/
def rot {n : Nat} (d : ShiftDir) (x : BitVec n) (cnt : SW) : BitVec n := rotWord x (shiftK d cnt)
/-- `ROTV` (R547). -/
def rotv {n : Nat} (d : ShiftDir) (cnt : SW) (x : BitVec n) : BitVec n := rotWord x (shiftK d cnt)

/-- `SHFA` (R542): `INT_OVFL` with the overflow step. -/
def shfa {n : Nat} (d : ShiftDir) (us : SW) (x : BitVec n) (cnt : SW) : Alu (BitVec n × SW) := do
  let r := ashiftWord x (shiftK d cnt)
  let us1 ← intOvf us r.2
  .ok (r.1, us1)
/-- `SHFAV` (R543). -/
def shfav {n : Nat} (d : ShiftDir) (us : SW) (cnt : SW) (x : BitVec n) : Alu (BitVec n × SW) := shfa d us x cnt

/-- The half of a double-width shift that is stored (R538): the high half of a left shift, the low half of a right
one. -/
def shiftHalf {n : Nat} (d : ShiftDir) (hi lo : BitVec n) (cnt : SW) : BitVec n :=
  let w := shiftWord (hi ++ lo) (shiftK d cnt)
  match d with
  | .lf => field w 0 n
  | .rt => field w n n

/-- The two halves of the pair of an immediate (R537): the constant read at twice the precision. -/
def immPair (k : ConstKind) (w : SW) : (p : Prec) → BitVec p.bits × BitVec p.bits
  | .q => (field (immValue k w .h) 0 9, field (immValue k w .h) 9 9)
  | .h => (field (immValue k w .s) 0 18, field (immValue k w .s) 18 18)
  | .s => (field (immValue k w .d) 0 36, field (immValue k w .d) 36 36)
  | .d => (0, 0)

/-- `DSHF` and `DSHFV` (R538, R539): the pair operand is `v`, the count `c`; `rev` tells that the count is S1, which is
read first. -/
def doubleShift (p : Prec) (d : ShiftDir) (rev : Bool) (t : TMode) (o1 o2 : OD) : Body := fun env s => do
  let a ← s.evalTop t o1 o2
  let v := if rev then a.s2 else a.s1
  let c := if rev then a.s1 else a.s2
  let dst ← s.checkWrite a.dest p
  match v with
  | .imm k w => do
    let cnt ← s.readOp c .s
    let pr := immPair k w p
    .ok ((s.writeSpan p dst (shiftHalf d pr.1 pr.2 cnt)).setPc env.next)
  | .loc l => do
    let cnt0 ← if rev then s.readOp c .s else .ok 0
    let hi ← s.readLoc l p
    let cnt ← if rev then .ok cnt0 else s.readOp c .s
    let lo ← s.readLoc (l.next p) p
    .ok ((s.writeSpan p dst (shiftHalf d hi lo cnt)).setPc env.next)

/-! ### Moves (R472 to R486) -/

/-- `MOV` (R472): the low-order bits, or zero-extended. -/
def movBits {n m : Nat} (y : BitVec n) : BitVec m := y.setWidth m

/-- `n` free values of `w` bits, and the state that has drawn them (R28). -/
def State.freeList (s : State) (w : Nat) : Nat → List (BitVec w) × State
  | 0 => ([], s)
  | n + 1 => let r := s.drawn.freeList w n; (s.free w :: r.1, r.2)

/-- Do two runs of storage share a location (R474)? Both consist of places of one size, aligned to it. -/
def sharePlace (a b : List Span) : Bool := a.any fun x => b.any fun y => x.fst == y.fst

/-- `MOVMQ`, `MOVMS` (R474, R475): move `n` words of precision `p`; the destination words are free values when the
regions overlap (U1). -/
def moveMany (p : Prec) (n : Nat) (o1 o2 : OD) : Body := fun env s => do
  let x1 ← s.evalOD o1
  let x2 ← s.evalOD o2
  let l1 ← x1.asLoc
  let l2 ← x2.asLoc
  boundaryCheck l1.va (p.qws * n) l1.rd
  boundaryCheck l2.va (p.qws * n) l2.rd
  let dst ← s.locateRun .write l1.ctx p n l1.va
  let src ← s.locateRun .read l2.ctx p n l2.va
  if sharePlace dst src then
    let f := s.freeList p.bits n
    .ok ((f.2.writeRun p dst f.1).setPc env.next)
  else .ok ((s.writeRun p dst (s.readRun p src)).setPc env.next)

/-- `EXCH` (R477): OP2 is stored before OP1. -/
def exchange (p : Prec) (o1 o2 : OD) : Body := fun env s => do
  let x1 ← s.evalOD o1
  let x2 ← s.evalOD o2
  let d1 ← s.checkWrite x1 p
  let d2 ← s.checkWrite x2 p
  let a ← s.readOp x1 p
  let b ← s.readOp x2 p
  .ok (((s.writeSpan p d2 a).writeSpan p d1 b).setPc env.next)

/-- `SLR.n` (R479): OP1 gets register `n`, which then gets OP2; the register is written first. -/
def saveLoadReg (n : RegNum) (o1 o2 : OD) : Body := fun env s => do
  let x1 ← s.evalOD o1
  let x2 ← s.evalOD o2
  let d ← s.checkWrite x1 .s
  let v ← s.readOp x2 .s
  .ok (((s.putReg n v).writeSpan .s d (s.reg n)).setPc env.next)

/-- `SLRADR.n` (R480): as `SLR.n` with the address of OP2. -/
def saveLoadRegAddr (n : RegNum) (o1 o2 : OD) : Body := fun env s => do
  let x1 ← s.evalOD o1
  let x2 ← s.evalOD o2
  let l ← x2.asLoc
  let d ← s.checkWrite x1 .s
  .ok (((s.putReg n l.addrWord).writeSpan .s d (s.reg n)).setPc env.next)

/-- `MOVADR` (R484): OP1 gets the address of OP2. -/
def moveAddr (o1 o2 : OD) : Body := fun env s => do
  let x1 ← s.evalOD o1
  let x2 ← s.evalOD o2
  let l ← x2.asLoc
  let d ← s.checkWrite x1 .s
  .ok ((s.writeSpan .s d l.addrWord).setPc env.next)

/-- `MOVPHY` (R486): OP1 gets the physical address of OP2; executive-only. The register overlay is bypassed and no access
is checked. -/
def movePhys (o1 o2 : OD) : Body := fun env s => do
  s.privileged env
  let x1 ← s.evalOD o1
  let x2 ← s.evalOD o2
  let l ← x2.asLoc
  let d ← s.checkWrite x1 .s
  let pa ← s.translate (s.space l.ctx) l.va
  .ok ((s.writeSpan .s d (pa.1.setWidth 36)).setPc env.next)

end Sys2Proof.Machine
end

