-- ==== Sys2Proof/Machine/Control.lean ====
section
/-! DEFINITION. The shapes of the skip, jump and routine linkage instructions (44_skip_jump.md, 45_routine_linkage.md).
-/

namespace Sys2Proof.Machine

/-! ### Skips (R570 to R573) -/

/-- `SKP` (R570): skip when the relation holds between OP1 and OP2. -/
def skipIf (p : Prec) (rel : BitVec p.bits → BitVec p.bits → Bool) (skp : BitVec 4) (o1 o2 : OD) : Body :=
  fun env s => do
    let x1 ← s.evalOD o1
    let x2 ← s.evalOD o2
    let d ← s.skipDest skp
    let a ← s.readOp x1 p
    let b ← s.readOp x2 p
    .ok (s.setPc (if rel a b then d else env.next))

/-- `IncDec(OP1, dir)` (R563): the new value and `USER_STATUS`; `CARRY` is not changed. -/
def incDec (up : Bool) (us : SW) (a : SW) : Alu (SW × SW) := do
  let r := if up then addC a 1 false else subC a 1 true
  let us1 ← intOvf us r.ov
  .ok (r.val, us1)

/-- `ISKP`, `DSKP` (R572, R573): OP2 is read before OP1 is stored (R564). -/
def countSkip (up : Bool) (c : ACond) (skp : BitVec 4) (o1 o2 : OD) : Body := fun env s => do
  let x1 ← s.evalOD o1
  let x2 ← s.evalOD o2
  let d ← s.skipDest skp
  let w ← s.checkWrite x1 .s
  let a ← s.readOp x1 .s
  let b ← s.readOp x2 .s
  let r ← liftAlu ⟨x1.softDest, .ofValue .s a, .ofValue .s b, env.w0, env.next⟩ (incDec up s.us a)
  .ok (((s.writeSpan .s w r.1).setUs r.2).setPc (if c.rel r.1 b then d else env.next))

/-! ### Jumps (R576 to R588) -/

/-- `JMP` (R576): compare OP1 with NEXT(OP1). -/
def jumpIfNext (c : ACond) (o1 : OD) (j : JDest) : Body := fun env s => do
  let x1 ← s.evalOD o1
  let d ← s.jumpDest j
  let l ← x1.asLoc
  let a ← s.readOp x1 .s
  let b ← s.readLoc (l.next .s) .s
  .ok (s.setPc (if c.rel a b then d else env.next))

/-- `JMPZ` (R577): compare OP1 with zero at precision `p`. -/
def jumpIfZero (p : Prec) (c : ACond) (o1 : OD) (j : JDest) : Body := fun env s => do
  let x1 ← s.evalOD o1
  let d ← s.jumpDest j
  let a ← s.readOp x1 p
  .ok (s.setPc (if c.rel a 0 then d else env.next))

/-- `JMPA` (R578): OD1 is unused. -/
def jumpAlways (o1 : OD) (j : JDest) : Body := fun _ s => do
  checkUnused o1
  let d ← s.jumpDest j
  .ok (s.setPc d)

/-- The soft-trap words of an increment or decrement and jump: DEST and S1 are OP1, S2 is absent (R907). -/
def softCount (env : Env) (x1 : Operand) (a : SW) : SoftInfo :=
  ⟨x1.softDest, .ofValue .s a, .absent, env.w0, env.next⟩

/-- `IJMP`, `DJMP` (R582, R586): compare the new OP1 with NEXT(OP1), which is read before the store (R564). -/
def countJumpNext (up : Bool) (c : ACond) (o1 : OD) (j : JDest) : Body := fun env s => do
  let x1 ← s.evalOD o1
  let d ← s.jumpDest j
  let w ← s.checkWrite x1 .s
  let l ← x1.asLoc
  let a ← s.readOp x1 .s
  let b ← s.readLoc (l.next .s) .s
  let r ← liftAlu (softCount env x1 a) (incDec up s.us a)
  .ok (((s.writeSpan .s w r.1).setUs r.2).setPc (if c.rel r.1 b then d else env.next))

/-- `IJMPZ`, `DJMPZ`, `IJMPA`, `DJMPA` (R583, R584, R587, R588): jump when `cond` holds of the new OP1. -/
def countJump (up : Bool) (cond : SW → Bool) (o1 : OD) (j : JDest) : Body := fun env s => do
  let x1 ← s.evalOD o1
  let d ← s.jumpDest j
  let w ← s.checkWrite x1 .s
  let a ← s.readOp x1 .s
  let r ← liftAlu (softCount env x1 a) (incDec up s.us a)
  .ok (((s.writeSpan .s w r.1).setUs r.2).setPc (if cond r.1 then d else env.next))

/-! ### Bounds trap and patch jump (R592, R596) -/

/-- The soft-trap words of a bounds check: no DEST, S1 is OP1, S2 is OP2 (R907). -/
def softBound (env : Env) (p : Prec) (a b : BitVec p.bits) : SoftInfo :=
  ⟨none, .ofValue p a, .ofValue p b, env.w0, env.next⟩

/-- `BNDTRP` with a constant bound (R592): trap unless the constant <= OP2 <= OP1. -/
def boundTrap (p : Prec) (b : BoundKind) (o1 o2 : OD) : Body := fun env s => do
  let x1 ← s.evalOD o1
  let x2 ← s.evalOD o2
  let hi ← s.readOp x1 p
  let v ← s.readOp x2 p
  if inBounds (b.lo p.bits) hi v then .ok (s.setPc env.next)
  else .error (.soft .bndChk (softBound env p hi v))

/-- `BNDTRP.B` (R592): trap unless OP1 <= OP2 <= NEXT(OP1). -/
def boundTrapB (p : Prec) (o1 o2 : OD) : Body := fun env s => do
  let x1 ← s.evalOD o1
  let x2 ← s.evalOD o2
  let l ← x1.asLoc
  let lo ← s.readLoc l p
  let v ← s.readOp x2 p
  let hi ← s.readLoc (l.next p) p
  if inBounds lo.toInt hi v then .ok (s.setPc env.next)
  else .error (.soft .bndChk (softBound env p lo v))

/-- `JPATCH` (R596). -/
def jumpPatch (disp : BitVec 24) : Body := fun _ s => do
  let d ← s.hopDest disp
  .ok (s.setPc d)

/-! ### Calls (R620 to R628) -/

/-- `JSR` (R620): push OP1 and the return word, then jump. -/
def jumpSub (o1 : OD) (j : JDest) : Body := fun env s => do
  let x1 ← s.evalOD o1
  let d ← s.jumpDest j
  let a ← s.readOp x1 .s
  let s1 ← s.pushWords [a, pcWord env.next]
  .ok (s1.setPc d)

/-- `JCR` (R624): exchange OP1 and OP2, and the PC with NEXT(OP2); OP2 is stored first, then NEXT(OP2), then OP1. -/
def jumpCoroutine (o1 o2 : OD) : Body := fun env s => do
  let x1 ← s.evalOD o1
  let x2 ← s.evalOD o2
  let l2 ← x2.asLoc
  let d1 ← s.checkWrite x1 .s
  let d2 ← s.checkWriteLoc l2 .s
  let dn ← s.checkWriteLoc (l2.next .s) .s
  let a ← s.readOp x1 .s
  let b ← s.readLoc l2 .s
  let t ← s.readLoc (l2.next .s) .s
  checkPC (addrOfWord t)
  .ok ((((s.writeSpan .s d2 a).writeSpan .s dn (pcWord env.next)).writeSpan .s d1 b).setPc (addrOfWord t))

/-- `ALLOC.n` (R628): copy `n` single-words to the stack and add OP2 to SP; the copied words are free values when the
regions overlap (U2). -/
def allocStack (n : Nat) (o1 o2 : OD) : Body := fun env s => do
  let x1 ← s.evalOD o1
  let x2 ← s.evalOD o2
  let l ← x1.asLoc
  boundaryCheck l.va (4 * n) l.rd
  let b ← s.readOp x2 .s
  let new := s.sp + b
  s.stackCheck new
  let dst ← s.locateRun .write .cur .s n (addrOfWord s.sp)
  let src ← s.locateRun .read l.ctx .s n l.va
  if sharePlace dst src then
    let f := s.freeList 36 n
    .ok (((f.2.writeRun .s dst f.1).putReg (Us.spId s.us) new).setPc env.next)
  else .ok (((s.writeRun .s dst (s.readRun .s src)).putReg (Us.spId s.us) new).setPc env.next)

/-! ### Returns (R632 to R640) -/

/-- `RETSR` (R634): SP is written before OP1. -/
def returnSub (o1 o2 : OD) : Body := fun _ s => do
  let x1 ← s.evalOD o1
  let x2 ← s.evalOD o2
  let l ← x2.asLoc
  let d ← s.checkWrite x1 .s
  let v ← s.wordBelow l 8
  let ret ← s.wordBelow l 4
  checkPC (addrOfWord ret)
  .ok ((s.returnTo (poppedSp l 8 0) none none s.pc).writeSpan .s d v |>.setPc (addrOfWord ret))

/-- `RET` (R636). -/
def returnPop (o1 o2 : OD) : Body := fun _ s => do
  let x1 ← s.evalOD o1
  let x2 ← s.evalOD o2
  let l ← x2.asLoc
  let k ← s.readOp x1 .s
  let ret ← s.wordBelow l 4
  checkPC (addrOfWord ret)
  .ok (s.returnTo (poppedSp l 4 k) none none (addrOfWord ret))

/-- `RETUS` (R638): the whole `USER_STATUS` is loaded. -/
def returnUser (o1 o2 : OD) : Body := fun _ s => do
  let x1 ← s.evalOD o1
  let x2 ← s.evalOD o2
  let l ← x2.asLoc
  let k ← s.readOp x1 .s
  let us ← s.wordBelow l 8
  let ret ← s.wordBelow l 4
  checkPC (addrOfWord ret)
  checkUS us
  .ok (s.returnTo (poppedSp l 8 k) (some us) none (addrOfWord ret))

/-- `RETFS` (R640): both status words are loaded whole; executive-only. -/
def returnFull (o1 o2 : OD) : Body := fun env s => do
  s.privileged env
  let x1 ← s.evalOD o1
  let x2 ← s.evalOD o2
  let l ← x2.asLoc
  let k ← s.readOp x1 .s
  let us ← s.wordBelow l 12
  let ps ← s.wordBelow l 8
  let ret ← s.wordBelow l 4
  checkPC (addrOfWord ret)
  checkUS us
  .ok (s.returnTo (poppedSp l 12 k) (some us) (some ps) (addrOfWord ret))

/-! ### Programmed traps (R644 to R652) -/

/-- `TrapParm` (R648): the two words a descriptor delivers under a TMODE; `none` is `UNDEFINED(36)`. With TMODE 0, 1 and 2
the descriptor is data and is not evaluated. DESIGN CHOICE (log 29), unsafe: TMODE 7 delivers a double-word, as R646 to R648
say, where the row V15 of 93_implementation_defined.md makes it fatal 5; fatal 5 is for a TMODE outside 0 to 7. -/
def State.trapParm (s : State) (tm : BitVec 9) (od : OD) (exe : Bool) : M SoftWords :=
  let bits := encodeOD od
  match tm.toNat with
  | 0 => if bits.1 = 0 then .ok SoftWords.absent else .error (.fatal .unusedOd)
  | 1 => .ok (some (bits.1.setWidth 36), none)
  | 2 => .ok (some (bits.1.setWidth 36), bits.2)
  | 3 => do
    let x ← s.evalOD od
    let l ← x.asLoc
    .ok (some (if exe then setBit l.addrWord 0 true else l.addrWord), none)
  | 4 => do
    let x ← s.evalOD od
    let v ← s.readOp x .q
    .ok (.ofValue .q v)
  | 5 => do
    let x ← s.evalOD od
    let v ← s.readOp x .h
    .ok (.ofValue .h v)
  | 6 => do
    let x ← s.evalOD od
    let v ← s.readOp x .s
    .ok (.ofValue .s v)
  | 7 => do
    let x ← s.evalOD od
    let v ← s.readOp x .d
    .ok (.ofValue .d v)
  | _ => .error (.fatal .trapDescriptor)

/-- `TRPSLF.n` (R650): the vector is read in the current context, no status word changes, and the save area goes on the
current stack. -/
def trapSelf (n : Nat) (o1 o2 : OD) : Body := fun env s => do
  let va := trpslfVecAddr n
  let h ← s.memRead .cur va .s
  let d ← s.memRead .cur (vaAdd va 4) .s
  fatalIf (field d 0 18 != 0) .trapDescriptor
  let p1 ← s.trapParm (field d 27 9) o1 false
  let p2 ← s.trapParm (field d 18 9) o2 false
  checkPC (addrOfWord h)
  let ws := s.fillUndefined [p1.1, p1.2, p2.1, p2.2, some (pcWord s.pc), some (pcWord env.next)]
  let s1 ← ws.2.pushWords ws.1
  .ok (s1.setPc (addrOfWord h))

/-- `TRPEXE.n` (R652): the vector is read in the executive space; the status words are loaded, the save area goes on the
stack they name, and a fault of that push is a nested hard trap (R930). DEDUCED (log 30), unsafe: the words of the vector stand
as in R652 and R887 (handler, descriptor, `USER_STATUS`, `PROC_STATUS`); D4 of 92_eei_decisions.md alone has the descriptor last,
and 90_conflicts.md prefers what several places agree on. -/
def trapExec (n : Nat) (o1 o2 : OD) : Body := fun env s => do
  let va := trpexeVecAddr n
  let h ← s.vecRead va
  let d ← s.vecRead (vaAdd va 4)
  let nus ← s.vecRead (vaAdd va 8)
  let nps ← s.vecRead (vaAdd va 12)
  fatalIf (field d 0 18 != 0) .trapDescriptor
  let p1 ← s.trapParm (field d 27 9) o1 true
  let p2 ← s.trapParm (field d 18 9) o2 true
  checkPC (addrOfWord h)
  checkUS nus
  let ws := s.fillUndefined
    [p1.1, p1.2, p2.1, p2.2, some (pcWord s.pc), some s.us, some s.ps, some (pcWord env.next)]
  match ws.2.loadAndPush h nus nps ws.1 with
  | .ok s1 => .ok s1
  | .error (.fault f) => .error (.fault f)
  | .error (.refuse r) => .error (.refuse r)
  | .error _ => .error (.nested va)

end Sys2Proof.Machine
end

