-- ==== Sys2Proof/Machine/StackAlu.lean ====
section
/-! DEFINITION. The shapes of the stack, byte and bit instructions (46_stack_byte_bit.md). -/

namespace Sys2Proof.Machine

/-! ### Stacks (R660 to R670) -/

/-- The direction a stack grows (R660). -/
inductive StackDir where
  | up | dn
  deriving DecidableEq, Repr

/-- The location of a stack item: the low-order 30 bits of the pointer, in the context of the pair (R661). -/
def itemLoc (l : Loc) (ptr : SW) : Loc := ⟨l.ctx, addrOfWord ptr, false⟩

/-- The size of an item as a word. -/
def itemSize (p : Prec) : SW := BitVec.ofNat 36 p.qws

/-- The overflow check of an explicit stack (R661): `STK_OVFL_VEC` with the new pointer as its parameter. -/
def growCheck (d : StackDir) (new limit : SW) : M Unit :=
  match d with
  | .up => if limit.toInt < new.toInt then .error (.hard .stkOvfl new) else .ok ()
  | .dn => if new.toInt < limit.toInt then .error (.hard .stkOvfl new) else .ok ()

/-- `ADJSP` (R666). -/
def adjustStack (d : StackDir) (o1 o2 : OD) : Body := fun env s => do
  let x1 ← s.evalOD o1
  let x2 ← s.evalOD o2
  let l ← x1.asLoc
  match d with
  | .up => do
    let w ← s.checkWriteLoc l .s
    let ptr ← s.readLoc l .s
    let k ← s.readOp x2 .s
    let limit ← s.readLoc (l.next .s) .s
    growCheck .up (ptr + k) limit
    .ok ((s.writeSpan .s w (ptr + k)).setPc env.next)
  | .dn => do
    let w ← s.checkWriteLoc (l.next .s) .s
    let limit ← s.readLoc l .s
    let k ← s.readOp x2 .s
    let ptr ← s.readLoc (l.next .s) .s
    growCheck .dn (ptr - k) limit
    .ok ((s.writeSpan .s w (ptr - k)).setPc env.next)

/-- `PUSH` (R668): OP2 is read before the pair; the item is stored before the pointer. -/
def pushItem (d : StackDir) (p : Prec) (o1 o2 : OD) : Body := fun env s => do
  let x1 ← s.evalOD o1
  let x2 ← s.evalOD o2
  let l ← x1.asLoc
  let v ← s.readOp x2 p
  let a ← s.readLoc l .s
  let b ← s.readLoc (l.next .s) .s
  match d with
  | .up => do
    growCheck .up (a + itemSize p) b
    let w ← s.checkWriteLoc l .s
    let i ← s.checkWriteLoc (itemLoc l a) p
    .ok (((s.writeSpan p i v).writeSpan .s w (a + itemSize p)).setPc env.next)
  | .dn => do
    growCheck .dn (b - itemSize p) a
    let w ← s.checkWriteLoc (l.next .s) .s
    let i ← s.checkWriteLoc (itemLoc l (b - itemSize p)) p
    .ok (((s.writeSpan p i v).writeSpan .s w (b - itemSize p)).setPc env.next)

/-- `POP` (R670): OP2 is stored before the pointer. The pair must not pass register 31, although an upward stack does
not read its limit (R661). -/
def popItem (d : StackDir) (p : Prec) (o1 o2 : OD) : Body := fun env s => do
  let x1 ← s.evalOD o1
  let x2 ← s.evalOD o2
  let l ← x1.asLoc
  boundaryCheck l.va 8 l.rd
  let o ← s.checkWrite x2 p
  match d with
  | .up => do
    let ptr ← s.readLoc l .s
    let v ← s.readLoc (itemLoc l (ptr - itemSize p)) p
    let w ← s.checkWriteLoc l .s
    .ok (((s.writeSpan p o v).writeSpan .s w (ptr - itemSize p)).setPc env.next)
  | .dn => do
    let ptr ← s.readLoc (l.next .s) .s
    let v ← s.readLoc (itemLoc l ptr) p
    let w ← s.checkWriteLoc (l.next .s) .s
    .ok (((s.writeSpan p o v).writeSpan .s w (ptr + itemSize p)).setPc env.next)

/-! ### Bytes (R680 to R694) -/

/-- The position and length of a byte (R680). -/
structure ByteField where
  pos : Nat
  len : Nat
  deriving DecidableEq, Repr

/-- `Selector(sel, p)` (R681): a byte that passes the end of the word is fatal 14. -/
def selector (sel : SW) (p : Prec) : M ByteField :=
  let f : ByteField := ⟨(field sel 0 18).toNat, (field sel 18 18).toNat⟩
  if p.bits < f.pos + f.len then .error (.fatal .bytePointer) else .ok f

/-- A word whose low-order `len` bits are ones. -/
def lowMask (n len : Nat) : BitVec n := BitVec.ofNat n (2 ^ len - 1)

/-- `LoadU` (R682): the byte, zero-extended. -/
def loadByte {n : Nat} (w : BitVec n) (f : ByteField) : BitVec n := (w >>> (n - f.pos - f.len)) &&& lowMask n f.len

/-- `LoadS` (R682): the byte, sign-extended; zero for an empty byte. -/
def loadSignedByte {n : Nat} (w : BitVec n) (f : ByteField) : BitVec n :=
  if f.len = 0 then 0
  else if bitAt w f.pos then loadByte w f ||| ~~~lowMask n f.len else loadByte w f

/-- `Deposit` (R682): the low-order bits of `b` in the place of the byte. -/
def depositByte {n : Nat} (w : BitVec n) (f : ByteField) (b : BitVec n) : BitVec n :=
  let sh := n - f.pos - f.len
  (w &&& ~~~(lowMask n f.len <<< sh)) ||| ((b &&& lowMask n f.len) <<< sh)

/-- `ByteLoc(opd, p)` (R681): the word that contains the byte, and the byte's place in it. -/
def State.byteLoc (s : State) (x : Operand) (p : Prec) : M (Loc × ByteField) := do
  let bp ← s.readOp x .d
  let f ← selector (field bp 36 36) p
  let l ← s.iapLoc x.ctx (field bp 0 36)
  .ok (l, f)

/-- `LBYT`, `LSBYT` (R686, R688). -/
def loadByteOf (p : Prec) (op : BitVec p.bits → ByteField → BitVec p.bits) (o1 o2 : OD) : Body := fun env s => do
  let x1 ← s.evalOD o1
  let x2 ← s.evalOD o2
  let d ← s.checkWrite x1 p
  let b ← s.byteLoc x2 p
  let w ← s.readLoc b.1 p
  .ok ((s.writeSpan p d (op w b.2)).setPc env.next)

/-- `LIBYT`, `LISBYT` (R687, R689): S2 is the selector. -/
def loadImmByte (p : Prec) (op : BitVec p.bits → ByteField → BitVec p.bits) (x : BitVec p.bits) (sel : SW) :
    M (BitVec p.bits) := do
  let f ← selector sel p
  .ok (op x f)

/-- `DBYT` (R691): OP1 is the byte pointer, OP2 the byte; both are read before the containing word is checked. -/
def depositByteIn (p : Prec) (o1 o2 : OD) : Body := fun env s => do
  let x1 ← s.evalOD o1
  let x2 ← s.evalOD o2
  let bp ← s.readOp x1 .d
  let v ← s.readOp x2 p
  let f ← selector (field bp 36 36) p
  let l ← s.iapLoc x1.ctx (field bp 0 36)
  let d ← s.checkWriteLoc l p
  let w ← s.readLoc l p
  .ok ((s.writeSpan p d (depositByte w f v)).setPc env.next)

/-- `DIBYT` (R692): DEST is read after the selector is checked. -/
def depositImmByte (p : Prec) (t : TMode) (o1 o2 : OD) : Body := fun env s => do
  let a ← s.evalTop t o1 o2
  let d ← s.checkWrite a.dest p
  let x ← s.readOp a.s1 p
  let sel ← s.readOp a.s2 .s
  let f ← selector sel p
  let w ← s.readOp a.dest p
  .ok ((s.writeSpan p d (depositByte w f x)).setPc env.next)

/-- `ADJBP` (R694): bytes of length L lie in every word at positions f, f + L, ...; the pointer moves by `cnt` of
them. -/
def adjustPointer (p : Prec) (bp : DW) (cnt : SW) : M DW := do
  let f ← selector (field bp 36 36) p
  if f.len = 0 ∨ cnt = 0 then .ok bp
  else
    let first := f.pos % f.len
    let perWord := (p.bits - first) / f.len
    let j : Int := ((f.pos - first) / f.len : Nat) + cnt.toInt
    let dw := j.fdiv perWord
    let k := j.fmod perWord
    let addr : BitVec 30 := field bp 6 30 + BitVec.ofInt 30 (p.qws * dw)
    .ok (field bp 0 6 ++ addr ++ BitVec.ofNat 18 (first + k.toNat * f.len) ++ BitVec.ofNat 18 f.len)

/-! ### Bits (R700 to R709) -/

/-- `ReverseBits(x, n)` (R700): the low `n` bits of `x` in reverse order, zero-extended. -/
def reverseBits {w : Nat} (x : BitVec w) (n : Nat) : BitVec w := x.reverse >>> (w - n)

/-- `BITRV` (R702): a count outside 0..bits is a fatal trap without a number. -/
def bitrv {w : Nat} (x : BitVec w) (cnt : SW) : M (BitVec w) :=
  if cnt.toInt < 0 ∨ (w : Int) < cnt.toInt then .error (.fatal .other) else .ok (reverseBits x cnt.toNat)

/-- `BITRVV` (R703). -/
def bitrvv {w : Nat} (cnt : SW) (x : BitVec w) : M (BitVec w) := bitrv x cnt

/-- `ExtractBits(x, m)` (R700): the bits of `x` that `m` selects, in order, right-justified. -/
def extractBits {w : Nat} (x m : BitVec w) : BitVec w :=
  (List.range w).foldl (fun z i => if bitAt m i then (z <<< 1) ||| (BitVec.ofBool (bitAt x i)).setWidth w else z) 0

/-- `CountOnes` (R708). -/
def countOnes {w : Nat} (x : BitVec w) : SW := BitVec.ofNat 36 ((List.range w).countP fun i => bitAt x i)

/-- `FirstOne` (R709): minus one if there is no one bit. -/
def firstOneBit {w : Nat} (x : BitVec w) : SW :=
  match (List.range w).find? fun i => bitAt x i with
  | some i => BitVec.ofNat 36 i
  | none => BitVec.allOnes 36

end Sys2Proof.Machine
end

