-- ==== Sys2Proof/Machine/BlockAlu.lean ====
section
/-! DEFINITION. The shapes of the block and status instructions (47_block_status.md). -/

namespace Sys2Proof.Machine

/-! ### Blocks (R720 to R722) -/

/-- The signed quarter-word count in the register `cnt` (R721), zero for an empty block. -/
def State.count (s : State) (cnt : RegNum) : Nat := (s.reg cnt).toInt.toNat

/-- Quarter-word `i` of an immediate source block (R722). -/
def immQuarter (w : SW) (i : Nat) : QW := field w (9 * i) 9

/-- `SrcQW` of R722 for the first `n` quarter-words of a source block. -/
def State.sourceBlock (s : State) (acc : Access) (x : Operand) (n : Nat) : M (List QW) :=
  match x with
  | .imm _ w => if 4 < n then .error (.fatal .immediate) else .ok ((List.range n).map (immQuarter w))
  | .loc l => do
    boundaryCheck l.va n l.rd
    let sps ← s.locateRun acc l.ctx .q n l.va
    .ok (s.readRun .q sps)

/-- The storage of the `n` quarter-words of a destination block with every check of its writes (R722). -/
def State.destBlock (s : State) (acc : Access) (x : Operand) (n : Nat) : M (List Span) := do
  let l ← x.asLoc
  boundaryCheck l.va n l.rd
  s.locateRun acc l.ctx .q n l.va

/-- Quarter-word `i` of a source block of `n` (R722). -/
def State.srcQuarter (s : State) (x : Operand) (n i : Nat) : M QW :=
  match x with
  | .imm _ w => if 4 < n then .error (.fatal .immediate) else .ok (immQuarter w i)
  | .loc l => do
    boundaryCheck l.va n l.rd
    s.memRead l.ctx (vaAdd l.va i) .q

/-- The comparison of `STRCMP` from element `i` on, with `k` elements to go (R726): elements after the first difference are
not read. -/
def State.compareFrom (s : State) (x y : Operand) (n : Nat) : (k : Nat) → (i : Nat) → M SW
  | 0, _ => .ok 0
  | k + 1, i => do
    let a ← s.srcQuarter x n i
    let b ← s.srcQuarter y n i
    if a.toInt = b.toInt then s.compareFrom x y n k (i + 1)
    else .ok (BitVec.ofBool (decide (a.toInt < b.toInt)) ++ BitVec.ofNat 35 (i + 1))

/-- `STRCMP` (R726): the result goes to the count register. -/
def stringCompare (cnt : RegNum) (o1 o2 : OD) : Body := fun env s => do
  let x1 ← s.evalOD o1
  let x2 ← s.evalOD o2
  let n := s.count cnt
  let r ← s.compareFrom x1 x2 n n 0
  .ok ((s.putReg cnt r).setPc env.next)

/-- `BLKMOV`, `BLKID`, `BLKDI` (R730, R736, R738): all source elements are read and all destination writes checked before
any is made. -/
def blockMove (src dst : Access) (cnt : RegNum) (o1 o2 : OD) : Body := fun env s => do
  let x1 ← s.evalOD o1
  let x2 ← s.evalOD o2
  let l ← x1.asLoc
  let n := s.count cnt
  let vs ← s.sourceBlock src x2 n
  let ds ← s.destBlock dst (.loc l) n
  .ok ((s.writeRun .q ds vs).setPc env.next)

/-- `BLKINI` (R733): a count that is no multiple of the precision, or a block not aligned to it, is fatal 15. -/
def blockInit (cnt : RegNum) (p : Prec) (o1 o2 : OD) : Body := fun env s => do
  let x1 ← s.evalOD o1
  let x2 ← s.evalOD o2
  let n := s.count cnt
  fatalIf (n % p.qws != 0) .blockAlignment
  let l ← x1.asLoc
  fatalIf (!aligned p l.va) .blockAlignment
  let v ← s.readOp x2 p
  boundaryCheck l.va n l.rd
  let ds ← s.locateRun .write l.ctx p (n / p.qws) l.va
  .ok ((s.writeRun p ds (List.replicate (n / p.qws) v)).setPc env.next)

/-! ### Status words (R750 to R782) -/

/-- An instruction `{S,W}` that stores a word of the state in OP1 (R752, R762, R765, R770, R777, R779, R782); `priv` tells
that it is executive-only. -/
def storeStatus (priv : Bool) (f : State → SW) (o1 o2 : OD) : Body := fun env s => do
  if priv then s.privileged env
  checkUnused o2
  let x1 ← s.evalOD o1
  let d ← s.checkWrite x1 .s
  .ok ((s.writeSpan .s d (f s)).setPc env.next)

/-- An instruction `{S,R}` that changes a status word according to OP1. -/
def loadStatus (priv : Bool) (f : SW → State → M State) (o1 o2 : OD) : Body := fun env s => do
  if priv then s.privileged env
  checkUnused o2
  let x1 ← s.evalOD o1
  let v ← s.readOp x1 .s
  let s1 ← f v s
  .ok (s1.setPc env.next)

/-- Load `USER_STATUS` after `CheckUS` (R751). -/
def State.loadUs (s : State) (w : SW) : M State := do
  checkUS w
  .ok (s.setUs w)

/-- `SETUS` (R758). -/
def setUserBits (v : SW) (s : State) : M State := s.loadUs (s.us ||| v)
/-- `CLRUS` (R759). -/
def clearUserBits (v : SW) (s : State) : M State := s.loadUs (s.us &&& ~~~v)

/-- `WSPID` (R763): outside 0..31 the number is a free value, and a free value that is no legal `SP_ID` traps like any
other. -/
def writeSpId (v : SW) (s : State) : M State :=
  if 0 ≤ v.toInt ∧ v.toInt ≤ 31 then
    let r : RegNum := v.setWidth 5
    if r = 3 ∨ r = 31 then .error (.fatal .other) else .ok (s.setUs (Us.setSpId s.us r))
  else
    let r := s.free 5
    if r = 3 ∨ r = 31 then .error (.drawnFatal .other) else .ok (s.drawn.setUs (Us.setSpId s.us r))

/-- `WRNDMD` (R766): outside 0..31 the mode is a free value. -/
def writeRndMode (v : SW) (s : State) : M State :=
  if 0 ≤ v.toInt ∧ v.toInt ≤ 31 then .ok (s.setUs (Us.setRndMode s.us (v.setWidth 5)))
  else .ok (s.drawn.setUs (Us.setRndMode s.us (s.free 5)))

/-- `WCFILE`, `WPFILE` (R778, R780): outside 0..15 the file is a free value. -/
def writeFile (set : SW → FileNum → SW) (v : SW) (s : State) : M State :=
  if 0 ≤ v.toInt ∧ v.toInt ≤ 15 then .ok (s.setPs (set s.ps (v.setWidth 4)))
  else .ok (s.drawn.setPs (set s.ps (s.free 4)))

/-- `JUS` (R753): OP1 is the mask, `USER_STATUS` the word tested. -/
def jumpUs (c : LCond) (o1 : OD) (j : JDest) : Body := fun env s => do
  let x1 ← s.evalOD o1
  let d ← s.jumpDest j
  let m ← s.readOp x1 .s
  .ok (s.setPc (if c.rel s.us m then d else env.next))

/-- `JUSCLR` (R754): the test is of the value before clearing. -/
def jumpUsClear (c : LCond) (o1 : OD) (j : JDest) : Body := fun env s => do
  let x1 ← s.evalOD o1
  let d ← s.jumpDest j
  let m ← s.readOp x1 .s
  let s1 ← s.loadUs (s.us &&& ~~~m)
  .ok (s1.setPc (if c.rel s.us m then d else env.next))

/-- `WUSJMP` (R756). -/
def writeUsJump (o1 : OD) (j : JDest) : Body := fun _ s => do
  let x1 ← s.evalOD o1
  let d ← s.jumpDest j
  let w ← s.readOp x1 .s
  let s1 ← s.loadUs w
  .ok (s1.setPc d)

/-- `WFSJMP` (R774): both status words are loaded whole; executive-only. -/
def writeFullJump (o1 : OD) (j : JDest) : Body := fun env s => do
  s.privileged env
  let x1 ← s.evalOD o1
  let d ← s.jumpDest j
  let l ← x1.asLoc
  let us ← s.readLoc l .s
  let ps ← s.readLoc (l.next .s) .s
  let s1 ← s.loadUs us
  .ok ((s1.setPs ps).setPc d)

end Sys2Proof.Machine
end

