-- ==== Sys2Proof/Machine/BlockStatus.lean ====
section
/-! DEFINITION. The block and status instructions (47_block_status.md). -/

namespace Sys2Proof.Machine

/-! ### `STRCMP` (R726): compare strings -/

/-- `STRCMP.RTA` (R726). -/
def bodyStrcmpRta (o1 o2 : OD) : Body :=
  stringCompare 4 o1 o2
/-- `STRCMP.RTA` executed at the PC. -/
def execStrcmpRta (o1 o2 : OD) (s : State) : Res :=
  runInstr (.xop 490 o1 o2) (bodyStrcmpRta o1 o2) s

/-- `STRCMP.RTB` (R726). -/
def bodyStrcmpRtb (o1 o2 : OD) : Body :=
  stringCompare 6 o1 o2
/-- `STRCMP.RTB` executed at the PC. -/
def execStrcmpRtb (o1 o2 : OD) (s : State) : Res :=
  runInstr (.xop 491 o1 o2) (bodyStrcmpRtb o1 o2) s

/-! ### `BLKMOV` (R730): move a block -/

/-- `BLKMOV.RTA` (R730). -/
def bodyBlkmovRta (o1 o2 : OD) : Body :=
  blockMove .read .write 4 o1 o2
/-- `BLKMOV.RTA` executed at the PC. -/
def execBlkmovRta (o1 o2 : OD) (s : State) : Res :=
  runInstr (.xop 492 o1 o2) (bodyBlkmovRta o1 o2) s

/-- `BLKMOV.RTB` (R730). -/
def bodyBlkmovRtb (o1 o2 : OD) : Body :=
  blockMove .read .write 6 o1 o2
/-- `BLKMOV.RTB` executed at the PC. -/
def execBlkmovRtb (o1 o2 : OD) (s : State) : Res :=
  runInstr (.xop 493 o1 o2) (bodyBlkmovRtb o1 o2) s

/-! ### `BLKINI` (R733): initialize a block -/

/-- `BLKINI.RTA.Q` (R733). -/
def bodyBlkiniRtaQ (o1 o2 : OD) : Body :=
  blockInit 4 .q o1 o2
/-- `BLKINI.RTA.Q` executed at the PC. -/
def execBlkiniRtaQ (o1 o2 : OD) (s : State) : Res :=
  runInstr (.xop 494 o1 o2) (bodyBlkiniRtaQ o1 o2) s

/-- `BLKINI.RTA.H` (R733). -/
def bodyBlkiniRtaH (o1 o2 : OD) : Body :=
  blockInit 4 .h o1 o2
/-- `BLKINI.RTA.H` executed at the PC. -/
def execBlkiniRtaH (o1 o2 : OD) (s : State) : Res :=
  runInstr (.xop 495 o1 o2) (bodyBlkiniRtaH o1 o2) s

/-- `BLKINI.RTA.S` (R733). -/
def bodyBlkiniRtaS (o1 o2 : OD) : Body :=
  blockInit 4 .s o1 o2
/-- `BLKINI.RTA.S` executed at the PC. -/
def execBlkiniRtaS (o1 o2 : OD) (s : State) : Res :=
  runInstr (.xop 496 o1 o2) (bodyBlkiniRtaS o1 o2) s

/-- `BLKINI.RTA.D` (R733). -/
def bodyBlkiniRtaD (o1 o2 : OD) : Body :=
  blockInit 4 .d o1 o2
/-- `BLKINI.RTA.D` executed at the PC. -/
def execBlkiniRtaD (o1 o2 : OD) (s : State) : Res :=
  runInstr (.xop 497 o1 o2) (bodyBlkiniRtaD o1 o2) s

/-- `BLKINI.RTB.Q` (R733). -/
def bodyBlkiniRtbQ (o1 o2 : OD) : Body :=
  blockInit 6 .q o1 o2
/-- `BLKINI.RTB.Q` executed at the PC. -/
def execBlkiniRtbQ (o1 o2 : OD) (s : State) : Res :=
  runInstr (.xop 498 o1 o2) (bodyBlkiniRtbQ o1 o2) s

/-- `BLKINI.RTB.H` (R733). -/
def bodyBlkiniRtbH (o1 o2 : OD) : Body :=
  blockInit 6 .h o1 o2
/-- `BLKINI.RTB.H` executed at the PC. -/
def execBlkiniRtbH (o1 o2 : OD) (s : State) : Res :=
  runInstr (.xop 499 o1 o2) (bodyBlkiniRtbH o1 o2) s

/-- `BLKINI.RTB.S` (R733). -/
def bodyBlkiniRtbS (o1 o2 : OD) : Body :=
  blockInit 6 .s o1 o2
/-- `BLKINI.RTB.S` executed at the PC. -/
def execBlkiniRtbS (o1 o2 : OD) (s : State) : Res :=
  runInstr (.xop 500 o1 o2) (bodyBlkiniRtbS o1 o2) s

/-- `BLKINI.RTB.D` (R733). -/
def bodyBlkiniRtbD (o1 o2 : OD) : Body :=
  blockInit 6 .d o1 o2
/-- `BLKINI.RTB.D` executed at the PC. -/
def execBlkiniRtbD (o1 o2 : OD) (s : State) : Res :=
  runInstr (.xop 501 o1 o2) (bodyBlkiniRtbD o1 o2) s

/-! ### `BLKID` (R736): move a block from an instruction page -/

/-- `BLKID.RTA` (R736). -/
def bodyBlkidRta (o1 o2 : OD) : Body :=
  blockMove .codeRead .write 4 o1 o2
/-- `BLKID.RTA` executed at the PC. -/
def execBlkidRta (o1 o2 : OD) (s : State) : Res :=
  runInstr (.xop 502 o1 o2) (bodyBlkidRta o1 o2) s

/-- `BLKID.RTB` (R736). -/
def bodyBlkidRtb (o1 o2 : OD) : Body :=
  blockMove .codeRead .write 6 o1 o2
/-- `BLKID.RTB` executed at the PC. -/
def execBlkidRtb (o1 o2 : OD) (s : State) : Res :=
  runInstr (.xop 503 o1 o2) (bodyBlkidRtb o1 o2) s

/-! ### `BLKDI` (R738): move a block to an instruction page -/

/-- `BLKDI.RTA` (R738). -/
def bodyBlkdiRta (o1 o2 : OD) : Body :=
  blockMove .read .codeWrite 4 o1 o2
/-- `BLKDI.RTA` executed at the PC. -/
def execBlkdiRta (o1 o2 : OD) (s : State) : Res :=
  runInstr (.xop 504 o1 o2) (bodyBlkdiRta o1 o2) s

/-- `BLKDI.RTB` (R738). -/
def bodyBlkdiRtb (o1 o2 : OD) : Body :=
  blockMove .read .codeWrite 6 o1 o2
/-- `BLKDI.RTB` executed at the PC. -/
def execBlkdiRtb (o1 o2 : OD) (s : State) : Res :=
  runInstr (.xop 505 o1 o2) (bodyBlkdiRtb o1 o2) s

/-! ### `RUS` (R752): OP1 <- USER_STATUS -/

/-- `RUS` (R752). -/
def bodyRus (o1 o2 : OD) : Body :=
  storeStatus false State.us o1 o2
/-- `RUS` executed at the PC. -/
def execRus (o1 o2 : OD) (s : State) : Res :=
  runInstr (.xop 506 o1 o2) (bodyRus o1 o2) s

/-! ### `JUSCLR` (R754): jump on status bits and clear them -/

/-- `JUSCLR.NON` (R754). -/
def bodyJusclrNon (o1 : OD) (j : JDest) : Body :=
  jumpUsClear .non o1 j
/-- `JUSCLR.NON` executed at the PC. -/
def execJusclrNon (o1 : OD) (j : JDest) (s : State) : Res :=
  runInstr (.jop 58 o1 j) (bodyJusclrNon o1 j) s

/-- `JUSCLR.ALL` (R754). -/
def bodyJusclrAll (o1 : OD) (j : JDest) : Body :=
  jumpUsClear .all o1 j
/-- `JUSCLR.ALL` executed at the PC. -/
def execJusclrAll (o1 : OD) (j : JDest) (s : State) : Res :=
  runInstr (.jop 59 o1 j) (bodyJusclrAll o1 j) s

/-- `JUSCLR.NAL` (R754). -/
def bodyJusclrNal (o1 : OD) (j : JDest) : Body :=
  jumpUsClear .nal o1 j
/-- `JUSCLR.NAL` executed at the PC. -/
def execJusclrNal (o1 : OD) (j : JDest) (s : State) : Res :=
  runInstr (.jop 60 o1 j) (bodyJusclrNal o1 j) s

/-- `JUSCLR.ANY` (R754). -/
def bodyJusclrAny (o1 : OD) (j : JDest) : Body :=
  jumpUsClear .any o1 j
/-- `JUSCLR.ANY` executed at the PC. -/
def execJusclrAny (o1 : OD) (j : JDest) (s : State) : Res :=
  runInstr (.jop 61 o1 j) (bodyJusclrAny o1 j) s

/-! ### `JUS` (R753): jump on status bits -/

/-- `JUS.NON` (R753). -/
def bodyJusNon (o1 : OD) (j : JDest) : Body :=
  jumpUs .non o1 j
/-- `JUS.NON` executed at the PC. -/
def execJusNon (o1 : OD) (j : JDest) (s : State) : Res :=
  runInstr (.jop 62 o1 j) (bodyJusNon o1 j) s

/-- `JUS.ALL` (R753). -/
def bodyJusAll (o1 : OD) (j : JDest) : Body :=
  jumpUs .all o1 j
/-- `JUS.ALL` executed at the PC. -/
def execJusAll (o1 : OD) (j : JDest) (s : State) : Res :=
  runInstr (.jop 63 o1 j) (bodyJusAll o1 j) s

/-- `JUS.NAL` (R753). -/
def bodyJusNal (o1 : OD) (j : JDest) : Body :=
  jumpUs .nal o1 j
/-- `JUS.NAL` executed at the PC. -/
def execJusNal (o1 : OD) (j : JDest) (s : State) : Res :=
  runInstr (.jop 64 o1 j) (bodyJusNal o1 j) s

/-- `JUS.ANY` (R753). -/
def bodyJusAny (o1 : OD) (j : JDest) : Body :=
  jumpUs .any o1 j
/-- `JUS.ANY` executed at the PC. -/
def execJusAny (o1 : OD) (j : JDest) (s : State) : Res :=
  runInstr (.jop 65 o1 j) (bodyJusAny o1 j) s

/-! ### `WUSJMP` (R756): USER_STATUS <- OP1 and jump -/

/-- `WUSJMP` (R756). -/
def bodyWusjmp (o1 : OD) (j : JDest) : Body :=
  writeUsJump o1 j
/-- `WUSJMP` executed at the PC. -/
def execWusjmp (o1 : OD) (j : JDest) (s : State) : Res :=
  runInstr (.jop 66 o1 j) (bodyWusjmp o1 j) s

/-! ### `SETUS` (R758): USER_STATUS <- USER_STATUS or OP1 -/

/-- `SETUS` (R758). -/
def bodySetus (o1 o2 : OD) : Body :=
  loadStatus false setUserBits o1 o2
/-- `SETUS` executed at the PC. -/
def execSetus (o1 o2 : OD) (s : State) : Res :=
  runInstr (.xop 507 o1 o2) (bodySetus o1 o2) s

/-! ### `CLRUS` (R759): USER_STATUS <- USER_STATUS and not OP1 -/

/-- `CLRUS` (R759). -/
def bodyClrus (o1 o2 : OD) : Body :=
  loadStatus false clearUserBits o1 o2
/-- `CLRUS` executed at the PC. -/
def execClrus (o1 o2 : OD) (s : State) : Res :=
  runInstr (.xop 508 o1 o2) (bodyClrus o1 o2) s

/-! ### `RSPID` (R762): OP1 <- SP_ID -/

/-- `RSPID` (R762). -/
def bodyRspid (o1 o2 : OD) : Body :=
  storeStatus false (fun s => (Us.spId s.us).setWidth 36) o1 o2
/-- `RSPID` executed at the PC. -/
def execRspid (o1 o2 : OD) (s : State) : Res :=
  runInstr (.xop 509 o1 o2) (bodyRspid o1 o2) s

/-! ### `WSPID` (R763): SP_ID <- OP1 -/

/-- `WSPID` (R763). -/
def bodyWspid (o1 o2 : OD) : Body :=
  loadStatus false writeSpId o1 o2
/-- `WSPID` executed at the PC. -/
def execWspid (o1 o2 : OD) (s : State) : Res :=
  runInstr (.xop 510 o1 o2) (bodyWspid o1 o2) s

/-! ### `RRNDMD` (R765): OP1 <- RND_MODE -/

/-- `RRNDMD` (R765). -/
def bodyRrndmd (o1 o2 : OD) : Body :=
  storeStatus false (fun s => (Us.rndMode s.us).setWidth 36) o1 o2
/-- `RRNDMD` executed at the PC. -/
def execRrndmd (o1 o2 : OD) (s : State) : Res :=
  runInstr (.xop 511 o1 o2) (bodyRrndmd o1 o2) s

/-! ### `WRNDMD` (R766): RND_MODE <- OP1 -/

/-- `WRNDMD` (R766). -/
def bodyWrndmd (o1 o2 : OD) : Body :=
  loadStatus false writeRndMode o1 o2
/-- `WRNDMD` executed at the PC. -/
def execWrndmd (o1 o2 : OD) (s : State) : Res :=
  runInstr (.xop 512 o1 o2) (bodyWrndmd o1 o2) s

/-! ### `RPS` (R770): OP1 <- PROC_STATUS -/

/-- `RPS` (R770). -/
def bodyRps (o1 o2 : OD) : Body :=
  storeStatus true State.ps o1 o2
/-- `RPS` executed at the PC. -/
def execRps (o1 o2 : OD) (s : State) : Res :=
  runInstr (.xop 513 o1 o2) (bodyRps o1 o2) s

/-! ### `WFSJMP` (R774): USER_STATUS <- OP1, PROC_STATUS <- NEXT(OP1) and jump -/

/-- `WFSJMP` (R774). -/
def bodyWfsjmp (o1 : OD) (j : JDest) : Body :=
  writeFullJump o1 j
/-- `WFSJMP` executed at the PC. -/
def execWfsjmp (o1 : OD) (j : JDest) (s : State) : Res :=
  runInstr (.jop 67 o1 j) (bodyWfsjmp o1 j) s

/-! ### `RCFILE` (R777): OP1 <- CRNT_FILE -/

/-- `RCFILE` (R777). -/
def bodyRcfile (o1 o2 : OD) : Body :=
  storeStatus true (fun s => (Ps.crntFile s.ps).setWidth 36) o1 o2
/-- `RCFILE` executed at the PC. -/
def execRcfile (o1 o2 : OD) (s : State) : Res :=
  runInstr (.xop 514 o1 o2) (bodyRcfile o1 o2) s

/-! ### `WCFILE` (R778): CRNT_FILE <- OP1 -/

/-- `WCFILE` (R778). -/
def bodyWcfile (o1 o2 : OD) : Body :=
  loadStatus true (writeFile Ps.setCrntFile) o1 o2
/-- `WCFILE` executed at the PC. -/
def execWcfile (o1 o2 : OD) (s : State) : Res :=
  runInstr (.xop 515 o1 o2) (bodyWcfile o1 o2) s

/-! ### `RPFILE` (R779): OP1 <- PREV_FILE -/

/-- `RPFILE` (R779). -/
def bodyRpfile (o1 o2 : OD) : Body :=
  storeStatus true (fun s => (Ps.prevFile s.ps).setWidth 36) o1 o2
/-- `RPFILE` executed at the PC. -/
def execRpfile (o1 o2 : OD) (s : State) : Res :=
  runInstr (.xop 516 o1 o2) (bodyRpfile o1 o2) s

/-! ### `WPFILE` (R780): PREV_FILE <- OP1 -/

/-- `WPFILE` (R780). -/
def bodyWpfile (o1 o2 : OD) : Body :=
  loadStatus true (writeFile Ps.setPrevFile) o1 o2
/-- `WPFILE` executed at the PC. -/
def execWpfile (o1 o2 : OD) (s : State) : Res :=
  runInstr (.xop 517 o1 o2) (bodyWpfile o1 o2) s

/-! ### `RPID` (R782): OP1 <- PROC_ID -/

/-- `RPID` (R782). -/
def bodyRpid (o1 o2 : OD) : Body :=
  storeStatus true State.procId o1 o2
/-- `RPID` executed at the PC. -/
def execRpid (o1 o2 : OD) (s : State) : Res :=
  runInstr (.xop 518 o1 o2) (bodyRpid o1 o2) s

end Sys2Proof.Machine
end

