-- ==== Sys2Proof/Machine/Float.lean ====
section
/-! DEFINITION. The floating-point instructions (41_float.md), each the frame of its operand list over its computation. -/

namespace Sys2Proof.Machine

/-! ### `FADD` (R430): DEST <- S1 + S2 -/

/-- `FADD.H` (R430). -/
def bodyFaddH (t : TMode) (o1 o2 : OD) : Body :=
  top3 .h .h .h (fAdd .h) t o1 o2
/-- `FADD.H` executed at the PC. -/
def execFaddH (t : TMode) (o1 o2 : OD) (s : State) : Res :=
  runInstr (.top 123 t o1 o2) (bodyFaddH t o1 o2) s

/-- `FADD.S` (R430). -/
def bodyFaddS (t : TMode) (o1 o2 : OD) : Body :=
  top3 .s .s .s (fAdd .s) t o1 o2
/-- `FADD.S` executed at the PC. -/
def execFaddS (t : TMode) (o1 o2 : OD) (s : State) : Res :=
  runInstr (.top 124 t o1 o2) (bodyFaddS t o1 o2) s

/-- `FADD.D` (R430). -/
def bodyFaddD (t : TMode) (o1 o2 : OD) : Body :=
  top3 .d .d .d (fAdd .d) t o1 o2
/-- `FADD.D` executed at the PC. -/
def execFaddD (t : TMode) (o1 o2 : OD) (s : State) : Res :=
  runInstr (.top 125 t o1 o2) (bodyFaddD t o1 o2) s

/-! ### `FSUB` (R431): DEST <- S1 - S2 -/

/-- `FSUB.H` (R431). -/
def bodyFsubH (t : TMode) (o1 o2 : OD) : Body :=
  top3 .h .h .h (fSub .h) t o1 o2
/-- `FSUB.H` executed at the PC. -/
def execFsubH (t : TMode) (o1 o2 : OD) (s : State) : Res :=
  runInstr (.top 126 t o1 o2) (bodyFsubH t o1 o2) s

/-- `FSUB.S` (R431). -/
def bodyFsubS (t : TMode) (o1 o2 : OD) : Body :=
  top3 .s .s .s (fSub .s) t o1 o2
/-- `FSUB.S` executed at the PC. -/
def execFsubS (t : TMode) (o1 o2 : OD) (s : State) : Res :=
  runInstr (.top 127 t o1 o2) (bodyFsubS t o1 o2) s

/-- `FSUB.D` (R431). -/
def bodyFsubD (t : TMode) (o1 o2 : OD) : Body :=
  top3 .d .d .d (fSub .d) t o1 o2
/-- `FSUB.D` executed at the PC. -/
def execFsubD (t : TMode) (o1 o2 : OD) (s : State) : Res :=
  runInstr (.top 128 t o1 o2) (bodyFsubD t o1 o2) s

/-! ### `FSUBV` (R432): DEST <- S2 - S1 -/

/-- `FSUBV.H` (R432). -/
def bodyFsubvH (t : TMode) (o1 o2 : OD) : Body :=
  top3 .h .h .h (fSubv .h) t o1 o2
/-- `FSUBV.H` executed at the PC. -/
def execFsubvH (t : TMode) (o1 o2 : OD) (s : State) : Res :=
  runInstr (.top 129 t o1 o2) (bodyFsubvH t o1 o2) s

/-- `FSUBV.S` (R432). -/
def bodyFsubvS (t : TMode) (o1 o2 : OD) : Body :=
  top3 .s .s .s (fSubv .s) t o1 o2
/-- `FSUBV.S` executed at the PC. -/
def execFsubvS (t : TMode) (o1 o2 : OD) (s : State) : Res :=
  runInstr (.top 130 t o1 o2) (bodyFsubvS t o1 o2) s

/-- `FSUBV.D` (R432). -/
def bodyFsubvD (t : TMode) (o1 o2 : OD) : Body :=
  top3 .d .d .d (fSubv .d) t o1 o2
/-- `FSUBV.D` executed at the PC. -/
def execFsubvD (t : TMode) (o1 o2 : OD) (s : State) : Res :=
  runInstr (.top 131 t o1 o2) (bodyFsubvD t o1 o2) s

/-! ### `FMULT` (R434): DEST <- S1 * S2 -/

/-- `FMULT.H` (R434). -/
def bodyFmultH (t : TMode) (o1 o2 : OD) : Body :=
  top3 .h .h .h (fMul .h .h) t o1 o2
/-- `FMULT.H` executed at the PC. -/
def execFmultH (t : TMode) (o1 o2 : OD) (s : State) : Res :=
  runInstr (.top 132 t o1 o2) (bodyFmultH t o1 o2) s

/-- `FMULT.S` (R434). -/
def bodyFmultS (t : TMode) (o1 o2 : OD) : Body :=
  top3 .s .s .s (fMul .s .s) t o1 o2
/-- `FMULT.S` executed at the PC. -/
def execFmultS (t : TMode) (o1 o2 : OD) (s : State) : Res :=
  runInstr (.top 133 t o1 o2) (bodyFmultS t o1 o2) s

/-- `FMULT.D` (R434). -/
def bodyFmultD (t : TMode) (o1 o2 : OD) : Body :=
  top3 .d .d .d (fMul .d .d) t o1 o2
/-- `FMULT.D` executed at the PC. -/
def execFmultD (t : TMode) (o1 o2 : OD) (s : State) : Res :=
  runInstr (.top 134 t o1 o2) (bodyFmultD t o1 o2) s

/-! ### `FMULTL` (R435): DEST <- S1 * S2 at the next longer precision -/

/-- `FMULTL.H` (R435). -/
def bodyFmultlH (t : TMode) (o1 o2 : OD) : Body :=
  top3 .s .h .h (fMul .s .h) t o1 o2
/-- `FMULTL.H` executed at the PC. -/
def execFmultlH (t : TMode) (o1 o2 : OD) (s : State) : Res :=
  runInstr (.top 135 t o1 o2) (bodyFmultlH t o1 o2) s

/-- `FMULTL.S` (R435). -/
def bodyFmultlS (t : TMode) (o1 o2 : OD) : Body :=
  top3 .d .s .s (fMul .d .s) t o1 o2
/-- `FMULTL.S` executed at the PC. -/
def execFmultlS (t : TMode) (o1 o2 : OD) (s : State) : Res :=
  runInstr (.top 136 t o1 o2) (bodyFmultlS t o1 o2) s

/-! ### `FDIV` (R437): DEST <- S1 / S2 -/

/-- `FDIV.H` (R437). -/
def bodyFdivH (t : TMode) (o1 o2 : OD) : Body :=
  top3 .h .h .h (fDiv .h .h .h) t o1 o2
/-- `FDIV.H` executed at the PC. -/
def execFdivH (t : TMode) (o1 o2 : OD) (s : State) : Res :=
  runInstr (.top 137 t o1 o2) (bodyFdivH t o1 o2) s

/-- `FDIV.S` (R437). -/
def bodyFdivS (t : TMode) (o1 o2 : OD) : Body :=
  top3 .s .s .s (fDiv .s .s .s) t o1 o2
/-- `FDIV.S` executed at the PC. -/
def execFdivS (t : TMode) (o1 o2 : OD) (s : State) : Res :=
  runInstr (.top 138 t o1 o2) (bodyFdivS t o1 o2) s

/-- `FDIV.D` (R437). -/
def bodyFdivD (t : TMode) (o1 o2 : OD) : Body :=
  top3 .d .d .d (fDiv .d .d .d) t o1 o2
/-- `FDIV.D` executed at the PC. -/
def execFdivD (t : TMode) (o1 o2 : OD) (s : State) : Res :=
  runInstr (.top 139 t o1 o2) (bodyFdivD t o1 o2) s

/-! ### `FDIVV` (R438): DEST <- S2 / S1 -/

/-- `FDIVV.H` (R438). -/
def bodyFdivvH (t : TMode) (o1 o2 : OD) : Body :=
  top3 .h .h .h (fDivv .h .h .h) t o1 o2
/-- `FDIVV.H` executed at the PC. -/
def execFdivvH (t : TMode) (o1 o2 : OD) (s : State) : Res :=
  runInstr (.top 140 t o1 o2) (bodyFdivvH t o1 o2) s

/-- `FDIVV.S` (R438). -/
def bodyFdivvS (t : TMode) (o1 o2 : OD) : Body :=
  top3 .s .s .s (fDivv .s .s .s) t o1 o2
/-- `FDIVV.S` executed at the PC. -/
def execFdivvS (t : TMode) (o1 o2 : OD) (s : State) : Res :=
  runInstr (.top 141 t o1 o2) (bodyFdivvS t o1 o2) s

/-- `FDIVV.D` (R438). -/
def bodyFdivvD (t : TMode) (o1 o2 : OD) : Body :=
  top3 .d .d .d (fDivv .d .d .d) t o1 o2
/-- `FDIVV.D` executed at the PC. -/
def execFdivvD (t : TMode) (o1 o2 : OD) (s : State) : Res :=
  runInstr (.top 142 t o1 o2) (bodyFdivvD t o1 o2) s

/-! ### `FDIVL` (R439): DEST <- S1 / S2, S1 long -/

/-- `FDIVL.H` (R439). -/
def bodyFdivlH (t : TMode) (o1 o2 : OD) : Body :=
  top3 .h .s .h (fDiv .h .s .h) t o1 o2
/-- `FDIVL.H` executed at the PC. -/
def execFdivlH (t : TMode) (o1 o2 : OD) (s : State) : Res :=
  runInstr (.top 143 t o1 o2) (bodyFdivlH t o1 o2) s

/-- `FDIVL.S` (R439). -/
def bodyFdivlS (t : TMode) (o1 o2 : OD) : Body :=
  top3 .s .d .s (fDiv .s .d .s) t o1 o2
/-- `FDIVL.S` executed at the PC. -/
def execFdivlS (t : TMode) (o1 o2 : OD) (s : State) : Res :=
  runInstr (.top 144 t o1 o2) (bodyFdivlS t o1 o2) s

/-! ### `FDIVLV` (R440): DEST <- S2 / S1, S2 long -/

/-- `FDIVLV.H` (R440). -/
def bodyFdivlvH (t : TMode) (o1 o2 : OD) : Body :=
  top3 .h .h .s (fDivv .h .h .s) t o1 o2
/-- `FDIVLV.H` executed at the PC. -/
def execFdivlvH (t : TMode) (o1 o2 : OD) (s : State) : Res :=
  runInstr (.top 145 t o1 o2) (bodyFdivlvH t o1 o2) s

/-- `FDIVLV.S` (R440). -/
def bodyFdivlvS (t : TMode) (o1 o2 : OD) : Body :=
  top3 .s .s .d (fDivv .s .s .d) t o1 o2
/-- `FDIVLV.S` executed at the PC. -/
def execFdivlvS (t : TMode) (o1 o2 : OD) (s : State) : Res :=
  runInstr (.top 146 t o1 o2) (bodyFdivlvS t o1 o2) s

/-! ### `FSC` (R442): DEST <- S1 * 2^S2 -/

/-- `FSC.H` (R442). -/
def bodyFscH (t : TMode) (o1 o2 : OD) : Body :=
  top3 .h .h .s (fSc .h) t o1 o2
/-- `FSC.H` executed at the PC. -/
def execFscH (t : TMode) (o1 o2 : OD) (s : State) : Res :=
  runInstr (.top 147 t o1 o2) (bodyFscH t o1 o2) s

/-- `FSC.S` (R442). -/
def bodyFscS (t : TMode) (o1 o2 : OD) : Body :=
  top3 .s .s .s (fSc .s) t o1 o2
/-- `FSC.S` executed at the PC. -/
def execFscS (t : TMode) (o1 o2 : OD) (s : State) : Res :=
  runInstr (.top 148 t o1 o2) (bodyFscS t o1 o2) s

/-- `FSC.D` (R442). -/
def bodyFscD (t : TMode) (o1 o2 : OD) : Body :=
  top3 .d .d .s (fSc .d) t o1 o2
/-- `FSC.D` executed at the PC. -/
def execFscD (t : TMode) (o1 o2 : OD) (s : State) : Res :=
  runInstr (.top 149 t o1 o2) (bodyFscD t o1 o2) s

/-! ### `FSCV` (R443): DEST <- S2 * 2^S1 -/

/-- `FSCV.H` (R443). -/
def bodyFscvH (t : TMode) (o1 o2 : OD) : Body :=
  top3 .h .s .h (fScv .h) t o1 o2
/-- `FSCV.H` executed at the PC. -/
def execFscvH (t : TMode) (o1 o2 : OD) (s : State) : Res :=
  runInstr (.top 150 t o1 o2) (bodyFscvH t o1 o2) s

/-- `FSCV.S` (R443). -/
def bodyFscvS (t : TMode) (o1 o2 : OD) : Body :=
  top3 .s .s .s (fScv .s) t o1 o2
/-- `FSCV.S` executed at the PC. -/
def execFscvS (t : TMode) (o1 o2 : OD) (s : State) : Res :=
  runInstr (.top 151 t o1 o2) (bodyFscvS t o1 o2) s

/-- `FSCV.D` (R443). -/
def bodyFscvD (t : TMode) (o1 o2 : OD) : Body :=
  top3 .d .s .d (fScv .d) t o1 o2
/-- `FSCV.D` executed at the PC. -/
def execFscvD (t : TMode) (o1 o2 : OD) (s : State) : Res :=
  runInstr (.top 152 t o1 o2) (bodyFscvD t o1 o2) s

/-! ### `FIX` (R446): OP1 <- the integer nearest OP2 under the rounding of the modifier -/

/-- `FIX.FL.Q.H` (R446). -/
def bodyFixFlQH (o1 o2 : OD) : Body :=
  xop2 .q .h (fFix .fl Prec.q.bits .h) o1 o2
/-- `FIX.FL.Q.H` executed at the PC. -/
def execFixFlQH (o1 o2 : OD) (s : State) : Res :=
  runInstr (.xop 32 o1 o2) (bodyFixFlQH o1 o2) s

/-- `FIX.FL.Q.S` (R446). -/
def bodyFixFlQS (o1 o2 : OD) : Body :=
  xop2 .q .s (fFix .fl Prec.q.bits .s) o1 o2
/-- `FIX.FL.Q.S` executed at the PC. -/
def execFixFlQS (o1 o2 : OD) (s : State) : Res :=
  runInstr (.xop 33 o1 o2) (bodyFixFlQS o1 o2) s

/-- `FIX.FL.Q.D` (R446). -/
def bodyFixFlQD (o1 o2 : OD) : Body :=
  xop2 .q .d (fFix .fl Prec.q.bits .d) o1 o2
/-- `FIX.FL.Q.D` executed at the PC. -/
def execFixFlQD (o1 o2 : OD) (s : State) : Res :=
  runInstr (.xop 34 o1 o2) (bodyFixFlQD o1 o2) s

/-- `FIX.FL.H.H` (R446). -/
def bodyFixFlHH (o1 o2 : OD) : Body :=
  xop2 .h .h (fFix .fl Prec.h.bits .h) o1 o2
/-- `FIX.FL.H.H` executed at the PC. -/
def execFixFlHH (o1 o2 : OD) (s : State) : Res :=
  runInstr (.xop 35 o1 o2) (bodyFixFlHH o1 o2) s

/-- `FIX.FL.H.S` (R446). -/
def bodyFixFlHS (o1 o2 : OD) : Body :=
  xop2 .h .s (fFix .fl Prec.h.bits .s) o1 o2
/-- `FIX.FL.H.S` executed at the PC. -/
def execFixFlHS (o1 o2 : OD) (s : State) : Res :=
  runInstr (.xop 36 o1 o2) (bodyFixFlHS o1 o2) s

/-- `FIX.FL.H.D` (R446). -/
def bodyFixFlHD (o1 o2 : OD) : Body :=
  xop2 .h .d (fFix .fl Prec.h.bits .d) o1 o2
/-- `FIX.FL.H.D` executed at the PC. -/
def execFixFlHD (o1 o2 : OD) (s : State) : Res :=
  runInstr (.xop 37 o1 o2) (bodyFixFlHD o1 o2) s

/-- `FIX.FL.S.H` (R446). -/
def bodyFixFlSH (o1 o2 : OD) : Body :=
  xop2 .s .h (fFix .fl Prec.s.bits .h) o1 o2
/-- `FIX.FL.S.H` executed at the PC. -/
def execFixFlSH (o1 o2 : OD) (s : State) : Res :=
  runInstr (.xop 38 o1 o2) (bodyFixFlSH o1 o2) s

/-- `FIX.FL.S.S` (R446). -/
def bodyFixFlSS (o1 o2 : OD) : Body :=
  xop2 .s .s (fFix .fl Prec.s.bits .s) o1 o2
/-- `FIX.FL.S.S` executed at the PC. -/
def execFixFlSS (o1 o2 : OD) (s : State) : Res :=
  runInstr (.xop 39 o1 o2) (bodyFixFlSS o1 o2) s

/-- `FIX.FL.S.D` (R446). -/
def bodyFixFlSD (o1 o2 : OD) : Body :=
  xop2 .s .d (fFix .fl Prec.s.bits .d) o1 o2
/-- `FIX.FL.S.D` executed at the PC. -/
def execFixFlSD (o1 o2 : OD) (s : State) : Res :=
  runInstr (.xop 40 o1 o2) (bodyFixFlSD o1 o2) s

/-- `FIX.FL.D.H` (R446). -/
def bodyFixFlDH (o1 o2 : OD) : Body :=
  xop2 .d .h (fFix .fl Prec.d.bits .h) o1 o2
/-- `FIX.FL.D.H` executed at the PC. -/
def execFixFlDH (o1 o2 : OD) (s : State) : Res :=
  runInstr (.xop 41 o1 o2) (bodyFixFlDH o1 o2) s

/-- `FIX.FL.D.S` (R446). -/
def bodyFixFlDS (o1 o2 : OD) : Body :=
  xop2 .d .s (fFix .fl Prec.d.bits .s) o1 o2
/-- `FIX.FL.D.S` executed at the PC. -/
def execFixFlDS (o1 o2 : OD) (s : State) : Res :=
  runInstr (.xop 42 o1 o2) (bodyFixFlDS o1 o2) s

/-- `FIX.FL.D.D` (R446). -/
def bodyFixFlDD (o1 o2 : OD) : Body :=
  xop2 .d .d (fFix .fl Prec.d.bits .d) o1 o2
/-- `FIX.FL.D.D` executed at the PC. -/
def execFixFlDD (o1 o2 : OD) (s : State) : Res :=
  runInstr (.xop 43 o1 o2) (bodyFixFlDD o1 o2) s

/-- `FIX.CL.Q.H` (R446). -/
def bodyFixClQH (o1 o2 : OD) : Body :=
  xop2 .q .h (fFix .cl Prec.q.bits .h) o1 o2
/-- `FIX.CL.Q.H` executed at the PC. -/
def execFixClQH (o1 o2 : OD) (s : State) : Res :=
  runInstr (.xop 44 o1 o2) (bodyFixClQH o1 o2) s

/-- `FIX.CL.Q.S` (R446). -/
def bodyFixClQS (o1 o2 : OD) : Body :=
  xop2 .q .s (fFix .cl Prec.q.bits .s) o1 o2
/-- `FIX.CL.Q.S` executed at the PC. -/
def execFixClQS (o1 o2 : OD) (s : State) : Res :=
  runInstr (.xop 45 o1 o2) (bodyFixClQS o1 o2) s

/-- `FIX.CL.Q.D` (R446). -/
def bodyFixClQD (o1 o2 : OD) : Body :=
  xop2 .q .d (fFix .cl Prec.q.bits .d) o1 o2
/-- `FIX.CL.Q.D` executed at the PC. -/
def execFixClQD (o1 o2 : OD) (s : State) : Res :=
  runInstr (.xop 46 o1 o2) (bodyFixClQD o1 o2) s

/-- `FIX.CL.H.H` (R446). -/
def bodyFixClHH (o1 o2 : OD) : Body :=
  xop2 .h .h (fFix .cl Prec.h.bits .h) o1 o2
/-- `FIX.CL.H.H` executed at the PC. -/
def execFixClHH (o1 o2 : OD) (s : State) : Res :=
  runInstr (.xop 47 o1 o2) (bodyFixClHH o1 o2) s

/-- `FIX.CL.H.S` (R446). -/
def bodyFixClHS (o1 o2 : OD) : Body :=
  xop2 .h .s (fFix .cl Prec.h.bits .s) o1 o2
/-- `FIX.CL.H.S` executed at the PC. -/
def execFixClHS (o1 o2 : OD) (s : State) : Res :=
  runInstr (.xop 48 o1 o2) (bodyFixClHS o1 o2) s

/-- `FIX.CL.H.D` (R446). -/
def bodyFixClHD (o1 o2 : OD) : Body :=
  xop2 .h .d (fFix .cl Prec.h.bits .d) o1 o2
/-- `FIX.CL.H.D` executed at the PC. -/
def execFixClHD (o1 o2 : OD) (s : State) : Res :=
  runInstr (.xop 49 o1 o2) (bodyFixClHD o1 o2) s

/-- `FIX.CL.S.H` (R446). -/
def bodyFixClSH (o1 o2 : OD) : Body :=
  xop2 .s .h (fFix .cl Prec.s.bits .h) o1 o2
/-- `FIX.CL.S.H` executed at the PC. -/
def execFixClSH (o1 o2 : OD) (s : State) : Res :=
  runInstr (.xop 50 o1 o2) (bodyFixClSH o1 o2) s

/-- `FIX.CL.S.S` (R446). -/
def bodyFixClSS (o1 o2 : OD) : Body :=
  xop2 .s .s (fFix .cl Prec.s.bits .s) o1 o2
/-- `FIX.CL.S.S` executed at the PC. -/
def execFixClSS (o1 o2 : OD) (s : State) : Res :=
  runInstr (.xop 51 o1 o2) (bodyFixClSS o1 o2) s

/-- `FIX.CL.S.D` (R446). -/
def bodyFixClSD (o1 o2 : OD) : Body :=
  xop2 .s .d (fFix .cl Prec.s.bits .d) o1 o2
/-- `FIX.CL.S.D` executed at the PC. -/
def execFixClSD (o1 o2 : OD) (s : State) : Res :=
  runInstr (.xop 52 o1 o2) (bodyFixClSD o1 o2) s

/-- `FIX.CL.D.H` (R446). -/
def bodyFixClDH (o1 o2 : OD) : Body :=
  xop2 .d .h (fFix .cl Prec.d.bits .h) o1 o2
/-- `FIX.CL.D.H` executed at the PC. -/
def execFixClDH (o1 o2 : OD) (s : State) : Res :=
  runInstr (.xop 53 o1 o2) (bodyFixClDH o1 o2) s

/-- `FIX.CL.D.S` (R446). -/
def bodyFixClDS (o1 o2 : OD) : Body :=
  xop2 .d .s (fFix .cl Prec.d.bits .s) o1 o2
/-- `FIX.CL.D.S` executed at the PC. -/
def execFixClDS (o1 o2 : OD) (s : State) : Res :=
  runInstr (.xop 54 o1 o2) (bodyFixClDS o1 o2) s

/-- `FIX.CL.D.D` (R446). -/
def bodyFixClDD (o1 o2 : OD) : Body :=
  xop2 .d .d (fFix .cl Prec.d.bits .d) o1 o2
/-- `FIX.CL.D.D` executed at the PC. -/
def execFixClDD (o1 o2 : OD) (s : State) : Res :=
  runInstr (.xop 55 o1 o2) (bodyFixClDD o1 o2) s

/-- `FIX.DM.Q.H` (R446). -/
def bodyFixDmQH (o1 o2 : OD) : Body :=
  xop2 .q .h (fFix .dm Prec.q.bits .h) o1 o2
/-- `FIX.DM.Q.H` executed at the PC. -/
def execFixDmQH (o1 o2 : OD) (s : State) : Res :=
  runInstr (.xop 56 o1 o2) (bodyFixDmQH o1 o2) s

/-- `FIX.DM.Q.S` (R446). -/
def bodyFixDmQS (o1 o2 : OD) : Body :=
  xop2 .q .s (fFix .dm Prec.q.bits .s) o1 o2
/-- `FIX.DM.Q.S` executed at the PC. -/
def execFixDmQS (o1 o2 : OD) (s : State) : Res :=
  runInstr (.xop 57 o1 o2) (bodyFixDmQS o1 o2) s

/-- `FIX.DM.Q.D` (R446). -/
def bodyFixDmQD (o1 o2 : OD) : Body :=
  xop2 .q .d (fFix .dm Prec.q.bits .d) o1 o2
/-- `FIX.DM.Q.D` executed at the PC. -/
def execFixDmQD (o1 o2 : OD) (s : State) : Res :=
  runInstr (.xop 58 o1 o2) (bodyFixDmQD o1 o2) s

/-- `FIX.DM.H.H` (R446). -/
def bodyFixDmHH (o1 o2 : OD) : Body :=
  xop2 .h .h (fFix .dm Prec.h.bits .h) o1 o2
/-- `FIX.DM.H.H` executed at the PC. -/
def execFixDmHH (o1 o2 : OD) (s : State) : Res :=
  runInstr (.xop 59 o1 o2) (bodyFixDmHH o1 o2) s

/-- `FIX.DM.H.S` (R446). -/
def bodyFixDmHS (o1 o2 : OD) : Body :=
  xop2 .h .s (fFix .dm Prec.h.bits .s) o1 o2
/-- `FIX.DM.H.S` executed at the PC. -/
def execFixDmHS (o1 o2 : OD) (s : State) : Res :=
  runInstr (.xop 60 o1 o2) (bodyFixDmHS o1 o2) s

/-- `FIX.DM.H.D` (R446). -/
def bodyFixDmHD (o1 o2 : OD) : Body :=
  xop2 .h .d (fFix .dm Prec.h.bits .d) o1 o2
/-- `FIX.DM.H.D` executed at the PC. -/
def execFixDmHD (o1 o2 : OD) (s : State) : Res :=
  runInstr (.xop 61 o1 o2) (bodyFixDmHD o1 o2) s

/-- `FIX.DM.S.H` (R446). -/
def bodyFixDmSH (o1 o2 : OD) : Body :=
  xop2 .s .h (fFix .dm Prec.s.bits .h) o1 o2
/-- `FIX.DM.S.H` executed at the PC. -/
def execFixDmSH (o1 o2 : OD) (s : State) : Res :=
  runInstr (.xop 62 o1 o2) (bodyFixDmSH o1 o2) s

/-- `FIX.DM.S.S` (R446). -/
def bodyFixDmSS (o1 o2 : OD) : Body :=
  xop2 .s .s (fFix .dm Prec.s.bits .s) o1 o2
/-- `FIX.DM.S.S` executed at the PC. -/
def execFixDmSS (o1 o2 : OD) (s : State) : Res :=
  runInstr (.xop 63 o1 o2) (bodyFixDmSS o1 o2) s

/-- `FIX.DM.S.D` (R446). -/
def bodyFixDmSD (o1 o2 : OD) : Body :=
  xop2 .s .d (fFix .dm Prec.s.bits .d) o1 o2
/-- `FIX.DM.S.D` executed at the PC. -/
def execFixDmSD (o1 o2 : OD) (s : State) : Res :=
  runInstr (.xop 64 o1 o2) (bodyFixDmSD o1 o2) s

/-- `FIX.DM.D.H` (R446). -/
def bodyFixDmDH (o1 o2 : OD) : Body :=
  xop2 .d .h (fFix .dm Prec.d.bits .h) o1 o2
/-- `FIX.DM.D.H` executed at the PC. -/
def execFixDmDH (o1 o2 : OD) (s : State) : Res :=
  runInstr (.xop 65 o1 o2) (bodyFixDmDH o1 o2) s

/-- `FIX.DM.D.S` (R446). -/
def bodyFixDmDS (o1 o2 : OD) : Body :=
  xop2 .d .s (fFix .dm Prec.d.bits .s) o1 o2
/-- `FIX.DM.D.S` executed at the PC. -/
def execFixDmDS (o1 o2 : OD) (s : State) : Res :=
  runInstr (.xop 66 o1 o2) (bodyFixDmDS o1 o2) s

/-- `FIX.DM.D.D` (R446). -/
def bodyFixDmDD (o1 o2 : OD) : Body :=
  xop2 .d .d (fFix .dm Prec.d.bits .d) o1 o2
/-- `FIX.DM.D.D` executed at the PC. -/
def execFixDmDD (o1 o2 : OD) (s : State) : Res :=
  runInstr (.xop 67 o1 o2) (bodyFixDmDD o1 o2) s

/-- `FIX.HP.Q.H` (R446). -/
def bodyFixHpQH (o1 o2 : OD) : Body :=
  xop2 .q .h (fFix .hp Prec.q.bits .h) o1 o2
/-- `FIX.HP.Q.H` executed at the PC. -/
def execFixHpQH (o1 o2 : OD) (s : State) : Res :=
  runInstr (.xop 68 o1 o2) (bodyFixHpQH o1 o2) s

/-- `FIX.HP.Q.S` (R446). -/
def bodyFixHpQS (o1 o2 : OD) : Body :=
  xop2 .q .s (fFix .hp Prec.q.bits .s) o1 o2
/-- `FIX.HP.Q.S` executed at the PC. -/
def execFixHpQS (o1 o2 : OD) (s : State) : Res :=
  runInstr (.xop 69 o1 o2) (bodyFixHpQS o1 o2) s

/-- `FIX.HP.Q.D` (R446). -/
def bodyFixHpQD (o1 o2 : OD) : Body :=
  xop2 .q .d (fFix .hp Prec.q.bits .d) o1 o2
/-- `FIX.HP.Q.D` executed at the PC. -/
def execFixHpQD (o1 o2 : OD) (s : State) : Res :=
  runInstr (.xop 70 o1 o2) (bodyFixHpQD o1 o2) s

/-- `FIX.HP.H.H` (R446). -/
def bodyFixHpHH (o1 o2 : OD) : Body :=
  xop2 .h .h (fFix .hp Prec.h.bits .h) o1 o2
/-- `FIX.HP.H.H` executed at the PC. -/
def execFixHpHH (o1 o2 : OD) (s : State) : Res :=
  runInstr (.xop 71 o1 o2) (bodyFixHpHH o1 o2) s

/-- `FIX.HP.H.S` (R446). -/
def bodyFixHpHS (o1 o2 : OD) : Body :=
  xop2 .h .s (fFix .hp Prec.h.bits .s) o1 o2
/-- `FIX.HP.H.S` executed at the PC. -/
def execFixHpHS (o1 o2 : OD) (s : State) : Res :=
  runInstr (.xop 72 o1 o2) (bodyFixHpHS o1 o2) s

/-- `FIX.HP.H.D` (R446). -/
def bodyFixHpHD (o1 o2 : OD) : Body :=
  xop2 .h .d (fFix .hp Prec.h.bits .d) o1 o2
/-- `FIX.HP.H.D` executed at the PC. -/
def execFixHpHD (o1 o2 : OD) (s : State) : Res :=
  runInstr (.xop 73 o1 o2) (bodyFixHpHD o1 o2) s

/-- `FIX.HP.S.H` (R446). -/
def bodyFixHpSH (o1 o2 : OD) : Body :=
  xop2 .s .h (fFix .hp Prec.s.bits .h) o1 o2
/-- `FIX.HP.S.H` executed at the PC. -/
def execFixHpSH (o1 o2 : OD) (s : State) : Res :=
  runInstr (.xop 74 o1 o2) (bodyFixHpSH o1 o2) s

/-- `FIX.HP.S.S` (R446). -/
def bodyFixHpSS (o1 o2 : OD) : Body :=
  xop2 .s .s (fFix .hp Prec.s.bits .s) o1 o2
/-- `FIX.HP.S.S` executed at the PC. -/
def execFixHpSS (o1 o2 : OD) (s : State) : Res :=
  runInstr (.xop 75 o1 o2) (bodyFixHpSS o1 o2) s

/-- `FIX.HP.S.D` (R446). -/
def bodyFixHpSD (o1 o2 : OD) : Body :=
  xop2 .s .d (fFix .hp Prec.s.bits .d) o1 o2
/-- `FIX.HP.S.D` executed at the PC. -/
def execFixHpSD (o1 o2 : OD) (s : State) : Res :=
  runInstr (.xop 76 o1 o2) (bodyFixHpSD o1 o2) s

/-- `FIX.HP.D.H` (R446). -/
def bodyFixHpDH (o1 o2 : OD) : Body :=
  xop2 .d .h (fFix .hp Prec.d.bits .h) o1 o2
/-- `FIX.HP.D.H` executed at the PC. -/
def execFixHpDH (o1 o2 : OD) (s : State) : Res :=
  runInstr (.xop 77 o1 o2) (bodyFixHpDH o1 o2) s

/-- `FIX.HP.D.S` (R446). -/
def bodyFixHpDS (o1 o2 : OD) : Body :=
  xop2 .d .s (fFix .hp Prec.d.bits .s) o1 o2
/-- `FIX.HP.D.S` executed at the PC. -/
def execFixHpDS (o1 o2 : OD) (s : State) : Res :=
  runInstr (.xop 78 o1 o2) (bodyFixHpDS o1 o2) s

/-- `FIX.HP.D.D` (R446). -/
def bodyFixHpDD (o1 o2 : OD) : Body :=
  xop2 .d .d (fFix .hp Prec.d.bits .d) o1 o2
/-- `FIX.HP.D.D` executed at the PC. -/
def execFixHpDD (o1 o2 : OD) (s : State) : Res :=
  runInstr (.xop 79 o1 o2) (bodyFixHpDD o1 o2) s

/-- `FIX.US.Q.H` (R446). -/
def bodyFixUsQH (o1 o2 : OD) : Body :=
  xop2 .q .h (fFix .us Prec.q.bits .h) o1 o2
/-- `FIX.US.Q.H` executed at the PC. -/
def execFixUsQH (o1 o2 : OD) (s : State) : Res :=
  runInstr (.xop 80 o1 o2) (bodyFixUsQH o1 o2) s

/-- `FIX.US.Q.S` (R446). -/
def bodyFixUsQS (o1 o2 : OD) : Body :=
  xop2 .q .s (fFix .us Prec.q.bits .s) o1 o2
/-- `FIX.US.Q.S` executed at the PC. -/
def execFixUsQS (o1 o2 : OD) (s : State) : Res :=
  runInstr (.xop 81 o1 o2) (bodyFixUsQS o1 o2) s

/-- `FIX.US.Q.D` (R446). -/
def bodyFixUsQD (o1 o2 : OD) : Body :=
  xop2 .q .d (fFix .us Prec.q.bits .d) o1 o2
/-- `FIX.US.Q.D` executed at the PC. -/
def execFixUsQD (o1 o2 : OD) (s : State) : Res :=
  runInstr (.xop 82 o1 o2) (bodyFixUsQD o1 o2) s

/-- `FIX.US.H.H` (R446). -/
def bodyFixUsHH (o1 o2 : OD) : Body :=
  xop2 .h .h (fFix .us Prec.h.bits .h) o1 o2
/-- `FIX.US.H.H` executed at the PC. -/
def execFixUsHH (o1 o2 : OD) (s : State) : Res :=
  runInstr (.xop 83 o1 o2) (bodyFixUsHH o1 o2) s

/-- `FIX.US.H.S` (R446). -/
def bodyFixUsHS (o1 o2 : OD) : Body :=
  xop2 .h .s (fFix .us Prec.h.bits .s) o1 o2
/-- `FIX.US.H.S` executed at the PC. -/
def execFixUsHS (o1 o2 : OD) (s : State) : Res :=
  runInstr (.xop 84 o1 o2) (bodyFixUsHS o1 o2) s

/-- `FIX.US.H.D` (R446). -/
def bodyFixUsHD (o1 o2 : OD) : Body :=
  xop2 .h .d (fFix .us Prec.h.bits .d) o1 o2
/-- `FIX.US.H.D` executed at the PC. -/
def execFixUsHD (o1 o2 : OD) (s : State) : Res :=
  runInstr (.xop 85 o1 o2) (bodyFixUsHD o1 o2) s

/-- `FIX.US.S.H` (R446). -/
def bodyFixUsSH (o1 o2 : OD) : Body :=
  xop2 .s .h (fFix .us Prec.s.bits .h) o1 o2
/-- `FIX.US.S.H` executed at the PC. -/
def execFixUsSH (o1 o2 : OD) (s : State) : Res :=
  runInstr (.xop 86 o1 o2) (bodyFixUsSH o1 o2) s

/-- `FIX.US.S.S` (R446). -/
def bodyFixUsSS (o1 o2 : OD) : Body :=
  xop2 .s .s (fFix .us Prec.s.bits .s) o1 o2
/-- `FIX.US.S.S` executed at the PC. -/
def execFixUsSS (o1 o2 : OD) (s : State) : Res :=
  runInstr (.xop 87 o1 o2) (bodyFixUsSS o1 o2) s

/-- `FIX.US.S.D` (R446). -/
def bodyFixUsSD (o1 o2 : OD) : Body :=
  xop2 .s .d (fFix .us Prec.s.bits .d) o1 o2
/-- `FIX.US.S.D` executed at the PC. -/
def execFixUsSD (o1 o2 : OD) (s : State) : Res :=
  runInstr (.xop 88 o1 o2) (bodyFixUsSD o1 o2) s

/-- `FIX.US.D.H` (R446). -/
def bodyFixUsDH (o1 o2 : OD) : Body :=
  xop2 .d .h (fFix .us Prec.d.bits .h) o1 o2
/-- `FIX.US.D.H` executed at the PC. -/
def execFixUsDH (o1 o2 : OD) (s : State) : Res :=
  runInstr (.xop 89 o1 o2) (bodyFixUsDH o1 o2) s

/-- `FIX.US.D.S` (R446). -/
def bodyFixUsDS (o1 o2 : OD) : Body :=
  xop2 .d .s (fFix .us Prec.d.bits .s) o1 o2
/-- `FIX.US.D.S` executed at the PC. -/
def execFixUsDS (o1 o2 : OD) (s : State) : Res :=
  runInstr (.xop 90 o1 o2) (bodyFixUsDS o1 o2) s

/-- `FIX.US.D.D` (R446). -/
def bodyFixUsDD (o1 o2 : OD) : Body :=
  xop2 .d .d (fFix .us Prec.d.bits .d) o1 o2
/-- `FIX.US.D.D` executed at the PC. -/
def execFixUsDD (o1 o2 : OD) (s : State) : Res :=
  runInstr (.xop 91 o1 o2) (bodyFixUsDD o1 o2) s

/-! ### `FLOAT` (R448): OP1 <- OP2 as a floating-point number -/

/-- `FLOAT.H.Q` (R448). -/
def bodyFloatHQ (o1 o2 : OD) : Body :=
  xop2 .h .q (fFloat .h) o1 o2
/-- `FLOAT.H.Q` executed at the PC. -/
def execFloatHQ (o1 o2 : OD) (s : State) : Res :=
  runInstr (.xop 92 o1 o2) (bodyFloatHQ o1 o2) s

/-- `FLOAT.H.H` (R448). -/
def bodyFloatHH (o1 o2 : OD) : Body :=
  xop2 .h .h (fFloat .h) o1 o2
/-- `FLOAT.H.H` executed at the PC. -/
def execFloatHH (o1 o2 : OD) (s : State) : Res :=
  runInstr (.xop 93 o1 o2) (bodyFloatHH o1 o2) s

/-- `FLOAT.H.S` (R448). -/
def bodyFloatHS (o1 o2 : OD) : Body :=
  xop2 .h .s (fFloat .h) o1 o2
/-- `FLOAT.H.S` executed at the PC. -/
def execFloatHS (o1 o2 : OD) (s : State) : Res :=
  runInstr (.xop 94 o1 o2) (bodyFloatHS o1 o2) s

/-- `FLOAT.H.D` (R448). -/
def bodyFloatHD (o1 o2 : OD) : Body :=
  xop2 .h .d (fFloat .h) o1 o2
/-- `FLOAT.H.D` executed at the PC. -/
def execFloatHD (o1 o2 : OD) (s : State) : Res :=
  runInstr (.xop 95 o1 o2) (bodyFloatHD o1 o2) s

/-- `FLOAT.S.Q` (R448). -/
def bodyFloatSQ (o1 o2 : OD) : Body :=
  xop2 .s .q (fFloat .s) o1 o2
/-- `FLOAT.S.Q` executed at the PC. -/
def execFloatSQ (o1 o2 : OD) (s : State) : Res :=
  runInstr (.xop 96 o1 o2) (bodyFloatSQ o1 o2) s

/-- `FLOAT.S.H` (R448). -/
def bodyFloatSH (o1 o2 : OD) : Body :=
  xop2 .s .h (fFloat .s) o1 o2
/-- `FLOAT.S.H` executed at the PC. -/
def execFloatSH (o1 o2 : OD) (s : State) : Res :=
  runInstr (.xop 97 o1 o2) (bodyFloatSH o1 o2) s

/-- `FLOAT.S.S` (R448). -/
def bodyFloatSS (o1 o2 : OD) : Body :=
  xop2 .s .s (fFloat .s) o1 o2
/-- `FLOAT.S.S` executed at the PC. -/
def execFloatSS (o1 o2 : OD) (s : State) : Res :=
  runInstr (.xop 98 o1 o2) (bodyFloatSS o1 o2) s

/-- `FLOAT.S.D` (R448). -/
def bodyFloatSD (o1 o2 : OD) : Body :=
  xop2 .s .d (fFloat .s) o1 o2
/-- `FLOAT.S.D` executed at the PC. -/
def execFloatSD (o1 o2 : OD) (s : State) : Res :=
  runInstr (.xop 99 o1 o2) (bodyFloatSD o1 o2) s

/-- `FLOAT.D.Q` (R448). -/
def bodyFloatDQ (o1 o2 : OD) : Body :=
  xop2 .d .q (fFloat .d) o1 o2
/-- `FLOAT.D.Q` executed at the PC. -/
def execFloatDQ (o1 o2 : OD) (s : State) : Res :=
  runInstr (.xop 100 o1 o2) (bodyFloatDQ o1 o2) s

/-- `FLOAT.D.H` (R448). -/
def bodyFloatDH (o1 o2 : OD) : Body :=
  xop2 .d .h (fFloat .d) o1 o2
/-- `FLOAT.D.H` executed at the PC. -/
def execFloatDH (o1 o2 : OD) (s : State) : Res :=
  runInstr (.xop 101 o1 o2) (bodyFloatDH o1 o2) s

/-- `FLOAT.D.S` (R448). -/
def bodyFloatDS (o1 o2 : OD) : Body :=
  xop2 .d .s (fFloat .d) o1 o2
/-- `FLOAT.D.S` executed at the PC. -/
def execFloatDS (o1 o2 : OD) (s : State) : Res :=
  runInstr (.xop 102 o1 o2) (bodyFloatDS o1 o2) s

/-- `FLOAT.D.D` (R448). -/
def bodyFloatDD (o1 o2 : OD) : Body :=
  xop2 .d .d (fFloat .d) o1 o2
/-- `FLOAT.D.D` executed at the PC. -/
def execFloatDD (o1 o2 : OD) (s : State) : Res :=
  runInstr (.xop 103 o1 o2) (bodyFloatDD o1 o2) s

/-! ### `FTRANS` (R450): OP1 <- OP2 at the precision of OP1 -/

/-- `FTRANS.H.H` (R450). -/
def bodyFtransHH (o1 o2 : OD) : Body :=
  xop2 .h .h (fTrans .h .h) o1 o2
/-- `FTRANS.H.H` executed at the PC. -/
def execFtransHH (o1 o2 : OD) (s : State) : Res :=
  runInstr (.xop 104 o1 o2) (bodyFtransHH o1 o2) s

/-- `FTRANS.H.S` (R450). -/
def bodyFtransHS (o1 o2 : OD) : Body :=
  xop2 .h .s (fTrans .h .s) o1 o2
/-- `FTRANS.H.S` executed at the PC. -/
def execFtransHS (o1 o2 : OD) (s : State) : Res :=
  runInstr (.xop 105 o1 o2) (bodyFtransHS o1 o2) s

/-- `FTRANS.H.D` (R450). -/
def bodyFtransHD (o1 o2 : OD) : Body :=
  xop2 .h .d (fTrans .h .d) o1 o2
/-- `FTRANS.H.D` executed at the PC. -/
def execFtransHD (o1 o2 : OD) (s : State) : Res :=
  runInstr (.xop 106 o1 o2) (bodyFtransHD o1 o2) s

/-- `FTRANS.S.H` (R450). -/
def bodyFtransSH (o1 o2 : OD) : Body :=
  xop2 .s .h (fTrans .s .h) o1 o2
/-- `FTRANS.S.H` executed at the PC. -/
def execFtransSH (o1 o2 : OD) (s : State) : Res :=
  runInstr (.xop 107 o1 o2) (bodyFtransSH o1 o2) s

/-- `FTRANS.S.S` (R450). -/
def bodyFtransSS (o1 o2 : OD) : Body :=
  xop2 .s .s (fTrans .s .s) o1 o2
/-- `FTRANS.S.S` executed at the PC. -/
def execFtransSS (o1 o2 : OD) (s : State) : Res :=
  runInstr (.xop 108 o1 o2) (bodyFtransSS o1 o2) s

/-- `FTRANS.S.D` (R450). -/
def bodyFtransSD (o1 o2 : OD) : Body :=
  xop2 .s .d (fTrans .s .d) o1 o2
/-- `FTRANS.S.D` executed at the PC. -/
def execFtransSD (o1 o2 : OD) (s : State) : Res :=
  runInstr (.xop 109 o1 o2) (bodyFtransSD o1 o2) s

/-- `FTRANS.D.H` (R450). -/
def bodyFtransDH (o1 o2 : OD) : Body :=
  xop2 .d .h (fTrans .d .h) o1 o2
/-- `FTRANS.D.H` executed at the PC. -/
def execFtransDH (o1 o2 : OD) (s : State) : Res :=
  runInstr (.xop 110 o1 o2) (bodyFtransDH o1 o2) s

/-- `FTRANS.D.S` (R450). -/
def bodyFtransDS (o1 o2 : OD) : Body :=
  xop2 .d .s (fTrans .d .s) o1 o2
/-- `FTRANS.D.S` executed at the PC. -/
def execFtransDS (o1 o2 : OD) (s : State) : Res :=
  runInstr (.xop 111 o1 o2) (bodyFtransDS o1 o2) s

/-- `FTRANS.D.D` (R450). -/
def bodyFtransDD (o1 o2 : OD) : Body :=
  xop2 .d .d (fTrans .d .d) o1 o2
/-- `FTRANS.D.D` executed at the PC. -/
def execFtransDD (o1 o2 : OD) (s : State) : Res :=
  runInstr (.xop 112 o1 o2) (bodyFtransDD o1 o2) s

/-! ### `FNEG` (R452): OP1 <- -OP2 -/

/-- `FNEG.H` (R452). -/
def bodyFnegH (o1 o2 : OD) : Body :=
  xop2 .h .h fNeg o1 o2
/-- `FNEG.H` executed at the PC. -/
def execFnegH (o1 o2 : OD) (s : State) : Res :=
  runInstr (.xop 113 o1 o2) (bodyFnegH o1 o2) s

/-- `FNEG.S` (R452). -/
def bodyFnegS (o1 o2 : OD) : Body :=
  xop2 .s .s fNeg o1 o2
/-- `FNEG.S` executed at the PC. -/
def execFnegS (o1 o2 : OD) (s : State) : Res :=
  runInstr (.xop 114 o1 o2) (bodyFnegS o1 o2) s

/-- `FNEG.D` (R452). -/
def bodyFnegD (o1 o2 : OD) : Body :=
  xop2 .d .d fNeg o1 o2
/-- `FNEG.D` executed at the PC. -/
def execFnegD (o1 o2 : OD) (s : State) : Res :=
  runInstr (.xop 115 o1 o2) (bodyFnegD o1 o2) s

/-! ### `FABS` (R453): OP1 <- abs(OP2) -/

/-- `FABS.H` (R453). -/
def bodyFabsH (o1 o2 : OD) : Body :=
  xop2 .h .h fAbs o1 o2
/-- `FABS.H` executed at the PC. -/
def execFabsH (o1 o2 : OD) (s : State) : Res :=
  runInstr (.xop 116 o1 o2) (bodyFabsH o1 o2) s

/-- `FABS.S` (R453). -/
def bodyFabsS (o1 o2 : OD) : Body :=
  xop2 .s .s fAbs o1 o2
/-- `FABS.S` executed at the PC. -/
def execFabsS (o1 o2 : OD) (s : State) : Res :=
  runInstr (.xop 117 o1 o2) (bodyFabsS o1 o2) s

/-- `FABS.D` (R453). -/
def bodyFabsD (o1 o2 : OD) : Body :=
  xop2 .d .d fAbs o1 o2
/-- `FABS.D` executed at the PC. -/
def execFabsD (o1 o2 : OD) (s : State) : Res :=
  runInstr (.xop 118 o1 o2) (bodyFabsD o1 o2) s

/-! ### `FMIN` (R455): DEST <- min(S1, S2) -/

/-- `FMIN.H` (R455). -/
def bodyFminH (t : TMode) (o1 o2 : OD) : Body :=
  top3 .h .h .h fMin t o1 o2
/-- `FMIN.H` executed at the PC. -/
def execFminH (t : TMode) (o1 o2 : OD) (s : State) : Res :=
  runInstr (.top 153 t o1 o2) (bodyFminH t o1 o2) s

/-- `FMIN.S` (R455). -/
def bodyFminS (t : TMode) (o1 o2 : OD) : Body :=
  top3 .s .s .s fMin t o1 o2
/-- `FMIN.S` executed at the PC. -/
def execFminS (t : TMode) (o1 o2 : OD) (s : State) : Res :=
  runInstr (.top 154 t o1 o2) (bodyFminS t o1 o2) s

/-- `FMIN.D` (R455). -/
def bodyFminD (t : TMode) (o1 o2 : OD) : Body :=
  top3 .d .d .d fMin t o1 o2
/-- `FMIN.D` executed at the PC. -/
def execFminD (t : TMode) (o1 o2 : OD) (s : State) : Res :=
  runInstr (.top 155 t o1 o2) (bodyFminD t o1 o2) s

/-! ### `FMAX` (R456): DEST <- max(S1, S2) -/

/-- `FMAX.H` (R456). -/
def bodyFmaxH (t : TMode) (o1 o2 : OD) : Body :=
  top3 .h .h .h fMax t o1 o2
/-- `FMAX.H` executed at the PC. -/
def execFmaxH (t : TMode) (o1 o2 : OD) (s : State) : Res :=
  runInstr (.top 156 t o1 o2) (bodyFmaxH t o1 o2) s

/-- `FMAX.S` (R456). -/
def bodyFmaxS (t : TMode) (o1 o2 : OD) : Body :=
  top3 .s .s .s fMax t o1 o2
/-- `FMAX.S` executed at the PC. -/
def execFmaxS (t : TMode) (o1 o2 : OD) (s : State) : Res :=
  runInstr (.top 157 t o1 o2) (bodyFmaxS t o1 o2) s

/-- `FMAX.D` (R456). -/
def bodyFmaxD (t : TMode) (o1 o2 : OD) : Body :=
  top3 .d .d .d fMax t o1 o2
/-- `FMAX.D` executed at the PC. -/
def execFmaxD (t : TMode) (o1 o2 : OD) (s : State) : Res :=
  runInstr (.top 158 t o1 o2) (bodyFmaxD t o1 o2) s

end Sys2Proof.Machine
end

