-- ==== Sys2Proof/Machine/Integer.lean ====
section
/-! DEFINITION. The integer instructions (40_integer.md), each the frame of its operand list over its computation. -/

namespace Sys2Proof.Machine

/-! ### `ADD` (R310): DEST <- S1 + S2 -/

/-- `ADD.Q` (R310). -/
def bodyAddQ (t : TMode) (o1 o2 : OD) : Body :=
  top3 .q .q .q aluAdd t o1 o2
/-- `ADD.Q` executed at the PC. -/
def execAddQ (t : TMode) (o1 o2 : OD) (s : State) : Res :=
  runInstr (.top 0 t o1 o2) (bodyAddQ t o1 o2) s

/-- `ADD.H` (R310). -/
def bodyAddH (t : TMode) (o1 o2 : OD) : Body :=
  top3 .h .h .h aluAdd t o1 o2
/-- `ADD.H` executed at the PC. -/
def execAddH (t : TMode) (o1 o2 : OD) (s : State) : Res :=
  runInstr (.top 1 t o1 o2) (bodyAddH t o1 o2) s

/-- `ADD.S` (R310). -/
def bodyAddS (t : TMode) (o1 o2 : OD) : Body :=
  top3 .s .s .s aluAdd t o1 o2
/-- `ADD.S` executed at the PC. -/
def execAddS (t : TMode) (o1 o2 : OD) (s : State) : Res :=
  runInstr (.top 2 t o1 o2) (bodyAddS t o1 o2) s

/-- `ADD.D` (R310). -/
def bodyAddD (t : TMode) (o1 o2 : OD) : Body :=
  top3 .d .d .d aluAdd t o1 o2
/-- `ADD.D` executed at the PC. -/
def execAddD (t : TMode) (o1 o2 : OD) (s : State) : Res :=
  runInstr (.top 3 t o1 o2) (bodyAddD t o1 o2) s

/-! ### `ADDC` (R311): DEST <- S1 + S2 + CARRY -/

/-- `ADDC.Q` (R311). -/
def bodyAddcQ (t : TMode) (o1 o2 : OD) : Body :=
  top3 .q .q .q aluAddc t o1 o2
/-- `ADDC.Q` executed at the PC. -/
def execAddcQ (t : TMode) (o1 o2 : OD) (s : State) : Res :=
  runInstr (.top 4 t o1 o2) (bodyAddcQ t o1 o2) s

/-- `ADDC.H` (R311). -/
def bodyAddcH (t : TMode) (o1 o2 : OD) : Body :=
  top3 .h .h .h aluAddc t o1 o2
/-- `ADDC.H` executed at the PC. -/
def execAddcH (t : TMode) (o1 o2 : OD) (s : State) : Res :=
  runInstr (.top 5 t o1 o2) (bodyAddcH t o1 o2) s

/-- `ADDC.S` (R311). -/
def bodyAddcS (t : TMode) (o1 o2 : OD) : Body :=
  top3 .s .s .s aluAddc t o1 o2
/-- `ADDC.S` executed at the PC. -/
def execAddcS (t : TMode) (o1 o2 : OD) (s : State) : Res :=
  runInstr (.top 6 t o1 o2) (bodyAddcS t o1 o2) s

/-- `ADDC.D` (R311). -/
def bodyAddcD (t : TMode) (o1 o2 : OD) : Body :=
  top3 .d .d .d aluAddc t o1 o2
/-- `ADDC.D` executed at the PC. -/
def execAddcD (t : TMode) (o1 o2 : OD) (s : State) : Res :=
  runInstr (.top 7 t o1 o2) (bodyAddcD t o1 o2) s

/-! ### `SUB` (R312): DEST <- S1 - S2 -/

/-- `SUB.Q` (R312). -/
def bodySubQ (t : TMode) (o1 o2 : OD) : Body :=
  top3 .q .q .q aluSub t o1 o2
/-- `SUB.Q` executed at the PC. -/
def execSubQ (t : TMode) (o1 o2 : OD) (s : State) : Res :=
  runInstr (.top 8 t o1 o2) (bodySubQ t o1 o2) s

/-- `SUB.H` (R312). -/
def bodySubH (t : TMode) (o1 o2 : OD) : Body :=
  top3 .h .h .h aluSub t o1 o2
/-- `SUB.H` executed at the PC. -/
def execSubH (t : TMode) (o1 o2 : OD) (s : State) : Res :=
  runInstr (.top 9 t o1 o2) (bodySubH t o1 o2) s

/-- `SUB.S` (R312). -/
def bodySubS (t : TMode) (o1 o2 : OD) : Body :=
  top3 .s .s .s aluSub t o1 o2
/-- `SUB.S` executed at the PC. -/
def execSubS (t : TMode) (o1 o2 : OD) (s : State) : Res :=
  runInstr (.top 10 t o1 o2) (bodySubS t o1 o2) s

/-- `SUB.D` (R312). -/
def bodySubD (t : TMode) (o1 o2 : OD) : Body :=
  top3 .d .d .d aluSub t o1 o2
/-- `SUB.D` executed at the PC. -/
def execSubD (t : TMode) (o1 o2 : OD) (s : State) : Res :=
  runInstr (.top 11 t o1 o2) (bodySubD t o1 o2) s

/-! ### `SUBV` (R313): DEST <- S2 - S1 -/

/-- `SUBV.Q` (R313). -/
def bodySubvQ (t : TMode) (o1 o2 : OD) : Body :=
  top3 .q .q .q aluSubv t o1 o2
/-- `SUBV.Q` executed at the PC. -/
def execSubvQ (t : TMode) (o1 o2 : OD) (s : State) : Res :=
  runInstr (.top 12 t o1 o2) (bodySubvQ t o1 o2) s

/-- `SUBV.H` (R313). -/
def bodySubvH (t : TMode) (o1 o2 : OD) : Body :=
  top3 .h .h .h aluSubv t o1 o2
/-- `SUBV.H` executed at the PC. -/
def execSubvH (t : TMode) (o1 o2 : OD) (s : State) : Res :=
  runInstr (.top 13 t o1 o2) (bodySubvH t o1 o2) s

/-- `SUBV.S` (R313). -/
def bodySubvS (t : TMode) (o1 o2 : OD) : Body :=
  top3 .s .s .s aluSubv t o1 o2
/-- `SUBV.S` executed at the PC. -/
def execSubvS (t : TMode) (o1 o2 : OD) (s : State) : Res :=
  runInstr (.top 14 t o1 o2) (bodySubvS t o1 o2) s

/-- `SUBV.D` (R313). -/
def bodySubvD (t : TMode) (o1 o2 : OD) : Body :=
  top3 .d .d .d aluSubv t o1 o2
/-- `SUBV.D` executed at the PC. -/
def execSubvD (t : TMode) (o1 o2 : OD) (s : State) : Res :=
  runInstr (.top 15 t o1 o2) (bodySubvD t o1 o2) s

/-! ### `SUBC` (R314): DEST <- S1 - S2 - 1 + CARRY -/

/-- `SUBC.Q` (R314). -/
def bodySubcQ (t : TMode) (o1 o2 : OD) : Body :=
  top3 .q .q .q aluSubc t o1 o2
/-- `SUBC.Q` executed at the PC. -/
def execSubcQ (t : TMode) (o1 o2 : OD) (s : State) : Res :=
  runInstr (.top 16 t o1 o2) (bodySubcQ t o1 o2) s

/-- `SUBC.H` (R314). -/
def bodySubcH (t : TMode) (o1 o2 : OD) : Body :=
  top3 .h .h .h aluSubc t o1 o2
/-- `SUBC.H` executed at the PC. -/
def execSubcH (t : TMode) (o1 o2 : OD) (s : State) : Res :=
  runInstr (.top 17 t o1 o2) (bodySubcH t o1 o2) s

/-- `SUBC.S` (R314). -/
def bodySubcS (t : TMode) (o1 o2 : OD) : Body :=
  top3 .s .s .s aluSubc t o1 o2
/-- `SUBC.S` executed at the PC. -/
def execSubcS (t : TMode) (o1 o2 : OD) (s : State) : Res :=
  runInstr (.top 18 t o1 o2) (bodySubcS t o1 o2) s

/-- `SUBC.D` (R314). -/
def bodySubcD (t : TMode) (o1 o2 : OD) : Body :=
  top3 .d .d .d aluSubc t o1 o2
/-- `SUBC.D` executed at the PC. -/
def execSubcD (t : TMode) (o1 o2 : OD) (s : State) : Res :=
  runInstr (.top 19 t o1 o2) (bodySubcD t o1 o2) s

/-! ### `SUBCV` (R315): DEST <- S2 - S1 - 1 + CARRY -/

/-- `SUBCV.Q` (R315). -/
def bodySubcvQ (t : TMode) (o1 o2 : OD) : Body :=
  top3 .q .q .q aluSubcv t o1 o2
/-- `SUBCV.Q` executed at the PC. -/
def execSubcvQ (t : TMode) (o1 o2 : OD) (s : State) : Res :=
  runInstr (.top 20 t o1 o2) (bodySubcvQ t o1 o2) s

/-- `SUBCV.H` (R315). -/
def bodySubcvH (t : TMode) (o1 o2 : OD) : Body :=
  top3 .h .h .h aluSubcv t o1 o2
/-- `SUBCV.H` executed at the PC. -/
def execSubcvH (t : TMode) (o1 o2 : OD) (s : State) : Res :=
  runInstr (.top 21 t o1 o2) (bodySubcvH t o1 o2) s

/-- `SUBCV.S` (R315). -/
def bodySubcvS (t : TMode) (o1 o2 : OD) : Body :=
  top3 .s .s .s aluSubcv t o1 o2
/-- `SUBCV.S` executed at the PC. -/
def execSubcvS (t : TMode) (o1 o2 : OD) (s : State) : Res :=
  runInstr (.top 22 t o1 o2) (bodySubcvS t o1 o2) s

/-- `SUBCV.D` (R315). -/
def bodySubcvD (t : TMode) (o1 o2 : OD) : Body :=
  top3 .d .d .d aluSubcv t o1 o2
/-- `SUBCV.D` executed at the PC. -/
def execSubcvD (t : TMode) (o1 o2 : OD) (s : State) : Res :=
  runInstr (.top 23 t o1 o2) (bodySubcvD t o1 o2) s

/-! ### `MULT` (R320): DEST <- the low-order part of S1*S2 -/

/-- `MULT.Q` (R320). -/
def bodyMultQ (t : TMode) (o1 o2 : OD) : Body :=
  top3 .q .q .q aluMult t o1 o2
/-- `MULT.Q` executed at the PC. -/
def execMultQ (t : TMode) (o1 o2 : OD) (s : State) : Res :=
  runInstr (.top 24 t o1 o2) (bodyMultQ t o1 o2) s

/-- `MULT.H` (R320). -/
def bodyMultH (t : TMode) (o1 o2 : OD) : Body :=
  top3 .h .h .h aluMult t o1 o2
/-- `MULT.H` executed at the PC. -/
def execMultH (t : TMode) (o1 o2 : OD) (s : State) : Res :=
  runInstr (.top 25 t o1 o2) (bodyMultH t o1 o2) s

/-- `MULT.S` (R320). -/
def bodyMultS (t : TMode) (o1 o2 : OD) : Body :=
  top3 .s .s .s aluMult t o1 o2
/-- `MULT.S` executed at the PC. -/
def execMultS (t : TMode) (o1 o2 : OD) (s : State) : Res :=
  runInstr (.top 26 t o1 o2) (bodyMultS t o1 o2) s

/-- `MULT.D` (R320). -/
def bodyMultD (t : TMode) (o1 o2 : OD) : Body :=
  top3 .d .d .d aluMult t o1 o2
/-- `MULT.D` executed at the PC. -/
def execMultD (t : TMode) (o1 o2 : OD) (s : State) : Res :=
  runInstr (.top 27 t o1 o2) (bodyMultD t o1 o2) s

/-! ### `MULTL` (R321): DEST <- S1*S2, twice as long -/

/-- `MULTL.Q` (R321). -/
def bodyMultlQ (t : TMode) (o1 o2 : OD) : Body :=
  top3 .h .q .q (pureAlu mulLong) t o1 o2
/-- `MULTL.Q` executed at the PC. -/
def execMultlQ (t : TMode) (o1 o2 : OD) (s : State) : Res :=
  runInstr (.top 28 t o1 o2) (bodyMultlQ t o1 o2) s

/-- `MULTL.H` (R321). -/
def bodyMultlH (t : TMode) (o1 o2 : OD) : Body :=
  top3 .s .h .h (pureAlu mulLong) t o1 o2
/-- `MULTL.H` executed at the PC. -/
def execMultlH (t : TMode) (o1 o2 : OD) (s : State) : Res :=
  runInstr (.top 29 t o1 o2) (bodyMultlH t o1 o2) s

/-- `MULTL.S` (R321). -/
def bodyMultlS (t : TMode) (o1 o2 : OD) : Body :=
  top3 .d .s .s (pureAlu mulLong) t o1 o2
/-- `MULTL.S` executed at the PC. -/
def execMultlS (t : TMode) (o1 o2 : OD) (s : State) : Res :=
  runInstr (.top 30 t o1 o2) (bodyMultlS t o1 o2) s

/-! ### `QUO` (R324): DEST <- S1/S2 -/

/-- `QUO.Q` (R324). -/
def bodyQuoQ (t : TMode) (o1 o2 : OD) : Body :=
  top3 .q .q .q aluQuo t o1 o2
/-- `QUO.Q` executed at the PC. -/
def execQuoQ (t : TMode) (o1 o2 : OD) (s : State) : Res :=
  runInstr (.top 31 t o1 o2) (bodyQuoQ t o1 o2) s

/-- `QUO.H` (R324). -/
def bodyQuoH (t : TMode) (o1 o2 : OD) : Body :=
  top3 .h .h .h aluQuo t o1 o2
/-- `QUO.H` executed at the PC. -/
def execQuoH (t : TMode) (o1 o2 : OD) (s : State) : Res :=
  runInstr (.top 32 t o1 o2) (bodyQuoH t o1 o2) s

/-- `QUO.S` (R324). -/
def bodyQuoS (t : TMode) (o1 o2 : OD) : Body :=
  top3 .s .s .s aluQuo t o1 o2
/-- `QUO.S` executed at the PC. -/
def execQuoS (t : TMode) (o1 o2 : OD) (s : State) : Res :=
  runInstr (.top 33 t o1 o2) (bodyQuoS t o1 o2) s

/-- `QUO.D` (R324). -/
def bodyQuoD (t : TMode) (o1 o2 : OD) : Body :=
  top3 .d .d .d aluQuo t o1 o2
/-- `QUO.D` executed at the PC. -/
def execQuoD (t : TMode) (o1 o2 : OD) (s : State) : Res :=
  runInstr (.top 34 t o1 o2) (bodyQuoD t o1 o2) s

/-! ### `QUOV` (R325): DEST <- S2/S1 -/

/-- `QUOV.Q` (R325). -/
def bodyQuovQ (t : TMode) (o1 o2 : OD) : Body :=
  top3 .q .q .q aluQuov t o1 o2
/-- `QUOV.Q` executed at the PC. -/
def execQuovQ (t : TMode) (o1 o2 : OD) (s : State) : Res :=
  runInstr (.top 35 t o1 o2) (bodyQuovQ t o1 o2) s

/-- `QUOV.H` (R325). -/
def bodyQuovH (t : TMode) (o1 o2 : OD) : Body :=
  top3 .h .h .h aluQuov t o1 o2
/-- `QUOV.H` executed at the PC. -/
def execQuovH (t : TMode) (o1 o2 : OD) (s : State) : Res :=
  runInstr (.top 36 t o1 o2) (bodyQuovH t o1 o2) s

/-- `QUOV.S` (R325). -/
def bodyQuovS (t : TMode) (o1 o2 : OD) : Body :=
  top3 .s .s .s aluQuov t o1 o2
/-- `QUOV.S` executed at the PC. -/
def execQuovS (t : TMode) (o1 o2 : OD) (s : State) : Res :=
  runInstr (.top 37 t o1 o2) (bodyQuovS t o1 o2) s

/-- `QUOV.D` (R325). -/
def bodyQuovD (t : TMode) (o1 o2 : OD) : Body :=
  top3 .d .d .d aluQuov t o1 o2
/-- `QUOV.D` executed at the PC. -/
def execQuovD (t : TMode) (o1 o2 : OD) (s : State) : Res :=
  runInstr (.top 38 t o1 o2) (bodyQuovD t o1 o2) s

/-! ### `QUOL` (R326): DEST <- S1/S2, S1 long -/

/-- `QUOL.Q` (R326). -/
def bodyQuolQ (t : TMode) (o1 o2 : OD) : Body :=
  top3 .q .h .q aluQuo t o1 o2
/-- `QUOL.Q` executed at the PC. -/
def execQuolQ (t : TMode) (o1 o2 : OD) (s : State) : Res :=
  runInstr (.top 39 t o1 o2) (bodyQuolQ t o1 o2) s

/-- `QUOL.H` (R326). -/
def bodyQuolH (t : TMode) (o1 o2 : OD) : Body :=
  top3 .h .s .h aluQuo t o1 o2
/-- `QUOL.H` executed at the PC. -/
def execQuolH (t : TMode) (o1 o2 : OD) (s : State) : Res :=
  runInstr (.top 40 t o1 o2) (bodyQuolH t o1 o2) s

/-- `QUOL.S` (R326). -/
def bodyQuolS (t : TMode) (o1 o2 : OD) : Body :=
  top3 .s .d .s aluQuo t o1 o2
/-- `QUOL.S` executed at the PC. -/
def execQuolS (t : TMode) (o1 o2 : OD) (s : State) : Res :=
  runInstr (.top 41 t o1 o2) (bodyQuolS t o1 o2) s

/-! ### `QUOLV` (R327): DEST <- S2/S1, S2 long -/

/-- `QUOLV.Q` (R327). -/
def bodyQuolvQ (t : TMode) (o1 o2 : OD) : Body :=
  top3 .q .q .h aluQuov t o1 o2
/-- `QUOLV.Q` executed at the PC. -/
def execQuolvQ (t : TMode) (o1 o2 : OD) (s : State) : Res :=
  runInstr (.top 42 t o1 o2) (bodyQuolvQ t o1 o2) s

/-- `QUOLV.H` (R327). -/
def bodyQuolvH (t : TMode) (o1 o2 : OD) : Body :=
  top3 .h .h .s aluQuov t o1 o2
/-- `QUOLV.H` executed at the PC. -/
def execQuolvH (t : TMode) (o1 o2 : OD) (s : State) : Res :=
  runInstr (.top 43 t o1 o2) (bodyQuolvH t o1 o2) s

/-- `QUOLV.S` (R327). -/
def bodyQuolvS (t : TMode) (o1 o2 : OD) : Body :=
  top3 .s .s .d aluQuov t o1 o2
/-- `QUOLV.S` executed at the PC. -/
def execQuolvS (t : TMode) (o1 o2 : OD) (s : State) : Res :=
  runInstr (.top 44 t o1 o2) (bodyQuolvS t o1 o2) s

/-! ### `QUO2` (R330): DEST <- S1/2^S2 -/

/-- `QUO2.Q` (R330). -/
def bodyQuo2Q (t : TMode) (o1 o2 : OD) : Body :=
  top3 .q .q .q aluQuo2 t o1 o2
/-- `QUO2.Q` executed at the PC. -/
def execQuo2Q (t : TMode) (o1 o2 : OD) (s : State) : Res :=
  runInstr (.top 45 t o1 o2) (bodyQuo2Q t o1 o2) s

/-- `QUO2.H` (R330). -/
def bodyQuo2H (t : TMode) (o1 o2 : OD) : Body :=
  top3 .h .h .h aluQuo2 t o1 o2
/-- `QUO2.H` executed at the PC. -/
def execQuo2H (t : TMode) (o1 o2 : OD) (s : State) : Res :=
  runInstr (.top 46 t o1 o2) (bodyQuo2H t o1 o2) s

/-- `QUO2.S` (R330). -/
def bodyQuo2S (t : TMode) (o1 o2 : OD) : Body :=
  top3 .s .s .s aluQuo2 t o1 o2
/-- `QUO2.S` executed at the PC. -/
def execQuo2S (t : TMode) (o1 o2 : OD) (s : State) : Res :=
  runInstr (.top 47 t o1 o2) (bodyQuo2S t o1 o2) s

/-- `QUO2.D` (R330). -/
def bodyQuo2D (t : TMode) (o1 o2 : OD) : Body :=
  top3 .d .d .d aluQuo2 t o1 o2
/-- `QUO2.D` executed at the PC. -/
def execQuo2D (t : TMode) (o1 o2 : OD) (s : State) : Res :=
  runInstr (.top 48 t o1 o2) (bodyQuo2D t o1 o2) s

/-! ### `QUO2V` (R331): DEST <- S2/2^S1 -/

/-- `QUO2V.Q` (R331). -/
def bodyQuo2vQ (t : TMode) (o1 o2 : OD) : Body :=
  top3 .q .q .q aluQuo2v t o1 o2
/-- `QUO2V.Q` executed at the PC. -/
def execQuo2vQ (t : TMode) (o1 o2 : OD) (s : State) : Res :=
  runInstr (.top 49 t o1 o2) (bodyQuo2vQ t o1 o2) s

/-- `QUO2V.H` (R331). -/
def bodyQuo2vH (t : TMode) (o1 o2 : OD) : Body :=
  top3 .h .h .h aluQuo2v t o1 o2
/-- `QUO2V.H` executed at the PC. -/
def execQuo2vH (t : TMode) (o1 o2 : OD) (s : State) : Res :=
  runInstr (.top 50 t o1 o2) (bodyQuo2vH t o1 o2) s

/-- `QUO2V.S` (R331). -/
def bodyQuo2vS (t : TMode) (o1 o2 : OD) : Body :=
  top3 .s .s .s aluQuo2v t o1 o2
/-- `QUO2V.S` executed at the PC. -/
def execQuo2vS (t : TMode) (o1 o2 : OD) (s : State) : Res :=
  runInstr (.top 51 t o1 o2) (bodyQuo2vS t o1 o2) s

/-- `QUO2V.D` (R331). -/
def bodyQuo2vD (t : TMode) (o1 o2 : OD) : Body :=
  top3 .d .d .d aluQuo2v t o1 o2
/-- `QUO2V.D` executed at the PC. -/
def execQuo2vD (t : TMode) (o1 o2 : OD) (s : State) : Res :=
  runInstr (.top 52 t o1 o2) (bodyQuo2vD t o1 o2) s

/-! ### `QUO2L` (R332): DEST <- S1/2^S2, S1 long -/

/-- `QUO2L.Q` (R332). -/
def bodyQuo2lQ (t : TMode) (o1 o2 : OD) : Body :=
  top3 .q .h .q aluQuo2 t o1 o2
/-- `QUO2L.Q` executed at the PC. -/
def execQuo2lQ (t : TMode) (o1 o2 : OD) (s : State) : Res :=
  runInstr (.top 53 t o1 o2) (bodyQuo2lQ t o1 o2) s

/-- `QUO2L.H` (R332). -/
def bodyQuo2lH (t : TMode) (o1 o2 : OD) : Body :=
  top3 .h .s .h aluQuo2 t o1 o2
/-- `QUO2L.H` executed at the PC. -/
def execQuo2lH (t : TMode) (o1 o2 : OD) (s : State) : Res :=
  runInstr (.top 54 t o1 o2) (bodyQuo2lH t o1 o2) s

/-- `QUO2L.S` (R332). -/
def bodyQuo2lS (t : TMode) (o1 o2 : OD) : Body :=
  top3 .s .d .s aluQuo2 t o1 o2
/-- `QUO2L.S` executed at the PC. -/
def execQuo2lS (t : TMode) (o1 o2 : OD) (s : State) : Res :=
  runInstr (.top 55 t o1 o2) (bodyQuo2lS t o1 o2) s

/-! ### `QUO2LV` (R333): DEST <- S2/2^S1, S2 long -/

/-- `QUO2LV.Q` (R333). -/
def bodyQuo2lvQ (t : TMode) (o1 o2 : OD) : Body :=
  top3 .q .q .h aluQuo2v t o1 o2
/-- `QUO2LV.Q` executed at the PC. -/
def execQuo2lvQ (t : TMode) (o1 o2 : OD) (s : State) : Res :=
  runInstr (.top 56 t o1 o2) (bodyQuo2lvQ t o1 o2) s

/-- `QUO2LV.H` (R333). -/
def bodyQuo2lvH (t : TMode) (o1 o2 : OD) : Body :=
  top3 .h .h .s aluQuo2v t o1 o2
/-- `QUO2LV.H` executed at the PC. -/
def execQuo2lvH (t : TMode) (o1 o2 : OD) (s : State) : Res :=
  runInstr (.top 57 t o1 o2) (bodyQuo2lvH t o1 o2) s

/-- `QUO2LV.S` (R333). -/
def bodyQuo2lvS (t : TMode) (o1 o2 : OD) : Body :=
  top3 .s .s .d aluQuo2v t o1 o2
/-- `QUO2LV.S` executed at the PC. -/
def execQuo2lvS (t : TMode) (o1 o2 : OD) (s : State) : Res :=
  runInstr (.top 58 t o1 o2) (bodyQuo2lvS t o1 o2) s

/-! ### `REM` (R336): DEST <- S1 rem S2 -/

/-- `REM.Q` (R336). -/
def bodyRemQ (t : TMode) (o1 o2 : OD) : Body :=
  top3 .q .q .q aluRem t o1 o2
/-- `REM.Q` executed at the PC. -/
def execRemQ (t : TMode) (o1 o2 : OD) (s : State) : Res :=
  runInstr (.top 59 t o1 o2) (bodyRemQ t o1 o2) s

/-- `REM.H` (R336). -/
def bodyRemH (t : TMode) (o1 o2 : OD) : Body :=
  top3 .h .h .h aluRem t o1 o2
/-- `REM.H` executed at the PC. -/
def execRemH (t : TMode) (o1 o2 : OD) (s : State) : Res :=
  runInstr (.top 60 t o1 o2) (bodyRemH t o1 o2) s

/-- `REM.S` (R336). -/
def bodyRemS (t : TMode) (o1 o2 : OD) : Body :=
  top3 .s .s .s aluRem t o1 o2
/-- `REM.S` executed at the PC. -/
def execRemS (t : TMode) (o1 o2 : OD) (s : State) : Res :=
  runInstr (.top 61 t o1 o2) (bodyRemS t o1 o2) s

/-- `REM.D` (R336). -/
def bodyRemD (t : TMode) (o1 o2 : OD) : Body :=
  top3 .d .d .d aluRem t o1 o2
/-- `REM.D` executed at the PC. -/
def execRemD (t : TMode) (o1 o2 : OD) (s : State) : Res :=
  runInstr (.top 62 t o1 o2) (bodyRemD t o1 o2) s

/-! ### `REMV` (R337): DEST <- S2 rem S1 -/

/-- `REMV.Q` (R337). -/
def bodyRemvQ (t : TMode) (o1 o2 : OD) : Body :=
  top3 .q .q .q aluRemv t o1 o2
/-- `REMV.Q` executed at the PC. -/
def execRemvQ (t : TMode) (o1 o2 : OD) (s : State) : Res :=
  runInstr (.top 63 t o1 o2) (bodyRemvQ t o1 o2) s

/-- `REMV.H` (R337). -/
def bodyRemvH (t : TMode) (o1 o2 : OD) : Body :=
  top3 .h .h .h aluRemv t o1 o2
/-- `REMV.H` executed at the PC. -/
def execRemvH (t : TMode) (o1 o2 : OD) (s : State) : Res :=
  runInstr (.top 64 t o1 o2) (bodyRemvH t o1 o2) s

/-- `REMV.S` (R337). -/
def bodyRemvS (t : TMode) (o1 o2 : OD) : Body :=
  top3 .s .s .s aluRemv t o1 o2
/-- `REMV.S` executed at the PC. -/
def execRemvS (t : TMode) (o1 o2 : OD) (s : State) : Res :=
  runInstr (.top 65 t o1 o2) (bodyRemvS t o1 o2) s

/-- `REMV.D` (R337). -/
def bodyRemvD (t : TMode) (o1 o2 : OD) : Body :=
  top3 .d .d .d aluRemv t o1 o2
/-- `REMV.D` executed at the PC. -/
def execRemvD (t : TMode) (o1 o2 : OD) (s : State) : Res :=
  runInstr (.top 66 t o1 o2) (bodyRemvD t o1 o2) s

/-! ### `REML` (R338): DEST <- S1 rem S2, S1 long -/

/-- `REML.Q` (R338). -/
def bodyRemlQ (t : TMode) (o1 o2 : OD) : Body :=
  top3 .q .h .q aluRem t o1 o2
/-- `REML.Q` executed at the PC. -/
def execRemlQ (t : TMode) (o1 o2 : OD) (s : State) : Res :=
  runInstr (.top 67 t o1 o2) (bodyRemlQ t o1 o2) s

/-- `REML.H` (R338). -/
def bodyRemlH (t : TMode) (o1 o2 : OD) : Body :=
  top3 .h .s .h aluRem t o1 o2
/-- `REML.H` executed at the PC. -/
def execRemlH (t : TMode) (o1 o2 : OD) (s : State) : Res :=
  runInstr (.top 68 t o1 o2) (bodyRemlH t o1 o2) s

/-- `REML.S` (R338). -/
def bodyRemlS (t : TMode) (o1 o2 : OD) : Body :=
  top3 .s .d .s aluRem t o1 o2
/-- `REML.S` executed at the PC. -/
def execRemlS (t : TMode) (o1 o2 : OD) (s : State) : Res :=
  runInstr (.top 69 t o1 o2) (bodyRemlS t o1 o2) s

/-! ### `REMLV` (R339): DEST <- S2 rem S1, S2 long -/

/-- `REMLV.Q` (R339). -/
def bodyRemlvQ (t : TMode) (o1 o2 : OD) : Body :=
  top3 .q .q .h aluRemv t o1 o2
/-- `REMLV.Q` executed at the PC. -/
def execRemlvQ (t : TMode) (o1 o2 : OD) (s : State) : Res :=
  runInstr (.top 70 t o1 o2) (bodyRemlvQ t o1 o2) s

/-- `REMLV.H` (R339). -/
def bodyRemlvH (t : TMode) (o1 o2 : OD) : Body :=
  top3 .h .h .s aluRemv t o1 o2
/-- `REMLV.H` executed at the PC. -/
def execRemlvH (t : TMode) (o1 o2 : OD) (s : State) : Res :=
  runInstr (.top 71 t o1 o2) (bodyRemlvH t o1 o2) s

/-- `REMLV.S` (R339). -/
def bodyRemlvS (t : TMode) (o1 o2 : OD) : Body :=
  top3 .s .s .d aluRemv t o1 o2
/-- `REMLV.S` executed at the PC. -/
def execRemlvS (t : TMode) (o1 o2 : OD) (s : State) : Res :=
  runInstr (.top 72 t o1 o2) (bodyRemlvS t o1 o2) s

/-! ### `MOD` (R342): DEST <- S1 mod S2 -/

/-- `MOD.Q` (R342). -/
def bodyModQ (t : TMode) (o1 o2 : OD) : Body :=
  top3 .q .q .q aluMod t o1 o2
/-- `MOD.Q` executed at the PC. -/
def execModQ (t : TMode) (o1 o2 : OD) (s : State) : Res :=
  runInstr (.top 73 t o1 o2) (bodyModQ t o1 o2) s

/-- `MOD.H` (R342). -/
def bodyModH (t : TMode) (o1 o2 : OD) : Body :=
  top3 .h .h .h aluMod t o1 o2
/-- `MOD.H` executed at the PC. -/
def execModH (t : TMode) (o1 o2 : OD) (s : State) : Res :=
  runInstr (.top 74 t o1 o2) (bodyModH t o1 o2) s

/-- `MOD.S` (R342). -/
def bodyModS (t : TMode) (o1 o2 : OD) : Body :=
  top3 .s .s .s aluMod t o1 o2
/-- `MOD.S` executed at the PC. -/
def execModS (t : TMode) (o1 o2 : OD) (s : State) : Res :=
  runInstr (.top 75 t o1 o2) (bodyModS t o1 o2) s

/-- `MOD.D` (R342). -/
def bodyModD (t : TMode) (o1 o2 : OD) : Body :=
  top3 .d .d .d aluMod t o1 o2
/-- `MOD.D` executed at the PC. -/
def execModD (t : TMode) (o1 o2 : OD) (s : State) : Res :=
  runInstr (.top 76 t o1 o2) (bodyModD t o1 o2) s

/-! ### `MODV` (R343): DEST <- S2 mod S1 -/

/-- `MODV.Q` (R343). -/
def bodyModvQ (t : TMode) (o1 o2 : OD) : Body :=
  top3 .q .q .q aluModv t o1 o2
/-- `MODV.Q` executed at the PC. -/
def execModvQ (t : TMode) (o1 o2 : OD) (s : State) : Res :=
  runInstr (.top 77 t o1 o2) (bodyModvQ t o1 o2) s

/-- `MODV.H` (R343). -/
def bodyModvH (t : TMode) (o1 o2 : OD) : Body :=
  top3 .h .h .h aluModv t o1 o2
/-- `MODV.H` executed at the PC. -/
def execModvH (t : TMode) (o1 o2 : OD) (s : State) : Res :=
  runInstr (.top 78 t o1 o2) (bodyModvH t o1 o2) s

/-- `MODV.S` (R343). -/
def bodyModvS (t : TMode) (o1 o2 : OD) : Body :=
  top3 .s .s .s aluModv t o1 o2
/-- `MODV.S` executed at the PC. -/
def execModvS (t : TMode) (o1 o2 : OD) (s : State) : Res :=
  runInstr (.top 79 t o1 o2) (bodyModvS t o1 o2) s

/-- `MODV.D` (R343). -/
def bodyModvD (t : TMode) (o1 o2 : OD) : Body :=
  top3 .d .d .d aluModv t o1 o2
/-- `MODV.D` executed at the PC. -/
def execModvD (t : TMode) (o1 o2 : OD) (s : State) : Res :=
  runInstr (.top 80 t o1 o2) (bodyModvD t o1 o2) s

/-! ### `MODL` (R344): DEST <- S1 mod S2, S1 long -/

/-- `MODL.Q` (R344). -/
def bodyModlQ (t : TMode) (o1 o2 : OD) : Body :=
  top3 .q .h .q aluMod t o1 o2
/-- `MODL.Q` executed at the PC. -/
def execModlQ (t : TMode) (o1 o2 : OD) (s : State) : Res :=
  runInstr (.top 81 t o1 o2) (bodyModlQ t o1 o2) s

/-- `MODL.H` (R344). -/
def bodyModlH (t : TMode) (o1 o2 : OD) : Body :=
  top3 .h .s .h aluMod t o1 o2
/-- `MODL.H` executed at the PC. -/
def execModlH (t : TMode) (o1 o2 : OD) (s : State) : Res :=
  runInstr (.top 82 t o1 o2) (bodyModlH t o1 o2) s

/-- `MODL.S` (R344). -/
def bodyModlS (t : TMode) (o1 o2 : OD) : Body :=
  top3 .s .d .s aluMod t o1 o2
/-- `MODL.S` executed at the PC. -/
def execModlS (t : TMode) (o1 o2 : OD) (s : State) : Res :=
  runInstr (.top 83 t o1 o2) (bodyModlS t o1 o2) s

/-! ### `MODLV` (R345): DEST <- S2 mod S1, S2 long -/

/-- `MODLV.Q` (R345). -/
def bodyModlvQ (t : TMode) (o1 o2 : OD) : Body :=
  top3 .q .q .h aluModv t o1 o2
/-- `MODLV.Q` executed at the PC. -/
def execModlvQ (t : TMode) (o1 o2 : OD) (s : State) : Res :=
  runInstr (.top 84 t o1 o2) (bodyModlvQ t o1 o2) s

/-- `MODLV.H` (R345). -/
def bodyModlvH (t : TMode) (o1 o2 : OD) : Body :=
  top3 .h .h .s aluModv t o1 o2
/-- `MODLV.H` executed at the PC. -/
def execModlvH (t : TMode) (o1 o2 : OD) (s : State) : Res :=
  runInstr (.top 85 t o1 o2) (bodyModlvH t o1 o2) s

/-- `MODLV.S` (R345). -/
def bodyModlvS (t : TMode) (o1 o2 : OD) : Body :=
  top3 .s .s .d aluModv t o1 o2
/-- `MODLV.S` executed at the PC. -/
def execModlvS (t : TMode) (o1 o2 : OD) (s : State) : Res :=
  runInstr (.top 86 t o1 o2) (bodyModlvS t o1 o2) s

/-! ### `DIV` (R348): DEST <- S1/S2; NEXT(DEST) <- S1 rem S2 -/

/-- `DIV.Q` (R348). -/
def bodyDivQ (t : TMode) (o1 o2 : OD) : Body :=
  top3Next .q .q .q aluDiv t o1 o2
/-- `DIV.Q` executed at the PC. -/
def execDivQ (t : TMode) (o1 o2 : OD) (s : State) : Res :=
  runInstr (.top 87 t o1 o2) (bodyDivQ t o1 o2) s

/-- `DIV.H` (R348). -/
def bodyDivH (t : TMode) (o1 o2 : OD) : Body :=
  top3Next .h .h .h aluDiv t o1 o2
/-- `DIV.H` executed at the PC. -/
def execDivH (t : TMode) (o1 o2 : OD) (s : State) : Res :=
  runInstr (.top 88 t o1 o2) (bodyDivH t o1 o2) s

/-- `DIV.S` (R348). -/
def bodyDivS (t : TMode) (o1 o2 : OD) : Body :=
  top3Next .s .s .s aluDiv t o1 o2
/-- `DIV.S` executed at the PC. -/
def execDivS (t : TMode) (o1 o2 : OD) (s : State) : Res :=
  runInstr (.top 89 t o1 o2) (bodyDivS t o1 o2) s

/-- `DIV.D` (R348). -/
def bodyDivD (t : TMode) (o1 o2 : OD) : Body :=
  top3Next .d .d .d aluDiv t o1 o2
/-- `DIV.D` executed at the PC. -/
def execDivD (t : TMode) (o1 o2 : OD) (s : State) : Res :=
  runInstr (.top 90 t o1 o2) (bodyDivD t o1 o2) s

/-! ### `DIVV` (R349): DEST <- S2/S1; NEXT(DEST) <- S2 rem S1 -/

/-- `DIVV.Q` (R349). -/
def bodyDivvQ (t : TMode) (o1 o2 : OD) : Body :=
  top3Next .q .q .q aluDivv t o1 o2
/-- `DIVV.Q` executed at the PC. -/
def execDivvQ (t : TMode) (o1 o2 : OD) (s : State) : Res :=
  runInstr (.top 91 t o1 o2) (bodyDivvQ t o1 o2) s

/-- `DIVV.H` (R349). -/
def bodyDivvH (t : TMode) (o1 o2 : OD) : Body :=
  top3Next .h .h .h aluDivv t o1 o2
/-- `DIVV.H` executed at the PC. -/
def execDivvH (t : TMode) (o1 o2 : OD) (s : State) : Res :=
  runInstr (.top 92 t o1 o2) (bodyDivvH t o1 o2) s

/-- `DIVV.S` (R349). -/
def bodyDivvS (t : TMode) (o1 o2 : OD) : Body :=
  top3Next .s .s .s aluDivv t o1 o2
/-- `DIVV.S` executed at the PC. -/
def execDivvS (t : TMode) (o1 o2 : OD) (s : State) : Res :=
  runInstr (.top 93 t o1 o2) (bodyDivvS t o1 o2) s

/-- `DIVV.D` (R349). -/
def bodyDivvD (t : TMode) (o1 o2 : OD) : Body :=
  top3Next .d .d .d aluDivv t o1 o2
/-- `DIVV.D` executed at the PC. -/
def execDivvD (t : TMode) (o1 o2 : OD) (s : State) : Res :=
  runInstr (.top 94 t o1 o2) (bodyDivvD t o1 o2) s

/-! ### `DIVL` (R350): DEST <- S1/S2; NEXT(DEST) <- S1 rem S2; S1 long -/

/-- `DIVL.Q` (R350). -/
def bodyDivlQ (t : TMode) (o1 o2 : OD) : Body :=
  top3Next .q .h .q aluDiv t o1 o2
/-- `DIVL.Q` executed at the PC. -/
def execDivlQ (t : TMode) (o1 o2 : OD) (s : State) : Res :=
  runInstr (.top 95 t o1 o2) (bodyDivlQ t o1 o2) s

/-- `DIVL.H` (R350). -/
def bodyDivlH (t : TMode) (o1 o2 : OD) : Body :=
  top3Next .h .s .h aluDiv t o1 o2
/-- `DIVL.H` executed at the PC. -/
def execDivlH (t : TMode) (o1 o2 : OD) (s : State) : Res :=
  runInstr (.top 96 t o1 o2) (bodyDivlH t o1 o2) s

/-- `DIVL.S` (R350). -/
def bodyDivlS (t : TMode) (o1 o2 : OD) : Body :=
  top3Next .s .d .s aluDiv t o1 o2
/-- `DIVL.S` executed at the PC. -/
def execDivlS (t : TMode) (o1 o2 : OD) (s : State) : Res :=
  runInstr (.top 97 t o1 o2) (bodyDivlS t o1 o2) s

/-! ### `DIVLV` (R351): DEST <- S2/S1; NEXT(DEST) <- S2 rem S1; S2 long -/

/-- `DIVLV.Q` (R351). -/
def bodyDivlvQ (t : TMode) (o1 o2 : OD) : Body :=
  top3Next .q .q .h aluDivv t o1 o2
/-- `DIVLV.Q` executed at the PC. -/
def execDivlvQ (t : TMode) (o1 o2 : OD) (s : State) : Res :=
  runInstr (.top 98 t o1 o2) (bodyDivlvQ t o1 o2) s

/-- `DIVLV.H` (R351). -/
def bodyDivlvH (t : TMode) (o1 o2 : OD) : Body :=
  top3Next .h .h .s aluDivv t o1 o2
/-- `DIVLV.H` executed at the PC. -/
def execDivlvH (t : TMode) (o1 o2 : OD) (s : State) : Res :=
  runInstr (.top 99 t o1 o2) (bodyDivlvH t o1 o2) s

/-- `DIVLV.S` (R351). -/
def bodyDivlvS (t : TMode) (o1 o2 : OD) : Body :=
  top3Next .s .s .d aluDivv t o1 o2
/-- `DIVLV.S` executed at the PC. -/
def execDivlvS (t : TMode) (o1 o2 : OD) (s : State) : Res :=
  runInstr (.top 100 t o1 o2) (bodyDivlvS t o1 o2) s

/-! ### `INC` (R354): OP1 <- OP2 + 1 -/

/-- `INC.Q` (R354). -/
def bodyIncQ (o1 o2 : OD) : Body :=
  xop2 .q .q aluInc o1 o2
/-- `INC.Q` executed at the PC. -/
def execIncQ (o1 o2 : OD) (s : State) : Res :=
  runInstr (.xop 0 o1 o2) (bodyIncQ o1 o2) s

/-- `INC.H` (R354). -/
def bodyIncH (o1 o2 : OD) : Body :=
  xop2 .h .h aluInc o1 o2
/-- `INC.H` executed at the PC. -/
def execIncH (o1 o2 : OD) (s : State) : Res :=
  runInstr (.xop 1 o1 o2) (bodyIncH o1 o2) s

/-- `INC.S` (R354). -/
def bodyIncS (o1 o2 : OD) : Body :=
  xop2 .s .s aluInc o1 o2
/-- `INC.S` executed at the PC. -/
def execIncS (o1 o2 : OD) (s : State) : Res :=
  runInstr (.xop 2 o1 o2) (bodyIncS o1 o2) s

/-- `INC.D` (R354). -/
def bodyIncD (o1 o2 : OD) : Body :=
  xop2 .d .d aluInc o1 o2
/-- `INC.D` executed at the PC. -/
def execIncD (o1 o2 : OD) (s : State) : Res :=
  runInstr (.xop 3 o1 o2) (bodyIncD o1 o2) s

/-! ### `DEC` (R355): OP1 <- OP2 - 1 -/

/-- `DEC.Q` (R355). -/
def bodyDecQ (o1 o2 : OD) : Body :=
  xop2 .q .q aluDec o1 o2
/-- `DEC.Q` executed at the PC. -/
def execDecQ (o1 o2 : OD) (s : State) : Res :=
  runInstr (.xop 4 o1 o2) (bodyDecQ o1 o2) s

/-- `DEC.H` (R355). -/
def bodyDecH (o1 o2 : OD) : Body :=
  xop2 .h .h aluDec o1 o2
/-- `DEC.H` executed at the PC. -/
def execDecH (o1 o2 : OD) (s : State) : Res :=
  runInstr (.xop 5 o1 o2) (bodyDecH o1 o2) s

/-- `DEC.S` (R355). -/
def bodyDecS (o1 o2 : OD) : Body :=
  xop2 .s .s aluDec o1 o2
/-- `DEC.S` executed at the PC. -/
def execDecS (o1 o2 : OD) (s : State) : Res :=
  runInstr (.xop 6 o1 o2) (bodyDecS o1 o2) s

/-- `DEC.D` (R355). -/
def bodyDecD (o1 o2 : OD) : Body :=
  xop2 .d .d aluDec o1 o2
/-- `DEC.D` executed at the PC. -/
def execDecD (o1 o2 : OD) (s : State) : Res :=
  runInstr (.xop 7 o1 o2) (bodyDecD o1 o2) s

/-! ### `TRANS` (R358): OP1 <- OP2 at the precision of OP1 -/

/-- `TRANS.Q.Q` (R358). -/
def bodyTransQQ (o1 o2 : OD) : Body :=
  xop2 .q .q aluTrans o1 o2
/-- `TRANS.Q.Q` executed at the PC. -/
def execTransQQ (o1 o2 : OD) (s : State) : Res :=
  runInstr (.xop 8 o1 o2) (bodyTransQQ o1 o2) s

/-- `TRANS.Q.H` (R358). -/
def bodyTransQH (o1 o2 : OD) : Body :=
  xop2 .q .h aluTrans o1 o2
/-- `TRANS.Q.H` executed at the PC. -/
def execTransQH (o1 o2 : OD) (s : State) : Res :=
  runInstr (.xop 9 o1 o2) (bodyTransQH o1 o2) s

/-- `TRANS.Q.S` (R358). -/
def bodyTransQS (o1 o2 : OD) : Body :=
  xop2 .q .s aluTrans o1 o2
/-- `TRANS.Q.S` executed at the PC. -/
def execTransQS (o1 o2 : OD) (s : State) : Res :=
  runInstr (.xop 10 o1 o2) (bodyTransQS o1 o2) s

/-- `TRANS.Q.D` (R358). -/
def bodyTransQD (o1 o2 : OD) : Body :=
  xop2 .q .d aluTrans o1 o2
/-- `TRANS.Q.D` executed at the PC. -/
def execTransQD (o1 o2 : OD) (s : State) : Res :=
  runInstr (.xop 11 o1 o2) (bodyTransQD o1 o2) s

/-- `TRANS.H.Q` (R358). -/
def bodyTransHQ (o1 o2 : OD) : Body :=
  xop2 .h .q aluTrans o1 o2
/-- `TRANS.H.Q` executed at the PC. -/
def execTransHQ (o1 o2 : OD) (s : State) : Res :=
  runInstr (.xop 12 o1 o2) (bodyTransHQ o1 o2) s

/-- `TRANS.H.H` (R358). -/
def bodyTransHH (o1 o2 : OD) : Body :=
  xop2 .h .h aluTrans o1 o2
/-- `TRANS.H.H` executed at the PC. -/
def execTransHH (o1 o2 : OD) (s : State) : Res :=
  runInstr (.xop 13 o1 o2) (bodyTransHH o1 o2) s

/-- `TRANS.H.S` (R358). -/
def bodyTransHS (o1 o2 : OD) : Body :=
  xop2 .h .s aluTrans o1 o2
/-- `TRANS.H.S` executed at the PC. -/
def execTransHS (o1 o2 : OD) (s : State) : Res :=
  runInstr (.xop 14 o1 o2) (bodyTransHS o1 o2) s

/-- `TRANS.H.D` (R358). -/
def bodyTransHD (o1 o2 : OD) : Body :=
  xop2 .h .d aluTrans o1 o2
/-- `TRANS.H.D` executed at the PC. -/
def execTransHD (o1 o2 : OD) (s : State) : Res :=
  runInstr (.xop 15 o1 o2) (bodyTransHD o1 o2) s

/-- `TRANS.S.Q` (R358). -/
def bodyTransSQ (o1 o2 : OD) : Body :=
  xop2 .s .q aluTrans o1 o2
/-- `TRANS.S.Q` executed at the PC. -/
def execTransSQ (o1 o2 : OD) (s : State) : Res :=
  runInstr (.xop 16 o1 o2) (bodyTransSQ o1 o2) s

/-- `TRANS.S.H` (R358). -/
def bodyTransSH (o1 o2 : OD) : Body :=
  xop2 .s .h aluTrans o1 o2
/-- `TRANS.S.H` executed at the PC. -/
def execTransSH (o1 o2 : OD) (s : State) : Res :=
  runInstr (.xop 17 o1 o2) (bodyTransSH o1 o2) s

/-- `TRANS.S.S` (R358). -/
def bodyTransSS (o1 o2 : OD) : Body :=
  xop2 .s .s aluTrans o1 o2
/-- `TRANS.S.S` executed at the PC. -/
def execTransSS (o1 o2 : OD) (s : State) : Res :=
  runInstr (.xop 18 o1 o2) (bodyTransSS o1 o2) s

/-- `TRANS.S.D` (R358). -/
def bodyTransSD (o1 o2 : OD) : Body :=
  xop2 .s .d aluTrans o1 o2
/-- `TRANS.S.D` executed at the PC. -/
def execTransSD (o1 o2 : OD) (s : State) : Res :=
  runInstr (.xop 19 o1 o2) (bodyTransSD o1 o2) s

/-- `TRANS.D.Q` (R358). -/
def bodyTransDQ (o1 o2 : OD) : Body :=
  xop2 .d .q aluTrans o1 o2
/-- `TRANS.D.Q` executed at the PC. -/
def execTransDQ (o1 o2 : OD) (s : State) : Res :=
  runInstr (.xop 20 o1 o2) (bodyTransDQ o1 o2) s

/-- `TRANS.D.H` (R358). -/
def bodyTransDH (o1 o2 : OD) : Body :=
  xop2 .d .h aluTrans o1 o2
/-- `TRANS.D.H` executed at the PC. -/
def execTransDH (o1 o2 : OD) (s : State) : Res :=
  runInstr (.xop 21 o1 o2) (bodyTransDH o1 o2) s

/-- `TRANS.D.S` (R358). -/
def bodyTransDS (o1 o2 : OD) : Body :=
  xop2 .d .s aluTrans o1 o2
/-- `TRANS.D.S` executed at the PC. -/
def execTransDS (o1 o2 : OD) (s : State) : Res :=
  runInstr (.xop 22 o1 o2) (bodyTransDS o1 o2) s

/-- `TRANS.D.D` (R358). -/
def bodyTransDD (o1 o2 : OD) : Body :=
  xop2 .d .d aluTrans o1 o2
/-- `TRANS.D.D` executed at the PC. -/
def execTransDD (o1 o2 : OD) (s : State) : Res :=
  runInstr (.xop 23 o1 o2) (bodyTransDD o1 o2) s

/-! ### `NEG` (R360): OP1 <- -OP2 -/

/-- `NEG.Q` (R360). -/
def bodyNegQ (o1 o2 : OD) : Body :=
  xop2 .q .q aluNeg o1 o2
/-- `NEG.Q` executed at the PC. -/
def execNegQ (o1 o2 : OD) (s : State) : Res :=
  runInstr (.xop 24 o1 o2) (bodyNegQ o1 o2) s

/-- `NEG.H` (R360). -/
def bodyNegH (o1 o2 : OD) : Body :=
  xop2 .h .h aluNeg o1 o2
/-- `NEG.H` executed at the PC. -/
def execNegH (o1 o2 : OD) (s : State) : Res :=
  runInstr (.xop 25 o1 o2) (bodyNegH o1 o2) s

/-- `NEG.S` (R360). -/
def bodyNegS (o1 o2 : OD) : Body :=
  xop2 .s .s aluNeg o1 o2
/-- `NEG.S` executed at the PC. -/
def execNegS (o1 o2 : OD) (s : State) : Res :=
  runInstr (.xop 26 o1 o2) (bodyNegS o1 o2) s

/-- `NEG.D` (R360). -/
def bodyNegD (o1 o2 : OD) : Body :=
  xop2 .d .d aluNeg o1 o2
/-- `NEG.D` executed at the PC. -/
def execNegD (o1 o2 : OD) (s : State) : Res :=
  runInstr (.xop 27 o1 o2) (bodyNegD o1 o2) s

/-! ### `ABS` (R361): OP1 <- abs(OP2) -/

/-- `ABS.Q` (R361). -/
def bodyAbsQ (o1 o2 : OD) : Body :=
  xop2 .q .q aluAbs o1 o2
/-- `ABS.Q` executed at the PC. -/
def execAbsQ (o1 o2 : OD) (s : State) : Res :=
  runInstr (.xop 28 o1 o2) (bodyAbsQ o1 o2) s

/-- `ABS.H` (R361). -/
def bodyAbsH (o1 o2 : OD) : Body :=
  xop2 .h .h aluAbs o1 o2
/-- `ABS.H` executed at the PC. -/
def execAbsH (o1 o2 : OD) (s : State) : Res :=
  runInstr (.xop 29 o1 o2) (bodyAbsH o1 o2) s

/-- `ABS.S` (R361). -/
def bodyAbsS (o1 o2 : OD) : Body :=
  xop2 .s .s aluAbs o1 o2
/-- `ABS.S` executed at the PC. -/
def execAbsS (o1 o2 : OD) (s : State) : Res :=
  runInstr (.xop 30 o1 o2) (bodyAbsS o1 o2) s

/-- `ABS.D` (R361). -/
def bodyAbsD (o1 o2 : OD) : Body :=
  xop2 .d .d aluAbs o1 o2
/-- `ABS.D` executed at the PC. -/
def execAbsD (o1 o2 : OD) (s : State) : Res :=
  runInstr (.xop 31 o1 o2) (bodyAbsD o1 o2) s

/-! ### `MIN` (R364): DEST <- min(S1, S2) -/

/-- `MIN.Q` (R364). -/
def bodyMinQ (t : TMode) (o1 o2 : OD) : Body :=
  top3 .q .q .q (pureAlu minInt) t o1 o2
/-- `MIN.Q` executed at the PC. -/
def execMinQ (t : TMode) (o1 o2 : OD) (s : State) : Res :=
  runInstr (.top 101 t o1 o2) (bodyMinQ t o1 o2) s

/-- `MIN.H` (R364). -/
def bodyMinH (t : TMode) (o1 o2 : OD) : Body :=
  top3 .h .h .h (pureAlu minInt) t o1 o2
/-- `MIN.H` executed at the PC. -/
def execMinH (t : TMode) (o1 o2 : OD) (s : State) : Res :=
  runInstr (.top 102 t o1 o2) (bodyMinH t o1 o2) s

/-- `MIN.S` (R364). -/
def bodyMinS (t : TMode) (o1 o2 : OD) : Body :=
  top3 .s .s .s (pureAlu minInt) t o1 o2
/-- `MIN.S` executed at the PC. -/
def execMinS (t : TMode) (o1 o2 : OD) (s : State) : Res :=
  runInstr (.top 103 t o1 o2) (bodyMinS t o1 o2) s

/-- `MIN.D` (R364). -/
def bodyMinD (t : TMode) (o1 o2 : OD) : Body :=
  top3 .d .d .d (pureAlu minInt) t o1 o2
/-- `MIN.D` executed at the PC. -/
def execMinD (t : TMode) (o1 o2 : OD) (s : State) : Res :=
  runInstr (.top 104 t o1 o2) (bodyMinD t o1 o2) s

/-! ### `MAX` (R365): DEST <- max(S1, S2) -/

/-- `MAX.Q` (R365). -/
def bodyMaxQ (t : TMode) (o1 o2 : OD) : Body :=
  top3 .q .q .q (pureAlu maxInt) t o1 o2
/-- `MAX.Q` executed at the PC. -/
def execMaxQ (t : TMode) (o1 o2 : OD) (s : State) : Res :=
  runInstr (.top 105 t o1 o2) (bodyMaxQ t o1 o2) s

/-- `MAX.H` (R365). -/
def bodyMaxH (t : TMode) (o1 o2 : OD) : Body :=
  top3 .h .h .h (pureAlu maxInt) t o1 o2
/-- `MAX.H` executed at the PC. -/
def execMaxH (t : TMode) (o1 o2 : OD) (s : State) : Res :=
  runInstr (.top 106 t o1 o2) (bodyMaxH t o1 o2) s

/-- `MAX.S` (R365). -/
def bodyMaxS (t : TMode) (o1 o2 : OD) : Body :=
  top3 .s .s .s (pureAlu maxInt) t o1 o2
/-- `MAX.S` executed at the PC. -/
def execMaxS (t : TMode) (o1 o2 : OD) (s : State) : Res :=
  runInstr (.top 107 t o1 o2) (bodyMaxS t o1 o2) s

/-- `MAX.D` (R365). -/
def bodyMaxD (t : TMode) (o1 o2 : OD) : Body :=
  top3 .d .d .d (pureAlu maxInt) t o1 o2
/-- `MAX.D` executed at the PC. -/
def execMaxD (t : TMode) (o1 o2 : OD) (s : State) : Res :=
  runInstr (.top 108 t o1 o2) (bodyMaxD t o1 o2) s

/-! ### `UMULT` (R370): DEST <- the low-order part of the unsigned S1*S2 -/

/-- `UMULT.Q` (R370). -/
def bodyUmultQ (t : TMode) (o1 o2 : OD) : Body :=
  top3 .q .q .q aluUmult t o1 o2
/-- `UMULT.Q` executed at the PC. -/
def execUmultQ (t : TMode) (o1 o2 : OD) (s : State) : Res :=
  runInstr (.top 109 t o1 o2) (bodyUmultQ t o1 o2) s

/-- `UMULT.H` (R370). -/
def bodyUmultH (t : TMode) (o1 o2 : OD) : Body :=
  top3 .h .h .h aluUmult t o1 o2
/-- `UMULT.H` executed at the PC. -/
def execUmultH (t : TMode) (o1 o2 : OD) (s : State) : Res :=
  runInstr (.top 110 t o1 o2) (bodyUmultH t o1 o2) s

/-- `UMULT.S` (R370). -/
def bodyUmultS (t : TMode) (o1 o2 : OD) : Body :=
  top3 .s .s .s aluUmult t o1 o2
/-- `UMULT.S` executed at the PC. -/
def execUmultS (t : TMode) (o1 o2 : OD) (s : State) : Res :=
  runInstr (.top 111 t o1 o2) (bodyUmultS t o1 o2) s

/-- `UMULT.D` (R370). -/
def bodyUmultD (t : TMode) (o1 o2 : OD) : Body :=
  top3 .d .d .d aluUmult t o1 o2
/-- `UMULT.D` executed at the PC. -/
def execUmultD (t : TMode) (o1 o2 : OD) (s : State) : Res :=
  runInstr (.top 112 t o1 o2) (bodyUmultD t o1 o2) s

/-! ### `UMULTL` (R371): DEST <- the unsigned S1*S2, twice as long -/

/-- `UMULTL.Q` (R371). -/
def bodyUmultlQ (t : TMode) (o1 o2 : OD) : Body :=
  top3 .h .q .q (pureAlu umulLong) t o1 o2
/-- `UMULTL.Q` executed at the PC. -/
def execUmultlQ (t : TMode) (o1 o2 : OD) (s : State) : Res :=
  runInstr (.top 113 t o1 o2) (bodyUmultlQ t o1 o2) s

/-- `UMULTL.H` (R371). -/
def bodyUmultlH (t : TMode) (o1 o2 : OD) : Body :=
  top3 .s .h .h (pureAlu umulLong) t o1 o2
/-- `UMULTL.H` executed at the PC. -/
def execUmultlH (t : TMode) (o1 o2 : OD) (s : State) : Res :=
  runInstr (.top 114 t o1 o2) (bodyUmultlH t o1 o2) s

/-- `UMULTL.S` (R371). -/
def bodyUmultlS (t : TMode) (o1 o2 : OD) : Body :=
  top3 .d .s .s (pureAlu umulLong) t o1 o2
/-- `UMULTL.S` executed at the PC. -/
def execUmultlS (t : TMode) (o1 o2 : OD) (s : State) : Res :=
  runInstr (.top 115 t o1 o2) (bodyUmultlS t o1 o2) s

/-! ### `UDIV` (R374): DEST, NEXT(DEST) <- unsigned quotient and remainder -/

/-- `UDIV.Q` (R374). -/
def bodyUdivQ (t : TMode) (o1 o2 : OD) : Body :=
  top3Next .q .q .q aluUdiv t o1 o2
/-- `UDIV.Q` executed at the PC. -/
def execUdivQ (t : TMode) (o1 o2 : OD) (s : State) : Res :=
  runInstr (.top 116 t o1 o2) (bodyUdivQ t o1 o2) s

/-- `UDIV.H` (R374). -/
def bodyUdivH (t : TMode) (o1 o2 : OD) : Body :=
  top3Next .h .h .h aluUdiv t o1 o2
/-- `UDIV.H` executed at the PC. -/
def execUdivH (t : TMode) (o1 o2 : OD) (s : State) : Res :=
  runInstr (.top 117 t o1 o2) (bodyUdivH t o1 o2) s

/-- `UDIV.S` (R374). -/
def bodyUdivS (t : TMode) (o1 o2 : OD) : Body :=
  top3Next .s .s .s aluUdiv t o1 o2
/-- `UDIV.S` executed at the PC. -/
def execUdivS (t : TMode) (o1 o2 : OD) (s : State) : Res :=
  runInstr (.top 118 t o1 o2) (bodyUdivS t o1 o2) s

/-- `UDIV.D` (R374). -/
def bodyUdivD (t : TMode) (o1 o2 : OD) : Body :=
  top3Next .d .d .d aluUdiv t o1 o2
/-- `UDIV.D` executed at the PC. -/
def execUdivD (t : TMode) (o1 o2 : OD) (s : State) : Res :=
  runInstr (.top 119 t o1 o2) (bodyUdivD t o1 o2) s

/-! ### `UDIVL` (R375): DEST, NEXT(DEST) <- unsigned quotient and remainder; S1 long -/

/-- `UDIVL.Q` (R375). -/
def bodyUdivlQ (t : TMode) (o1 o2 : OD) : Body :=
  top3Next .q .h .q aluUdiv t o1 o2
/-- `UDIVL.Q` executed at the PC. -/
def execUdivlQ (t : TMode) (o1 o2 : OD) (s : State) : Res :=
  runInstr (.top 120 t o1 o2) (bodyUdivlQ t o1 o2) s

/-- `UDIVL.H` (R375). -/
def bodyUdivlH (t : TMode) (o1 o2 : OD) : Body :=
  top3Next .h .s .h aluUdiv t o1 o2
/-- `UDIVL.H` executed at the PC. -/
def execUdivlH (t : TMode) (o1 o2 : OD) (s : State) : Res :=
  runInstr (.top 121 t o1 o2) (bodyUdivlH t o1 o2) s

/-- `UDIVL.S` (R375). -/
def bodyUdivlS (t : TMode) (o1 o2 : OD) : Body :=
  top3Next .s .d .s aluUdiv t o1 o2
/-- `UDIVL.S` executed at the PC. -/
def execUdivlS (t : TMode) (o1 o2 : OD) (s : State) : Res :=
  runInstr (.top 122 t o1 o2) (bodyUdivlS t o1 o2) s

end Sys2Proof.Machine
end

