-- ==== Sys2Proof/Machine/Jump.lean ====
section
/-! DEFINITION. The skip and jump instructions (44_skip_jump.md). -/

namespace Sys2Proof.Machine

/-! ### `SKP` (R570): skip if OP1 COND OP2 -/

/-- `SKP.GTR.Q` (R570). -/
def bodySkpGtrQ (skp : BitVec 4) (o1 o2 : OD) : Body :=
  skipIf .q ACond.gtr.rel skp o1 o2
/-- `SKP.GTR.Q` executed at the PC. -/
def execSkpGtrQ (skp : BitVec 4) (o1 o2 : OD) (s : State) : Res :=
  runInstr (.sop 0 skp o1 o2) (bodySkpGtrQ skp o1 o2) s

/-- `SKP.GTR.H` (R570). -/
def bodySkpGtrH (skp : BitVec 4) (o1 o2 : OD) : Body :=
  skipIf .h ACond.gtr.rel skp o1 o2
/-- `SKP.GTR.H` executed at the PC. -/
def execSkpGtrH (skp : BitVec 4) (o1 o2 : OD) (s : State) : Res :=
  runInstr (.sop 1 skp o1 o2) (bodySkpGtrH skp o1 o2) s

/-- `SKP.GTR.S` (R570). -/
def bodySkpGtrS (skp : BitVec 4) (o1 o2 : OD) : Body :=
  skipIf .s ACond.gtr.rel skp o1 o2
/-- `SKP.GTR.S` executed at the PC. -/
def execSkpGtrS (skp : BitVec 4) (o1 o2 : OD) (s : State) : Res :=
  runInstr (.sop 2 skp o1 o2) (bodySkpGtrS skp o1 o2) s

/-- `SKP.GTR.D` (R570). -/
def bodySkpGtrD (skp : BitVec 4) (o1 o2 : OD) : Body :=
  skipIf .d ACond.gtr.rel skp o1 o2
/-- `SKP.GTR.D` executed at the PC. -/
def execSkpGtrD (skp : BitVec 4) (o1 o2 : OD) (s : State) : Res :=
  runInstr (.sop 3 skp o1 o2) (bodySkpGtrD skp o1 o2) s

/-- `SKP.EQL.Q` (R570). -/
def bodySkpEqlQ (skp : BitVec 4) (o1 o2 : OD) : Body :=
  skipIf .q ACond.eql.rel skp o1 o2
/-- `SKP.EQL.Q` executed at the PC. -/
def execSkpEqlQ (skp : BitVec 4) (o1 o2 : OD) (s : State) : Res :=
  runInstr (.sop 4 skp o1 o2) (bodySkpEqlQ skp o1 o2) s

/-- `SKP.EQL.H` (R570). -/
def bodySkpEqlH (skp : BitVec 4) (o1 o2 : OD) : Body :=
  skipIf .h ACond.eql.rel skp o1 o2
/-- `SKP.EQL.H` executed at the PC. -/
def execSkpEqlH (skp : BitVec 4) (o1 o2 : OD) (s : State) : Res :=
  runInstr (.sop 5 skp o1 o2) (bodySkpEqlH skp o1 o2) s

/-- `SKP.EQL.S` (R570). -/
def bodySkpEqlS (skp : BitVec 4) (o1 o2 : OD) : Body :=
  skipIf .s ACond.eql.rel skp o1 o2
/-- `SKP.EQL.S` executed at the PC. -/
def execSkpEqlS (skp : BitVec 4) (o1 o2 : OD) (s : State) : Res :=
  runInstr (.sop 6 skp o1 o2) (bodySkpEqlS skp o1 o2) s

/-- `SKP.EQL.D` (R570). -/
def bodySkpEqlD (skp : BitVec 4) (o1 o2 : OD) : Body :=
  skipIf .d ACond.eql.rel skp o1 o2
/-- `SKP.EQL.D` executed at the PC. -/
def execSkpEqlD (skp : BitVec 4) (o1 o2 : OD) (s : State) : Res :=
  runInstr (.sop 7 skp o1 o2) (bodySkpEqlD skp o1 o2) s

/-- `SKP.GEQ.Q` (R570). -/
def bodySkpGeqQ (skp : BitVec 4) (o1 o2 : OD) : Body :=
  skipIf .q ACond.geq.rel skp o1 o2
/-- `SKP.GEQ.Q` executed at the PC. -/
def execSkpGeqQ (skp : BitVec 4) (o1 o2 : OD) (s : State) : Res :=
  runInstr (.sop 8 skp o1 o2) (bodySkpGeqQ skp o1 o2) s

/-- `SKP.GEQ.H` (R570). -/
def bodySkpGeqH (skp : BitVec 4) (o1 o2 : OD) : Body :=
  skipIf .h ACond.geq.rel skp o1 o2
/-- `SKP.GEQ.H` executed at the PC. -/
def execSkpGeqH (skp : BitVec 4) (o1 o2 : OD) (s : State) : Res :=
  runInstr (.sop 9 skp o1 o2) (bodySkpGeqH skp o1 o2) s

/-- `SKP.GEQ.S` (R570). -/
def bodySkpGeqS (skp : BitVec 4) (o1 o2 : OD) : Body :=
  skipIf .s ACond.geq.rel skp o1 o2
/-- `SKP.GEQ.S` executed at the PC. -/
def execSkpGeqS (skp : BitVec 4) (o1 o2 : OD) (s : State) : Res :=
  runInstr (.sop 10 skp o1 o2) (bodySkpGeqS skp o1 o2) s

/-- `SKP.GEQ.D` (R570). -/
def bodySkpGeqD (skp : BitVec 4) (o1 o2 : OD) : Body :=
  skipIf .d ACond.geq.rel skp o1 o2
/-- `SKP.GEQ.D` executed at the PC. -/
def execSkpGeqD (skp : BitVec 4) (o1 o2 : OD) (s : State) : Res :=
  runInstr (.sop 11 skp o1 o2) (bodySkpGeqD skp o1 o2) s

/-- `SKP.LSS.Q` (R570). -/
def bodySkpLssQ (skp : BitVec 4) (o1 o2 : OD) : Body :=
  skipIf .q ACond.lss.rel skp o1 o2
/-- `SKP.LSS.Q` executed at the PC. -/
def execSkpLssQ (skp : BitVec 4) (o1 o2 : OD) (s : State) : Res :=
  runInstr (.sop 12 skp o1 o2) (bodySkpLssQ skp o1 o2) s

/-- `SKP.LSS.H` (R570). -/
def bodySkpLssH (skp : BitVec 4) (o1 o2 : OD) : Body :=
  skipIf .h ACond.lss.rel skp o1 o2
/-- `SKP.LSS.H` executed at the PC. -/
def execSkpLssH (skp : BitVec 4) (o1 o2 : OD) (s : State) : Res :=
  runInstr (.sop 13 skp o1 o2) (bodySkpLssH skp o1 o2) s

/-- `SKP.LSS.S` (R570). -/
def bodySkpLssS (skp : BitVec 4) (o1 o2 : OD) : Body :=
  skipIf .s ACond.lss.rel skp o1 o2
/-- `SKP.LSS.S` executed at the PC. -/
def execSkpLssS (skp : BitVec 4) (o1 o2 : OD) (s : State) : Res :=
  runInstr (.sop 14 skp o1 o2) (bodySkpLssS skp o1 o2) s

/-- `SKP.LSS.D` (R570). -/
def bodySkpLssD (skp : BitVec 4) (o1 o2 : OD) : Body :=
  skipIf .d ACond.lss.rel skp o1 o2
/-- `SKP.LSS.D` executed at the PC. -/
def execSkpLssD (skp : BitVec 4) (o1 o2 : OD) (s : State) : Res :=
  runInstr (.sop 15 skp o1 o2) (bodySkpLssD skp o1 o2) s

/-- `SKP.NEQ.Q` (R570). -/
def bodySkpNeqQ (skp : BitVec 4) (o1 o2 : OD) : Body :=
  skipIf .q ACond.neq.rel skp o1 o2
/-- `SKP.NEQ.Q` executed at the PC. -/
def execSkpNeqQ (skp : BitVec 4) (o1 o2 : OD) (s : State) : Res :=
  runInstr (.sop 16 skp o1 o2) (bodySkpNeqQ skp o1 o2) s

/-- `SKP.NEQ.H` (R570). -/
def bodySkpNeqH (skp : BitVec 4) (o1 o2 : OD) : Body :=
  skipIf .h ACond.neq.rel skp o1 o2
/-- `SKP.NEQ.H` executed at the PC. -/
def execSkpNeqH (skp : BitVec 4) (o1 o2 : OD) (s : State) : Res :=
  runInstr (.sop 17 skp o1 o2) (bodySkpNeqH skp o1 o2) s

/-- `SKP.NEQ.S` (R570). -/
def bodySkpNeqS (skp : BitVec 4) (o1 o2 : OD) : Body :=
  skipIf .s ACond.neq.rel skp o1 o2
/-- `SKP.NEQ.S` executed at the PC. -/
def execSkpNeqS (skp : BitVec 4) (o1 o2 : OD) (s : State) : Res :=
  runInstr (.sop 18 skp o1 o2) (bodySkpNeqS skp o1 o2) s

/-- `SKP.NEQ.D` (R570). -/
def bodySkpNeqD (skp : BitVec 4) (o1 o2 : OD) : Body :=
  skipIf .d ACond.neq.rel skp o1 o2
/-- `SKP.NEQ.D` executed at the PC. -/
def execSkpNeqD (skp : BitVec 4) (o1 o2 : OD) (s : State) : Res :=
  runInstr (.sop 19 skp o1 o2) (bodySkpNeqD skp o1 o2) s

/-- `SKP.LEQ.Q` (R570). -/
def bodySkpLeqQ (skp : BitVec 4) (o1 o2 : OD) : Body :=
  skipIf .q ACond.leq.rel skp o1 o2
/-- `SKP.LEQ.Q` executed at the PC. -/
def execSkpLeqQ (skp : BitVec 4) (o1 o2 : OD) (s : State) : Res :=
  runInstr (.sop 20 skp o1 o2) (bodySkpLeqQ skp o1 o2) s

/-- `SKP.LEQ.H` (R570). -/
def bodySkpLeqH (skp : BitVec 4) (o1 o2 : OD) : Body :=
  skipIf .h ACond.leq.rel skp o1 o2
/-- `SKP.LEQ.H` executed at the PC. -/
def execSkpLeqH (skp : BitVec 4) (o1 o2 : OD) (s : State) : Res :=
  runInstr (.sop 21 skp o1 o2) (bodySkpLeqH skp o1 o2) s

/-- `SKP.LEQ.S` (R570). -/
def bodySkpLeqS (skp : BitVec 4) (o1 o2 : OD) : Body :=
  skipIf .s ACond.leq.rel skp o1 o2
/-- `SKP.LEQ.S` executed at the PC. -/
def execSkpLeqS (skp : BitVec 4) (o1 o2 : OD) (s : State) : Res :=
  runInstr (.sop 22 skp o1 o2) (bodySkpLeqS skp o1 o2) s

/-- `SKP.LEQ.D` (R570). -/
def bodySkpLeqD (skp : BitVec 4) (o1 o2 : OD) : Body :=
  skipIf .d ACond.leq.rel skp o1 o2
/-- `SKP.LEQ.D` executed at the PC. -/
def execSkpLeqD (skp : BitVec 4) (o1 o2 : OD) (s : State) : Res :=
  runInstr (.sop 23 skp o1 o2) (bodySkpLeqD skp o1 o2) s

/-- `SKP.NON.Q` (R570). -/
def bodySkpNonQ (skp : BitVec 4) (o1 o2 : OD) : Body :=
  skipIf .q LCond.non.rel skp o1 o2
/-- `SKP.NON.Q` executed at the PC. -/
def execSkpNonQ (skp : BitVec 4) (o1 o2 : OD) (s : State) : Res :=
  runInstr (.sop 24 skp o1 o2) (bodySkpNonQ skp o1 o2) s

/-- `SKP.NON.H` (R570). -/
def bodySkpNonH (skp : BitVec 4) (o1 o2 : OD) : Body :=
  skipIf .h LCond.non.rel skp o1 o2
/-- `SKP.NON.H` executed at the PC. -/
def execSkpNonH (skp : BitVec 4) (o1 o2 : OD) (s : State) : Res :=
  runInstr (.sop 25 skp o1 o2) (bodySkpNonH skp o1 o2) s

/-- `SKP.NON.S` (R570). -/
def bodySkpNonS (skp : BitVec 4) (o1 o2 : OD) : Body :=
  skipIf .s LCond.non.rel skp o1 o2
/-- `SKP.NON.S` executed at the PC. -/
def execSkpNonS (skp : BitVec 4) (o1 o2 : OD) (s : State) : Res :=
  runInstr (.sop 26 skp o1 o2) (bodySkpNonS skp o1 o2) s

/-- `SKP.NON.D` (R570). -/
def bodySkpNonD (skp : BitVec 4) (o1 o2 : OD) : Body :=
  skipIf .d LCond.non.rel skp o1 o2
/-- `SKP.NON.D` executed at the PC. -/
def execSkpNonD (skp : BitVec 4) (o1 o2 : OD) (s : State) : Res :=
  runInstr (.sop 27 skp o1 o2) (bodySkpNonD skp o1 o2) s

/-- `SKP.ALL.Q` (R570). -/
def bodySkpAllQ (skp : BitVec 4) (o1 o2 : OD) : Body :=
  skipIf .q LCond.all.rel skp o1 o2
/-- `SKP.ALL.Q` executed at the PC. -/
def execSkpAllQ (skp : BitVec 4) (o1 o2 : OD) (s : State) : Res :=
  runInstr (.sop 28 skp o1 o2) (bodySkpAllQ skp o1 o2) s

/-- `SKP.ALL.H` (R570). -/
def bodySkpAllH (skp : BitVec 4) (o1 o2 : OD) : Body :=
  skipIf .h LCond.all.rel skp o1 o2
/-- `SKP.ALL.H` executed at the PC. -/
def execSkpAllH (skp : BitVec 4) (o1 o2 : OD) (s : State) : Res :=
  runInstr (.sop 29 skp o1 o2) (bodySkpAllH skp o1 o2) s

/-- `SKP.ALL.S` (R570). -/
def bodySkpAllS (skp : BitVec 4) (o1 o2 : OD) : Body :=
  skipIf .s LCond.all.rel skp o1 o2
/-- `SKP.ALL.S` executed at the PC. -/
def execSkpAllS (skp : BitVec 4) (o1 o2 : OD) (s : State) : Res :=
  runInstr (.sop 30 skp o1 o2) (bodySkpAllS skp o1 o2) s

/-- `SKP.ALL.D` (R570). -/
def bodySkpAllD (skp : BitVec 4) (o1 o2 : OD) : Body :=
  skipIf .d LCond.all.rel skp o1 o2
/-- `SKP.ALL.D` executed at the PC. -/
def execSkpAllD (skp : BitVec 4) (o1 o2 : OD) (s : State) : Res :=
  runInstr (.sop 31 skp o1 o2) (bodySkpAllD skp o1 o2) s

/-- `SKP.NAL.Q` (R570). -/
def bodySkpNalQ (skp : BitVec 4) (o1 o2 : OD) : Body :=
  skipIf .q LCond.nal.rel skp o1 o2
/-- `SKP.NAL.Q` executed at the PC. -/
def execSkpNalQ (skp : BitVec 4) (o1 o2 : OD) (s : State) : Res :=
  runInstr (.sop 32 skp o1 o2) (bodySkpNalQ skp o1 o2) s

/-- `SKP.NAL.H` (R570). -/
def bodySkpNalH (skp : BitVec 4) (o1 o2 : OD) : Body :=
  skipIf .h LCond.nal.rel skp o1 o2
/-- `SKP.NAL.H` executed at the PC. -/
def execSkpNalH (skp : BitVec 4) (o1 o2 : OD) (s : State) : Res :=
  runInstr (.sop 33 skp o1 o2) (bodySkpNalH skp o1 o2) s

/-- `SKP.NAL.S` (R570). -/
def bodySkpNalS (skp : BitVec 4) (o1 o2 : OD) : Body :=
  skipIf .s LCond.nal.rel skp o1 o2
/-- `SKP.NAL.S` executed at the PC. -/
def execSkpNalS (skp : BitVec 4) (o1 o2 : OD) (s : State) : Res :=
  runInstr (.sop 34 skp o1 o2) (bodySkpNalS skp o1 o2) s

/-- `SKP.NAL.D` (R570). -/
def bodySkpNalD (skp : BitVec 4) (o1 o2 : OD) : Body :=
  skipIf .d LCond.nal.rel skp o1 o2
/-- `SKP.NAL.D` executed at the PC. -/
def execSkpNalD (skp : BitVec 4) (o1 o2 : OD) (s : State) : Res :=
  runInstr (.sop 35 skp o1 o2) (bodySkpNalD skp o1 o2) s

/-- `SKP.ANY.Q` (R570). -/
def bodySkpAnyQ (skp : BitVec 4) (o1 o2 : OD) : Body :=
  skipIf .q LCond.any.rel skp o1 o2
/-- `SKP.ANY.Q` executed at the PC. -/
def execSkpAnyQ (skp : BitVec 4) (o1 o2 : OD) (s : State) : Res :=
  runInstr (.sop 36 skp o1 o2) (bodySkpAnyQ skp o1 o2) s

/-- `SKP.ANY.H` (R570). -/
def bodySkpAnyH (skp : BitVec 4) (o1 o2 : OD) : Body :=
  skipIf .h LCond.any.rel skp o1 o2
/-- `SKP.ANY.H` executed at the PC. -/
def execSkpAnyH (skp : BitVec 4) (o1 o2 : OD) (s : State) : Res :=
  runInstr (.sop 37 skp o1 o2) (bodySkpAnyH skp o1 o2) s

/-- `SKP.ANY.S` (R570). -/
def bodySkpAnyS (skp : BitVec 4) (o1 o2 : OD) : Body :=
  skipIf .s LCond.any.rel skp o1 o2
/-- `SKP.ANY.S` executed at the PC. -/
def execSkpAnyS (skp : BitVec 4) (o1 o2 : OD) (s : State) : Res :=
  runInstr (.sop 38 skp o1 o2) (bodySkpAnyS skp o1 o2) s

/-- `SKP.ANY.D` (R570). -/
def bodySkpAnyD (skp : BitVec 4) (o1 o2 : OD) : Body :=
  skipIf .d LCond.any.rel skp o1 o2
/-- `SKP.ANY.D` executed at the PC. -/
def execSkpAnyD (skp : BitVec 4) (o1 o2 : OD) (s : State) : Res :=
  runInstr (.sop 39 skp o1 o2) (bodySkpAnyD skp o1 o2) s

/-! ### `ISKP` (R572): OP1 <- OP1 + 1; skip if OP1 ACOND OP2 -/

/-- `ISKP.GTR` (R572). -/
def bodyIskpGtr (skp : BitVec 4) (o1 o2 : OD) : Body :=
  countSkip true .gtr skp o1 o2
/-- `ISKP.GTR` executed at the PC. -/
def execIskpGtr (skp : BitVec 4) (o1 o2 : OD) (s : State) : Res :=
  runInstr (.sop 40 skp o1 o2) (bodyIskpGtr skp o1 o2) s

/-- `ISKP.EQL` (R572). -/
def bodyIskpEql (skp : BitVec 4) (o1 o2 : OD) : Body :=
  countSkip true .eql skp o1 o2
/-- `ISKP.EQL` executed at the PC. -/
def execIskpEql (skp : BitVec 4) (o1 o2 : OD) (s : State) : Res :=
  runInstr (.sop 41 skp o1 o2) (bodyIskpEql skp o1 o2) s

/-- `ISKP.GEQ` (R572). -/
def bodyIskpGeq (skp : BitVec 4) (o1 o2 : OD) : Body :=
  countSkip true .geq skp o1 o2
/-- `ISKP.GEQ` executed at the PC. -/
def execIskpGeq (skp : BitVec 4) (o1 o2 : OD) (s : State) : Res :=
  runInstr (.sop 42 skp o1 o2) (bodyIskpGeq skp o1 o2) s

/-- `ISKP.LSS` (R572). -/
def bodyIskpLss (skp : BitVec 4) (o1 o2 : OD) : Body :=
  countSkip true .lss skp o1 o2
/-- `ISKP.LSS` executed at the PC. -/
def execIskpLss (skp : BitVec 4) (o1 o2 : OD) (s : State) : Res :=
  runInstr (.sop 43 skp o1 o2) (bodyIskpLss skp o1 o2) s

/-- `ISKP.NEQ` (R572). -/
def bodyIskpNeq (skp : BitVec 4) (o1 o2 : OD) : Body :=
  countSkip true .neq skp o1 o2
/-- `ISKP.NEQ` executed at the PC. -/
def execIskpNeq (skp : BitVec 4) (o1 o2 : OD) (s : State) : Res :=
  runInstr (.sop 44 skp o1 o2) (bodyIskpNeq skp o1 o2) s

/-- `ISKP.LEQ` (R572). -/
def bodyIskpLeq (skp : BitVec 4) (o1 o2 : OD) : Body :=
  countSkip true .leq skp o1 o2
/-- `ISKP.LEQ` executed at the PC. -/
def execIskpLeq (skp : BitVec 4) (o1 o2 : OD) (s : State) : Res :=
  runInstr (.sop 45 skp o1 o2) (bodyIskpLeq skp o1 o2) s

/-! ### `DSKP` (R573): OP1 <- OP1 - 1; skip if OP1 ACOND OP2 -/

/-- `DSKP.GTR` (R573). -/
def bodyDskpGtr (skp : BitVec 4) (o1 o2 : OD) : Body :=
  countSkip false .gtr skp o1 o2
/-- `DSKP.GTR` executed at the PC. -/
def execDskpGtr (skp : BitVec 4) (o1 o2 : OD) (s : State) : Res :=
  runInstr (.sop 46 skp o1 o2) (bodyDskpGtr skp o1 o2) s

/-- `DSKP.EQL` (R573). -/
def bodyDskpEql (skp : BitVec 4) (o1 o2 : OD) : Body :=
  countSkip false .eql skp o1 o2
/-- `DSKP.EQL` executed at the PC. -/
def execDskpEql (skp : BitVec 4) (o1 o2 : OD) (s : State) : Res :=
  runInstr (.sop 47 skp o1 o2) (bodyDskpEql skp o1 o2) s

/-- `DSKP.GEQ` (R573). -/
def bodyDskpGeq (skp : BitVec 4) (o1 o2 : OD) : Body :=
  countSkip false .geq skp o1 o2
/-- `DSKP.GEQ` executed at the PC. -/
def execDskpGeq (skp : BitVec 4) (o1 o2 : OD) (s : State) : Res :=
  runInstr (.sop 48 skp o1 o2) (bodyDskpGeq skp o1 o2) s

/-- `DSKP.LSS` (R573). -/
def bodyDskpLss (skp : BitVec 4) (o1 o2 : OD) : Body :=
  countSkip false .lss skp o1 o2
/-- `DSKP.LSS` executed at the PC. -/
def execDskpLss (skp : BitVec 4) (o1 o2 : OD) (s : State) : Res :=
  runInstr (.sop 49 skp o1 o2) (bodyDskpLss skp o1 o2) s

/-- `DSKP.NEQ` (R573). -/
def bodyDskpNeq (skp : BitVec 4) (o1 o2 : OD) : Body :=
  countSkip false .neq skp o1 o2
/-- `DSKP.NEQ` executed at the PC. -/
def execDskpNeq (skp : BitVec 4) (o1 o2 : OD) (s : State) : Res :=
  runInstr (.sop 50 skp o1 o2) (bodyDskpNeq skp o1 o2) s

/-- `DSKP.LEQ` (R573). -/
def bodyDskpLeq (skp : BitVec 4) (o1 o2 : OD) : Body :=
  countSkip false .leq skp o1 o2
/-- `DSKP.LEQ` executed at the PC. -/
def execDskpLeq (skp : BitVec 4) (o1 o2 : OD) (s : State) : Res :=
  runInstr (.sop 51 skp o1 o2) (bodyDskpLeq skp o1 o2) s

/-! ### `JMP` (R576): jump if OP1 ACOND NEXT(OP1) -/

/-- `JMP.GTR` (R576). -/
def bodyJmpGtr (o1 : OD) (j : JDest) : Body :=
  jumpIfNext .gtr o1 j
/-- `JMP.GTR` executed at the PC. -/
def execJmpGtr (o1 : OD) (j : JDest) (s : State) : Res :=
  runInstr (.jop 0 o1 j) (bodyJmpGtr o1 j) s

/-- `JMP.EQL` (R576). -/
def bodyJmpEql (o1 : OD) (j : JDest) : Body :=
  jumpIfNext .eql o1 j
/-- `JMP.EQL` executed at the PC. -/
def execJmpEql (o1 : OD) (j : JDest) (s : State) : Res :=
  runInstr (.jop 1 o1 j) (bodyJmpEql o1 j) s

/-- `JMP.GEQ` (R576). -/
def bodyJmpGeq (o1 : OD) (j : JDest) : Body :=
  jumpIfNext .geq o1 j
/-- `JMP.GEQ` executed at the PC. -/
def execJmpGeq (o1 : OD) (j : JDest) (s : State) : Res :=
  runInstr (.jop 2 o1 j) (bodyJmpGeq o1 j) s

/-- `JMP.LSS` (R576). -/
def bodyJmpLss (o1 : OD) (j : JDest) : Body :=
  jumpIfNext .lss o1 j
/-- `JMP.LSS` executed at the PC. -/
def execJmpLss (o1 : OD) (j : JDest) (s : State) : Res :=
  runInstr (.jop 3 o1 j) (bodyJmpLss o1 j) s

/-- `JMP.NEQ` (R576). -/
def bodyJmpNeq (o1 : OD) (j : JDest) : Body :=
  jumpIfNext .neq o1 j
/-- `JMP.NEQ` executed at the PC. -/
def execJmpNeq (o1 : OD) (j : JDest) (s : State) : Res :=
  runInstr (.jop 4 o1 j) (bodyJmpNeq o1 j) s

/-- `JMP.LEQ` (R576). -/
def bodyJmpLeq (o1 : OD) (j : JDest) : Body :=
  jumpIfNext .leq o1 j
/-- `JMP.LEQ` executed at the PC. -/
def execJmpLeq (o1 : OD) (j : JDest) (s : State) : Res :=
  runInstr (.jop 5 o1 j) (bodyJmpLeq o1 j) s

/-! ### `JMPZ` (R577): jump if OP1 ACOND 0 -/

/-- `JMPZ.GTR.Q` (R577). -/
def bodyJmpzGtrQ (o1 : OD) (j : JDest) : Body :=
  jumpIfZero .q .gtr o1 j
/-- `JMPZ.GTR.Q` executed at the PC. -/
def execJmpzGtrQ (o1 : OD) (j : JDest) (s : State) : Res :=
  runInstr (.jop 6 o1 j) (bodyJmpzGtrQ o1 j) s

/-- `JMPZ.GTR.H` (R577). -/
def bodyJmpzGtrH (o1 : OD) (j : JDest) : Body :=
  jumpIfZero .h .gtr o1 j
/-- `JMPZ.GTR.H` executed at the PC. -/
def execJmpzGtrH (o1 : OD) (j : JDest) (s : State) : Res :=
  runInstr (.jop 7 o1 j) (bodyJmpzGtrH o1 j) s

/-- `JMPZ.GTR.S` (R577). -/
def bodyJmpzGtrS (o1 : OD) (j : JDest) : Body :=
  jumpIfZero .s .gtr o1 j
/-- `JMPZ.GTR.S` executed at the PC. -/
def execJmpzGtrS (o1 : OD) (j : JDest) (s : State) : Res :=
  runInstr (.jop 8 o1 j) (bodyJmpzGtrS o1 j) s

/-- `JMPZ.GTR.D` (R577). -/
def bodyJmpzGtrD (o1 : OD) (j : JDest) : Body :=
  jumpIfZero .d .gtr o1 j
/-- `JMPZ.GTR.D` executed at the PC. -/
def execJmpzGtrD (o1 : OD) (j : JDest) (s : State) : Res :=
  runInstr (.jop 9 o1 j) (bodyJmpzGtrD o1 j) s

/-- `JMPZ.EQL.Q` (R577). -/
def bodyJmpzEqlQ (o1 : OD) (j : JDest) : Body :=
  jumpIfZero .q .eql o1 j
/-- `JMPZ.EQL.Q` executed at the PC. -/
def execJmpzEqlQ (o1 : OD) (j : JDest) (s : State) : Res :=
  runInstr (.jop 10 o1 j) (bodyJmpzEqlQ o1 j) s

/-- `JMPZ.EQL.H` (R577). -/
def bodyJmpzEqlH (o1 : OD) (j : JDest) : Body :=
  jumpIfZero .h .eql o1 j
/-- `JMPZ.EQL.H` executed at the PC. -/
def execJmpzEqlH (o1 : OD) (j : JDest) (s : State) : Res :=
  runInstr (.jop 11 o1 j) (bodyJmpzEqlH o1 j) s

/-- `JMPZ.EQL.S` (R577). -/
def bodyJmpzEqlS (o1 : OD) (j : JDest) : Body :=
  jumpIfZero .s .eql o1 j
/-- `JMPZ.EQL.S` executed at the PC. -/
def execJmpzEqlS (o1 : OD) (j : JDest) (s : State) : Res :=
  runInstr (.jop 12 o1 j) (bodyJmpzEqlS o1 j) s

/-- `JMPZ.EQL.D` (R577). -/
def bodyJmpzEqlD (o1 : OD) (j : JDest) : Body :=
  jumpIfZero .d .eql o1 j
/-- `JMPZ.EQL.D` executed at the PC. -/
def execJmpzEqlD (o1 : OD) (j : JDest) (s : State) : Res :=
  runInstr (.jop 13 o1 j) (bodyJmpzEqlD o1 j) s

/-- `JMPZ.GEQ.Q` (R577). -/
def bodyJmpzGeqQ (o1 : OD) (j : JDest) : Body :=
  jumpIfZero .q .geq o1 j
/-- `JMPZ.GEQ.Q` executed at the PC. -/
def execJmpzGeqQ (o1 : OD) (j : JDest) (s : State) : Res :=
  runInstr (.jop 14 o1 j) (bodyJmpzGeqQ o1 j) s

/-- `JMPZ.GEQ.H` (R577). -/
def bodyJmpzGeqH (o1 : OD) (j : JDest) : Body :=
  jumpIfZero .h .geq o1 j
/-- `JMPZ.GEQ.H` executed at the PC. -/
def execJmpzGeqH (o1 : OD) (j : JDest) (s : State) : Res :=
  runInstr (.jop 15 o1 j) (bodyJmpzGeqH o1 j) s

/-- `JMPZ.GEQ.S` (R577). -/
def bodyJmpzGeqS (o1 : OD) (j : JDest) : Body :=
  jumpIfZero .s .geq o1 j
/-- `JMPZ.GEQ.S` executed at the PC. -/
def execJmpzGeqS (o1 : OD) (j : JDest) (s : State) : Res :=
  runInstr (.jop 16 o1 j) (bodyJmpzGeqS o1 j) s

/-- `JMPZ.GEQ.D` (R577). -/
def bodyJmpzGeqD (o1 : OD) (j : JDest) : Body :=
  jumpIfZero .d .geq o1 j
/-- `JMPZ.GEQ.D` executed at the PC. -/
def execJmpzGeqD (o1 : OD) (j : JDest) (s : State) : Res :=
  runInstr (.jop 17 o1 j) (bodyJmpzGeqD o1 j) s

/-- `JMPZ.LSS.Q` (R577). -/
def bodyJmpzLssQ (o1 : OD) (j : JDest) : Body :=
  jumpIfZero .q .lss o1 j
/-- `JMPZ.LSS.Q` executed at the PC. -/
def execJmpzLssQ (o1 : OD) (j : JDest) (s : State) : Res :=
  runInstr (.jop 18 o1 j) (bodyJmpzLssQ o1 j) s

/-- `JMPZ.LSS.H` (R577). -/
def bodyJmpzLssH (o1 : OD) (j : JDest) : Body :=
  jumpIfZero .h .lss o1 j
/-- `JMPZ.LSS.H` executed at the PC. -/
def execJmpzLssH (o1 : OD) (j : JDest) (s : State) : Res :=
  runInstr (.jop 19 o1 j) (bodyJmpzLssH o1 j) s

/-- `JMPZ.LSS.S` (R577). -/
def bodyJmpzLssS (o1 : OD) (j : JDest) : Body :=
  jumpIfZero .s .lss o1 j
/-- `JMPZ.LSS.S` executed at the PC. -/
def execJmpzLssS (o1 : OD) (j : JDest) (s : State) : Res :=
  runInstr (.jop 20 o1 j) (bodyJmpzLssS o1 j) s

/-- `JMPZ.LSS.D` (R577). -/
def bodyJmpzLssD (o1 : OD) (j : JDest) : Body :=
  jumpIfZero .d .lss o1 j
/-- `JMPZ.LSS.D` executed at the PC. -/
def execJmpzLssD (o1 : OD) (j : JDest) (s : State) : Res :=
  runInstr (.jop 21 o1 j) (bodyJmpzLssD o1 j) s

/-- `JMPZ.NEQ.Q` (R577). -/
def bodyJmpzNeqQ (o1 : OD) (j : JDest) : Body :=
  jumpIfZero .q .neq o1 j
/-- `JMPZ.NEQ.Q` executed at the PC. -/
def execJmpzNeqQ (o1 : OD) (j : JDest) (s : State) : Res :=
  runInstr (.jop 22 o1 j) (bodyJmpzNeqQ o1 j) s

/-- `JMPZ.NEQ.H` (R577). -/
def bodyJmpzNeqH (o1 : OD) (j : JDest) : Body :=
  jumpIfZero .h .neq o1 j
/-- `JMPZ.NEQ.H` executed at the PC. -/
def execJmpzNeqH (o1 : OD) (j : JDest) (s : State) : Res :=
  runInstr (.jop 23 o1 j) (bodyJmpzNeqH o1 j) s

/-- `JMPZ.NEQ.S` (R577). -/
def bodyJmpzNeqS (o1 : OD) (j : JDest) : Body :=
  jumpIfZero .s .neq o1 j
/-- `JMPZ.NEQ.S` executed at the PC. -/
def execJmpzNeqS (o1 : OD) (j : JDest) (s : State) : Res :=
  runInstr (.jop 24 o1 j) (bodyJmpzNeqS o1 j) s

/-- `JMPZ.NEQ.D` (R577). -/
def bodyJmpzNeqD (o1 : OD) (j : JDest) : Body :=
  jumpIfZero .d .neq o1 j
/-- `JMPZ.NEQ.D` executed at the PC. -/
def execJmpzNeqD (o1 : OD) (j : JDest) (s : State) : Res :=
  runInstr (.jop 25 o1 j) (bodyJmpzNeqD o1 j) s

/-- `JMPZ.LEQ.Q` (R577). -/
def bodyJmpzLeqQ (o1 : OD) (j : JDest) : Body :=
  jumpIfZero .q .leq o1 j
/-- `JMPZ.LEQ.Q` executed at the PC. -/
def execJmpzLeqQ (o1 : OD) (j : JDest) (s : State) : Res :=
  runInstr (.jop 26 o1 j) (bodyJmpzLeqQ o1 j) s

/-- `JMPZ.LEQ.H` (R577). -/
def bodyJmpzLeqH (o1 : OD) (j : JDest) : Body :=
  jumpIfZero .h .leq o1 j
/-- `JMPZ.LEQ.H` executed at the PC. -/
def execJmpzLeqH (o1 : OD) (j : JDest) (s : State) : Res :=
  runInstr (.jop 27 o1 j) (bodyJmpzLeqH o1 j) s

/-- `JMPZ.LEQ.S` (R577). -/
def bodyJmpzLeqS (o1 : OD) (j : JDest) : Body :=
  jumpIfZero .s .leq o1 j
/-- `JMPZ.LEQ.S` executed at the PC. -/
def execJmpzLeqS (o1 : OD) (j : JDest) (s : State) : Res :=
  runInstr (.jop 28 o1 j) (bodyJmpzLeqS o1 j) s

/-- `JMPZ.LEQ.D` (R577). -/
def bodyJmpzLeqD (o1 : OD) (j : JDest) : Body :=
  jumpIfZero .d .leq o1 j
/-- `JMPZ.LEQ.D` executed at the PC. -/
def execJmpzLeqD (o1 : OD) (j : JDest) (s : State) : Res :=
  runInstr (.jop 29 o1 j) (bodyJmpzLeqD o1 j) s

/-! ### `JMPA` (R578): jump -/

/-- `JMPA` (R578). -/
def bodyJmpa (o1 : OD) (j : JDest) : Body :=
  jumpAlways o1 j
/-- `JMPA` executed at the PC. -/
def execJmpa (o1 : OD) (j : JDest) (s : State) : Res :=
  runInstr (.jop 30 o1 j) (bodyJmpa o1 j) s

/-! ### `IJMP` (R582): OP1 <- OP1 + 1; jump if OP1 ACOND NEXT(OP1) -/

/-- `IJMP.GTR` (R582). -/
def bodyIjmpGtr (o1 : OD) (j : JDest) : Body :=
  countJumpNext true .gtr o1 j
/-- `IJMP.GTR` executed at the PC. -/
def execIjmpGtr (o1 : OD) (j : JDest) (s : State) : Res :=
  runInstr (.jop 31 o1 j) (bodyIjmpGtr o1 j) s

/-- `IJMP.EQL` (R582). -/
def bodyIjmpEql (o1 : OD) (j : JDest) : Body :=
  countJumpNext true .eql o1 j
/-- `IJMP.EQL` executed at the PC. -/
def execIjmpEql (o1 : OD) (j : JDest) (s : State) : Res :=
  runInstr (.jop 32 o1 j) (bodyIjmpEql o1 j) s

/-- `IJMP.GEQ` (R582). -/
def bodyIjmpGeq (o1 : OD) (j : JDest) : Body :=
  countJumpNext true .geq o1 j
/-- `IJMP.GEQ` executed at the PC. -/
def execIjmpGeq (o1 : OD) (j : JDest) (s : State) : Res :=
  runInstr (.jop 33 o1 j) (bodyIjmpGeq o1 j) s

/-- `IJMP.LSS` (R582). -/
def bodyIjmpLss (o1 : OD) (j : JDest) : Body :=
  countJumpNext true .lss o1 j
/-- `IJMP.LSS` executed at the PC. -/
def execIjmpLss (o1 : OD) (j : JDest) (s : State) : Res :=
  runInstr (.jop 34 o1 j) (bodyIjmpLss o1 j) s

/-- `IJMP.NEQ` (R582). -/
def bodyIjmpNeq (o1 : OD) (j : JDest) : Body :=
  countJumpNext true .neq o1 j
/-- `IJMP.NEQ` executed at the PC. -/
def execIjmpNeq (o1 : OD) (j : JDest) (s : State) : Res :=
  runInstr (.jop 35 o1 j) (bodyIjmpNeq o1 j) s

/-- `IJMP.LEQ` (R582). -/
def bodyIjmpLeq (o1 : OD) (j : JDest) : Body :=
  countJumpNext true .leq o1 j
/-- `IJMP.LEQ` executed at the PC. -/
def execIjmpLeq (o1 : OD) (j : JDest) (s : State) : Res :=
  runInstr (.jop 36 o1 j) (bodyIjmpLeq o1 j) s

/-! ### `IJMPZ` (R583): OP1 <- OP1 + 1; jump if OP1 ACOND 0 -/

/-- `IJMPZ.GTR` (R583). -/
def bodyIjmpzGtr (o1 : OD) (j : JDest) : Body :=
  countJump true (fun v => ACond.gtr.rel v 0) o1 j
/-- `IJMPZ.GTR` executed at the PC. -/
def execIjmpzGtr (o1 : OD) (j : JDest) (s : State) : Res :=
  runInstr (.jop 37 o1 j) (bodyIjmpzGtr o1 j) s

/-- `IJMPZ.EQL` (R583). -/
def bodyIjmpzEql (o1 : OD) (j : JDest) : Body :=
  countJump true (fun v => ACond.eql.rel v 0) o1 j
/-- `IJMPZ.EQL` executed at the PC. -/
def execIjmpzEql (o1 : OD) (j : JDest) (s : State) : Res :=
  runInstr (.jop 38 o1 j) (bodyIjmpzEql o1 j) s

/-- `IJMPZ.GEQ` (R583). -/
def bodyIjmpzGeq (o1 : OD) (j : JDest) : Body :=
  countJump true (fun v => ACond.geq.rel v 0) o1 j
/-- `IJMPZ.GEQ` executed at the PC. -/
def execIjmpzGeq (o1 : OD) (j : JDest) (s : State) : Res :=
  runInstr (.jop 39 o1 j) (bodyIjmpzGeq o1 j) s

/-- `IJMPZ.LSS` (R583). -/
def bodyIjmpzLss (o1 : OD) (j : JDest) : Body :=
  countJump true (fun v => ACond.lss.rel v 0) o1 j
/-- `IJMPZ.LSS` executed at the PC. -/
def execIjmpzLss (o1 : OD) (j : JDest) (s : State) : Res :=
  runInstr (.jop 40 o1 j) (bodyIjmpzLss o1 j) s

/-- `IJMPZ.NEQ` (R583). -/
def bodyIjmpzNeq (o1 : OD) (j : JDest) : Body :=
  countJump true (fun v => ACond.neq.rel v 0) o1 j
/-- `IJMPZ.NEQ` executed at the PC. -/
def execIjmpzNeq (o1 : OD) (j : JDest) (s : State) : Res :=
  runInstr (.jop 41 o1 j) (bodyIjmpzNeq o1 j) s

/-- `IJMPZ.LEQ` (R583). -/
def bodyIjmpzLeq (o1 : OD) (j : JDest) : Body :=
  countJump true (fun v => ACond.leq.rel v 0) o1 j
/-- `IJMPZ.LEQ` executed at the PC. -/
def execIjmpzLeq (o1 : OD) (j : JDest) (s : State) : Res :=
  runInstr (.jop 42 o1 j) (bodyIjmpzLeq o1 j) s

/-! ### `IJMPA` (R584): OP1 <- OP1 + 1; jump -/

/-- `IJMPA` (R584). -/
def bodyIjmpa (o1 : OD) (j : JDest) : Body :=
  countJump true (fun _ => true) o1 j
/-- `IJMPA` executed at the PC. -/
def execIjmpa (o1 : OD) (j : JDest) (s : State) : Res :=
  runInstr (.jop 43 o1 j) (bodyIjmpa o1 j) s

/-! ### `DJMP` (R586): OP1 <- OP1 - 1; jump if OP1 ACOND NEXT(OP1) -/

/-- `DJMP.GTR` (R586). -/
def bodyDjmpGtr (o1 : OD) (j : JDest) : Body :=
  countJumpNext false .gtr o1 j
/-- `DJMP.GTR` executed at the PC. -/
def execDjmpGtr (o1 : OD) (j : JDest) (s : State) : Res :=
  runInstr (.jop 44 o1 j) (bodyDjmpGtr o1 j) s

/-- `DJMP.EQL` (R586). -/
def bodyDjmpEql (o1 : OD) (j : JDest) : Body :=
  countJumpNext false .eql o1 j
/-- `DJMP.EQL` executed at the PC. -/
def execDjmpEql (o1 : OD) (j : JDest) (s : State) : Res :=
  runInstr (.jop 45 o1 j) (bodyDjmpEql o1 j) s

/-- `DJMP.GEQ` (R586). -/
def bodyDjmpGeq (o1 : OD) (j : JDest) : Body :=
  countJumpNext false .geq o1 j
/-- `DJMP.GEQ` executed at the PC. -/
def execDjmpGeq (o1 : OD) (j : JDest) (s : State) : Res :=
  runInstr (.jop 46 o1 j) (bodyDjmpGeq o1 j) s

/-- `DJMP.LSS` (R586). -/
def bodyDjmpLss (o1 : OD) (j : JDest) : Body :=
  countJumpNext false .lss o1 j
/-- `DJMP.LSS` executed at the PC. -/
def execDjmpLss (o1 : OD) (j : JDest) (s : State) : Res :=
  runInstr (.jop 47 o1 j) (bodyDjmpLss o1 j) s

/-- `DJMP.NEQ` (R586). -/
def bodyDjmpNeq (o1 : OD) (j : JDest) : Body :=
  countJumpNext false .neq o1 j
/-- `DJMP.NEQ` executed at the PC. -/
def execDjmpNeq (o1 : OD) (j : JDest) (s : State) : Res :=
  runInstr (.jop 48 o1 j) (bodyDjmpNeq o1 j) s

/-- `DJMP.LEQ` (R586). -/
def bodyDjmpLeq (o1 : OD) (j : JDest) : Body :=
  countJumpNext false .leq o1 j
/-- `DJMP.LEQ` executed at the PC. -/
def execDjmpLeq (o1 : OD) (j : JDest) (s : State) : Res :=
  runInstr (.jop 49 o1 j) (bodyDjmpLeq o1 j) s

/-! ### `DJMPZ` (R587): OP1 <- OP1 - 1; jump if OP1 ACOND 0 -/

/-- `DJMPZ.GTR` (R587). -/
def bodyDjmpzGtr (o1 : OD) (j : JDest) : Body :=
  countJump false (fun v => ACond.gtr.rel v 0) o1 j
/-- `DJMPZ.GTR` executed at the PC. -/
def execDjmpzGtr (o1 : OD) (j : JDest) (s : State) : Res :=
  runInstr (.jop 50 o1 j) (bodyDjmpzGtr o1 j) s

/-- `DJMPZ.EQL` (R587). -/
def bodyDjmpzEql (o1 : OD) (j : JDest) : Body :=
  countJump false (fun v => ACond.eql.rel v 0) o1 j
/-- `DJMPZ.EQL` executed at the PC. -/
def execDjmpzEql (o1 : OD) (j : JDest) (s : State) : Res :=
  runInstr (.jop 51 o1 j) (bodyDjmpzEql o1 j) s

/-- `DJMPZ.GEQ` (R587). -/
def bodyDjmpzGeq (o1 : OD) (j : JDest) : Body :=
  countJump false (fun v => ACond.geq.rel v 0) o1 j
/-- `DJMPZ.GEQ` executed at the PC. -/
def execDjmpzGeq (o1 : OD) (j : JDest) (s : State) : Res :=
  runInstr (.jop 52 o1 j) (bodyDjmpzGeq o1 j) s

/-- `DJMPZ.LSS` (R587). -/
def bodyDjmpzLss (o1 : OD) (j : JDest) : Body :=
  countJump false (fun v => ACond.lss.rel v 0) o1 j
/-- `DJMPZ.LSS` executed at the PC. -/
def execDjmpzLss (o1 : OD) (j : JDest) (s : State) : Res :=
  runInstr (.jop 53 o1 j) (bodyDjmpzLss o1 j) s

/-- `DJMPZ.NEQ` (R587). -/
def bodyDjmpzNeq (o1 : OD) (j : JDest) : Body :=
  countJump false (fun v => ACond.neq.rel v 0) o1 j
/-- `DJMPZ.NEQ` executed at the PC. -/
def execDjmpzNeq (o1 : OD) (j : JDest) (s : State) : Res :=
  runInstr (.jop 54 o1 j) (bodyDjmpzNeq o1 j) s

/-- `DJMPZ.LEQ` (R587). -/
def bodyDjmpzLeq (o1 : OD) (j : JDest) : Body :=
  countJump false (fun v => ACond.leq.rel v 0) o1 j
/-- `DJMPZ.LEQ` executed at the PC. -/
def execDjmpzLeq (o1 : OD) (j : JDest) (s : State) : Res :=
  runInstr (.jop 55 o1 j) (bodyDjmpzLeq o1 j) s

/-! ### `DJMPA` (R588): OP1 <- OP1 - 1; jump -/

/-- `DJMPA` (R588). -/
def bodyDjmpa (o1 : OD) (j : JDest) : Body :=
  countJump false (fun _ => true) o1 j
/-- `DJMPA` executed at the PC. -/
def execDjmpa (o1 : OD) (j : JDest) (s : State) : Res :=
  runInstr (.jop 56 o1 j) (bodyDjmpa o1 j) s

/-! ### `BNDTRP` (R592): trap unless OP2 is within bounds -/

/-- `BNDTRP.B.Q` (R592). -/
def bodyBndtrpBQ (o1 o2 : OD) : Body :=
  boundTrapB .q o1 o2
/-- `BNDTRP.B.Q` executed at the PC. -/
def execBndtrpBQ (o1 o2 : OD) (s : State) : Res :=
  runInstr (.xop 273 o1 o2) (bodyBndtrpBQ o1 o2) s

/-- `BNDTRP.B.H` (R592). -/
def bodyBndtrpBH (o1 o2 : OD) : Body :=
  boundTrapB .h o1 o2
/-- `BNDTRP.B.H` executed at the PC. -/
def execBndtrpBH (o1 o2 : OD) (s : State) : Res :=
  runInstr (.xop 274 o1 o2) (bodyBndtrpBH o1 o2) s

/-- `BNDTRP.B.S` (R592). -/
def bodyBndtrpBS (o1 o2 : OD) : Body :=
  boundTrapB .s o1 o2
/-- `BNDTRP.B.S` executed at the PC. -/
def execBndtrpBS (o1 o2 : OD) (s : State) : Res :=
  runInstr (.xop 275 o1 o2) (bodyBndtrpBS o1 o2) s

/-- `BNDTRP.B.D` (R592). -/
def bodyBndtrpBD (o1 o2 : OD) : Body :=
  boundTrapB .d o1 o2
/-- `BNDTRP.B.D` executed at the PC. -/
def execBndtrpBD (o1 o2 : OD) (s : State) : Res :=
  runInstr (.xop 276 o1 o2) (bodyBndtrpBD o1 o2) s

/-- `BNDTRP.MIN.Q` (R592). -/
def bodyBndtrpMinQ (o1 o2 : OD) : Body :=
  boundTrap .q .min o1 o2
/-- `BNDTRP.MIN.Q` executed at the PC. -/
def execBndtrpMinQ (o1 o2 : OD) (s : State) : Res :=
  runInstr (.xop 277 o1 o2) (bodyBndtrpMinQ o1 o2) s

/-- `BNDTRP.MIN.H` (R592). -/
def bodyBndtrpMinH (o1 o2 : OD) : Body :=
  boundTrap .h .min o1 o2
/-- `BNDTRP.MIN.H` executed at the PC. -/
def execBndtrpMinH (o1 o2 : OD) (s : State) : Res :=
  runInstr (.xop 278 o1 o2) (bodyBndtrpMinH o1 o2) s

/-- `BNDTRP.MIN.S` (R592). -/
def bodyBndtrpMinS (o1 o2 : OD) : Body :=
  boundTrap .s .min o1 o2
/-- `BNDTRP.MIN.S` executed at the PC. -/
def execBndtrpMinS (o1 o2 : OD) (s : State) : Res :=
  runInstr (.xop 279 o1 o2) (bodyBndtrpMinS o1 o2) s

/-- `BNDTRP.MIN.D` (R592). -/
def bodyBndtrpMinD (o1 o2 : OD) : Body :=
  boundTrap .d .min o1 o2
/-- `BNDTRP.MIN.D` executed at the PC. -/
def execBndtrpMinD (o1 o2 : OD) (s : State) : Res :=
  runInstr (.xop 280 o1 o2) (bodyBndtrpMinD o1 o2) s

/-- `BNDTRP.M1.Q` (R592). -/
def bodyBndtrpM1Q (o1 o2 : OD) : Body :=
  boundTrap .q .m1 o1 o2
/-- `BNDTRP.M1.Q` executed at the PC. -/
def execBndtrpM1Q (o1 o2 : OD) (s : State) : Res :=
  runInstr (.xop 281 o1 o2) (bodyBndtrpM1Q o1 o2) s

/-- `BNDTRP.M1.H` (R592). -/
def bodyBndtrpM1H (o1 o2 : OD) : Body :=
  boundTrap .h .m1 o1 o2
/-- `BNDTRP.M1.H` executed at the PC. -/
def execBndtrpM1H (o1 o2 : OD) (s : State) : Res :=
  runInstr (.xop 282 o1 o2) (bodyBndtrpM1H o1 o2) s

/-- `BNDTRP.M1.S` (R592). -/
def bodyBndtrpM1S (o1 o2 : OD) : Body :=
  boundTrap .s .m1 o1 o2
/-- `BNDTRP.M1.S` executed at the PC. -/
def execBndtrpM1S (o1 o2 : OD) (s : State) : Res :=
  runInstr (.xop 283 o1 o2) (bodyBndtrpM1S o1 o2) s

/-- `BNDTRP.M1.D` (R592). -/
def bodyBndtrpM1D (o1 o2 : OD) : Body :=
  boundTrap .d .m1 o1 o2
/-- `BNDTRP.M1.D` executed at the PC. -/
def execBndtrpM1D (o1 o2 : OD) (s : State) : Res :=
  runInstr (.xop 284 o1 o2) (bodyBndtrpM1D o1 o2) s

/-- `BNDTRP.0.Q` (R592). -/
def bodyBndtrp0Q (o1 o2 : OD) : Body :=
  boundTrap .q .zero o1 o2
/-- `BNDTRP.0.Q` executed at the PC. -/
def execBndtrp0Q (o1 o2 : OD) (s : State) : Res :=
  runInstr (.xop 285 o1 o2) (bodyBndtrp0Q o1 o2) s

/-- `BNDTRP.0.H` (R592). -/
def bodyBndtrp0H (o1 o2 : OD) : Body :=
  boundTrap .h .zero o1 o2
/-- `BNDTRP.0.H` executed at the PC. -/
def execBndtrp0H (o1 o2 : OD) (s : State) : Res :=
  runInstr (.xop 286 o1 o2) (bodyBndtrp0H o1 o2) s

/-- `BNDTRP.0.S` (R592). -/
def bodyBndtrp0S (o1 o2 : OD) : Body :=
  boundTrap .s .zero o1 o2
/-- `BNDTRP.0.S` executed at the PC. -/
def execBndtrp0S (o1 o2 : OD) (s : State) : Res :=
  runInstr (.xop 287 o1 o2) (bodyBndtrp0S o1 o2) s

/-- `BNDTRP.0.D` (R592). -/
def bodyBndtrp0D (o1 o2 : OD) : Body :=
  boundTrap .d .zero o1 o2
/-- `BNDTRP.0.D` executed at the PC. -/
def execBndtrp0D (o1 o2 : OD) (s : State) : Res :=
  runInstr (.xop 288 o1 o2) (bodyBndtrp0D o1 o2) s

/-- `BNDTRP.1.Q` (R592). -/
def bodyBndtrp1Q (o1 o2 : OD) : Body :=
  boundTrap .q .one o1 o2
/-- `BNDTRP.1.Q` executed at the PC. -/
def execBndtrp1Q (o1 o2 : OD) (s : State) : Res :=
  runInstr (.xop 289 o1 o2) (bodyBndtrp1Q o1 o2) s

/-- `BNDTRP.1.H` (R592). -/
def bodyBndtrp1H (o1 o2 : OD) : Body :=
  boundTrap .h .one o1 o2
/-- `BNDTRP.1.H` executed at the PC. -/
def execBndtrp1H (o1 o2 : OD) (s : State) : Res :=
  runInstr (.xop 290 o1 o2) (bodyBndtrp1H o1 o2) s

/-- `BNDTRP.1.S` (R592). -/
def bodyBndtrp1S (o1 o2 : OD) : Body :=
  boundTrap .s .one o1 o2
/-- `BNDTRP.1.S` executed at the PC. -/
def execBndtrp1S (o1 o2 : OD) (s : State) : Res :=
  runInstr (.xop 291 o1 o2) (bodyBndtrp1S o1 o2) s

/-- `BNDTRP.1.D` (R592). -/
def bodyBndtrp1D (o1 o2 : OD) : Body :=
  boundTrap .d .one o1 o2
/-- `BNDTRP.1.D` executed at the PC. -/
def execBndtrp1D (o1 o2 : OD) (s : State) : Res :=
  runInstr (.xop 292 o1 o2) (bodyBndtrp1D o1 o2) s

/-! ### `JPATCH` (R596): jump by a 24-bit displacement -/

/-- `JPATCH` (R596). -/
def bodyJpatch (disp : BitVec 24) : Body :=
  jumpPatch disp
/-- `JPATCH` executed at the PC. -/
def execJpatch (disp : BitVec 24) (s : State) : Res :=
  runInstr (.hop 0 disp) (bodyJpatch disp) s

end Sys2Proof.Machine
end

