-- ==== Sys2Proof/Machine/Linkage.lean ====
section
/-! DEFINITION. The routine linkage instructions (45_routine_linkage.md). -/

namespace Sys2Proof.Machine

/-! ### `JSR` (R620): push OP1 and the return word, then jump -/

/-- `JSR` (R620). -/
def bodyJsr (o1 : OD) (j : JDest) : Body :=
  jumpSub o1 j
/-- `JSR` executed at the PC. -/
def execJsr (o1 : OD) (j : JDest) (s : State) : Res :=
  runInstr (.jop 57 o1 j) (bodyJsr o1 j) s

/-! ### `JCR` (R624): jump to a coroutine -/

/-- `JCR` (R624). -/
def bodyJcr (o1 o2 : OD) : Body :=
  jumpCoroutine o1 o2
/-- `JCR` executed at the PC. -/
def execJcr (o1 o2 : OD) (s : State) : Res :=
  runInstr (.xop 293 o1 o2) (bodyJcr o1 o2) s

/-! ### `ALLOC` (R628): allocate stack and copy words -/

/-- `ALLOC.1` (R628). -/
def bodyAlloc1 (o1 o2 : OD) : Body :=
  allocStack 1 o1 o2
/-- `ALLOC.1` executed at the PC. -/
def execAlloc1 (o1 o2 : OD) (s : State) : Res :=
  runInstr (.xop 294 o1 o2) (bodyAlloc1 o1 o2) s

/-- `ALLOC.2` (R628). -/
def bodyAlloc2 (o1 o2 : OD) : Body :=
  allocStack 2 o1 o2
/-- `ALLOC.2` executed at the PC. -/
def execAlloc2 (o1 o2 : OD) (s : State) : Res :=
  runInstr (.xop 295 o1 o2) (bodyAlloc2 o1 o2) s

/-- `ALLOC.3` (R628). -/
def bodyAlloc3 (o1 o2 : OD) : Body :=
  allocStack 3 o1 o2
/-- `ALLOC.3` executed at the PC. -/
def execAlloc3 (o1 o2 : OD) (s : State) : Res :=
  runInstr (.xop 296 o1 o2) (bodyAlloc3 o1 o2) s

/-- `ALLOC.4` (R628). -/
def bodyAlloc4 (o1 o2 : OD) : Body :=
  allocStack 4 o1 o2
/-- `ALLOC.4` executed at the PC. -/
def execAlloc4 (o1 o2 : OD) (s : State) : Res :=
  runInstr (.xop 297 o1 o2) (bodyAlloc4 o1 o2) s

/-- `ALLOC.5` (R628). -/
def bodyAlloc5 (o1 o2 : OD) : Body :=
  allocStack 5 o1 o2
/-- `ALLOC.5` executed at the PC. -/
def execAlloc5 (o1 o2 : OD) (s : State) : Res :=
  runInstr (.xop 298 o1 o2) (bodyAlloc5 o1 o2) s

/-- `ALLOC.6` (R628). -/
def bodyAlloc6 (o1 o2 : OD) : Body :=
  allocStack 6 o1 o2
/-- `ALLOC.6` executed at the PC. -/
def execAlloc6 (o1 o2 : OD) (s : State) : Res :=
  runInstr (.xop 299 o1 o2) (bodyAlloc6 o1 o2) s

/-- `ALLOC.7` (R628). -/
def bodyAlloc7 (o1 o2 : OD) : Body :=
  allocStack 7 o1 o2
/-- `ALLOC.7` executed at the PC. -/
def execAlloc7 (o1 o2 : OD) (s : State) : Res :=
  runInstr (.xop 300 o1 o2) (bodyAlloc7 o1 o2) s

/-- `ALLOC.8` (R628). -/
def bodyAlloc8 (o1 o2 : OD) : Body :=
  allocStack 8 o1 o2
/-- `ALLOC.8` executed at the PC. -/
def execAlloc8 (o1 o2 : OD) (s : State) : Res :=
  runInstr (.xop 301 o1 o2) (bodyAlloc8 o1 o2) s

/-- `ALLOC.9` (R628). -/
def bodyAlloc9 (o1 o2 : OD) : Body :=
  allocStack 9 o1 o2
/-- `ALLOC.9` executed at the PC. -/
def execAlloc9 (o1 o2 : OD) (s : State) : Res :=
  runInstr (.xop 302 o1 o2) (bodyAlloc9 o1 o2) s

/-- `ALLOC.10` (R628). -/
def bodyAlloc10 (o1 o2 : OD) : Body :=
  allocStack 10 o1 o2
/-- `ALLOC.10` executed at the PC. -/
def execAlloc10 (o1 o2 : OD) (s : State) : Res :=
  runInstr (.xop 303 o1 o2) (bodyAlloc10 o1 o2) s

/-- `ALLOC.11` (R628). -/
def bodyAlloc11 (o1 o2 : OD) : Body :=
  allocStack 11 o1 o2
/-- `ALLOC.11` executed at the PC. -/
def execAlloc11 (o1 o2 : OD) (s : State) : Res :=
  runInstr (.xop 304 o1 o2) (bodyAlloc11 o1 o2) s

/-- `ALLOC.12` (R628). -/
def bodyAlloc12 (o1 o2 : OD) : Body :=
  allocStack 12 o1 o2
/-- `ALLOC.12` executed at the PC. -/
def execAlloc12 (o1 o2 : OD) (s : State) : Res :=
  runInstr (.xop 305 o1 o2) (bodyAlloc12 o1 o2) s

/-- `ALLOC.13` (R628). -/
def bodyAlloc13 (o1 o2 : OD) : Body :=
  allocStack 13 o1 o2
/-- `ALLOC.13` executed at the PC. -/
def execAlloc13 (o1 o2 : OD) (s : State) : Res :=
  runInstr (.xop 306 o1 o2) (bodyAlloc13 o1 o2) s

/-- `ALLOC.14` (R628). -/
def bodyAlloc14 (o1 o2 : OD) : Body :=
  allocStack 14 o1 o2
/-- `ALLOC.14` executed at the PC. -/
def execAlloc14 (o1 o2 : OD) (s : State) : Res :=
  runInstr (.xop 307 o1 o2) (bodyAlloc14 o1 o2) s

/-- `ALLOC.15` (R628). -/
def bodyAlloc15 (o1 o2 : OD) : Body :=
  allocStack 15 o1 o2
/-- `ALLOC.15` executed at the PC. -/
def execAlloc15 (o1 o2 : OD) (s : State) : Res :=
  runInstr (.xop 308 o1 o2) (bodyAlloc15 o1 o2) s

/-- `ALLOC.16` (R628). -/
def bodyAlloc16 (o1 o2 : OD) : Body :=
  allocStack 16 o1 o2
/-- `ALLOC.16` executed at the PC. -/
def execAlloc16 (o1 o2 : OD) (s : State) : Res :=
  runInstr (.xop 309 o1 o2) (bodyAlloc16 o1 o2) s

/-- `ALLOC.17` (R628). -/
def bodyAlloc17 (o1 o2 : OD) : Body :=
  allocStack 17 o1 o2
/-- `ALLOC.17` executed at the PC. -/
def execAlloc17 (o1 o2 : OD) (s : State) : Res :=
  runInstr (.xop 310 o1 o2) (bodyAlloc17 o1 o2) s

/-- `ALLOC.18` (R628). -/
def bodyAlloc18 (o1 o2 : OD) : Body :=
  allocStack 18 o1 o2
/-- `ALLOC.18` executed at the PC. -/
def execAlloc18 (o1 o2 : OD) (s : State) : Res :=
  runInstr (.xop 311 o1 o2) (bodyAlloc18 o1 o2) s

/-- `ALLOC.19` (R628). -/
def bodyAlloc19 (o1 o2 : OD) : Body :=
  allocStack 19 o1 o2
/-- `ALLOC.19` executed at the PC. -/
def execAlloc19 (o1 o2 : OD) (s : State) : Res :=
  runInstr (.xop 312 o1 o2) (bodyAlloc19 o1 o2) s

/-- `ALLOC.20` (R628). -/
def bodyAlloc20 (o1 o2 : OD) : Body :=
  allocStack 20 o1 o2
/-- `ALLOC.20` executed at the PC. -/
def execAlloc20 (o1 o2 : OD) (s : State) : Res :=
  runInstr (.xop 313 o1 o2) (bodyAlloc20 o1 o2) s

/-- `ALLOC.21` (R628). -/
def bodyAlloc21 (o1 o2 : OD) : Body :=
  allocStack 21 o1 o2
/-- `ALLOC.21` executed at the PC. -/
def execAlloc21 (o1 o2 : OD) (s : State) : Res :=
  runInstr (.xop 314 o1 o2) (bodyAlloc21 o1 o2) s

/-- `ALLOC.22` (R628). -/
def bodyAlloc22 (o1 o2 : OD) : Body :=
  allocStack 22 o1 o2
/-- `ALLOC.22` executed at the PC. -/
def execAlloc22 (o1 o2 : OD) (s : State) : Res :=
  runInstr (.xop 315 o1 o2) (bodyAlloc22 o1 o2) s

/-- `ALLOC.23` (R628). -/
def bodyAlloc23 (o1 o2 : OD) : Body :=
  allocStack 23 o1 o2
/-- `ALLOC.23` executed at the PC. -/
def execAlloc23 (o1 o2 : OD) (s : State) : Res :=
  runInstr (.xop 316 o1 o2) (bodyAlloc23 o1 o2) s

/-- `ALLOC.24` (R628). -/
def bodyAlloc24 (o1 o2 : OD) : Body :=
  allocStack 24 o1 o2
/-- `ALLOC.24` executed at the PC. -/
def execAlloc24 (o1 o2 : OD) (s : State) : Res :=
  runInstr (.xop 317 o1 o2) (bodyAlloc24 o1 o2) s

/-- `ALLOC.25` (R628). -/
def bodyAlloc25 (o1 o2 : OD) : Body :=
  allocStack 25 o1 o2
/-- `ALLOC.25` executed at the PC. -/
def execAlloc25 (o1 o2 : OD) (s : State) : Res :=
  runInstr (.xop 318 o1 o2) (bodyAlloc25 o1 o2) s

/-- `ALLOC.26` (R628). -/
def bodyAlloc26 (o1 o2 : OD) : Body :=
  allocStack 26 o1 o2
/-- `ALLOC.26` executed at the PC. -/
def execAlloc26 (o1 o2 : OD) (s : State) : Res :=
  runInstr (.xop 319 o1 o2) (bodyAlloc26 o1 o2) s

/-- `ALLOC.27` (R628). -/
def bodyAlloc27 (o1 o2 : OD) : Body :=
  allocStack 27 o1 o2
/-- `ALLOC.27` executed at the PC. -/
def execAlloc27 (o1 o2 : OD) (s : State) : Res :=
  runInstr (.xop 320 o1 o2) (bodyAlloc27 o1 o2) s

/-- `ALLOC.28` (R628). -/
def bodyAlloc28 (o1 o2 : OD) : Body :=
  allocStack 28 o1 o2
/-- `ALLOC.28` executed at the PC. -/
def execAlloc28 (o1 o2 : OD) (s : State) : Res :=
  runInstr (.xop 321 o1 o2) (bodyAlloc28 o1 o2) s

/-- `ALLOC.29` (R628). -/
def bodyAlloc29 (o1 o2 : OD) : Body :=
  allocStack 29 o1 o2
/-- `ALLOC.29` executed at the PC. -/
def execAlloc29 (o1 o2 : OD) (s : State) : Res :=
  runInstr (.xop 322 o1 o2) (bodyAlloc29 o1 o2) s

/-- `ALLOC.30` (R628). -/
def bodyAlloc30 (o1 o2 : OD) : Body :=
  allocStack 30 o1 o2
/-- `ALLOC.30` executed at the PC. -/
def execAlloc30 (o1 o2 : OD) (s : State) : Res :=
  runInstr (.xop 323 o1 o2) (bodyAlloc30 o1 o2) s

/-- `ALLOC.31` (R628). -/
def bodyAlloc31 (o1 o2 : OD) : Body :=
  allocStack 31 o1 o2
/-- `ALLOC.31` executed at the PC. -/
def execAlloc31 (o1 o2 : OD) (s : State) : Res :=
  runInstr (.xop 324 o1 o2) (bodyAlloc31 o1 o2) s

/-- `ALLOC.32` (R628). -/
def bodyAlloc32 (o1 o2 : OD) : Body :=
  allocStack 32 o1 o2
/-- `ALLOC.32` executed at the PC. -/
def execAlloc32 (o1 o2 : OD) (s : State) : Res :=
  runInstr (.xop 325 o1 o2) (bodyAlloc32 o1 o2) s

/-! ### `RETSR` (R634): return from a subroutine -/

/-- `RETSR` (R634). -/
def bodyRetsr (o1 o2 : OD) : Body :=
  returnSub o1 o2
/-- `RETSR` executed at the PC. -/
def execRetsr (o1 o2 : OD) (s : State) : Res :=
  runInstr (.xop 326 o1 o2) (bodyRetsr o1 o2) s

/-! ### `RET` (R636): return -/

/-- `RET` (R636). -/
def bodyRet (o1 o2 : OD) : Body :=
  returnPop o1 o2
/-- `RET` executed at the PC. -/
def execRet (o1 o2 : OD) (s : State) : Res :=
  runInstr (.xop 327 o1 o2) (bodyRet o1 o2) s

/-! ### `RETUS` (R638): return with USER_STATUS -/

/-- `RETUS` (R638). -/
def bodyRetus (o1 o2 : OD) : Body :=
  returnUser o1 o2
/-- `RETUS` executed at the PC. -/
def execRetus (o1 o2 : OD) (s : State) : Res :=
  runInstr (.xop 328 o1 o2) (bodyRetus o1 o2) s

/-! ### `RETFS` (R640): return with both status words -/

/-- `RETFS` (R640). -/
def bodyRetfs (o1 o2 : OD) : Body :=
  returnFull o1 o2
/-- `RETFS` executed at the PC. -/
def execRetfs (o1 o2 : OD) (s : State) : Res :=
  runInstr (.xop 329 o1 o2) (bodyRetfs o1 o2) s

/-! ### `TRPSLF` (R650): trap in the current context -/

/-- `TRPSLF.0` (R650). -/
def bodyTrpslf0 (o1 o2 : OD) : Body :=
  trapSelf 0 o1 o2
/-- `TRPSLF.0` executed at the PC. -/
def execTrpslf0 (o1 o2 : OD) (s : State) : Res :=
  runInstr (.xop 330 o1 o2) (bodyTrpslf0 o1 o2) s

/-- `TRPSLF.1` (R650). -/
def bodyTrpslf1 (o1 o2 : OD) : Body :=
  trapSelf 1 o1 o2
/-- `TRPSLF.1` executed at the PC. -/
def execTrpslf1 (o1 o2 : OD) (s : State) : Res :=
  runInstr (.xop 331 o1 o2) (bodyTrpslf1 o1 o2) s

/-- `TRPSLF.2` (R650). -/
def bodyTrpslf2 (o1 o2 : OD) : Body :=
  trapSelf 2 o1 o2
/-- `TRPSLF.2` executed at the PC. -/
def execTrpslf2 (o1 o2 : OD) (s : State) : Res :=
  runInstr (.xop 332 o1 o2) (bodyTrpslf2 o1 o2) s

/-- `TRPSLF.3` (R650). -/
def bodyTrpslf3 (o1 o2 : OD) : Body :=
  trapSelf 3 o1 o2
/-- `TRPSLF.3` executed at the PC. -/
def execTrpslf3 (o1 o2 : OD) (s : State) : Res :=
  runInstr (.xop 333 o1 o2) (bodyTrpslf3 o1 o2) s

/-- `TRPSLF.4` (R650). -/
def bodyTrpslf4 (o1 o2 : OD) : Body :=
  trapSelf 4 o1 o2
/-- `TRPSLF.4` executed at the PC. -/
def execTrpslf4 (o1 o2 : OD) (s : State) : Res :=
  runInstr (.xop 334 o1 o2) (bodyTrpslf4 o1 o2) s

/-- `TRPSLF.5` (R650). -/
def bodyTrpslf5 (o1 o2 : OD) : Body :=
  trapSelf 5 o1 o2
/-- `TRPSLF.5` executed at the PC. -/
def execTrpslf5 (o1 o2 : OD) (s : State) : Res :=
  runInstr (.xop 335 o1 o2) (bodyTrpslf5 o1 o2) s

/-- `TRPSLF.6` (R650). -/
def bodyTrpslf6 (o1 o2 : OD) : Body :=
  trapSelf 6 o1 o2
/-- `TRPSLF.6` executed at the PC. -/
def execTrpslf6 (o1 o2 : OD) (s : State) : Res :=
  runInstr (.xop 336 o1 o2) (bodyTrpslf6 o1 o2) s

/-- `TRPSLF.7` (R650). -/
def bodyTrpslf7 (o1 o2 : OD) : Body :=
  trapSelf 7 o1 o2
/-- `TRPSLF.7` executed at the PC. -/
def execTrpslf7 (o1 o2 : OD) (s : State) : Res :=
  runInstr (.xop 337 o1 o2) (bodyTrpslf7 o1 o2) s

/-- `TRPSLF.8` (R650). -/
def bodyTrpslf8 (o1 o2 : OD) : Body :=
  trapSelf 8 o1 o2
/-- `TRPSLF.8` executed at the PC. -/
def execTrpslf8 (o1 o2 : OD) (s : State) : Res :=
  runInstr (.xop 338 o1 o2) (bodyTrpslf8 o1 o2) s

/-- `TRPSLF.9` (R650). -/
def bodyTrpslf9 (o1 o2 : OD) : Body :=
  trapSelf 9 o1 o2
/-- `TRPSLF.9` executed at the PC. -/
def execTrpslf9 (o1 o2 : OD) (s : State) : Res :=
  runInstr (.xop 339 o1 o2) (bodyTrpslf9 o1 o2) s

/-- `TRPSLF.10` (R650). -/
def bodyTrpslf10 (o1 o2 : OD) : Body :=
  trapSelf 10 o1 o2
/-- `TRPSLF.10` executed at the PC. -/
def execTrpslf10 (o1 o2 : OD) (s : State) : Res :=
  runInstr (.xop 340 o1 o2) (bodyTrpslf10 o1 o2) s

/-- `TRPSLF.11` (R650). -/
def bodyTrpslf11 (o1 o2 : OD) : Body :=
  trapSelf 11 o1 o2
/-- `TRPSLF.11` executed at the PC. -/
def execTrpslf11 (o1 o2 : OD) (s : State) : Res :=
  runInstr (.xop 341 o1 o2) (bodyTrpslf11 o1 o2) s

/-- `TRPSLF.12` (R650). -/
def bodyTrpslf12 (o1 o2 : OD) : Body :=
  trapSelf 12 o1 o2
/-- `TRPSLF.12` executed at the PC. -/
def execTrpslf12 (o1 o2 : OD) (s : State) : Res :=
  runInstr (.xop 342 o1 o2) (bodyTrpslf12 o1 o2) s

/-- `TRPSLF.13` (R650). -/
def bodyTrpslf13 (o1 o2 : OD) : Body :=
  trapSelf 13 o1 o2
/-- `TRPSLF.13` executed at the PC. -/
def execTrpslf13 (o1 o2 : OD) (s : State) : Res :=
  runInstr (.xop 343 o1 o2) (bodyTrpslf13 o1 o2) s

/-- `TRPSLF.14` (R650). -/
def bodyTrpslf14 (o1 o2 : OD) : Body :=
  trapSelf 14 o1 o2
/-- `TRPSLF.14` executed at the PC. -/
def execTrpslf14 (o1 o2 : OD) (s : State) : Res :=
  runInstr (.xop 344 o1 o2) (bodyTrpslf14 o1 o2) s

/-- `TRPSLF.15` (R650). -/
def bodyTrpslf15 (o1 o2 : OD) : Body :=
  trapSelf 15 o1 o2
/-- `TRPSLF.15` executed at the PC. -/
def execTrpslf15 (o1 o2 : OD) (s : State) : Res :=
  runInstr (.xop 345 o1 o2) (bodyTrpslf15 o1 o2) s

/-- `TRPSLF.16` (R650). -/
def bodyTrpslf16 (o1 o2 : OD) : Body :=
  trapSelf 16 o1 o2
/-- `TRPSLF.16` executed at the PC. -/
def execTrpslf16 (o1 o2 : OD) (s : State) : Res :=
  runInstr (.xop 346 o1 o2) (bodyTrpslf16 o1 o2) s

/-- `TRPSLF.17` (R650). -/
def bodyTrpslf17 (o1 o2 : OD) : Body :=
  trapSelf 17 o1 o2
/-- `TRPSLF.17` executed at the PC. -/
def execTrpslf17 (o1 o2 : OD) (s : State) : Res :=
  runInstr (.xop 347 o1 o2) (bodyTrpslf17 o1 o2) s

/-- `TRPSLF.18` (R650). -/
def bodyTrpslf18 (o1 o2 : OD) : Body :=
  trapSelf 18 o1 o2
/-- `TRPSLF.18` executed at the PC. -/
def execTrpslf18 (o1 o2 : OD) (s : State) : Res :=
  runInstr (.xop 348 o1 o2) (bodyTrpslf18 o1 o2) s

/-- `TRPSLF.19` (R650). -/
def bodyTrpslf19 (o1 o2 : OD) : Body :=
  trapSelf 19 o1 o2
/-- `TRPSLF.19` executed at the PC. -/
def execTrpslf19 (o1 o2 : OD) (s : State) : Res :=
  runInstr (.xop 349 o1 o2) (bodyTrpslf19 o1 o2) s

/-- `TRPSLF.20` (R650). -/
def bodyTrpslf20 (o1 o2 : OD) : Body :=
  trapSelf 20 o1 o2
/-- `TRPSLF.20` executed at the PC. -/
def execTrpslf20 (o1 o2 : OD) (s : State) : Res :=
  runInstr (.xop 350 o1 o2) (bodyTrpslf20 o1 o2) s

/-- `TRPSLF.21` (R650). -/
def bodyTrpslf21 (o1 o2 : OD) : Body :=
  trapSelf 21 o1 o2
/-- `TRPSLF.21` executed at the PC. -/
def execTrpslf21 (o1 o2 : OD) (s : State) : Res :=
  runInstr (.xop 351 o1 o2) (bodyTrpslf21 o1 o2) s

/-- `TRPSLF.22` (R650). -/
def bodyTrpslf22 (o1 o2 : OD) : Body :=
  trapSelf 22 o1 o2
/-- `TRPSLF.22` executed at the PC. -/
def execTrpslf22 (o1 o2 : OD) (s : State) : Res :=
  runInstr (.xop 352 o1 o2) (bodyTrpslf22 o1 o2) s

/-- `TRPSLF.23` (R650). -/
def bodyTrpslf23 (o1 o2 : OD) : Body :=
  trapSelf 23 o1 o2
/-- `TRPSLF.23` executed at the PC. -/
def execTrpslf23 (o1 o2 : OD) (s : State) : Res :=
  runInstr (.xop 353 o1 o2) (bodyTrpslf23 o1 o2) s

/-- `TRPSLF.24` (R650). -/
def bodyTrpslf24 (o1 o2 : OD) : Body :=
  trapSelf 24 o1 o2
/-- `TRPSLF.24` executed at the PC. -/
def execTrpslf24 (o1 o2 : OD) (s : State) : Res :=
  runInstr (.xop 354 o1 o2) (bodyTrpslf24 o1 o2) s

/-- `TRPSLF.25` (R650). -/
def bodyTrpslf25 (o1 o2 : OD) : Body :=
  trapSelf 25 o1 o2
/-- `TRPSLF.25` executed at the PC. -/
def execTrpslf25 (o1 o2 : OD) (s : State) : Res :=
  runInstr (.xop 355 o1 o2) (bodyTrpslf25 o1 o2) s

/-- `TRPSLF.26` (R650). -/
def bodyTrpslf26 (o1 o2 : OD) : Body :=
  trapSelf 26 o1 o2
/-- `TRPSLF.26` executed at the PC. -/
def execTrpslf26 (o1 o2 : OD) (s : State) : Res :=
  runInstr (.xop 356 o1 o2) (bodyTrpslf26 o1 o2) s

/-- `TRPSLF.27` (R650). -/
def bodyTrpslf27 (o1 o2 : OD) : Body :=
  trapSelf 27 o1 o2
/-- `TRPSLF.27` executed at the PC. -/
def execTrpslf27 (o1 o2 : OD) (s : State) : Res :=
  runInstr (.xop 357 o1 o2) (bodyTrpslf27 o1 o2) s

/-- `TRPSLF.28` (R650). -/
def bodyTrpslf28 (o1 o2 : OD) : Body :=
  trapSelf 28 o1 o2
/-- `TRPSLF.28` executed at the PC. -/
def execTrpslf28 (o1 o2 : OD) (s : State) : Res :=
  runInstr (.xop 358 o1 o2) (bodyTrpslf28 o1 o2) s

/-- `TRPSLF.29` (R650). -/
def bodyTrpslf29 (o1 o2 : OD) : Body :=
  trapSelf 29 o1 o2
/-- `TRPSLF.29` executed at the PC. -/
def execTrpslf29 (o1 o2 : OD) (s : State) : Res :=
  runInstr (.xop 359 o1 o2) (bodyTrpslf29 o1 o2) s

/-- `TRPSLF.30` (R650). -/
def bodyTrpslf30 (o1 o2 : OD) : Body :=
  trapSelf 30 o1 o2
/-- `TRPSLF.30` executed at the PC. -/
def execTrpslf30 (o1 o2 : OD) (s : State) : Res :=
  runInstr (.xop 360 o1 o2) (bodyTrpslf30 o1 o2) s

/-- `TRPSLF.31` (R650). -/
def bodyTrpslf31 (o1 o2 : OD) : Body :=
  trapSelf 31 o1 o2
/-- `TRPSLF.31` executed at the PC. -/
def execTrpslf31 (o1 o2 : OD) (s : State) : Res :=
  runInstr (.xop 361 o1 o2) (bodyTrpslf31 o1 o2) s

/-- `TRPSLF.32` (R650). -/
def bodyTrpslf32 (o1 o2 : OD) : Body :=
  trapSelf 32 o1 o2
/-- `TRPSLF.32` executed at the PC. -/
def execTrpslf32 (o1 o2 : OD) (s : State) : Res :=
  runInstr (.xop 362 o1 o2) (bodyTrpslf32 o1 o2) s

/-- `TRPSLF.33` (R650). -/
def bodyTrpslf33 (o1 o2 : OD) : Body :=
  trapSelf 33 o1 o2
/-- `TRPSLF.33` executed at the PC. -/
def execTrpslf33 (o1 o2 : OD) (s : State) : Res :=
  runInstr (.xop 363 o1 o2) (bodyTrpslf33 o1 o2) s

/-- `TRPSLF.34` (R650). -/
def bodyTrpslf34 (o1 o2 : OD) : Body :=
  trapSelf 34 o1 o2
/-- `TRPSLF.34` executed at the PC. -/
def execTrpslf34 (o1 o2 : OD) (s : State) : Res :=
  runInstr (.xop 364 o1 o2) (bodyTrpslf34 o1 o2) s

/-- `TRPSLF.35` (R650). -/
def bodyTrpslf35 (o1 o2 : OD) : Body :=
  trapSelf 35 o1 o2
/-- `TRPSLF.35` executed at the PC. -/
def execTrpslf35 (o1 o2 : OD) (s : State) : Res :=
  runInstr (.xop 365 o1 o2) (bodyTrpslf35 o1 o2) s

/-- `TRPSLF.36` (R650). -/
def bodyTrpslf36 (o1 o2 : OD) : Body :=
  trapSelf 36 o1 o2
/-- `TRPSLF.36` executed at the PC. -/
def execTrpslf36 (o1 o2 : OD) (s : State) : Res :=
  runInstr (.xop 366 o1 o2) (bodyTrpslf36 o1 o2) s

/-- `TRPSLF.37` (R650). -/
def bodyTrpslf37 (o1 o2 : OD) : Body :=
  trapSelf 37 o1 o2
/-- `TRPSLF.37` executed at the PC. -/
def execTrpslf37 (o1 o2 : OD) (s : State) : Res :=
  runInstr (.xop 367 o1 o2) (bodyTrpslf37 o1 o2) s

/-- `TRPSLF.38` (R650). -/
def bodyTrpslf38 (o1 o2 : OD) : Body :=
  trapSelf 38 o1 o2
/-- `TRPSLF.38` executed at the PC. -/
def execTrpslf38 (o1 o2 : OD) (s : State) : Res :=
  runInstr (.xop 368 o1 o2) (bodyTrpslf38 o1 o2) s

/-- `TRPSLF.39` (R650). -/
def bodyTrpslf39 (o1 o2 : OD) : Body :=
  trapSelf 39 o1 o2
/-- `TRPSLF.39` executed at the PC. -/
def execTrpslf39 (o1 o2 : OD) (s : State) : Res :=
  runInstr (.xop 369 o1 o2) (bodyTrpslf39 o1 o2) s

/-- `TRPSLF.40` (R650). -/
def bodyTrpslf40 (o1 o2 : OD) : Body :=
  trapSelf 40 o1 o2
/-- `TRPSLF.40` executed at the PC. -/
def execTrpslf40 (o1 o2 : OD) (s : State) : Res :=
  runInstr (.xop 370 o1 o2) (bodyTrpslf40 o1 o2) s

/-- `TRPSLF.41` (R650). -/
def bodyTrpslf41 (o1 o2 : OD) : Body :=
  trapSelf 41 o1 o2
/-- `TRPSLF.41` executed at the PC. -/
def execTrpslf41 (o1 o2 : OD) (s : State) : Res :=
  runInstr (.xop 371 o1 o2) (bodyTrpslf41 o1 o2) s

/-- `TRPSLF.42` (R650). -/
def bodyTrpslf42 (o1 o2 : OD) : Body :=
  trapSelf 42 o1 o2
/-- `TRPSLF.42` executed at the PC. -/
def execTrpslf42 (o1 o2 : OD) (s : State) : Res :=
  runInstr (.xop 372 o1 o2) (bodyTrpslf42 o1 o2) s

/-- `TRPSLF.43` (R650). -/
def bodyTrpslf43 (o1 o2 : OD) : Body :=
  trapSelf 43 o1 o2
/-- `TRPSLF.43` executed at the PC. -/
def execTrpslf43 (o1 o2 : OD) (s : State) : Res :=
  runInstr (.xop 373 o1 o2) (bodyTrpslf43 o1 o2) s

/-- `TRPSLF.44` (R650). -/
def bodyTrpslf44 (o1 o2 : OD) : Body :=
  trapSelf 44 o1 o2
/-- `TRPSLF.44` executed at the PC. -/
def execTrpslf44 (o1 o2 : OD) (s : State) : Res :=
  runInstr (.xop 374 o1 o2) (bodyTrpslf44 o1 o2) s

/-- `TRPSLF.45` (R650). -/
def bodyTrpslf45 (o1 o2 : OD) : Body :=
  trapSelf 45 o1 o2
/-- `TRPSLF.45` executed at the PC. -/
def execTrpslf45 (o1 o2 : OD) (s : State) : Res :=
  runInstr (.xop 375 o1 o2) (bodyTrpslf45 o1 o2) s

/-- `TRPSLF.46` (R650). -/
def bodyTrpslf46 (o1 o2 : OD) : Body :=
  trapSelf 46 o1 o2
/-- `TRPSLF.46` executed at the PC. -/
def execTrpslf46 (o1 o2 : OD) (s : State) : Res :=
  runInstr (.xop 376 o1 o2) (bodyTrpslf46 o1 o2) s

/-- `TRPSLF.47` (R650). -/
def bodyTrpslf47 (o1 o2 : OD) : Body :=
  trapSelf 47 o1 o2
/-- `TRPSLF.47` executed at the PC. -/
def execTrpslf47 (o1 o2 : OD) (s : State) : Res :=
  runInstr (.xop 377 o1 o2) (bodyTrpslf47 o1 o2) s

/-- `TRPSLF.48` (R650). -/
def bodyTrpslf48 (o1 o2 : OD) : Body :=
  trapSelf 48 o1 o2
/-- `TRPSLF.48` executed at the PC. -/
def execTrpslf48 (o1 o2 : OD) (s : State) : Res :=
  runInstr (.xop 378 o1 o2) (bodyTrpslf48 o1 o2) s

/-- `TRPSLF.49` (R650). -/
def bodyTrpslf49 (o1 o2 : OD) : Body :=
  trapSelf 49 o1 o2
/-- `TRPSLF.49` executed at the PC. -/
def execTrpslf49 (o1 o2 : OD) (s : State) : Res :=
  runInstr (.xop 379 o1 o2) (bodyTrpslf49 o1 o2) s

/-- `TRPSLF.50` (R650). -/
def bodyTrpslf50 (o1 o2 : OD) : Body :=
  trapSelf 50 o1 o2
/-- `TRPSLF.50` executed at the PC. -/
def execTrpslf50 (o1 o2 : OD) (s : State) : Res :=
  runInstr (.xop 380 o1 o2) (bodyTrpslf50 o1 o2) s

/-- `TRPSLF.51` (R650). -/
def bodyTrpslf51 (o1 o2 : OD) : Body :=
  trapSelf 51 o1 o2
/-- `TRPSLF.51` executed at the PC. -/
def execTrpslf51 (o1 o2 : OD) (s : State) : Res :=
  runInstr (.xop 381 o1 o2) (bodyTrpslf51 o1 o2) s

/-- `TRPSLF.52` (R650). -/
def bodyTrpslf52 (o1 o2 : OD) : Body :=
  trapSelf 52 o1 o2
/-- `TRPSLF.52` executed at the PC. -/
def execTrpslf52 (o1 o2 : OD) (s : State) : Res :=
  runInstr (.xop 382 o1 o2) (bodyTrpslf52 o1 o2) s

/-- `TRPSLF.53` (R650). -/
def bodyTrpslf53 (o1 o2 : OD) : Body :=
  trapSelf 53 o1 o2
/-- `TRPSLF.53` executed at the PC. -/
def execTrpslf53 (o1 o2 : OD) (s : State) : Res :=
  runInstr (.xop 383 o1 o2) (bodyTrpslf53 o1 o2) s

/-- `TRPSLF.54` (R650). -/
def bodyTrpslf54 (o1 o2 : OD) : Body :=
  trapSelf 54 o1 o2
/-- `TRPSLF.54` executed at the PC. -/
def execTrpslf54 (o1 o2 : OD) (s : State) : Res :=
  runInstr (.xop 384 o1 o2) (bodyTrpslf54 o1 o2) s

/-- `TRPSLF.55` (R650). -/
def bodyTrpslf55 (o1 o2 : OD) : Body :=
  trapSelf 55 o1 o2
/-- `TRPSLF.55` executed at the PC. -/
def execTrpslf55 (o1 o2 : OD) (s : State) : Res :=
  runInstr (.xop 385 o1 o2) (bodyTrpslf55 o1 o2) s

/-- `TRPSLF.56` (R650). -/
def bodyTrpslf56 (o1 o2 : OD) : Body :=
  trapSelf 56 o1 o2
/-- `TRPSLF.56` executed at the PC. -/
def execTrpslf56 (o1 o2 : OD) (s : State) : Res :=
  runInstr (.xop 386 o1 o2) (bodyTrpslf56 o1 o2) s

/-- `TRPSLF.57` (R650). -/
def bodyTrpslf57 (o1 o2 : OD) : Body :=
  trapSelf 57 o1 o2
/-- `TRPSLF.57` executed at the PC. -/
def execTrpslf57 (o1 o2 : OD) (s : State) : Res :=
  runInstr (.xop 387 o1 o2) (bodyTrpslf57 o1 o2) s

/-- `TRPSLF.58` (R650). -/
def bodyTrpslf58 (o1 o2 : OD) : Body :=
  trapSelf 58 o1 o2
/-- `TRPSLF.58` executed at the PC. -/
def execTrpslf58 (o1 o2 : OD) (s : State) : Res :=
  runInstr (.xop 388 o1 o2) (bodyTrpslf58 o1 o2) s

/-- `TRPSLF.59` (R650). -/
def bodyTrpslf59 (o1 o2 : OD) : Body :=
  trapSelf 59 o1 o2
/-- `TRPSLF.59` executed at the PC. -/
def execTrpslf59 (o1 o2 : OD) (s : State) : Res :=
  runInstr (.xop 389 o1 o2) (bodyTrpslf59 o1 o2) s

/-- `TRPSLF.60` (R650). -/
def bodyTrpslf60 (o1 o2 : OD) : Body :=
  trapSelf 60 o1 o2
/-- `TRPSLF.60` executed at the PC. -/
def execTrpslf60 (o1 o2 : OD) (s : State) : Res :=
  runInstr (.xop 390 o1 o2) (bodyTrpslf60 o1 o2) s

/-- `TRPSLF.61` (R650). -/
def bodyTrpslf61 (o1 o2 : OD) : Body :=
  trapSelf 61 o1 o2
/-- `TRPSLF.61` executed at the PC. -/
def execTrpslf61 (o1 o2 : OD) (s : State) : Res :=
  runInstr (.xop 391 o1 o2) (bodyTrpslf61 o1 o2) s

/-- `TRPSLF.62` (R650). -/
def bodyTrpslf62 (o1 o2 : OD) : Body :=
  trapSelf 62 o1 o2
/-- `TRPSLF.62` executed at the PC. -/
def execTrpslf62 (o1 o2 : OD) (s : State) : Res :=
  runInstr (.xop 392 o1 o2) (bodyTrpslf62 o1 o2) s

/-- `TRPSLF.63` (R650). -/
def bodyTrpslf63 (o1 o2 : OD) : Body :=
  trapSelf 63 o1 o2
/-- `TRPSLF.63` executed at the PC. -/
def execTrpslf63 (o1 o2 : OD) (s : State) : Res :=
  runInstr (.xop 393 o1 o2) (bodyTrpslf63 o1 o2) s

/-! ### `TRPEXE` (R652): trap to the executive -/

/-- `TRPEXE.0` (R652). -/
def bodyTrpexe0 (o1 o2 : OD) : Body :=
  trapExec 0 o1 o2
/-- `TRPEXE.0` executed at the PC. -/
def execTrpexe0 (o1 o2 : OD) (s : State) : Res :=
  runInstr (.xop 394 o1 o2) (bodyTrpexe0 o1 o2) s

/-- `TRPEXE.1` (R652). -/
def bodyTrpexe1 (o1 o2 : OD) : Body :=
  trapExec 1 o1 o2
/-- `TRPEXE.1` executed at the PC. -/
def execTrpexe1 (o1 o2 : OD) (s : State) : Res :=
  runInstr (.xop 395 o1 o2) (bodyTrpexe1 o1 o2) s

/-- `TRPEXE.2` (R652). -/
def bodyTrpexe2 (o1 o2 : OD) : Body :=
  trapExec 2 o1 o2
/-- `TRPEXE.2` executed at the PC. -/
def execTrpexe2 (o1 o2 : OD) (s : State) : Res :=
  runInstr (.xop 396 o1 o2) (bodyTrpexe2 o1 o2) s

/-- `TRPEXE.3` (R652). -/
def bodyTrpexe3 (o1 o2 : OD) : Body :=
  trapExec 3 o1 o2
/-- `TRPEXE.3` executed at the PC. -/
def execTrpexe3 (o1 o2 : OD) (s : State) : Res :=
  runInstr (.xop 397 o1 o2) (bodyTrpexe3 o1 o2) s

/-- `TRPEXE.4` (R652). -/
def bodyTrpexe4 (o1 o2 : OD) : Body :=
  trapExec 4 o1 o2
/-- `TRPEXE.4` executed at the PC. -/
def execTrpexe4 (o1 o2 : OD) (s : State) : Res :=
  runInstr (.xop 398 o1 o2) (bodyTrpexe4 o1 o2) s

/-- `TRPEXE.5` (R652). -/
def bodyTrpexe5 (o1 o2 : OD) : Body :=
  trapExec 5 o1 o2
/-- `TRPEXE.5` executed at the PC. -/
def execTrpexe5 (o1 o2 : OD) (s : State) : Res :=
  runInstr (.xop 399 o1 o2) (bodyTrpexe5 o1 o2) s

/-- `TRPEXE.6` (R652). -/
def bodyTrpexe6 (o1 o2 : OD) : Body :=
  trapExec 6 o1 o2
/-- `TRPEXE.6` executed at the PC. -/
def execTrpexe6 (o1 o2 : OD) (s : State) : Res :=
  runInstr (.xop 400 o1 o2) (bodyTrpexe6 o1 o2) s

/-- `TRPEXE.7` (R652). -/
def bodyTrpexe7 (o1 o2 : OD) : Body :=
  trapExec 7 o1 o2
/-- `TRPEXE.7` executed at the PC. -/
def execTrpexe7 (o1 o2 : OD) (s : State) : Res :=
  runInstr (.xop 401 o1 o2) (bodyTrpexe7 o1 o2) s

/-- `TRPEXE.8` (R652). -/
def bodyTrpexe8 (o1 o2 : OD) : Body :=
  trapExec 8 o1 o2
/-- `TRPEXE.8` executed at the PC. -/
def execTrpexe8 (o1 o2 : OD) (s : State) : Res :=
  runInstr (.xop 402 o1 o2) (bodyTrpexe8 o1 o2) s

/-- `TRPEXE.9` (R652). -/
def bodyTrpexe9 (o1 o2 : OD) : Body :=
  trapExec 9 o1 o2
/-- `TRPEXE.9` executed at the PC. -/
def execTrpexe9 (o1 o2 : OD) (s : State) : Res :=
  runInstr (.xop 403 o1 o2) (bodyTrpexe9 o1 o2) s

/-- `TRPEXE.10` (R652). -/
def bodyTrpexe10 (o1 o2 : OD) : Body :=
  trapExec 10 o1 o2
/-- `TRPEXE.10` executed at the PC. -/
def execTrpexe10 (o1 o2 : OD) (s : State) : Res :=
  runInstr (.xop 404 o1 o2) (bodyTrpexe10 o1 o2) s

/-- `TRPEXE.11` (R652). -/
def bodyTrpexe11 (o1 o2 : OD) : Body :=
  trapExec 11 o1 o2
/-- `TRPEXE.11` executed at the PC. -/
def execTrpexe11 (o1 o2 : OD) (s : State) : Res :=
  runInstr (.xop 405 o1 o2) (bodyTrpexe11 o1 o2) s

/-- `TRPEXE.12` (R652). -/
def bodyTrpexe12 (o1 o2 : OD) : Body :=
  trapExec 12 o1 o2
/-- `TRPEXE.12` executed at the PC. -/
def execTrpexe12 (o1 o2 : OD) (s : State) : Res :=
  runInstr (.xop 406 o1 o2) (bodyTrpexe12 o1 o2) s

/-- `TRPEXE.13` (R652). -/
def bodyTrpexe13 (o1 o2 : OD) : Body :=
  trapExec 13 o1 o2
/-- `TRPEXE.13` executed at the PC. -/
def execTrpexe13 (o1 o2 : OD) (s : State) : Res :=
  runInstr (.xop 407 o1 o2) (bodyTrpexe13 o1 o2) s

/-- `TRPEXE.14` (R652). -/
def bodyTrpexe14 (o1 o2 : OD) : Body :=
  trapExec 14 o1 o2
/-- `TRPEXE.14` executed at the PC. -/
def execTrpexe14 (o1 o2 : OD) (s : State) : Res :=
  runInstr (.xop 408 o1 o2) (bodyTrpexe14 o1 o2) s

/-- `TRPEXE.15` (R652). -/
def bodyTrpexe15 (o1 o2 : OD) : Body :=
  trapExec 15 o1 o2
/-- `TRPEXE.15` executed at the PC. -/
def execTrpexe15 (o1 o2 : OD) (s : State) : Res :=
  runInstr (.xop 409 o1 o2) (bodyTrpexe15 o1 o2) s

/-- `TRPEXE.16` (R652). -/
def bodyTrpexe16 (o1 o2 : OD) : Body :=
  trapExec 16 o1 o2
/-- `TRPEXE.16` executed at the PC. -/
def execTrpexe16 (o1 o2 : OD) (s : State) : Res :=
  runInstr (.xop 410 o1 o2) (bodyTrpexe16 o1 o2) s

/-- `TRPEXE.17` (R652). -/
def bodyTrpexe17 (o1 o2 : OD) : Body :=
  trapExec 17 o1 o2
/-- `TRPEXE.17` executed at the PC. -/
def execTrpexe17 (o1 o2 : OD) (s : State) : Res :=
  runInstr (.xop 411 o1 o2) (bodyTrpexe17 o1 o2) s

/-- `TRPEXE.18` (R652). -/
def bodyTrpexe18 (o1 o2 : OD) : Body :=
  trapExec 18 o1 o2
/-- `TRPEXE.18` executed at the PC. -/
def execTrpexe18 (o1 o2 : OD) (s : State) : Res :=
  runInstr (.xop 412 o1 o2) (bodyTrpexe18 o1 o2) s

/-- `TRPEXE.19` (R652). -/
def bodyTrpexe19 (o1 o2 : OD) : Body :=
  trapExec 19 o1 o2
/-- `TRPEXE.19` executed at the PC. -/
def execTrpexe19 (o1 o2 : OD) (s : State) : Res :=
  runInstr (.xop 413 o1 o2) (bodyTrpexe19 o1 o2) s

/-- `TRPEXE.20` (R652). -/
def bodyTrpexe20 (o1 o2 : OD) : Body :=
  trapExec 20 o1 o2
/-- `TRPEXE.20` executed at the PC. -/
def execTrpexe20 (o1 o2 : OD) (s : State) : Res :=
  runInstr (.xop 414 o1 o2) (bodyTrpexe20 o1 o2) s

/-- `TRPEXE.21` (R652). -/
def bodyTrpexe21 (o1 o2 : OD) : Body :=
  trapExec 21 o1 o2
/-- `TRPEXE.21` executed at the PC. -/
def execTrpexe21 (o1 o2 : OD) (s : State) : Res :=
  runInstr (.xop 415 o1 o2) (bodyTrpexe21 o1 o2) s

/-- `TRPEXE.22` (R652). -/
def bodyTrpexe22 (o1 o2 : OD) : Body :=
  trapExec 22 o1 o2
/-- `TRPEXE.22` executed at the PC. -/
def execTrpexe22 (o1 o2 : OD) (s : State) : Res :=
  runInstr (.xop 416 o1 o2) (bodyTrpexe22 o1 o2) s

/-- `TRPEXE.23` (R652). -/
def bodyTrpexe23 (o1 o2 : OD) : Body :=
  trapExec 23 o1 o2
/-- `TRPEXE.23` executed at the PC. -/
def execTrpexe23 (o1 o2 : OD) (s : State) : Res :=
  runInstr (.xop 417 o1 o2) (bodyTrpexe23 o1 o2) s

/-- `TRPEXE.24` (R652). -/
def bodyTrpexe24 (o1 o2 : OD) : Body :=
  trapExec 24 o1 o2
/-- `TRPEXE.24` executed at the PC. -/
def execTrpexe24 (o1 o2 : OD) (s : State) : Res :=
  runInstr (.xop 418 o1 o2) (bodyTrpexe24 o1 o2) s

/-- `TRPEXE.25` (R652). -/
def bodyTrpexe25 (o1 o2 : OD) : Body :=
  trapExec 25 o1 o2
/-- `TRPEXE.25` executed at the PC. -/
def execTrpexe25 (o1 o2 : OD) (s : State) : Res :=
  runInstr (.xop 419 o1 o2) (bodyTrpexe25 o1 o2) s

/-- `TRPEXE.26` (R652). -/
def bodyTrpexe26 (o1 o2 : OD) : Body :=
  trapExec 26 o1 o2
/-- `TRPEXE.26` executed at the PC. -/
def execTrpexe26 (o1 o2 : OD) (s : State) : Res :=
  runInstr (.xop 420 o1 o2) (bodyTrpexe26 o1 o2) s

/-- `TRPEXE.27` (R652). -/
def bodyTrpexe27 (o1 o2 : OD) : Body :=
  trapExec 27 o1 o2
/-- `TRPEXE.27` executed at the PC. -/
def execTrpexe27 (o1 o2 : OD) (s : State) : Res :=
  runInstr (.xop 421 o1 o2) (bodyTrpexe27 o1 o2) s

/-- `TRPEXE.28` (R652). -/
def bodyTrpexe28 (o1 o2 : OD) : Body :=
  trapExec 28 o1 o2
/-- `TRPEXE.28` executed at the PC. -/
def execTrpexe28 (o1 o2 : OD) (s : State) : Res :=
  runInstr (.xop 422 o1 o2) (bodyTrpexe28 o1 o2) s

/-- `TRPEXE.29` (R652). -/
def bodyTrpexe29 (o1 o2 : OD) : Body :=
  trapExec 29 o1 o2
/-- `TRPEXE.29` executed at the PC. -/
def execTrpexe29 (o1 o2 : OD) (s : State) : Res :=
  runInstr (.xop 423 o1 o2) (bodyTrpexe29 o1 o2) s

/-- `TRPEXE.30` (R652). -/
def bodyTrpexe30 (o1 o2 : OD) : Body :=
  trapExec 30 o1 o2
/-- `TRPEXE.30` executed at the PC. -/
def execTrpexe30 (o1 o2 : OD) (s : State) : Res :=
  runInstr (.xop 424 o1 o2) (bodyTrpexe30 o1 o2) s

/-- `TRPEXE.31` (R652). -/
def bodyTrpexe31 (o1 o2 : OD) : Body :=
  trapExec 31 o1 o2
/-- `TRPEXE.31` executed at the PC. -/
def execTrpexe31 (o1 o2 : OD) (s : State) : Res :=
  runInstr (.xop 425 o1 o2) (bodyTrpexe31 o1 o2) s

/-- `TRPEXE.32` (R652). -/
def bodyTrpexe32 (o1 o2 : OD) : Body :=
  trapExec 32 o1 o2
/-- `TRPEXE.32` executed at the PC. -/
def execTrpexe32 (o1 o2 : OD) (s : State) : Res :=
  runInstr (.xop 426 o1 o2) (bodyTrpexe32 o1 o2) s

/-- `TRPEXE.33` (R652). -/
def bodyTrpexe33 (o1 o2 : OD) : Body :=
  trapExec 33 o1 o2
/-- `TRPEXE.33` executed at the PC. -/
def execTrpexe33 (o1 o2 : OD) (s : State) : Res :=
  runInstr (.xop 427 o1 o2) (bodyTrpexe33 o1 o2) s

/-- `TRPEXE.34` (R652). -/
def bodyTrpexe34 (o1 o2 : OD) : Body :=
  trapExec 34 o1 o2
/-- `TRPEXE.34` executed at the PC. -/
def execTrpexe34 (o1 o2 : OD) (s : State) : Res :=
  runInstr (.xop 428 o1 o2) (bodyTrpexe34 o1 o2) s

/-- `TRPEXE.35` (R652). -/
def bodyTrpexe35 (o1 o2 : OD) : Body :=
  trapExec 35 o1 o2
/-- `TRPEXE.35` executed at the PC. -/
def execTrpexe35 (o1 o2 : OD) (s : State) : Res :=
  runInstr (.xop 429 o1 o2) (bodyTrpexe35 o1 o2) s

/-- `TRPEXE.36` (R652). -/
def bodyTrpexe36 (o1 o2 : OD) : Body :=
  trapExec 36 o1 o2
/-- `TRPEXE.36` executed at the PC. -/
def execTrpexe36 (o1 o2 : OD) (s : State) : Res :=
  runInstr (.xop 430 o1 o2) (bodyTrpexe36 o1 o2) s

/-- `TRPEXE.37` (R652). -/
def bodyTrpexe37 (o1 o2 : OD) : Body :=
  trapExec 37 o1 o2
/-- `TRPEXE.37` executed at the PC. -/
def execTrpexe37 (o1 o2 : OD) (s : State) : Res :=
  runInstr (.xop 431 o1 o2) (bodyTrpexe37 o1 o2) s

/-- `TRPEXE.38` (R652). -/
def bodyTrpexe38 (o1 o2 : OD) : Body :=
  trapExec 38 o1 o2
/-- `TRPEXE.38` executed at the PC. -/
def execTrpexe38 (o1 o2 : OD) (s : State) : Res :=
  runInstr (.xop 432 o1 o2) (bodyTrpexe38 o1 o2) s

/-- `TRPEXE.39` (R652). -/
def bodyTrpexe39 (o1 o2 : OD) : Body :=
  trapExec 39 o1 o2
/-- `TRPEXE.39` executed at the PC. -/
def execTrpexe39 (o1 o2 : OD) (s : State) : Res :=
  runInstr (.xop 433 o1 o2) (bodyTrpexe39 o1 o2) s

/-- `TRPEXE.40` (R652). -/
def bodyTrpexe40 (o1 o2 : OD) : Body :=
  trapExec 40 o1 o2
/-- `TRPEXE.40` executed at the PC. -/
def execTrpexe40 (o1 o2 : OD) (s : State) : Res :=
  runInstr (.xop 434 o1 o2) (bodyTrpexe40 o1 o2) s

/-- `TRPEXE.41` (R652). -/
def bodyTrpexe41 (o1 o2 : OD) : Body :=
  trapExec 41 o1 o2
/-- `TRPEXE.41` executed at the PC. -/
def execTrpexe41 (o1 o2 : OD) (s : State) : Res :=
  runInstr (.xop 435 o1 o2) (bodyTrpexe41 o1 o2) s

/-- `TRPEXE.42` (R652). -/
def bodyTrpexe42 (o1 o2 : OD) : Body :=
  trapExec 42 o1 o2
/-- `TRPEXE.42` executed at the PC. -/
def execTrpexe42 (o1 o2 : OD) (s : State) : Res :=
  runInstr (.xop 436 o1 o2) (bodyTrpexe42 o1 o2) s

/-- `TRPEXE.43` (R652). -/
def bodyTrpexe43 (o1 o2 : OD) : Body :=
  trapExec 43 o1 o2
/-- `TRPEXE.43` executed at the PC. -/
def execTrpexe43 (o1 o2 : OD) (s : State) : Res :=
  runInstr (.xop 437 o1 o2) (bodyTrpexe43 o1 o2) s

/-- `TRPEXE.44` (R652). -/
def bodyTrpexe44 (o1 o2 : OD) : Body :=
  trapExec 44 o1 o2
/-- `TRPEXE.44` executed at the PC. -/
def execTrpexe44 (o1 o2 : OD) (s : State) : Res :=
  runInstr (.xop 438 o1 o2) (bodyTrpexe44 o1 o2) s

/-- `TRPEXE.45` (R652). -/
def bodyTrpexe45 (o1 o2 : OD) : Body :=
  trapExec 45 o1 o2
/-- `TRPEXE.45` executed at the PC. -/
def execTrpexe45 (o1 o2 : OD) (s : State) : Res :=
  runInstr (.xop 439 o1 o2) (bodyTrpexe45 o1 o2) s

/-- `TRPEXE.46` (R652). -/
def bodyTrpexe46 (o1 o2 : OD) : Body :=
  trapExec 46 o1 o2
/-- `TRPEXE.46` executed at the PC. -/
def execTrpexe46 (o1 o2 : OD) (s : State) : Res :=
  runInstr (.xop 440 o1 o2) (bodyTrpexe46 o1 o2) s

/-- `TRPEXE.47` (R652). -/
def bodyTrpexe47 (o1 o2 : OD) : Body :=
  trapExec 47 o1 o2
/-- `TRPEXE.47` executed at the PC. -/
def execTrpexe47 (o1 o2 : OD) (s : State) : Res :=
  runInstr (.xop 441 o1 o2) (bodyTrpexe47 o1 o2) s

/-- `TRPEXE.48` (R652). -/
def bodyTrpexe48 (o1 o2 : OD) : Body :=
  trapExec 48 o1 o2
/-- `TRPEXE.48` executed at the PC. -/
def execTrpexe48 (o1 o2 : OD) (s : State) : Res :=
  runInstr (.xop 442 o1 o2) (bodyTrpexe48 o1 o2) s

/-- `TRPEXE.49` (R652). -/
def bodyTrpexe49 (o1 o2 : OD) : Body :=
  trapExec 49 o1 o2
/-- `TRPEXE.49` executed at the PC. -/
def execTrpexe49 (o1 o2 : OD) (s : State) : Res :=
  runInstr (.xop 443 o1 o2) (bodyTrpexe49 o1 o2) s

/-- `TRPEXE.50` (R652). -/
def bodyTrpexe50 (o1 o2 : OD) : Body :=
  trapExec 50 o1 o2
/-- `TRPEXE.50` executed at the PC. -/
def execTrpexe50 (o1 o2 : OD) (s : State) : Res :=
  runInstr (.xop 444 o1 o2) (bodyTrpexe50 o1 o2) s

/-- `TRPEXE.51` (R652). -/
def bodyTrpexe51 (o1 o2 : OD) : Body :=
  trapExec 51 o1 o2
/-- `TRPEXE.51` executed at the PC. -/
def execTrpexe51 (o1 o2 : OD) (s : State) : Res :=
  runInstr (.xop 445 o1 o2) (bodyTrpexe51 o1 o2) s

/-- `TRPEXE.52` (R652). -/
def bodyTrpexe52 (o1 o2 : OD) : Body :=
  trapExec 52 o1 o2
/-- `TRPEXE.52` executed at the PC. -/
def execTrpexe52 (o1 o2 : OD) (s : State) : Res :=
  runInstr (.xop 446 o1 o2) (bodyTrpexe52 o1 o2) s

/-- `TRPEXE.53` (R652). -/
def bodyTrpexe53 (o1 o2 : OD) : Body :=
  trapExec 53 o1 o2
/-- `TRPEXE.53` executed at the PC. -/
def execTrpexe53 (o1 o2 : OD) (s : State) : Res :=
  runInstr (.xop 447 o1 o2) (bodyTrpexe53 o1 o2) s

/-- `TRPEXE.54` (R652). -/
def bodyTrpexe54 (o1 o2 : OD) : Body :=
  trapExec 54 o1 o2
/-- `TRPEXE.54` executed at the PC. -/
def execTrpexe54 (o1 o2 : OD) (s : State) : Res :=
  runInstr (.xop 448 o1 o2) (bodyTrpexe54 o1 o2) s

/-- `TRPEXE.55` (R652). -/
def bodyTrpexe55 (o1 o2 : OD) : Body :=
  trapExec 55 o1 o2
/-- `TRPEXE.55` executed at the PC. -/
def execTrpexe55 (o1 o2 : OD) (s : State) : Res :=
  runInstr (.xop 449 o1 o2) (bodyTrpexe55 o1 o2) s

/-- `TRPEXE.56` (R652). -/
def bodyTrpexe56 (o1 o2 : OD) : Body :=
  trapExec 56 o1 o2
/-- `TRPEXE.56` executed at the PC. -/
def execTrpexe56 (o1 o2 : OD) (s : State) : Res :=
  runInstr (.xop 450 o1 o2) (bodyTrpexe56 o1 o2) s

/-- `TRPEXE.57` (R652). -/
def bodyTrpexe57 (o1 o2 : OD) : Body :=
  trapExec 57 o1 o2
/-- `TRPEXE.57` executed at the PC. -/
def execTrpexe57 (o1 o2 : OD) (s : State) : Res :=
  runInstr (.xop 451 o1 o2) (bodyTrpexe57 o1 o2) s

/-- `TRPEXE.58` (R652). -/
def bodyTrpexe58 (o1 o2 : OD) : Body :=
  trapExec 58 o1 o2
/-- `TRPEXE.58` executed at the PC. -/
def execTrpexe58 (o1 o2 : OD) (s : State) : Res :=
  runInstr (.xop 452 o1 o2) (bodyTrpexe58 o1 o2) s

/-- `TRPEXE.59` (R652). -/
def bodyTrpexe59 (o1 o2 : OD) : Body :=
  trapExec 59 o1 o2
/-- `TRPEXE.59` executed at the PC. -/
def execTrpexe59 (o1 o2 : OD) (s : State) : Res :=
  runInstr (.xop 453 o1 o2) (bodyTrpexe59 o1 o2) s

/-- `TRPEXE.60` (R652). -/
def bodyTrpexe60 (o1 o2 : OD) : Body :=
  trapExec 60 o1 o2
/-- `TRPEXE.60` executed at the PC. -/
def execTrpexe60 (o1 o2 : OD) (s : State) : Res :=
  runInstr (.xop 454 o1 o2) (bodyTrpexe60 o1 o2) s

/-- `TRPEXE.61` (R652). -/
def bodyTrpexe61 (o1 o2 : OD) : Body :=
  trapExec 61 o1 o2
/-- `TRPEXE.61` executed at the PC. -/
def execTrpexe61 (o1 o2 : OD) (s : State) : Res :=
  runInstr (.xop 455 o1 o2) (bodyTrpexe61 o1 o2) s

/-- `TRPEXE.62` (R652). -/
def bodyTrpexe62 (o1 o2 : OD) : Body :=
  trapExec 62 o1 o2
/-- `TRPEXE.62` executed at the PC. -/
def execTrpexe62 (o1 o2 : OD) (s : State) : Res :=
  runInstr (.xop 456 o1 o2) (bodyTrpexe62 o1 o2) s

/-- `TRPEXE.63` (R652). -/
def bodyTrpexe63 (o1 o2 : OD) : Body :=
  trapExec 63 o1 o2
/-- `TRPEXE.63` executed at the PC. -/
def execTrpexe63 (o1 o2 : OD) (s : State) : Res :=
  runInstr (.xop 457 o1 o2) (bodyTrpexe63 o1 o2) s

end Sys2Proof.Machine
end

