-- ==== Sys2Proof/Machine/Move.lean ====
section
/-! DEFINITION. The move, flag and boolean instructions (42_move_flag_boolean.md). -/

namespace Sys2Proof.Machine

/-! ### `MOV` (R472): OP1 <- OP2 at the precision of OP1 -/

/-- `MOV.Q.Q` (R472). -/
def bodyMovQQ (o1 o2 : OD) : Body :=
  xop2 .q .q (pureAlu1 movBits) o1 o2
/-- `MOV.Q.Q` executed at the PC. -/
def execMovQQ (o1 o2 : OD) (s : State) : Res :=
  runInstr (.xop 119 o1 o2) (bodyMovQQ o1 o2) s

/-- `MOV.Q.H` (R472). -/
def bodyMovQH (o1 o2 : OD) : Body :=
  xop2 .q .h (pureAlu1 movBits) o1 o2
/-- `MOV.Q.H` executed at the PC. -/
def execMovQH (o1 o2 : OD) (s : State) : Res :=
  runInstr (.xop 120 o1 o2) (bodyMovQH o1 o2) s

/-- `MOV.Q.S` (R472). -/
def bodyMovQS (o1 o2 : OD) : Body :=
  xop2 .q .s (pureAlu1 movBits) o1 o2
/-- `MOV.Q.S` executed at the PC. -/
def execMovQS (o1 o2 : OD) (s : State) : Res :=
  runInstr (.xop 121 o1 o2) (bodyMovQS o1 o2) s

/-- `MOV.Q.D` (R472). -/
def bodyMovQD (o1 o2 : OD) : Body :=
  xop2 .q .d (pureAlu1 movBits) o1 o2
/-- `MOV.Q.D` executed at the PC. -/
def execMovQD (o1 o2 : OD) (s : State) : Res :=
  runInstr (.xop 122 o1 o2) (bodyMovQD o1 o2) s

/-- `MOV.H.Q` (R472). -/
def bodyMovHQ (o1 o2 : OD) : Body :=
  xop2 .h .q (pureAlu1 movBits) o1 o2
/-- `MOV.H.Q` executed at the PC. -/
def execMovHQ (o1 o2 : OD) (s : State) : Res :=
  runInstr (.xop 123 o1 o2) (bodyMovHQ o1 o2) s

/-- `MOV.H.H` (R472). -/
def bodyMovHH (o1 o2 : OD) : Body :=
  xop2 .h .h (pureAlu1 movBits) o1 o2
/-- `MOV.H.H` executed at the PC. -/
def execMovHH (o1 o2 : OD) (s : State) : Res :=
  runInstr (.xop 124 o1 o2) (bodyMovHH o1 o2) s

/-- `MOV.H.S` (R472). -/
def bodyMovHS (o1 o2 : OD) : Body :=
  xop2 .h .s (pureAlu1 movBits) o1 o2
/-- `MOV.H.S` executed at the PC. -/
def execMovHS (o1 o2 : OD) (s : State) : Res :=
  runInstr (.xop 125 o1 o2) (bodyMovHS o1 o2) s

/-- `MOV.H.D` (R472). -/
def bodyMovHD (o1 o2 : OD) : Body :=
  xop2 .h .d (pureAlu1 movBits) o1 o2
/-- `MOV.H.D` executed at the PC. -/
def execMovHD (o1 o2 : OD) (s : State) : Res :=
  runInstr (.xop 126 o1 o2) (bodyMovHD o1 o2) s

/-- `MOV.S.Q` (R472). -/
def bodyMovSQ (o1 o2 : OD) : Body :=
  xop2 .s .q (pureAlu1 movBits) o1 o2
/-- `MOV.S.Q` executed at the PC. -/
def execMovSQ (o1 o2 : OD) (s : State) : Res :=
  runInstr (.xop 127 o1 o2) (bodyMovSQ o1 o2) s

/-- `MOV.S.H` (R472). -/
def bodyMovSH (o1 o2 : OD) : Body :=
  xop2 .s .h (pureAlu1 movBits) o1 o2
/-- `MOV.S.H` executed at the PC. -/
def execMovSH (o1 o2 : OD) (s : State) : Res :=
  runInstr (.xop 128 o1 o2) (bodyMovSH o1 o2) s

/-- `MOV.S.S` (R472). -/
def bodyMovSS (o1 o2 : OD) : Body :=
  xop2 .s .s (pureAlu1 movBits) o1 o2
/-- `MOV.S.S` executed at the PC. -/
def execMovSS (o1 o2 : OD) (s : State) : Res :=
  runInstr (.xop 129 o1 o2) (bodyMovSS o1 o2) s

/-- `MOV.S.D` (R472). -/
def bodyMovSD (o1 o2 : OD) : Body :=
  xop2 .s .d (pureAlu1 movBits) o1 o2
/-- `MOV.S.D` executed at the PC. -/
def execMovSD (o1 o2 : OD) (s : State) : Res :=
  runInstr (.xop 130 o1 o2) (bodyMovSD o1 o2) s

/-- `MOV.D.Q` (R472). -/
def bodyMovDQ (o1 o2 : OD) : Body :=
  xop2 .d .q (pureAlu1 movBits) o1 o2
/-- `MOV.D.Q` executed at the PC. -/
def execMovDQ (o1 o2 : OD) (s : State) : Res :=
  runInstr (.xop 131 o1 o2) (bodyMovDQ o1 o2) s

/-- `MOV.D.H` (R472). -/
def bodyMovDH (o1 o2 : OD) : Body :=
  xop2 .d .h (pureAlu1 movBits) o1 o2
/-- `MOV.D.H` executed at the PC. -/
def execMovDH (o1 o2 : OD) (s : State) : Res :=
  runInstr (.xop 132 o1 o2) (bodyMovDH o1 o2) s

/-- `MOV.D.S` (R472). -/
def bodyMovDS (o1 o2 : OD) : Body :=
  xop2 .d .s (pureAlu1 movBits) o1 o2
/-- `MOV.D.S` executed at the PC. -/
def execMovDS (o1 o2 : OD) (s : State) : Res :=
  runInstr (.xop 133 o1 o2) (bodyMovDS o1 o2) s

/-- `MOV.D.D` (R472). -/
def bodyMovDD (o1 o2 : OD) : Body :=
  xop2 .d .d (pureAlu1 movBits) o1 o2
/-- `MOV.D.D` executed at the PC. -/
def execMovDD (o1 o2 : OD) (s : State) : Res :=
  runInstr (.xop 134 o1 o2) (bodyMovDD o1 o2) s

/-! ### `MOVMQ` (R474): move quarter-words -/

/-- `MOVMQ.2` (R474). -/
def bodyMovmq2 (o1 o2 : OD) : Body :=
  moveMany .q 2 o1 o2
/-- `MOVMQ.2` executed at the PC. -/
def execMovmq2 (o1 o2 : OD) (s : State) : Res :=
  runInstr (.xop 135 o1 o2) (bodyMovmq2 o1 o2) s

/-- `MOVMQ.3` (R474). -/
def bodyMovmq3 (o1 o2 : OD) : Body :=
  moveMany .q 3 o1 o2
/-- `MOVMQ.3` executed at the PC. -/
def execMovmq3 (o1 o2 : OD) (s : State) : Res :=
  runInstr (.xop 136 o1 o2) (bodyMovmq3 o1 o2) s

/-- `MOVMQ.4` (R474). -/
def bodyMovmq4 (o1 o2 : OD) : Body :=
  moveMany .q 4 o1 o2
/-- `MOVMQ.4` executed at the PC. -/
def execMovmq4 (o1 o2 : OD) (s : State) : Res :=
  runInstr (.xop 137 o1 o2) (bodyMovmq4 o1 o2) s

/-- `MOVMQ.5` (R474). -/
def bodyMovmq5 (o1 o2 : OD) : Body :=
  moveMany .q 5 o1 o2
/-- `MOVMQ.5` executed at the PC. -/
def execMovmq5 (o1 o2 : OD) (s : State) : Res :=
  runInstr (.xop 138 o1 o2) (bodyMovmq5 o1 o2) s

/-- `MOVMQ.6` (R474). -/
def bodyMovmq6 (o1 o2 : OD) : Body :=
  moveMany .q 6 o1 o2
/-- `MOVMQ.6` executed at the PC. -/
def execMovmq6 (o1 o2 : OD) (s : State) : Res :=
  runInstr (.xop 139 o1 o2) (bodyMovmq6 o1 o2) s

/-- `MOVMQ.7` (R474). -/
def bodyMovmq7 (o1 o2 : OD) : Body :=
  moveMany .q 7 o1 o2
/-- `MOVMQ.7` executed at the PC. -/
def execMovmq7 (o1 o2 : OD) (s : State) : Res :=
  runInstr (.xop 140 o1 o2) (bodyMovmq7 o1 o2) s

/-- `MOVMQ.8` (R474). -/
def bodyMovmq8 (o1 o2 : OD) : Body :=
  moveMany .q 8 o1 o2
/-- `MOVMQ.8` executed at the PC. -/
def execMovmq8 (o1 o2 : OD) (s : State) : Res :=
  runInstr (.xop 141 o1 o2) (bodyMovmq8 o1 o2) s

/-- `MOVMQ.9` (R474). -/
def bodyMovmq9 (o1 o2 : OD) : Body :=
  moveMany .q 9 o1 o2
/-- `MOVMQ.9` executed at the PC. -/
def execMovmq9 (o1 o2 : OD) (s : State) : Res :=
  runInstr (.xop 142 o1 o2) (bodyMovmq9 o1 o2) s

/-- `MOVMQ.10` (R474). -/
def bodyMovmq10 (o1 o2 : OD) : Body :=
  moveMany .q 10 o1 o2
/-- `MOVMQ.10` executed at the PC. -/
def execMovmq10 (o1 o2 : OD) (s : State) : Res :=
  runInstr (.xop 143 o1 o2) (bodyMovmq10 o1 o2) s

/-- `MOVMQ.11` (R474). -/
def bodyMovmq11 (o1 o2 : OD) : Body :=
  moveMany .q 11 o1 o2
/-- `MOVMQ.11` executed at the PC. -/
def execMovmq11 (o1 o2 : OD) (s : State) : Res :=
  runInstr (.xop 144 o1 o2) (bodyMovmq11 o1 o2) s

/-- `MOVMQ.12` (R474). -/
def bodyMovmq12 (o1 o2 : OD) : Body :=
  moveMany .q 12 o1 o2
/-- `MOVMQ.12` executed at the PC. -/
def execMovmq12 (o1 o2 : OD) (s : State) : Res :=
  runInstr (.xop 145 o1 o2) (bodyMovmq12 o1 o2) s

/-- `MOVMQ.13` (R474). -/
def bodyMovmq13 (o1 o2 : OD) : Body :=
  moveMany .q 13 o1 o2
/-- `MOVMQ.13` executed at the PC. -/
def execMovmq13 (o1 o2 : OD) (s : State) : Res :=
  runInstr (.xop 146 o1 o2) (bodyMovmq13 o1 o2) s

/-- `MOVMQ.14` (R474). -/
def bodyMovmq14 (o1 o2 : OD) : Body :=
  moveMany .q 14 o1 o2
/-- `MOVMQ.14` executed at the PC. -/
def execMovmq14 (o1 o2 : OD) (s : State) : Res :=
  runInstr (.xop 147 o1 o2) (bodyMovmq14 o1 o2) s

/-- `MOVMQ.15` (R474). -/
def bodyMovmq15 (o1 o2 : OD) : Body :=
  moveMany .q 15 o1 o2
/-- `MOVMQ.15` executed at the PC. -/
def execMovmq15 (o1 o2 : OD) (s : State) : Res :=
  runInstr (.xop 148 o1 o2) (bodyMovmq15 o1 o2) s

/-- `MOVMQ.16` (R474). -/
def bodyMovmq16 (o1 o2 : OD) : Body :=
  moveMany .q 16 o1 o2
/-- `MOVMQ.16` executed at the PC. -/
def execMovmq16 (o1 o2 : OD) (s : State) : Res :=
  runInstr (.xop 149 o1 o2) (bodyMovmq16 o1 o2) s

/-- `MOVMQ.17` (R474). -/
def bodyMovmq17 (o1 o2 : OD) : Body :=
  moveMany .q 17 o1 o2
/-- `MOVMQ.17` executed at the PC. -/
def execMovmq17 (o1 o2 : OD) (s : State) : Res :=
  runInstr (.xop 150 o1 o2) (bodyMovmq17 o1 o2) s

/-- `MOVMQ.18` (R474). -/
def bodyMovmq18 (o1 o2 : OD) : Body :=
  moveMany .q 18 o1 o2
/-- `MOVMQ.18` executed at the PC. -/
def execMovmq18 (o1 o2 : OD) (s : State) : Res :=
  runInstr (.xop 151 o1 o2) (bodyMovmq18 o1 o2) s

/-- `MOVMQ.19` (R474). -/
def bodyMovmq19 (o1 o2 : OD) : Body :=
  moveMany .q 19 o1 o2
/-- `MOVMQ.19` executed at the PC. -/
def execMovmq19 (o1 o2 : OD) (s : State) : Res :=
  runInstr (.xop 152 o1 o2) (bodyMovmq19 o1 o2) s

/-- `MOVMQ.20` (R474). -/
def bodyMovmq20 (o1 o2 : OD) : Body :=
  moveMany .q 20 o1 o2
/-- `MOVMQ.20` executed at the PC. -/
def execMovmq20 (o1 o2 : OD) (s : State) : Res :=
  runInstr (.xop 153 o1 o2) (bodyMovmq20 o1 o2) s

/-- `MOVMQ.21` (R474). -/
def bodyMovmq21 (o1 o2 : OD) : Body :=
  moveMany .q 21 o1 o2
/-- `MOVMQ.21` executed at the PC. -/
def execMovmq21 (o1 o2 : OD) (s : State) : Res :=
  runInstr (.xop 154 o1 o2) (bodyMovmq21 o1 o2) s

/-- `MOVMQ.22` (R474). -/
def bodyMovmq22 (o1 o2 : OD) : Body :=
  moveMany .q 22 o1 o2
/-- `MOVMQ.22` executed at the PC. -/
def execMovmq22 (o1 o2 : OD) (s : State) : Res :=
  runInstr (.xop 155 o1 o2) (bodyMovmq22 o1 o2) s

/-- `MOVMQ.23` (R474). -/
def bodyMovmq23 (o1 o2 : OD) : Body :=
  moveMany .q 23 o1 o2
/-- `MOVMQ.23` executed at the PC. -/
def execMovmq23 (o1 o2 : OD) (s : State) : Res :=
  runInstr (.xop 156 o1 o2) (bodyMovmq23 o1 o2) s

/-- `MOVMQ.24` (R474). -/
def bodyMovmq24 (o1 o2 : OD) : Body :=
  moveMany .q 24 o1 o2
/-- `MOVMQ.24` executed at the PC. -/
def execMovmq24 (o1 o2 : OD) (s : State) : Res :=
  runInstr (.xop 157 o1 o2) (bodyMovmq24 o1 o2) s

/-- `MOVMQ.25` (R474). -/
def bodyMovmq25 (o1 o2 : OD) : Body :=
  moveMany .q 25 o1 o2
/-- `MOVMQ.25` executed at the PC. -/
def execMovmq25 (o1 o2 : OD) (s : State) : Res :=
  runInstr (.xop 158 o1 o2) (bodyMovmq25 o1 o2) s

/-- `MOVMQ.26` (R474). -/
def bodyMovmq26 (o1 o2 : OD) : Body :=
  moveMany .q 26 o1 o2
/-- `MOVMQ.26` executed at the PC. -/
def execMovmq26 (o1 o2 : OD) (s : State) : Res :=
  runInstr (.xop 159 o1 o2) (bodyMovmq26 o1 o2) s

/-- `MOVMQ.27` (R474). -/
def bodyMovmq27 (o1 o2 : OD) : Body :=
  moveMany .q 27 o1 o2
/-- `MOVMQ.27` executed at the PC. -/
def execMovmq27 (o1 o2 : OD) (s : State) : Res :=
  runInstr (.xop 160 o1 o2) (bodyMovmq27 o1 o2) s

/-- `MOVMQ.28` (R474). -/
def bodyMovmq28 (o1 o2 : OD) : Body :=
  moveMany .q 28 o1 o2
/-- `MOVMQ.28` executed at the PC. -/
def execMovmq28 (o1 o2 : OD) (s : State) : Res :=
  runInstr (.xop 161 o1 o2) (bodyMovmq28 o1 o2) s

/-- `MOVMQ.29` (R474). -/
def bodyMovmq29 (o1 o2 : OD) : Body :=
  moveMany .q 29 o1 o2
/-- `MOVMQ.29` executed at the PC. -/
def execMovmq29 (o1 o2 : OD) (s : State) : Res :=
  runInstr (.xop 162 o1 o2) (bodyMovmq29 o1 o2) s

/-- `MOVMQ.30` (R474). -/
def bodyMovmq30 (o1 o2 : OD) : Body :=
  moveMany .q 30 o1 o2
/-- `MOVMQ.30` executed at the PC. -/
def execMovmq30 (o1 o2 : OD) (s : State) : Res :=
  runInstr (.xop 163 o1 o2) (bodyMovmq30 o1 o2) s

/-- `MOVMQ.31` (R474). -/
def bodyMovmq31 (o1 o2 : OD) : Body :=
  moveMany .q 31 o1 o2
/-- `MOVMQ.31` executed at the PC. -/
def execMovmq31 (o1 o2 : OD) (s : State) : Res :=
  runInstr (.xop 164 o1 o2) (bodyMovmq31 o1 o2) s

/-- `MOVMQ.32` (R474). -/
def bodyMovmq32 (o1 o2 : OD) : Body :=
  moveMany .q 32 o1 o2
/-- `MOVMQ.32` executed at the PC. -/
def execMovmq32 (o1 o2 : OD) (s : State) : Res :=
  runInstr (.xop 165 o1 o2) (bodyMovmq32 o1 o2) s

/-- `MOVMQ.64` (R474). -/
def bodyMovmq64 (o1 o2 : OD) : Body :=
  moveMany .q 64 o1 o2
/-- `MOVMQ.64` executed at the PC. -/
def execMovmq64 (o1 o2 : OD) (s : State) : Res :=
  runInstr (.xop 166 o1 o2) (bodyMovmq64 o1 o2) s

/-- `MOVMQ.128` (R474). -/
def bodyMovmq128 (o1 o2 : OD) : Body :=
  moveMany .q 128 o1 o2
/-- `MOVMQ.128` executed at the PC. -/
def execMovmq128 (o1 o2 : OD) (s : State) : Res :=
  runInstr (.xop 167 o1 o2) (bodyMovmq128 o1 o2) s

/-! ### `MOVMS` (R475): move single-words -/

/-- `MOVMS.2` (R475). -/
def bodyMovms2 (o1 o2 : OD) : Body :=
  moveMany .s 2 o1 o2
/-- `MOVMS.2` executed at the PC. -/
def execMovms2 (o1 o2 : OD) (s : State) : Res :=
  runInstr (.xop 168 o1 o2) (bodyMovms2 o1 o2) s

/-- `MOVMS.3` (R475). -/
def bodyMovms3 (o1 o2 : OD) : Body :=
  moveMany .s 3 o1 o2
/-- `MOVMS.3` executed at the PC. -/
def execMovms3 (o1 o2 : OD) (s : State) : Res :=
  runInstr (.xop 169 o1 o2) (bodyMovms3 o1 o2) s

/-- `MOVMS.4` (R475). -/
def bodyMovms4 (o1 o2 : OD) : Body :=
  moveMany .s 4 o1 o2
/-- `MOVMS.4` executed at the PC. -/
def execMovms4 (o1 o2 : OD) (s : State) : Res :=
  runInstr (.xop 170 o1 o2) (bodyMovms4 o1 o2) s

/-- `MOVMS.5` (R475). -/
def bodyMovms5 (o1 o2 : OD) : Body :=
  moveMany .s 5 o1 o2
/-- `MOVMS.5` executed at the PC. -/
def execMovms5 (o1 o2 : OD) (s : State) : Res :=
  runInstr (.xop 171 o1 o2) (bodyMovms5 o1 o2) s

/-- `MOVMS.6` (R475). -/
def bodyMovms6 (o1 o2 : OD) : Body :=
  moveMany .s 6 o1 o2
/-- `MOVMS.6` executed at the PC. -/
def execMovms6 (o1 o2 : OD) (s : State) : Res :=
  runInstr (.xop 172 o1 o2) (bodyMovms6 o1 o2) s

/-- `MOVMS.7` (R475). -/
def bodyMovms7 (o1 o2 : OD) : Body :=
  moveMany .s 7 o1 o2
/-- `MOVMS.7` executed at the PC. -/
def execMovms7 (o1 o2 : OD) (s : State) : Res :=
  runInstr (.xop 173 o1 o2) (bodyMovms7 o1 o2) s

/-- `MOVMS.8` (R475). -/
def bodyMovms8 (o1 o2 : OD) : Body :=
  moveMany .s 8 o1 o2
/-- `MOVMS.8` executed at the PC. -/
def execMovms8 (o1 o2 : OD) (s : State) : Res :=
  runInstr (.xop 174 o1 o2) (bodyMovms8 o1 o2) s

/-- `MOVMS.9` (R475). -/
def bodyMovms9 (o1 o2 : OD) : Body :=
  moveMany .s 9 o1 o2
/-- `MOVMS.9` executed at the PC. -/
def execMovms9 (o1 o2 : OD) (s : State) : Res :=
  runInstr (.xop 175 o1 o2) (bodyMovms9 o1 o2) s

/-- `MOVMS.10` (R475). -/
def bodyMovms10 (o1 o2 : OD) : Body :=
  moveMany .s 10 o1 o2
/-- `MOVMS.10` executed at the PC. -/
def execMovms10 (o1 o2 : OD) (s : State) : Res :=
  runInstr (.xop 176 o1 o2) (bodyMovms10 o1 o2) s

/-- `MOVMS.11` (R475). -/
def bodyMovms11 (o1 o2 : OD) : Body :=
  moveMany .s 11 o1 o2
/-- `MOVMS.11` executed at the PC. -/
def execMovms11 (o1 o2 : OD) (s : State) : Res :=
  runInstr (.xop 177 o1 o2) (bodyMovms11 o1 o2) s

/-- `MOVMS.12` (R475). -/
def bodyMovms12 (o1 o2 : OD) : Body :=
  moveMany .s 12 o1 o2
/-- `MOVMS.12` executed at the PC. -/
def execMovms12 (o1 o2 : OD) (s : State) : Res :=
  runInstr (.xop 178 o1 o2) (bodyMovms12 o1 o2) s

/-- `MOVMS.13` (R475). -/
def bodyMovms13 (o1 o2 : OD) : Body :=
  moveMany .s 13 o1 o2
/-- `MOVMS.13` executed at the PC. -/
def execMovms13 (o1 o2 : OD) (s : State) : Res :=
  runInstr (.xop 179 o1 o2) (bodyMovms13 o1 o2) s

/-- `MOVMS.14` (R475). -/
def bodyMovms14 (o1 o2 : OD) : Body :=
  moveMany .s 14 o1 o2
/-- `MOVMS.14` executed at the PC. -/
def execMovms14 (o1 o2 : OD) (s : State) : Res :=
  runInstr (.xop 180 o1 o2) (bodyMovms14 o1 o2) s

/-- `MOVMS.15` (R475). -/
def bodyMovms15 (o1 o2 : OD) : Body :=
  moveMany .s 15 o1 o2
/-- `MOVMS.15` executed at the PC. -/
def execMovms15 (o1 o2 : OD) (s : State) : Res :=
  runInstr (.xop 181 o1 o2) (bodyMovms15 o1 o2) s

/-- `MOVMS.16` (R475). -/
def bodyMovms16 (o1 o2 : OD) : Body :=
  moveMany .s 16 o1 o2
/-- `MOVMS.16` executed at the PC. -/
def execMovms16 (o1 o2 : OD) (s : State) : Res :=
  runInstr (.xop 182 o1 o2) (bodyMovms16 o1 o2) s

/-- `MOVMS.17` (R475). -/
def bodyMovms17 (o1 o2 : OD) : Body :=
  moveMany .s 17 o1 o2
/-- `MOVMS.17` executed at the PC. -/
def execMovms17 (o1 o2 : OD) (s : State) : Res :=
  runInstr (.xop 183 o1 o2) (bodyMovms17 o1 o2) s

/-- `MOVMS.18` (R475). -/
def bodyMovms18 (o1 o2 : OD) : Body :=
  moveMany .s 18 o1 o2
/-- `MOVMS.18` executed at the PC. -/
def execMovms18 (o1 o2 : OD) (s : State) : Res :=
  runInstr (.xop 184 o1 o2) (bodyMovms18 o1 o2) s

/-- `MOVMS.19` (R475). -/
def bodyMovms19 (o1 o2 : OD) : Body :=
  moveMany .s 19 o1 o2
/-- `MOVMS.19` executed at the PC. -/
def execMovms19 (o1 o2 : OD) (s : State) : Res :=
  runInstr (.xop 185 o1 o2) (bodyMovms19 o1 o2) s

/-- `MOVMS.20` (R475). -/
def bodyMovms20 (o1 o2 : OD) : Body :=
  moveMany .s 20 o1 o2
/-- `MOVMS.20` executed at the PC. -/
def execMovms20 (o1 o2 : OD) (s : State) : Res :=
  runInstr (.xop 186 o1 o2) (bodyMovms20 o1 o2) s

/-- `MOVMS.21` (R475). -/
def bodyMovms21 (o1 o2 : OD) : Body :=
  moveMany .s 21 o1 o2
/-- `MOVMS.21` executed at the PC. -/
def execMovms21 (o1 o2 : OD) (s : State) : Res :=
  runInstr (.xop 187 o1 o2) (bodyMovms21 o1 o2) s

/-- `MOVMS.22` (R475). -/
def bodyMovms22 (o1 o2 : OD) : Body :=
  moveMany .s 22 o1 o2
/-- `MOVMS.22` executed at the PC. -/
def execMovms22 (o1 o2 : OD) (s : State) : Res :=
  runInstr (.xop 188 o1 o2) (bodyMovms22 o1 o2) s

/-- `MOVMS.23` (R475). -/
def bodyMovms23 (o1 o2 : OD) : Body :=
  moveMany .s 23 o1 o2
/-- `MOVMS.23` executed at the PC. -/
def execMovms23 (o1 o2 : OD) (s : State) : Res :=
  runInstr (.xop 189 o1 o2) (bodyMovms23 o1 o2) s

/-- `MOVMS.24` (R475). -/
def bodyMovms24 (o1 o2 : OD) : Body :=
  moveMany .s 24 o1 o2
/-- `MOVMS.24` executed at the PC. -/
def execMovms24 (o1 o2 : OD) (s : State) : Res :=
  runInstr (.xop 190 o1 o2) (bodyMovms24 o1 o2) s

/-- `MOVMS.25` (R475). -/
def bodyMovms25 (o1 o2 : OD) : Body :=
  moveMany .s 25 o1 o2
/-- `MOVMS.25` executed at the PC. -/
def execMovms25 (o1 o2 : OD) (s : State) : Res :=
  runInstr (.xop 191 o1 o2) (bodyMovms25 o1 o2) s

/-- `MOVMS.26` (R475). -/
def bodyMovms26 (o1 o2 : OD) : Body :=
  moveMany .s 26 o1 o2
/-- `MOVMS.26` executed at the PC. -/
def execMovms26 (o1 o2 : OD) (s : State) : Res :=
  runInstr (.xop 192 o1 o2) (bodyMovms26 o1 o2) s

/-- `MOVMS.27` (R475). -/
def bodyMovms27 (o1 o2 : OD) : Body :=
  moveMany .s 27 o1 o2
/-- `MOVMS.27` executed at the PC. -/
def execMovms27 (o1 o2 : OD) (s : State) : Res :=
  runInstr (.xop 193 o1 o2) (bodyMovms27 o1 o2) s

/-- `MOVMS.28` (R475). -/
def bodyMovms28 (o1 o2 : OD) : Body :=
  moveMany .s 28 o1 o2
/-- `MOVMS.28` executed at the PC. -/
def execMovms28 (o1 o2 : OD) (s : State) : Res :=
  runInstr (.xop 194 o1 o2) (bodyMovms28 o1 o2) s

/-- `MOVMS.29` (R475). -/
def bodyMovms29 (o1 o2 : OD) : Body :=
  moveMany .s 29 o1 o2
/-- `MOVMS.29` executed at the PC. -/
def execMovms29 (o1 o2 : OD) (s : State) : Res :=
  runInstr (.xop 195 o1 o2) (bodyMovms29 o1 o2) s

/-- `MOVMS.30` (R475). -/
def bodyMovms30 (o1 o2 : OD) : Body :=
  moveMany .s 30 o1 o2
/-- `MOVMS.30` executed at the PC. -/
def execMovms30 (o1 o2 : OD) (s : State) : Res :=
  runInstr (.xop 196 o1 o2) (bodyMovms30 o1 o2) s

/-- `MOVMS.31` (R475). -/
def bodyMovms31 (o1 o2 : OD) : Body :=
  moveMany .s 31 o1 o2
/-- `MOVMS.31` executed at the PC. -/
def execMovms31 (o1 o2 : OD) (s : State) : Res :=
  runInstr (.xop 197 o1 o2) (bodyMovms31 o1 o2) s

/-- `MOVMS.32` (R475). -/
def bodyMovms32 (o1 o2 : OD) : Body :=
  moveMany .s 32 o1 o2
/-- `MOVMS.32` executed at the PC. -/
def execMovms32 (o1 o2 : OD) (s : State) : Res :=
  runInstr (.xop 198 o1 o2) (bodyMovms32 o1 o2) s

/-! ### `EXCH` (R477): OP1 and OP2 exchange their values -/

/-- `EXCH.Q` (R477). -/
def bodyExchQ (o1 o2 : OD) : Body :=
  exchange .q o1 o2
/-- `EXCH.Q` executed at the PC. -/
def execExchQ (o1 o2 : OD) (s : State) : Res :=
  runInstr (.xop 199 o1 o2) (bodyExchQ o1 o2) s

/-- `EXCH.H` (R477). -/
def bodyExchH (o1 o2 : OD) : Body :=
  exchange .h o1 o2
/-- `EXCH.H` executed at the PC. -/
def execExchH (o1 o2 : OD) (s : State) : Res :=
  runInstr (.xop 200 o1 o2) (bodyExchH o1 o2) s

/-- `EXCH.S` (R477). -/
def bodyExchS (o1 o2 : OD) : Body :=
  exchange .s o1 o2
/-- `EXCH.S` executed at the PC. -/
def execExchS (o1 o2 : OD) (s : State) : Res :=
  runInstr (.xop 201 o1 o2) (bodyExchS o1 o2) s

/-- `EXCH.D` (R477). -/
def bodyExchD (o1 o2 : OD) : Body :=
  exchange .d o1 o2
/-- `EXCH.D` executed at the PC. -/
def execExchD (o1 o2 : OD) (s : State) : Res :=
  runInstr (.xop 202 o1 o2) (bodyExchD o1 o2) s

/-! ### `SLR` (R479): OP1 <- R[n]; R[n] <- OP2 -/

/-- `SLR.0` (R479). -/
def bodySlr0 (o1 o2 : OD) : Body :=
  saveLoadReg 0 o1 o2
/-- `SLR.0` executed at the PC. -/
def execSlr0 (o1 o2 : OD) (s : State) : Res :=
  runInstr (.xop 203 o1 o2) (bodySlr0 o1 o2) s

/-- `SLR.1` (R479). -/
def bodySlr1 (o1 o2 : OD) : Body :=
  saveLoadReg 1 o1 o2
/-- `SLR.1` executed at the PC. -/
def execSlr1 (o1 o2 : OD) (s : State) : Res :=
  runInstr (.xop 204 o1 o2) (bodySlr1 o1 o2) s

/-- `SLR.2` (R479). -/
def bodySlr2 (o1 o2 : OD) : Body :=
  saveLoadReg 2 o1 o2
/-- `SLR.2` executed at the PC. -/
def execSlr2 (o1 o2 : OD) (s : State) : Res :=
  runInstr (.xop 205 o1 o2) (bodySlr2 o1 o2) s

/-- `SLR.3` (R479). -/
def bodySlr3 (o1 o2 : OD) : Body :=
  saveLoadReg 3 o1 o2
/-- `SLR.3` executed at the PC. -/
def execSlr3 (o1 o2 : OD) (s : State) : Res :=
  runInstr (.xop 206 o1 o2) (bodySlr3 o1 o2) s

/-- `SLR.4` (R479). -/
def bodySlr4 (o1 o2 : OD) : Body :=
  saveLoadReg 4 o1 o2
/-- `SLR.4` executed at the PC. -/
def execSlr4 (o1 o2 : OD) (s : State) : Res :=
  runInstr (.xop 207 o1 o2) (bodySlr4 o1 o2) s

/-- `SLR.5` (R479). -/
def bodySlr5 (o1 o2 : OD) : Body :=
  saveLoadReg 5 o1 o2
/-- `SLR.5` executed at the PC. -/
def execSlr5 (o1 o2 : OD) (s : State) : Res :=
  runInstr (.xop 208 o1 o2) (bodySlr5 o1 o2) s

/-- `SLR.6` (R479). -/
def bodySlr6 (o1 o2 : OD) : Body :=
  saveLoadReg 6 o1 o2
/-- `SLR.6` executed at the PC. -/
def execSlr6 (o1 o2 : OD) (s : State) : Res :=
  runInstr (.xop 209 o1 o2) (bodySlr6 o1 o2) s

/-- `SLR.7` (R479). -/
def bodySlr7 (o1 o2 : OD) : Body :=
  saveLoadReg 7 o1 o2
/-- `SLR.7` executed at the PC. -/
def execSlr7 (o1 o2 : OD) (s : State) : Res :=
  runInstr (.xop 210 o1 o2) (bodySlr7 o1 o2) s

/-- `SLR.8` (R479). -/
def bodySlr8 (o1 o2 : OD) : Body :=
  saveLoadReg 8 o1 o2
/-- `SLR.8` executed at the PC. -/
def execSlr8 (o1 o2 : OD) (s : State) : Res :=
  runInstr (.xop 211 o1 o2) (bodySlr8 o1 o2) s

/-- `SLR.9` (R479). -/
def bodySlr9 (o1 o2 : OD) : Body :=
  saveLoadReg 9 o1 o2
/-- `SLR.9` executed at the PC. -/
def execSlr9 (o1 o2 : OD) (s : State) : Res :=
  runInstr (.xop 212 o1 o2) (bodySlr9 o1 o2) s

/-- `SLR.10` (R479). -/
def bodySlr10 (o1 o2 : OD) : Body :=
  saveLoadReg 10 o1 o2
/-- `SLR.10` executed at the PC. -/
def execSlr10 (o1 o2 : OD) (s : State) : Res :=
  runInstr (.xop 213 o1 o2) (bodySlr10 o1 o2) s

/-- `SLR.11` (R479). -/
def bodySlr11 (o1 o2 : OD) : Body :=
  saveLoadReg 11 o1 o2
/-- `SLR.11` executed at the PC. -/
def execSlr11 (o1 o2 : OD) (s : State) : Res :=
  runInstr (.xop 214 o1 o2) (bodySlr11 o1 o2) s

/-- `SLR.12` (R479). -/
def bodySlr12 (o1 o2 : OD) : Body :=
  saveLoadReg 12 o1 o2
/-- `SLR.12` executed at the PC. -/
def execSlr12 (o1 o2 : OD) (s : State) : Res :=
  runInstr (.xop 215 o1 o2) (bodySlr12 o1 o2) s

/-- `SLR.13` (R479). -/
def bodySlr13 (o1 o2 : OD) : Body :=
  saveLoadReg 13 o1 o2
/-- `SLR.13` executed at the PC. -/
def execSlr13 (o1 o2 : OD) (s : State) : Res :=
  runInstr (.xop 216 o1 o2) (bodySlr13 o1 o2) s

/-- `SLR.14` (R479). -/
def bodySlr14 (o1 o2 : OD) : Body :=
  saveLoadReg 14 o1 o2
/-- `SLR.14` executed at the PC. -/
def execSlr14 (o1 o2 : OD) (s : State) : Res :=
  runInstr (.xop 217 o1 o2) (bodySlr14 o1 o2) s

/-- `SLR.15` (R479). -/
def bodySlr15 (o1 o2 : OD) : Body :=
  saveLoadReg 15 o1 o2
/-- `SLR.15` executed at the PC. -/
def execSlr15 (o1 o2 : OD) (s : State) : Res :=
  runInstr (.xop 218 o1 o2) (bodySlr15 o1 o2) s

/-- `SLR.16` (R479). -/
def bodySlr16 (o1 o2 : OD) : Body :=
  saveLoadReg 16 o1 o2
/-- `SLR.16` executed at the PC. -/
def execSlr16 (o1 o2 : OD) (s : State) : Res :=
  runInstr (.xop 219 o1 o2) (bodySlr16 o1 o2) s

/-- `SLR.17` (R479). -/
def bodySlr17 (o1 o2 : OD) : Body :=
  saveLoadReg 17 o1 o2
/-- `SLR.17` executed at the PC. -/
def execSlr17 (o1 o2 : OD) (s : State) : Res :=
  runInstr (.xop 220 o1 o2) (bodySlr17 o1 o2) s

/-- `SLR.18` (R479). -/
def bodySlr18 (o1 o2 : OD) : Body :=
  saveLoadReg 18 o1 o2
/-- `SLR.18` executed at the PC. -/
def execSlr18 (o1 o2 : OD) (s : State) : Res :=
  runInstr (.xop 221 o1 o2) (bodySlr18 o1 o2) s

/-- `SLR.19` (R479). -/
def bodySlr19 (o1 o2 : OD) : Body :=
  saveLoadReg 19 o1 o2
/-- `SLR.19` executed at the PC. -/
def execSlr19 (o1 o2 : OD) (s : State) : Res :=
  runInstr (.xop 222 o1 o2) (bodySlr19 o1 o2) s

/-- `SLR.20` (R479). -/
def bodySlr20 (o1 o2 : OD) : Body :=
  saveLoadReg 20 o1 o2
/-- `SLR.20` executed at the PC. -/
def execSlr20 (o1 o2 : OD) (s : State) : Res :=
  runInstr (.xop 223 o1 o2) (bodySlr20 o1 o2) s

/-- `SLR.21` (R479). -/
def bodySlr21 (o1 o2 : OD) : Body :=
  saveLoadReg 21 o1 o2
/-- `SLR.21` executed at the PC. -/
def execSlr21 (o1 o2 : OD) (s : State) : Res :=
  runInstr (.xop 224 o1 o2) (bodySlr21 o1 o2) s

/-- `SLR.22` (R479). -/
def bodySlr22 (o1 o2 : OD) : Body :=
  saveLoadReg 22 o1 o2
/-- `SLR.22` executed at the PC. -/
def execSlr22 (o1 o2 : OD) (s : State) : Res :=
  runInstr (.xop 225 o1 o2) (bodySlr22 o1 o2) s

/-- `SLR.23` (R479). -/
def bodySlr23 (o1 o2 : OD) : Body :=
  saveLoadReg 23 o1 o2
/-- `SLR.23` executed at the PC. -/
def execSlr23 (o1 o2 : OD) (s : State) : Res :=
  runInstr (.xop 226 o1 o2) (bodySlr23 o1 o2) s

/-- `SLR.24` (R479). -/
def bodySlr24 (o1 o2 : OD) : Body :=
  saveLoadReg 24 o1 o2
/-- `SLR.24` executed at the PC. -/
def execSlr24 (o1 o2 : OD) (s : State) : Res :=
  runInstr (.xop 227 o1 o2) (bodySlr24 o1 o2) s

/-- `SLR.25` (R479). -/
def bodySlr25 (o1 o2 : OD) : Body :=
  saveLoadReg 25 o1 o2
/-- `SLR.25` executed at the PC. -/
def execSlr25 (o1 o2 : OD) (s : State) : Res :=
  runInstr (.xop 228 o1 o2) (bodySlr25 o1 o2) s

/-- `SLR.26` (R479). -/
def bodySlr26 (o1 o2 : OD) : Body :=
  saveLoadReg 26 o1 o2
/-- `SLR.26` executed at the PC. -/
def execSlr26 (o1 o2 : OD) (s : State) : Res :=
  runInstr (.xop 229 o1 o2) (bodySlr26 o1 o2) s

/-- `SLR.27` (R479). -/
def bodySlr27 (o1 o2 : OD) : Body :=
  saveLoadReg 27 o1 o2
/-- `SLR.27` executed at the PC. -/
def execSlr27 (o1 o2 : OD) (s : State) : Res :=
  runInstr (.xop 230 o1 o2) (bodySlr27 o1 o2) s

/-- `SLR.28` (R479). -/
def bodySlr28 (o1 o2 : OD) : Body :=
  saveLoadReg 28 o1 o2
/-- `SLR.28` executed at the PC. -/
def execSlr28 (o1 o2 : OD) (s : State) : Res :=
  runInstr (.xop 231 o1 o2) (bodySlr28 o1 o2) s

/-- `SLR.29` (R479). -/
def bodySlr29 (o1 o2 : OD) : Body :=
  saveLoadReg 29 o1 o2
/-- `SLR.29` executed at the PC. -/
def execSlr29 (o1 o2 : OD) (s : State) : Res :=
  runInstr (.xop 232 o1 o2) (bodySlr29 o1 o2) s

/-- `SLR.30` (R479). -/
def bodySlr30 (o1 o2 : OD) : Body :=
  saveLoadReg 30 o1 o2
/-- `SLR.30` executed at the PC. -/
def execSlr30 (o1 o2 : OD) (s : State) : Res :=
  runInstr (.xop 233 o1 o2) (bodySlr30 o1 o2) s

/-- `SLR.31` (R479). -/
def bodySlr31 (o1 o2 : OD) : Body :=
  saveLoadReg 31 o1 o2
/-- `SLR.31` executed at the PC. -/
def execSlr31 (o1 o2 : OD) (s : State) : Res :=
  runInstr (.xop 234 o1 o2) (bodySlr31 o1 o2) s

/-! ### `SLRADR` (R480): OP1 <- R[n]; R[n] <- ADDRESS(OP2) -/

/-- `SLRADR.0` (R480). -/
def bodySlradr0 (o1 o2 : OD) : Body :=
  saveLoadRegAddr 0 o1 o2
/-- `SLRADR.0` executed at the PC. -/
def execSlradr0 (o1 o2 : OD) (s : State) : Res :=
  runInstr (.xop 235 o1 o2) (bodySlradr0 o1 o2) s

/-- `SLRADR.1` (R480). -/
def bodySlradr1 (o1 o2 : OD) : Body :=
  saveLoadRegAddr 1 o1 o2
/-- `SLRADR.1` executed at the PC. -/
def execSlradr1 (o1 o2 : OD) (s : State) : Res :=
  runInstr (.xop 236 o1 o2) (bodySlradr1 o1 o2) s

/-- `SLRADR.2` (R480). -/
def bodySlradr2 (o1 o2 : OD) : Body :=
  saveLoadRegAddr 2 o1 o2
/-- `SLRADR.2` executed at the PC. -/
def execSlradr2 (o1 o2 : OD) (s : State) : Res :=
  runInstr (.xop 237 o1 o2) (bodySlradr2 o1 o2) s

/-- `SLRADR.3` (R480). -/
def bodySlradr3 (o1 o2 : OD) : Body :=
  saveLoadRegAddr 3 o1 o2
/-- `SLRADR.3` executed at the PC. -/
def execSlradr3 (o1 o2 : OD) (s : State) : Res :=
  runInstr (.xop 238 o1 o2) (bodySlradr3 o1 o2) s

/-- `SLRADR.4` (R480). -/
def bodySlradr4 (o1 o2 : OD) : Body :=
  saveLoadRegAddr 4 o1 o2
/-- `SLRADR.4` executed at the PC. -/
def execSlradr4 (o1 o2 : OD) (s : State) : Res :=
  runInstr (.xop 239 o1 o2) (bodySlradr4 o1 o2) s

/-- `SLRADR.5` (R480). -/
def bodySlradr5 (o1 o2 : OD) : Body :=
  saveLoadRegAddr 5 o1 o2
/-- `SLRADR.5` executed at the PC. -/
def execSlradr5 (o1 o2 : OD) (s : State) : Res :=
  runInstr (.xop 240 o1 o2) (bodySlradr5 o1 o2) s

/-- `SLRADR.6` (R480). -/
def bodySlradr6 (o1 o2 : OD) : Body :=
  saveLoadRegAddr 6 o1 o2
/-- `SLRADR.6` executed at the PC. -/
def execSlradr6 (o1 o2 : OD) (s : State) : Res :=
  runInstr (.xop 241 o1 o2) (bodySlradr6 o1 o2) s

/-- `SLRADR.7` (R480). -/
def bodySlradr7 (o1 o2 : OD) : Body :=
  saveLoadRegAddr 7 o1 o2
/-- `SLRADR.7` executed at the PC. -/
def execSlradr7 (o1 o2 : OD) (s : State) : Res :=
  runInstr (.xop 242 o1 o2) (bodySlradr7 o1 o2) s

/-- `SLRADR.8` (R480). -/
def bodySlradr8 (o1 o2 : OD) : Body :=
  saveLoadRegAddr 8 o1 o2
/-- `SLRADR.8` executed at the PC. -/
def execSlradr8 (o1 o2 : OD) (s : State) : Res :=
  runInstr (.xop 243 o1 o2) (bodySlradr8 o1 o2) s

/-- `SLRADR.9` (R480). -/
def bodySlradr9 (o1 o2 : OD) : Body :=
  saveLoadRegAddr 9 o1 o2
/-- `SLRADR.9` executed at the PC. -/
def execSlradr9 (o1 o2 : OD) (s : State) : Res :=
  runInstr (.xop 244 o1 o2) (bodySlradr9 o1 o2) s

/-- `SLRADR.10` (R480). -/
def bodySlradr10 (o1 o2 : OD) : Body :=
  saveLoadRegAddr 10 o1 o2
/-- `SLRADR.10` executed at the PC. -/
def execSlradr10 (o1 o2 : OD) (s : State) : Res :=
  runInstr (.xop 245 o1 o2) (bodySlradr10 o1 o2) s

/-- `SLRADR.11` (R480). -/
def bodySlradr11 (o1 o2 : OD) : Body :=
  saveLoadRegAddr 11 o1 o2
/-- `SLRADR.11` executed at the PC. -/
def execSlradr11 (o1 o2 : OD) (s : State) : Res :=
  runInstr (.xop 246 o1 o2) (bodySlradr11 o1 o2) s

/-- `SLRADR.12` (R480). -/
def bodySlradr12 (o1 o2 : OD) : Body :=
  saveLoadRegAddr 12 o1 o2
/-- `SLRADR.12` executed at the PC. -/
def execSlradr12 (o1 o2 : OD) (s : State) : Res :=
  runInstr (.xop 247 o1 o2) (bodySlradr12 o1 o2) s

/-- `SLRADR.13` (R480). -/
def bodySlradr13 (o1 o2 : OD) : Body :=
  saveLoadRegAddr 13 o1 o2
/-- `SLRADR.13` executed at the PC. -/
def execSlradr13 (o1 o2 : OD) (s : State) : Res :=
  runInstr (.xop 248 o1 o2) (bodySlradr13 o1 o2) s

/-- `SLRADR.14` (R480). -/
def bodySlradr14 (o1 o2 : OD) : Body :=
  saveLoadRegAddr 14 o1 o2
/-- `SLRADR.14` executed at the PC. -/
def execSlradr14 (o1 o2 : OD) (s : State) : Res :=
  runInstr (.xop 249 o1 o2) (bodySlradr14 o1 o2) s

/-- `SLRADR.15` (R480). -/
def bodySlradr15 (o1 o2 : OD) : Body :=
  saveLoadRegAddr 15 o1 o2
/-- `SLRADR.15` executed at the PC. -/
def execSlradr15 (o1 o2 : OD) (s : State) : Res :=
  runInstr (.xop 250 o1 o2) (bodySlradr15 o1 o2) s

/-- `SLRADR.16` (R480). -/
def bodySlradr16 (o1 o2 : OD) : Body :=
  saveLoadRegAddr 16 o1 o2
/-- `SLRADR.16` executed at the PC. -/
def execSlradr16 (o1 o2 : OD) (s : State) : Res :=
  runInstr (.xop 251 o1 o2) (bodySlradr16 o1 o2) s

/-- `SLRADR.17` (R480). -/
def bodySlradr17 (o1 o2 : OD) : Body :=
  saveLoadRegAddr 17 o1 o2
/-- `SLRADR.17` executed at the PC. -/
def execSlradr17 (o1 o2 : OD) (s : State) : Res :=
  runInstr (.xop 252 o1 o2) (bodySlradr17 o1 o2) s

/-- `SLRADR.18` (R480). -/
def bodySlradr18 (o1 o2 : OD) : Body :=
  saveLoadRegAddr 18 o1 o2
/-- `SLRADR.18` executed at the PC. -/
def execSlradr18 (o1 o2 : OD) (s : State) : Res :=
  runInstr (.xop 253 o1 o2) (bodySlradr18 o1 o2) s

/-- `SLRADR.19` (R480). -/
def bodySlradr19 (o1 o2 : OD) : Body :=
  saveLoadRegAddr 19 o1 o2
/-- `SLRADR.19` executed at the PC. -/
def execSlradr19 (o1 o2 : OD) (s : State) : Res :=
  runInstr (.xop 254 o1 o2) (bodySlradr19 o1 o2) s

/-- `SLRADR.20` (R480). -/
def bodySlradr20 (o1 o2 : OD) : Body :=
  saveLoadRegAddr 20 o1 o2
/-- `SLRADR.20` executed at the PC. -/
def execSlradr20 (o1 o2 : OD) (s : State) : Res :=
  runInstr (.xop 255 o1 o2) (bodySlradr20 o1 o2) s

/-- `SLRADR.21` (R480). -/
def bodySlradr21 (o1 o2 : OD) : Body :=
  saveLoadRegAddr 21 o1 o2
/-- `SLRADR.21` executed at the PC. -/
def execSlradr21 (o1 o2 : OD) (s : State) : Res :=
  runInstr (.xop 256 o1 o2) (bodySlradr21 o1 o2) s

/-- `SLRADR.22` (R480). -/
def bodySlradr22 (o1 o2 : OD) : Body :=
  saveLoadRegAddr 22 o1 o2
/-- `SLRADR.22` executed at the PC. -/
def execSlradr22 (o1 o2 : OD) (s : State) : Res :=
  runInstr (.xop 257 o1 o2) (bodySlradr22 o1 o2) s

/-- `SLRADR.23` (R480). -/
def bodySlradr23 (o1 o2 : OD) : Body :=
  saveLoadRegAddr 23 o1 o2
/-- `SLRADR.23` executed at the PC. -/
def execSlradr23 (o1 o2 : OD) (s : State) : Res :=
  runInstr (.xop 258 o1 o2) (bodySlradr23 o1 o2) s

/-- `SLRADR.24` (R480). -/
def bodySlradr24 (o1 o2 : OD) : Body :=
  saveLoadRegAddr 24 o1 o2
/-- `SLRADR.24` executed at the PC. -/
def execSlradr24 (o1 o2 : OD) (s : State) : Res :=
  runInstr (.xop 259 o1 o2) (bodySlradr24 o1 o2) s

/-- `SLRADR.25` (R480). -/
def bodySlradr25 (o1 o2 : OD) : Body :=
  saveLoadRegAddr 25 o1 o2
/-- `SLRADR.25` executed at the PC. -/
def execSlradr25 (o1 o2 : OD) (s : State) : Res :=
  runInstr (.xop 260 o1 o2) (bodySlradr25 o1 o2) s

/-- `SLRADR.26` (R480). -/
def bodySlradr26 (o1 o2 : OD) : Body :=
  saveLoadRegAddr 26 o1 o2
/-- `SLRADR.26` executed at the PC. -/
def execSlradr26 (o1 o2 : OD) (s : State) : Res :=
  runInstr (.xop 261 o1 o2) (bodySlradr26 o1 o2) s

/-- `SLRADR.27` (R480). -/
def bodySlradr27 (o1 o2 : OD) : Body :=
  saveLoadRegAddr 27 o1 o2
/-- `SLRADR.27` executed at the PC. -/
def execSlradr27 (o1 o2 : OD) (s : State) : Res :=
  runInstr (.xop 262 o1 o2) (bodySlradr27 o1 o2) s

/-- `SLRADR.28` (R480). -/
def bodySlradr28 (o1 o2 : OD) : Body :=
  saveLoadRegAddr 28 o1 o2
/-- `SLRADR.28` executed at the PC. -/
def execSlradr28 (o1 o2 : OD) (s : State) : Res :=
  runInstr (.xop 263 o1 o2) (bodySlradr28 o1 o2) s

/-- `SLRADR.29` (R480). -/
def bodySlradr29 (o1 o2 : OD) : Body :=
  saveLoadRegAddr 29 o1 o2
/-- `SLRADR.29` executed at the PC. -/
def execSlradr29 (o1 o2 : OD) (s : State) : Res :=
  runInstr (.xop 264 o1 o2) (bodySlradr29 o1 o2) s

/-- `SLRADR.30` (R480). -/
def bodySlradr30 (o1 o2 : OD) : Body :=
  saveLoadRegAddr 30 o1 o2
/-- `SLRADR.30` executed at the PC. -/
def execSlradr30 (o1 o2 : OD) (s : State) : Res :=
  runInstr (.xop 265 o1 o2) (bodySlradr30 o1 o2) s

/-- `SLRADR.31` (R480). -/
def bodySlradr31 (o1 o2 : OD) : Body :=
  saveLoadRegAddr 31 o1 o2
/-- `SLRADR.31` executed at the PC. -/
def execSlradr31 (o1 o2 : OD) (s : State) : Res :=
  runInstr (.xop 266 o1 o2) (bodySlradr31 o1 o2) s

/-! ### `MOVADR` (R484): OP1 <- ADDRESS(OP2) -/

/-- `MOVADR` (R484). -/
def bodyMovadr (o1 o2 : OD) : Body :=
  moveAddr o1 o2
/-- `MOVADR` executed at the PC. -/
def execMovadr (o1 o2 : OD) (s : State) : Res :=
  runInstr (.xop 267 o1 o2) (bodyMovadr o1 o2) s

/-! ### `MOVPHY` (R486): OP1 <- the physical address of OP2 -/

/-- `MOVPHY` (R486). -/
def bodyMovphy (o1 o2 : OD) : Body :=
  movePhys o1 o2
/-- `MOVPHY` executed at the PC. -/
def execMovphy (o1 o2 : OD) (s : State) : Res :=
  runInstr (.xop 268 o1 o2) (bodyMovphy o1 o2) s

/-! ### `CMPSF` (R492): DEST <- the flag of S1 ACOND S2 -/

/-- `CMPSF.GTR.Q` (R492). -/
def bodyCmpsfGtrQ (t : TMode) (o1 o2 : OD) : Body :=
  top3 .s .q .q (pureAlu (compareFlag .gtr)) t o1 o2
/-- `CMPSF.GTR.Q` executed at the PC. -/
def execCmpsfGtrQ (t : TMode) (o1 o2 : OD) (s : State) : Res :=
  runInstr (.top 159 t o1 o2) (bodyCmpsfGtrQ t o1 o2) s

/-- `CMPSF.GTR.H` (R492). -/
def bodyCmpsfGtrH (t : TMode) (o1 o2 : OD) : Body :=
  top3 .s .h .h (pureAlu (compareFlag .gtr)) t o1 o2
/-- `CMPSF.GTR.H` executed at the PC. -/
def execCmpsfGtrH (t : TMode) (o1 o2 : OD) (s : State) : Res :=
  runInstr (.top 160 t o1 o2) (bodyCmpsfGtrH t o1 o2) s

/-- `CMPSF.GTR.S` (R492). -/
def bodyCmpsfGtrS (t : TMode) (o1 o2 : OD) : Body :=
  top3 .s .s .s (pureAlu (compareFlag .gtr)) t o1 o2
/-- `CMPSF.GTR.S` executed at the PC. -/
def execCmpsfGtrS (t : TMode) (o1 o2 : OD) (s : State) : Res :=
  runInstr (.top 161 t o1 o2) (bodyCmpsfGtrS t o1 o2) s

/-- `CMPSF.GTR.D` (R492). -/
def bodyCmpsfGtrD (t : TMode) (o1 o2 : OD) : Body :=
  top3 .s .d .d (pureAlu (compareFlag .gtr)) t o1 o2
/-- `CMPSF.GTR.D` executed at the PC. -/
def execCmpsfGtrD (t : TMode) (o1 o2 : OD) (s : State) : Res :=
  runInstr (.top 162 t o1 o2) (bodyCmpsfGtrD t o1 o2) s

/-- `CMPSF.EQL.Q` (R492). -/
def bodyCmpsfEqlQ (t : TMode) (o1 o2 : OD) : Body :=
  top3 .s .q .q (pureAlu (compareFlag .eql)) t o1 o2
/-- `CMPSF.EQL.Q` executed at the PC. -/
def execCmpsfEqlQ (t : TMode) (o1 o2 : OD) (s : State) : Res :=
  runInstr (.top 163 t o1 o2) (bodyCmpsfEqlQ t o1 o2) s

/-- `CMPSF.EQL.H` (R492). -/
def bodyCmpsfEqlH (t : TMode) (o1 o2 : OD) : Body :=
  top3 .s .h .h (pureAlu (compareFlag .eql)) t o1 o2
/-- `CMPSF.EQL.H` executed at the PC. -/
def execCmpsfEqlH (t : TMode) (o1 o2 : OD) (s : State) : Res :=
  runInstr (.top 164 t o1 o2) (bodyCmpsfEqlH t o1 o2) s

/-- `CMPSF.EQL.S` (R492). -/
def bodyCmpsfEqlS (t : TMode) (o1 o2 : OD) : Body :=
  top3 .s .s .s (pureAlu (compareFlag .eql)) t o1 o2
/-- `CMPSF.EQL.S` executed at the PC. -/
def execCmpsfEqlS (t : TMode) (o1 o2 : OD) (s : State) : Res :=
  runInstr (.top 165 t o1 o2) (bodyCmpsfEqlS t o1 o2) s

/-- `CMPSF.EQL.D` (R492). -/
def bodyCmpsfEqlD (t : TMode) (o1 o2 : OD) : Body :=
  top3 .s .d .d (pureAlu (compareFlag .eql)) t o1 o2
/-- `CMPSF.EQL.D` executed at the PC. -/
def execCmpsfEqlD (t : TMode) (o1 o2 : OD) (s : State) : Res :=
  runInstr (.top 166 t o1 o2) (bodyCmpsfEqlD t o1 o2) s

/-- `CMPSF.GEQ.Q` (R492). -/
def bodyCmpsfGeqQ (t : TMode) (o1 o2 : OD) : Body :=
  top3 .s .q .q (pureAlu (compareFlag .geq)) t o1 o2
/-- `CMPSF.GEQ.Q` executed at the PC. -/
def execCmpsfGeqQ (t : TMode) (o1 o2 : OD) (s : State) : Res :=
  runInstr (.top 167 t o1 o2) (bodyCmpsfGeqQ t o1 o2) s

/-- `CMPSF.GEQ.H` (R492). -/
def bodyCmpsfGeqH (t : TMode) (o1 o2 : OD) : Body :=
  top3 .s .h .h (pureAlu (compareFlag .geq)) t o1 o2
/-- `CMPSF.GEQ.H` executed at the PC. -/
def execCmpsfGeqH (t : TMode) (o1 o2 : OD) (s : State) : Res :=
  runInstr (.top 168 t o1 o2) (bodyCmpsfGeqH t o1 o2) s

/-- `CMPSF.GEQ.S` (R492). -/
def bodyCmpsfGeqS (t : TMode) (o1 o2 : OD) : Body :=
  top3 .s .s .s (pureAlu (compareFlag .geq)) t o1 o2
/-- `CMPSF.GEQ.S` executed at the PC. -/
def execCmpsfGeqS (t : TMode) (o1 o2 : OD) (s : State) : Res :=
  runInstr (.top 169 t o1 o2) (bodyCmpsfGeqS t o1 o2) s

/-- `CMPSF.GEQ.D` (R492). -/
def bodyCmpsfGeqD (t : TMode) (o1 o2 : OD) : Body :=
  top3 .s .d .d (pureAlu (compareFlag .geq)) t o1 o2
/-- `CMPSF.GEQ.D` executed at the PC. -/
def execCmpsfGeqD (t : TMode) (o1 o2 : OD) (s : State) : Res :=
  runInstr (.top 170 t o1 o2) (bodyCmpsfGeqD t o1 o2) s

/-- `CMPSF.LSS.Q` (R492). -/
def bodyCmpsfLssQ (t : TMode) (o1 o2 : OD) : Body :=
  top3 .s .q .q (pureAlu (compareFlag .lss)) t o1 o2
/-- `CMPSF.LSS.Q` executed at the PC. -/
def execCmpsfLssQ (t : TMode) (o1 o2 : OD) (s : State) : Res :=
  runInstr (.top 171 t o1 o2) (bodyCmpsfLssQ t o1 o2) s

/-- `CMPSF.LSS.H` (R492). -/
def bodyCmpsfLssH (t : TMode) (o1 o2 : OD) : Body :=
  top3 .s .h .h (pureAlu (compareFlag .lss)) t o1 o2
/-- `CMPSF.LSS.H` executed at the PC. -/
def execCmpsfLssH (t : TMode) (o1 o2 : OD) (s : State) : Res :=
  runInstr (.top 172 t o1 o2) (bodyCmpsfLssH t o1 o2) s

/-- `CMPSF.LSS.S` (R492). -/
def bodyCmpsfLssS (t : TMode) (o1 o2 : OD) : Body :=
  top3 .s .s .s (pureAlu (compareFlag .lss)) t o1 o2
/-- `CMPSF.LSS.S` executed at the PC. -/
def execCmpsfLssS (t : TMode) (o1 o2 : OD) (s : State) : Res :=
  runInstr (.top 173 t o1 o2) (bodyCmpsfLssS t o1 o2) s

/-- `CMPSF.LSS.D` (R492). -/
def bodyCmpsfLssD (t : TMode) (o1 o2 : OD) : Body :=
  top3 .s .d .d (pureAlu (compareFlag .lss)) t o1 o2
/-- `CMPSF.LSS.D` executed at the PC. -/
def execCmpsfLssD (t : TMode) (o1 o2 : OD) (s : State) : Res :=
  runInstr (.top 174 t o1 o2) (bodyCmpsfLssD t o1 o2) s

/-- `CMPSF.NEQ.Q` (R492). -/
def bodyCmpsfNeqQ (t : TMode) (o1 o2 : OD) : Body :=
  top3 .s .q .q (pureAlu (compareFlag .neq)) t o1 o2
/-- `CMPSF.NEQ.Q` executed at the PC. -/
def execCmpsfNeqQ (t : TMode) (o1 o2 : OD) (s : State) : Res :=
  runInstr (.top 175 t o1 o2) (bodyCmpsfNeqQ t o1 o2) s

/-- `CMPSF.NEQ.H` (R492). -/
def bodyCmpsfNeqH (t : TMode) (o1 o2 : OD) : Body :=
  top3 .s .h .h (pureAlu (compareFlag .neq)) t o1 o2
/-- `CMPSF.NEQ.H` executed at the PC. -/
def execCmpsfNeqH (t : TMode) (o1 o2 : OD) (s : State) : Res :=
  runInstr (.top 176 t o1 o2) (bodyCmpsfNeqH t o1 o2) s

/-- `CMPSF.NEQ.S` (R492). -/
def bodyCmpsfNeqS (t : TMode) (o1 o2 : OD) : Body :=
  top3 .s .s .s (pureAlu (compareFlag .neq)) t o1 o2
/-- `CMPSF.NEQ.S` executed at the PC. -/
def execCmpsfNeqS (t : TMode) (o1 o2 : OD) (s : State) : Res :=
  runInstr (.top 177 t o1 o2) (bodyCmpsfNeqS t o1 o2) s

/-- `CMPSF.NEQ.D` (R492). -/
def bodyCmpsfNeqD (t : TMode) (o1 o2 : OD) : Body :=
  top3 .s .d .d (pureAlu (compareFlag .neq)) t o1 o2
/-- `CMPSF.NEQ.D` executed at the PC. -/
def execCmpsfNeqD (t : TMode) (o1 o2 : OD) (s : State) : Res :=
  runInstr (.top 178 t o1 o2) (bodyCmpsfNeqD t o1 o2) s

/-- `CMPSF.LEQ.Q` (R492). -/
def bodyCmpsfLeqQ (t : TMode) (o1 o2 : OD) : Body :=
  top3 .s .q .q (pureAlu (compareFlag .leq)) t o1 o2
/-- `CMPSF.LEQ.Q` executed at the PC. -/
def execCmpsfLeqQ (t : TMode) (o1 o2 : OD) (s : State) : Res :=
  runInstr (.top 179 t o1 o2) (bodyCmpsfLeqQ t o1 o2) s

/-- `CMPSF.LEQ.H` (R492). -/
def bodyCmpsfLeqH (t : TMode) (o1 o2 : OD) : Body :=
  top3 .s .h .h (pureAlu (compareFlag .leq)) t o1 o2
/-- `CMPSF.LEQ.H` executed at the PC. -/
def execCmpsfLeqH (t : TMode) (o1 o2 : OD) (s : State) : Res :=
  runInstr (.top 180 t o1 o2) (bodyCmpsfLeqH t o1 o2) s

/-- `CMPSF.LEQ.S` (R492). -/
def bodyCmpsfLeqS (t : TMode) (o1 o2 : OD) : Body :=
  top3 .s .s .s (pureAlu (compareFlag .leq)) t o1 o2
/-- `CMPSF.LEQ.S` executed at the PC. -/
def execCmpsfLeqS (t : TMode) (o1 o2 : OD) (s : State) : Res :=
  runInstr (.top 181 t o1 o2) (bodyCmpsfLeqS t o1 o2) s

/-- `CMPSF.LEQ.D` (R492). -/
def bodyCmpsfLeqD (t : TMode) (o1 o2 : OD) : Body :=
  top3 .s .d .d (pureAlu (compareFlag .leq)) t o1 o2
/-- `CMPSF.LEQ.D` executed at the PC. -/
def execCmpsfLeqD (t : TMode) (o1 o2 : OD) (s : State) : Res :=
  runInstr (.top 182 t o1 o2) (bodyCmpsfLeqD t o1 o2) s

/-! ### `BNDSF` (R494): DEST <- the flag of the bounds check -/

/-- `BNDSF.B.Q` (R494). -/
def bodyBndsfBQ (t : TMode) (o1 o2 : OD) : Body :=
  bndsfB .q t o1 o2
/-- `BNDSF.B.Q` executed at the PC. -/
def execBndsfBQ (t : TMode) (o1 o2 : OD) (s : State) : Res :=
  runInstr (.top 183 t o1 o2) (bodyBndsfBQ t o1 o2) s

/-- `BNDSF.B.H` (R494). -/
def bodyBndsfBH (t : TMode) (o1 o2 : OD) : Body :=
  bndsfB .h t o1 o2
/-- `BNDSF.B.H` executed at the PC. -/
def execBndsfBH (t : TMode) (o1 o2 : OD) (s : State) : Res :=
  runInstr (.top 184 t o1 o2) (bodyBndsfBH t o1 o2) s

/-- `BNDSF.B.S` (R494). -/
def bodyBndsfBS (t : TMode) (o1 o2 : OD) : Body :=
  bndsfB .s t o1 o2
/-- `BNDSF.B.S` executed at the PC. -/
def execBndsfBS (t : TMode) (o1 o2 : OD) (s : State) : Res :=
  runInstr (.top 185 t o1 o2) (bodyBndsfBS t o1 o2) s

/-- `BNDSF.B.D` (R494). -/
def bodyBndsfBD (t : TMode) (o1 o2 : OD) : Body :=
  bndsfB .d t o1 o2
/-- `BNDSF.B.D` executed at the PC. -/
def execBndsfBD (t : TMode) (o1 o2 : OD) (s : State) : Res :=
  runInstr (.top 186 t o1 o2) (bodyBndsfBD t o1 o2) s

/-- `BNDSF.MIN.Q` (R494). -/
def bodyBndsfMinQ (t : TMode) (o1 o2 : OD) : Body :=
  top3 .s .q .q (pureAlu (boundFlag .min)) t o1 o2
/-- `BNDSF.MIN.Q` executed at the PC. -/
def execBndsfMinQ (t : TMode) (o1 o2 : OD) (s : State) : Res :=
  runInstr (.top 187 t o1 o2) (bodyBndsfMinQ t o1 o2) s

/-- `BNDSF.MIN.H` (R494). -/
def bodyBndsfMinH (t : TMode) (o1 o2 : OD) : Body :=
  top3 .s .h .h (pureAlu (boundFlag .min)) t o1 o2
/-- `BNDSF.MIN.H` executed at the PC. -/
def execBndsfMinH (t : TMode) (o1 o2 : OD) (s : State) : Res :=
  runInstr (.top 188 t o1 o2) (bodyBndsfMinH t o1 o2) s

/-- `BNDSF.MIN.S` (R494). -/
def bodyBndsfMinS (t : TMode) (o1 o2 : OD) : Body :=
  top3 .s .s .s (pureAlu (boundFlag .min)) t o1 o2
/-- `BNDSF.MIN.S` executed at the PC. -/
def execBndsfMinS (t : TMode) (o1 o2 : OD) (s : State) : Res :=
  runInstr (.top 189 t o1 o2) (bodyBndsfMinS t o1 o2) s

/-- `BNDSF.MIN.D` (R494). -/
def bodyBndsfMinD (t : TMode) (o1 o2 : OD) : Body :=
  top3 .s .d .d (pureAlu (boundFlag .min)) t o1 o2
/-- `BNDSF.MIN.D` executed at the PC. -/
def execBndsfMinD (t : TMode) (o1 o2 : OD) (s : State) : Res :=
  runInstr (.top 190 t o1 o2) (bodyBndsfMinD t o1 o2) s

/-- `BNDSF.M1.Q` (R494). -/
def bodyBndsfM1Q (t : TMode) (o1 o2 : OD) : Body :=
  top3 .s .q .q (pureAlu (boundFlag .m1)) t o1 o2
/-- `BNDSF.M1.Q` executed at the PC. -/
def execBndsfM1Q (t : TMode) (o1 o2 : OD) (s : State) : Res :=
  runInstr (.top 191 t o1 o2) (bodyBndsfM1Q t o1 o2) s

/-- `BNDSF.M1.H` (R494). -/
def bodyBndsfM1H (t : TMode) (o1 o2 : OD) : Body :=
  top3 .s .h .h (pureAlu (boundFlag .m1)) t o1 o2
/-- `BNDSF.M1.H` executed at the PC. -/
def execBndsfM1H (t : TMode) (o1 o2 : OD) (s : State) : Res :=
  runInstr (.top 192 t o1 o2) (bodyBndsfM1H t o1 o2) s

/-- `BNDSF.M1.S` (R494). -/
def bodyBndsfM1S (t : TMode) (o1 o2 : OD) : Body :=
  top3 .s .s .s (pureAlu (boundFlag .m1)) t o1 o2
/-- `BNDSF.M1.S` executed at the PC. -/
def execBndsfM1S (t : TMode) (o1 o2 : OD) (s : State) : Res :=
  runInstr (.top 193 t o1 o2) (bodyBndsfM1S t o1 o2) s

/-- `BNDSF.M1.D` (R494). -/
def bodyBndsfM1D (t : TMode) (o1 o2 : OD) : Body :=
  top3 .s .d .d (pureAlu (boundFlag .m1)) t o1 o2
/-- `BNDSF.M1.D` executed at the PC. -/
def execBndsfM1D (t : TMode) (o1 o2 : OD) (s : State) : Res :=
  runInstr (.top 194 t o1 o2) (bodyBndsfM1D t o1 o2) s

/-- `BNDSF.0.Q` (R494). -/
def bodyBndsf0Q (t : TMode) (o1 o2 : OD) : Body :=
  top3 .s .q .q (pureAlu (boundFlag .zero)) t o1 o2
/-- `BNDSF.0.Q` executed at the PC. -/
def execBndsf0Q (t : TMode) (o1 o2 : OD) (s : State) : Res :=
  runInstr (.top 195 t o1 o2) (bodyBndsf0Q t o1 o2) s

/-- `BNDSF.0.H` (R494). -/
def bodyBndsf0H (t : TMode) (o1 o2 : OD) : Body :=
  top3 .s .h .h (pureAlu (boundFlag .zero)) t o1 o2
/-- `BNDSF.0.H` executed at the PC. -/
def execBndsf0H (t : TMode) (o1 o2 : OD) (s : State) : Res :=
  runInstr (.top 196 t o1 o2) (bodyBndsf0H t o1 o2) s

/-- `BNDSF.0.S` (R494). -/
def bodyBndsf0S (t : TMode) (o1 o2 : OD) : Body :=
  top3 .s .s .s (pureAlu (boundFlag .zero)) t o1 o2
/-- `BNDSF.0.S` executed at the PC. -/
def execBndsf0S (t : TMode) (o1 o2 : OD) (s : State) : Res :=
  runInstr (.top 197 t o1 o2) (bodyBndsf0S t o1 o2) s

/-- `BNDSF.0.D` (R494). -/
def bodyBndsf0D (t : TMode) (o1 o2 : OD) : Body :=
  top3 .s .d .d (pureAlu (boundFlag .zero)) t o1 o2
/-- `BNDSF.0.D` executed at the PC. -/
def execBndsf0D (t : TMode) (o1 o2 : OD) (s : State) : Res :=
  runInstr (.top 198 t o1 o2) (bodyBndsf0D t o1 o2) s

/-- `BNDSF.1.Q` (R494). -/
def bodyBndsf1Q (t : TMode) (o1 o2 : OD) : Body :=
  top3 .s .q .q (pureAlu (boundFlag .one)) t o1 o2
/-- `BNDSF.1.Q` executed at the PC. -/
def execBndsf1Q (t : TMode) (o1 o2 : OD) (s : State) : Res :=
  runInstr (.top 199 t o1 o2) (bodyBndsf1Q t o1 o2) s

/-- `BNDSF.1.H` (R494). -/
def bodyBndsf1H (t : TMode) (o1 o2 : OD) : Body :=
  top3 .s .h .h (pureAlu (boundFlag .one)) t o1 o2
/-- `BNDSF.1.H` executed at the PC. -/
def execBndsf1H (t : TMode) (o1 o2 : OD) (s : State) : Res :=
  runInstr (.top 200 t o1 o2) (bodyBndsf1H t o1 o2) s

/-- `BNDSF.1.S` (R494). -/
def bodyBndsf1S (t : TMode) (o1 o2 : OD) : Body :=
  top3 .s .s .s (pureAlu (boundFlag .one)) t o1 o2
/-- `BNDSF.1.S` executed at the PC. -/
def execBndsf1S (t : TMode) (o1 o2 : OD) (s : State) : Res :=
  runInstr (.top 201 t o1 o2) (bodyBndsf1S t o1 o2) s

/-- `BNDSF.1.D` (R494). -/
def bodyBndsf1D (t : TMode) (o1 o2 : OD) : Body :=
  top3 .s .d .d (pureAlu (boundFlag .one)) t o1 o2
/-- `BNDSF.1.D` executed at the PC. -/
def execBndsf1D (t : TMode) (o1 o2 : OD) (s : State) : Res :=
  runInstr (.top 202 t o1 o2) (bodyBndsf1D t o1 o2) s

/-! ### `NOT` (R502): OP1 <- not OP2 -/

/-- `NOT.Q` (R502). -/
def bodyNotQ (o1 o2 : OD) : Body :=
  xop2 .q .q (pureAlu1 fun y => ~~~y) o1 o2
/-- `NOT.Q` executed at the PC. -/
def execNotQ (o1 o2 : OD) (s : State) : Res :=
  runInstr (.xop 269 o1 o2) (bodyNotQ o1 o2) s

/-- `NOT.H` (R502). -/
def bodyNotH (o1 o2 : OD) : Body :=
  xop2 .h .h (pureAlu1 fun y => ~~~y) o1 o2
/-- `NOT.H` executed at the PC. -/
def execNotH (o1 o2 : OD) (s : State) : Res :=
  runInstr (.xop 270 o1 o2) (bodyNotH o1 o2) s

/-- `NOT.S` (R502). -/
def bodyNotS (o1 o2 : OD) : Body :=
  xop2 .s .s (pureAlu1 fun y => ~~~y) o1 o2
/-- `NOT.S` executed at the PC. -/
def execNotS (o1 o2 : OD) (s : State) : Res :=
  runInstr (.xop 271 o1 o2) (bodyNotS o1 o2) s

/-- `NOT.D` (R502). -/
def bodyNotD (o1 o2 : OD) : Body :=
  xop2 .d .d (pureAlu1 fun y => ~~~y) o1 o2
/-- `NOT.D` executed at the PC. -/
def execNotD (o1 o2 : OD) (s : State) : Res :=
  runInstr (.xop 272 o1 o2) (bodyNotD o1 o2) s

/-! ### `AND` (R504): DEST <- the boolean function of S1 and S2 -/

/-- `AND.Q` (R504). -/
def bodyAndQ (t : TMode) (o1 o2 : OD) : Body :=
  top3 .q .q .q (pureAlu fun x y => x &&& y) t o1 o2
/-- `AND.Q` executed at the PC. -/
def execAndQ (t : TMode) (o1 o2 : OD) (s : State) : Res :=
  runInstr (.top 203 t o1 o2) (bodyAndQ t o1 o2) s

/-- `AND.H` (R504). -/
def bodyAndH (t : TMode) (o1 o2 : OD) : Body :=
  top3 .h .h .h (pureAlu fun x y => x &&& y) t o1 o2
/-- `AND.H` executed at the PC. -/
def execAndH (t : TMode) (o1 o2 : OD) (s : State) : Res :=
  runInstr (.top 204 t o1 o2) (bodyAndH t o1 o2) s

/-- `AND.S` (R504). -/
def bodyAndS (t : TMode) (o1 o2 : OD) : Body :=
  top3 .s .s .s (pureAlu fun x y => x &&& y) t o1 o2
/-- `AND.S` executed at the PC. -/
def execAndS (t : TMode) (o1 o2 : OD) (s : State) : Res :=
  runInstr (.top 205 t o1 o2) (bodyAndS t o1 o2) s

/-- `AND.D` (R504). -/
def bodyAndD (t : TMode) (o1 o2 : OD) : Body :=
  top3 .d .d .d (pureAlu fun x y => x &&& y) t o1 o2
/-- `AND.D` executed at the PC. -/
def execAndD (t : TMode) (o1 o2 : OD) (s : State) : Res :=
  runInstr (.top 206 t o1 o2) (bodyAndD t o1 o2) s

/-! ### `ANDTC` (R505): DEST <- the boolean function of S1 and S2 -/

/-- `ANDTC.Q` (R505). -/
def bodyAndtcQ (t : TMode) (o1 o2 : OD) : Body :=
  top3 .q .q .q (pureAlu fun x y => x &&& ~~~y) t o1 o2
/-- `ANDTC.Q` executed at the PC. -/
def execAndtcQ (t : TMode) (o1 o2 : OD) (s : State) : Res :=
  runInstr (.top 207 t o1 o2) (bodyAndtcQ t o1 o2) s

/-- `ANDTC.H` (R505). -/
def bodyAndtcH (t : TMode) (o1 o2 : OD) : Body :=
  top3 .h .h .h (pureAlu fun x y => x &&& ~~~y) t o1 o2
/-- `ANDTC.H` executed at the PC. -/
def execAndtcH (t : TMode) (o1 o2 : OD) (s : State) : Res :=
  runInstr (.top 208 t o1 o2) (bodyAndtcH t o1 o2) s

/-- `ANDTC.S` (R505). -/
def bodyAndtcS (t : TMode) (o1 o2 : OD) : Body :=
  top3 .s .s .s (pureAlu fun x y => x &&& ~~~y) t o1 o2
/-- `ANDTC.S` executed at the PC. -/
def execAndtcS (t : TMode) (o1 o2 : OD) (s : State) : Res :=
  runInstr (.top 209 t o1 o2) (bodyAndtcS t o1 o2) s

/-- `ANDTC.D` (R505). -/
def bodyAndtcD (t : TMode) (o1 o2 : OD) : Body :=
  top3 .d .d .d (pureAlu fun x y => x &&& ~~~y) t o1 o2
/-- `ANDTC.D` executed at the PC. -/
def execAndtcD (t : TMode) (o1 o2 : OD) (s : State) : Res :=
  runInstr (.top 210 t o1 o2) (bodyAndtcD t o1 o2) s

/-! ### `ANDCT` (R506): DEST <- the boolean function of S1 and S2 -/

/-- `ANDCT.Q` (R506). -/
def bodyAndctQ (t : TMode) (o1 o2 : OD) : Body :=
  top3 .q .q .q (pureAlu fun x y => ~~~x &&& y) t o1 o2
/-- `ANDCT.Q` executed at the PC. -/
def execAndctQ (t : TMode) (o1 o2 : OD) (s : State) : Res :=
  runInstr (.top 211 t o1 o2) (bodyAndctQ t o1 o2) s

/-- `ANDCT.H` (R506). -/
def bodyAndctH (t : TMode) (o1 o2 : OD) : Body :=
  top3 .h .h .h (pureAlu fun x y => ~~~x &&& y) t o1 o2
/-- `ANDCT.H` executed at the PC. -/
def execAndctH (t : TMode) (o1 o2 : OD) (s : State) : Res :=
  runInstr (.top 212 t o1 o2) (bodyAndctH t o1 o2) s

/-- `ANDCT.S` (R506). -/
def bodyAndctS (t : TMode) (o1 o2 : OD) : Body :=
  top3 .s .s .s (pureAlu fun x y => ~~~x &&& y) t o1 o2
/-- `ANDCT.S` executed at the PC. -/
def execAndctS (t : TMode) (o1 o2 : OD) (s : State) : Res :=
  runInstr (.top 213 t o1 o2) (bodyAndctS t o1 o2) s

/-- `ANDCT.D` (R506). -/
def bodyAndctD (t : TMode) (o1 o2 : OD) : Body :=
  top3 .d .d .d (pureAlu fun x y => ~~~x &&& y) t o1 o2
/-- `ANDCT.D` executed at the PC. -/
def execAndctD (t : TMode) (o1 o2 : OD) (s : State) : Res :=
  runInstr (.top 214 t o1 o2) (bodyAndctD t o1 o2) s

/-! ### `OR` (R507): DEST <- the boolean function of S1 and S2 -/

/-- `OR.Q` (R507). -/
def bodyOrQ (t : TMode) (o1 o2 : OD) : Body :=
  top3 .q .q .q (pureAlu fun x y => x ||| y) t o1 o2
/-- `OR.Q` executed at the PC. -/
def execOrQ (t : TMode) (o1 o2 : OD) (s : State) : Res :=
  runInstr (.top 215 t o1 o2) (bodyOrQ t o1 o2) s

/-- `OR.H` (R507). -/
def bodyOrH (t : TMode) (o1 o2 : OD) : Body :=
  top3 .h .h .h (pureAlu fun x y => x ||| y) t o1 o2
/-- `OR.H` executed at the PC. -/
def execOrH (t : TMode) (o1 o2 : OD) (s : State) : Res :=
  runInstr (.top 216 t o1 o2) (bodyOrH t o1 o2) s

/-- `OR.S` (R507). -/
def bodyOrS (t : TMode) (o1 o2 : OD) : Body :=
  top3 .s .s .s (pureAlu fun x y => x ||| y) t o1 o2
/-- `OR.S` executed at the PC. -/
def execOrS (t : TMode) (o1 o2 : OD) (s : State) : Res :=
  runInstr (.top 217 t o1 o2) (bodyOrS t o1 o2) s

/-- `OR.D` (R507). -/
def bodyOrD (t : TMode) (o1 o2 : OD) : Body :=
  top3 .d .d .d (pureAlu fun x y => x ||| y) t o1 o2
/-- `OR.D` executed at the PC. -/
def execOrD (t : TMode) (o1 o2 : OD) (s : State) : Res :=
  runInstr (.top 218 t o1 o2) (bodyOrD t o1 o2) s

/-! ### `ORTC` (R508): DEST <- the boolean function of S1 and S2 -/

/-- `ORTC.Q` (R508). -/
def bodyOrtcQ (t : TMode) (o1 o2 : OD) : Body :=
  top3 .q .q .q (pureAlu fun x y => x ||| ~~~y) t o1 o2
/-- `ORTC.Q` executed at the PC. -/
def execOrtcQ (t : TMode) (o1 o2 : OD) (s : State) : Res :=
  runInstr (.top 219 t o1 o2) (bodyOrtcQ t o1 o2) s

/-- `ORTC.H` (R508). -/
def bodyOrtcH (t : TMode) (o1 o2 : OD) : Body :=
  top3 .h .h .h (pureAlu fun x y => x ||| ~~~y) t o1 o2
/-- `ORTC.H` executed at the PC. -/
def execOrtcH (t : TMode) (o1 o2 : OD) (s : State) : Res :=
  runInstr (.top 220 t o1 o2) (bodyOrtcH t o1 o2) s

/-- `ORTC.S` (R508). -/
def bodyOrtcS (t : TMode) (o1 o2 : OD) : Body :=
  top3 .s .s .s (pureAlu fun x y => x ||| ~~~y) t o1 o2
/-- `ORTC.S` executed at the PC. -/
def execOrtcS (t : TMode) (o1 o2 : OD) (s : State) : Res :=
  runInstr (.top 221 t o1 o2) (bodyOrtcS t o1 o2) s

/-- `ORTC.D` (R508). -/
def bodyOrtcD (t : TMode) (o1 o2 : OD) : Body :=
  top3 .d .d .d (pureAlu fun x y => x ||| ~~~y) t o1 o2
/-- `ORTC.D` executed at the PC. -/
def execOrtcD (t : TMode) (o1 o2 : OD) (s : State) : Res :=
  runInstr (.top 222 t o1 o2) (bodyOrtcD t o1 o2) s

/-! ### `ORCT` (R509): DEST <- the boolean function of S1 and S2 -/

/-- `ORCT.Q` (R509). -/
def bodyOrctQ (t : TMode) (o1 o2 : OD) : Body :=
  top3 .q .q .q (pureAlu fun x y => ~~~x ||| y) t o1 o2
/-- `ORCT.Q` executed at the PC. -/
def execOrctQ (t : TMode) (o1 o2 : OD) (s : State) : Res :=
  runInstr (.top 223 t o1 o2) (bodyOrctQ t o1 o2) s

/-- `ORCT.H` (R509). -/
def bodyOrctH (t : TMode) (o1 o2 : OD) : Body :=
  top3 .h .h .h (pureAlu fun x y => ~~~x ||| y) t o1 o2
/-- `ORCT.H` executed at the PC. -/
def execOrctH (t : TMode) (o1 o2 : OD) (s : State) : Res :=
  runInstr (.top 224 t o1 o2) (bodyOrctH t o1 o2) s

/-- `ORCT.S` (R509). -/
def bodyOrctS (t : TMode) (o1 o2 : OD) : Body :=
  top3 .s .s .s (pureAlu fun x y => ~~~x ||| y) t o1 o2
/-- `ORCT.S` executed at the PC. -/
def execOrctS (t : TMode) (o1 o2 : OD) (s : State) : Res :=
  runInstr (.top 225 t o1 o2) (bodyOrctS t o1 o2) s

/-- `ORCT.D` (R509). -/
def bodyOrctD (t : TMode) (o1 o2 : OD) : Body :=
  top3 .d .d .d (pureAlu fun x y => ~~~x ||| y) t o1 o2
/-- `ORCT.D` executed at the PC. -/
def execOrctD (t : TMode) (o1 o2 : OD) (s : State) : Res :=
  runInstr (.top 226 t o1 o2) (bodyOrctD t o1 o2) s

/-! ### `NAND` (R510): DEST <- the boolean function of S1 and S2 -/

/-- `NAND.Q` (R510). -/
def bodyNandQ (t : TMode) (o1 o2 : OD) : Body :=
  top3 .q .q .q (pureAlu fun x y => ~~~(x &&& y)) t o1 o2
/-- `NAND.Q` executed at the PC. -/
def execNandQ (t : TMode) (o1 o2 : OD) (s : State) : Res :=
  runInstr (.top 227 t o1 o2) (bodyNandQ t o1 o2) s

/-- `NAND.H` (R510). -/
def bodyNandH (t : TMode) (o1 o2 : OD) : Body :=
  top3 .h .h .h (pureAlu fun x y => ~~~(x &&& y)) t o1 o2
/-- `NAND.H` executed at the PC. -/
def execNandH (t : TMode) (o1 o2 : OD) (s : State) : Res :=
  runInstr (.top 228 t o1 o2) (bodyNandH t o1 o2) s

/-- `NAND.S` (R510). -/
def bodyNandS (t : TMode) (o1 o2 : OD) : Body :=
  top3 .s .s .s (pureAlu fun x y => ~~~(x &&& y)) t o1 o2
/-- `NAND.S` executed at the PC. -/
def execNandS (t : TMode) (o1 o2 : OD) (s : State) : Res :=
  runInstr (.top 229 t o1 o2) (bodyNandS t o1 o2) s

/-- `NAND.D` (R510). -/
def bodyNandD (t : TMode) (o1 o2 : OD) : Body :=
  top3 .d .d .d (pureAlu fun x y => ~~~(x &&& y)) t o1 o2
/-- `NAND.D` executed at the PC. -/
def execNandD (t : TMode) (o1 o2 : OD) (s : State) : Res :=
  runInstr (.top 230 t o1 o2) (bodyNandD t o1 o2) s

/-! ### `NOR` (R511): DEST <- the boolean function of S1 and S2 -/

/-- `NOR.Q` (R511). -/
def bodyNorQ (t : TMode) (o1 o2 : OD) : Body :=
  top3 .q .q .q (pureAlu fun x y => ~~~(x ||| y)) t o1 o2
/-- `NOR.Q` executed at the PC. -/
def execNorQ (t : TMode) (o1 o2 : OD) (s : State) : Res :=
  runInstr (.top 231 t o1 o2) (bodyNorQ t o1 o2) s

/-- `NOR.H` (R511). -/
def bodyNorH (t : TMode) (o1 o2 : OD) : Body :=
  top3 .h .h .h (pureAlu fun x y => ~~~(x ||| y)) t o1 o2
/-- `NOR.H` executed at the PC. -/
def execNorH (t : TMode) (o1 o2 : OD) (s : State) : Res :=
  runInstr (.top 232 t o1 o2) (bodyNorH t o1 o2) s

/-- `NOR.S` (R511). -/
def bodyNorS (t : TMode) (o1 o2 : OD) : Body :=
  top3 .s .s .s (pureAlu fun x y => ~~~(x ||| y)) t o1 o2
/-- `NOR.S` executed at the PC. -/
def execNorS (t : TMode) (o1 o2 : OD) (s : State) : Res :=
  runInstr (.top 233 t o1 o2) (bodyNorS t o1 o2) s

/-- `NOR.D` (R511). -/
def bodyNorD (t : TMode) (o1 o2 : OD) : Body :=
  top3 .d .d .d (pureAlu fun x y => ~~~(x ||| y)) t o1 o2
/-- `NOR.D` executed at the PC. -/
def execNorD (t : TMode) (o1 o2 : OD) (s : State) : Res :=
  runInstr (.top 234 t o1 o2) (bodyNorD t o1 o2) s

/-! ### `XOR` (R512): DEST <- the boolean function of S1 and S2 -/

/-- `XOR.Q` (R512). -/
def bodyXorQ (t : TMode) (o1 o2 : OD) : Body :=
  top3 .q .q .q (pureAlu fun x y => x ^^^ y) t o1 o2
/-- `XOR.Q` executed at the PC. -/
def execXorQ (t : TMode) (o1 o2 : OD) (s : State) : Res :=
  runInstr (.top 235 t o1 o2) (bodyXorQ t o1 o2) s

/-- `XOR.H` (R512). -/
def bodyXorH (t : TMode) (o1 o2 : OD) : Body :=
  top3 .h .h .h (pureAlu fun x y => x ^^^ y) t o1 o2
/-- `XOR.H` executed at the PC. -/
def execXorH (t : TMode) (o1 o2 : OD) (s : State) : Res :=
  runInstr (.top 236 t o1 o2) (bodyXorH t o1 o2) s

/-- `XOR.S` (R512). -/
def bodyXorS (t : TMode) (o1 o2 : OD) : Body :=
  top3 .s .s .s (pureAlu fun x y => x ^^^ y) t o1 o2
/-- `XOR.S` executed at the PC. -/
def execXorS (t : TMode) (o1 o2 : OD) (s : State) : Res :=
  runInstr (.top 237 t o1 o2) (bodyXorS t o1 o2) s

/-- `XOR.D` (R512). -/
def bodyXorD (t : TMode) (o1 o2 : OD) : Body :=
  top3 .d .d .d (pureAlu fun x y => x ^^^ y) t o1 o2
/-- `XOR.D` executed at the PC. -/
def execXorD (t : TMode) (o1 o2 : OD) (s : State) : Res :=
  runInstr (.top 238 t o1 o2) (bodyXorD t o1 o2) s

/-! ### `EQV` (R513): DEST <- the boolean function of S1 and S2 -/

/-- `EQV.Q` (R513). -/
def bodyEqvQ (t : TMode) (o1 o2 : OD) : Body :=
  top3 .q .q .q (pureAlu fun x y => ~~~(x ^^^ y)) t o1 o2
/-- `EQV.Q` executed at the PC. -/
def execEqvQ (t : TMode) (o1 o2 : OD) (s : State) : Res :=
  runInstr (.top 239 t o1 o2) (bodyEqvQ t o1 o2) s

/-- `EQV.H` (R513). -/
def bodyEqvH (t : TMode) (o1 o2 : OD) : Body :=
  top3 .h .h .h (pureAlu fun x y => ~~~(x ^^^ y)) t o1 o2
/-- `EQV.H` executed at the PC. -/
def execEqvH (t : TMode) (o1 o2 : OD) (s : State) : Res :=
  runInstr (.top 240 t o1 o2) (bodyEqvH t o1 o2) s

/-- `EQV.S` (R513). -/
def bodyEqvS (t : TMode) (o1 o2 : OD) : Body :=
  top3 .s .s .s (pureAlu fun x y => ~~~(x ^^^ y)) t o1 o2
/-- `EQV.S` executed at the PC. -/
def execEqvS (t : TMode) (o1 o2 : OD) (s : State) : Res :=
  runInstr (.top 241 t o1 o2) (bodyEqvS t o1 o2) s

/-- `EQV.D` (R513). -/
def bodyEqvD (t : TMode) (o1 o2 : OD) : Body :=
  top3 .d .d .d (pureAlu fun x y => ~~~(x ^^^ y)) t o1 o2
/-- `EQV.D` executed at the PC. -/
def execEqvD (t : TMode) (o1 o2 : OD) (s : State) : Res :=
  runInstr (.top 242 t o1 o2) (bodyEqvD t o1 o2) s

end Sys2Proof.Machine
end

