-- ==== Sys2Proof/Machine/Shift.lean ====
section
/-! DEFINITION. The shift and rotate instructions (43_shift_rotate.md). -/

namespace Sys2Proof.Machine

/-! ### `SHF` (R534): DEST <- S1 moved by S2 -/

/-- `SHF.LF.Q` (R534). -/
def bodyShfLfQ (t : TMode) (o1 o2 : OD) : Body :=
  top3 .q .q .s (pureAlu (shf .lf)) t o1 o2
/-- `SHF.LF.Q` executed at the PC. -/
def execShfLfQ (t : TMode) (o1 o2 : OD) (s : State) : Res :=
  runInstr (.top 243 t o1 o2) (bodyShfLfQ t o1 o2) s

/-- `SHF.LF.H` (R534). -/
def bodyShfLfH (t : TMode) (o1 o2 : OD) : Body :=
  top3 .h .h .s (pureAlu (shf .lf)) t o1 o2
/-- `SHF.LF.H` executed at the PC. -/
def execShfLfH (t : TMode) (o1 o2 : OD) (s : State) : Res :=
  runInstr (.top 244 t o1 o2) (bodyShfLfH t o1 o2) s

/-- `SHF.LF.S` (R534). -/
def bodyShfLfS (t : TMode) (o1 o2 : OD) : Body :=
  top3 .s .s .s (pureAlu (shf .lf)) t o1 o2
/-- `SHF.LF.S` executed at the PC. -/
def execShfLfS (t : TMode) (o1 o2 : OD) (s : State) : Res :=
  runInstr (.top 245 t o1 o2) (bodyShfLfS t o1 o2) s

/-- `SHF.LF.D` (R534). -/
def bodyShfLfD (t : TMode) (o1 o2 : OD) : Body :=
  top3 .d .d .s (pureAlu (shf .lf)) t o1 o2
/-- `SHF.LF.D` executed at the PC. -/
def execShfLfD (t : TMode) (o1 o2 : OD) (s : State) : Res :=
  runInstr (.top 246 t o1 o2) (bodyShfLfD t o1 o2) s

/-- `SHF.RT.Q` (R534). -/
def bodyShfRtQ (t : TMode) (o1 o2 : OD) : Body :=
  top3 .q .q .s (pureAlu (shf .rt)) t o1 o2
/-- `SHF.RT.Q` executed at the PC. -/
def execShfRtQ (t : TMode) (o1 o2 : OD) (s : State) : Res :=
  runInstr (.top 247 t o1 o2) (bodyShfRtQ t o1 o2) s

/-- `SHF.RT.H` (R534). -/
def bodyShfRtH (t : TMode) (o1 o2 : OD) : Body :=
  top3 .h .h .s (pureAlu (shf .rt)) t o1 o2
/-- `SHF.RT.H` executed at the PC. -/
def execShfRtH (t : TMode) (o1 o2 : OD) (s : State) : Res :=
  runInstr (.top 248 t o1 o2) (bodyShfRtH t o1 o2) s

/-- `SHF.RT.S` (R534). -/
def bodyShfRtS (t : TMode) (o1 o2 : OD) : Body :=
  top3 .s .s .s (pureAlu (shf .rt)) t o1 o2
/-- `SHF.RT.S` executed at the PC. -/
def execShfRtS (t : TMode) (o1 o2 : OD) (s : State) : Res :=
  runInstr (.top 249 t o1 o2) (bodyShfRtS t o1 o2) s

/-- `SHF.RT.D` (R534). -/
def bodyShfRtD (t : TMode) (o1 o2 : OD) : Body :=
  top3 .d .d .s (pureAlu (shf .rt)) t o1 o2
/-- `SHF.RT.D` executed at the PC. -/
def execShfRtD (t : TMode) (o1 o2 : OD) (s : State) : Res :=
  runInstr (.top 250 t o1 o2) (bodyShfRtD t o1 o2) s

/-! ### `SHFV` (R535): DEST <- S2 moved by S1 -/

/-- `SHFV.LF.Q` (R535). -/
def bodyShfvLfQ (t : TMode) (o1 o2 : OD) : Body :=
  top3 .q .s .q (pureAlu (shfv .lf)) t o1 o2
/-- `SHFV.LF.Q` executed at the PC. -/
def execShfvLfQ (t : TMode) (o1 o2 : OD) (s : State) : Res :=
  runInstr (.top 251 t o1 o2) (bodyShfvLfQ t o1 o2) s

/-- `SHFV.LF.H` (R535). -/
def bodyShfvLfH (t : TMode) (o1 o2 : OD) : Body :=
  top3 .h .s .h (pureAlu (shfv .lf)) t o1 o2
/-- `SHFV.LF.H` executed at the PC. -/
def execShfvLfH (t : TMode) (o1 o2 : OD) (s : State) : Res :=
  runInstr (.top 252 t o1 o2) (bodyShfvLfH t o1 o2) s

/-- `SHFV.LF.S` (R535). -/
def bodyShfvLfS (t : TMode) (o1 o2 : OD) : Body :=
  top3 .s .s .s (pureAlu (shfv .lf)) t o1 o2
/-- `SHFV.LF.S` executed at the PC. -/
def execShfvLfS (t : TMode) (o1 o2 : OD) (s : State) : Res :=
  runInstr (.top 253 t o1 o2) (bodyShfvLfS t o1 o2) s

/-- `SHFV.LF.D` (R535). -/
def bodyShfvLfD (t : TMode) (o1 o2 : OD) : Body :=
  top3 .d .s .d (pureAlu (shfv .lf)) t o1 o2
/-- `SHFV.LF.D` executed at the PC. -/
def execShfvLfD (t : TMode) (o1 o2 : OD) (s : State) : Res :=
  runInstr (.top 254 t o1 o2) (bodyShfvLfD t o1 o2) s

/-- `SHFV.RT.Q` (R535). -/
def bodyShfvRtQ (t : TMode) (o1 o2 : OD) : Body :=
  top3 .q .s .q (pureAlu (shfv .rt)) t o1 o2
/-- `SHFV.RT.Q` executed at the PC. -/
def execShfvRtQ (t : TMode) (o1 o2 : OD) (s : State) : Res :=
  runInstr (.top 255 t o1 o2) (bodyShfvRtQ t o1 o2) s

/-- `SHFV.RT.H` (R535). -/
def bodyShfvRtH (t : TMode) (o1 o2 : OD) : Body :=
  top3 .h .s .h (pureAlu (shfv .rt)) t o1 o2
/-- `SHFV.RT.H` executed at the PC. -/
def execShfvRtH (t : TMode) (o1 o2 : OD) (s : State) : Res :=
  runInstr (.top 256 t o1 o2) (bodyShfvRtH t o1 o2) s

/-- `SHFV.RT.S` (R535). -/
def bodyShfvRtS (t : TMode) (o1 o2 : OD) : Body :=
  top3 .s .s .s (pureAlu (shfv .rt)) t o1 o2
/-- `SHFV.RT.S` executed at the PC. -/
def execShfvRtS (t : TMode) (o1 o2 : OD) (s : State) : Res :=
  runInstr (.top 257 t o1 o2) (bodyShfvRtS t o1 o2) s

/-- `SHFV.RT.D` (R535). -/
def bodyShfvRtD (t : TMode) (o1 o2 : OD) : Body :=
  top3 .d .s .d (pureAlu (shfv .rt)) t o1 o2
/-- `SHFV.RT.D` executed at the PC. -/
def execShfvRtD (t : TMode) (o1 o2 : OD) (s : State) : Res :=
  runInstr (.top 258 t o1 o2) (bodyShfvRtD t o1 o2) s

/-! ### `DSHF` (R538): DEST <- one half of S1 and NEXT(S1) shifted by S2 -/

/-- `DSHF.LF.Q` (R538). -/
def bodyDshfLfQ (t : TMode) (o1 o2 : OD) : Body :=
  doubleShift .q .lf false t o1 o2
/-- `DSHF.LF.Q` executed at the PC. -/
def execDshfLfQ (t : TMode) (o1 o2 : OD) (s : State) : Res :=
  runInstr (.top 259 t o1 o2) (bodyDshfLfQ t o1 o2) s

/-- `DSHF.LF.H` (R538). -/
def bodyDshfLfH (t : TMode) (o1 o2 : OD) : Body :=
  doubleShift .h .lf false t o1 o2
/-- `DSHF.LF.H` executed at the PC. -/
def execDshfLfH (t : TMode) (o1 o2 : OD) (s : State) : Res :=
  runInstr (.top 260 t o1 o2) (bodyDshfLfH t o1 o2) s

/-- `DSHF.LF.S` (R538). -/
def bodyDshfLfS (t : TMode) (o1 o2 : OD) : Body :=
  doubleShift .s .lf false t o1 o2
/-- `DSHF.LF.S` executed at the PC. -/
def execDshfLfS (t : TMode) (o1 o2 : OD) (s : State) : Res :=
  runInstr (.top 261 t o1 o2) (bodyDshfLfS t o1 o2) s

/-- `DSHF.RT.Q` (R538). -/
def bodyDshfRtQ (t : TMode) (o1 o2 : OD) : Body :=
  doubleShift .q .rt false t o1 o2
/-- `DSHF.RT.Q` executed at the PC. -/
def execDshfRtQ (t : TMode) (o1 o2 : OD) (s : State) : Res :=
  runInstr (.top 262 t o1 o2) (bodyDshfRtQ t o1 o2) s

/-- `DSHF.RT.H` (R538). -/
def bodyDshfRtH (t : TMode) (o1 o2 : OD) : Body :=
  doubleShift .h .rt false t o1 o2
/-- `DSHF.RT.H` executed at the PC. -/
def execDshfRtH (t : TMode) (o1 o2 : OD) (s : State) : Res :=
  runInstr (.top 263 t o1 o2) (bodyDshfRtH t o1 o2) s

/-- `DSHF.RT.S` (R538). -/
def bodyDshfRtS (t : TMode) (o1 o2 : OD) : Body :=
  doubleShift .s .rt false t o1 o2
/-- `DSHF.RT.S` executed at the PC. -/
def execDshfRtS (t : TMode) (o1 o2 : OD) (s : State) : Res :=
  runInstr (.top 264 t o1 o2) (bodyDshfRtS t o1 o2) s

/-! ### `DSHFV` (R539): DEST <- one half of S2 and NEXT(S2) shifted by S1 -/

/-- `DSHFV.LF.Q` (R539). -/
def bodyDshfvLfQ (t : TMode) (o1 o2 : OD) : Body :=
  doubleShift .q .lf true t o1 o2
/-- `DSHFV.LF.Q` executed at the PC. -/
def execDshfvLfQ (t : TMode) (o1 o2 : OD) (s : State) : Res :=
  runInstr (.top 265 t o1 o2) (bodyDshfvLfQ t o1 o2) s

/-- `DSHFV.LF.H` (R539). -/
def bodyDshfvLfH (t : TMode) (o1 o2 : OD) : Body :=
  doubleShift .h .lf true t o1 o2
/-- `DSHFV.LF.H` executed at the PC. -/
def execDshfvLfH (t : TMode) (o1 o2 : OD) (s : State) : Res :=
  runInstr (.top 266 t o1 o2) (bodyDshfvLfH t o1 o2) s

/-- `DSHFV.LF.S` (R539). -/
def bodyDshfvLfS (t : TMode) (o1 o2 : OD) : Body :=
  doubleShift .s .lf true t o1 o2
/-- `DSHFV.LF.S` executed at the PC. -/
def execDshfvLfS (t : TMode) (o1 o2 : OD) (s : State) : Res :=
  runInstr (.top 267 t o1 o2) (bodyDshfvLfS t o1 o2) s

/-- `DSHFV.RT.Q` (R539). -/
def bodyDshfvRtQ (t : TMode) (o1 o2 : OD) : Body :=
  doubleShift .q .rt true t o1 o2
/-- `DSHFV.RT.Q` executed at the PC. -/
def execDshfvRtQ (t : TMode) (o1 o2 : OD) (s : State) : Res :=
  runInstr (.top 268 t o1 o2) (bodyDshfvRtQ t o1 o2) s

/-- `DSHFV.RT.H` (R539). -/
def bodyDshfvRtH (t : TMode) (o1 o2 : OD) : Body :=
  doubleShift .h .rt true t o1 o2
/-- `DSHFV.RT.H` executed at the PC. -/
def execDshfvRtH (t : TMode) (o1 o2 : OD) (s : State) : Res :=
  runInstr (.top 269 t o1 o2) (bodyDshfvRtH t o1 o2) s

/-- `DSHFV.RT.S` (R539). -/
def bodyDshfvRtS (t : TMode) (o1 o2 : OD) : Body :=
  doubleShift .s .rt true t o1 o2
/-- `DSHFV.RT.S` executed at the PC. -/
def execDshfvRtS (t : TMode) (o1 o2 : OD) (s : State) : Res :=
  runInstr (.top 270 t o1 o2) (bodyDshfvRtS t o1 o2) s

/-! ### `SHFA` (R542): DEST <- S1 * 2^S2 with overflow -/

/-- `SHFA.LF.Q` (R542). -/
def bodyShfaLfQ (t : TMode) (o1 o2 : OD) : Body :=
  top3 .q .q .s (shfa .lf) t o1 o2
/-- `SHFA.LF.Q` executed at the PC. -/
def execShfaLfQ (t : TMode) (o1 o2 : OD) (s : State) : Res :=
  runInstr (.top 271 t o1 o2) (bodyShfaLfQ t o1 o2) s

/-- `SHFA.LF.H` (R542). -/
def bodyShfaLfH (t : TMode) (o1 o2 : OD) : Body :=
  top3 .h .h .s (shfa .lf) t o1 o2
/-- `SHFA.LF.H` executed at the PC. -/
def execShfaLfH (t : TMode) (o1 o2 : OD) (s : State) : Res :=
  runInstr (.top 272 t o1 o2) (bodyShfaLfH t o1 o2) s

/-- `SHFA.LF.S` (R542). -/
def bodyShfaLfS (t : TMode) (o1 o2 : OD) : Body :=
  top3 .s .s .s (shfa .lf) t o1 o2
/-- `SHFA.LF.S` executed at the PC. -/
def execShfaLfS (t : TMode) (o1 o2 : OD) (s : State) : Res :=
  runInstr (.top 273 t o1 o2) (bodyShfaLfS t o1 o2) s

/-- `SHFA.LF.D` (R542). -/
def bodyShfaLfD (t : TMode) (o1 o2 : OD) : Body :=
  top3 .d .d .s (shfa .lf) t o1 o2
/-- `SHFA.LF.D` executed at the PC. -/
def execShfaLfD (t : TMode) (o1 o2 : OD) (s : State) : Res :=
  runInstr (.top 274 t o1 o2) (bodyShfaLfD t o1 o2) s

/-- `SHFA.RT.Q` (R542). -/
def bodyShfaRtQ (t : TMode) (o1 o2 : OD) : Body :=
  top3 .q .q .s (shfa .rt) t o1 o2
/-- `SHFA.RT.Q` executed at the PC. -/
def execShfaRtQ (t : TMode) (o1 o2 : OD) (s : State) : Res :=
  runInstr (.top 275 t o1 o2) (bodyShfaRtQ t o1 o2) s

/-- `SHFA.RT.H` (R542). -/
def bodyShfaRtH (t : TMode) (o1 o2 : OD) : Body :=
  top3 .h .h .s (shfa .rt) t o1 o2
/-- `SHFA.RT.H` executed at the PC. -/
def execShfaRtH (t : TMode) (o1 o2 : OD) (s : State) : Res :=
  runInstr (.top 276 t o1 o2) (bodyShfaRtH t o1 o2) s

/-- `SHFA.RT.S` (R542). -/
def bodyShfaRtS (t : TMode) (o1 o2 : OD) : Body :=
  top3 .s .s .s (shfa .rt) t o1 o2
/-- `SHFA.RT.S` executed at the PC. -/
def execShfaRtS (t : TMode) (o1 o2 : OD) (s : State) : Res :=
  runInstr (.top 277 t o1 o2) (bodyShfaRtS t o1 o2) s

/-- `SHFA.RT.D` (R542). -/
def bodyShfaRtD (t : TMode) (o1 o2 : OD) : Body :=
  top3 .d .d .s (shfa .rt) t o1 o2
/-- `SHFA.RT.D` executed at the PC. -/
def execShfaRtD (t : TMode) (o1 o2 : OD) (s : State) : Res :=
  runInstr (.top 278 t o1 o2) (bodyShfaRtD t o1 o2) s

/-! ### `SHFAV` (R543): DEST <- S2 * 2^S1 with overflow -/

/-- `SHFAV.LF.Q` (R543). -/
def bodyShfavLfQ (t : TMode) (o1 o2 : OD) : Body :=
  top3 .q .s .q (shfav .lf) t o1 o2
/-- `SHFAV.LF.Q` executed at the PC. -/
def execShfavLfQ (t : TMode) (o1 o2 : OD) (s : State) : Res :=
  runInstr (.top 279 t o1 o2) (bodyShfavLfQ t o1 o2) s

/-- `SHFAV.LF.H` (R543). -/
def bodyShfavLfH (t : TMode) (o1 o2 : OD) : Body :=
  top3 .h .s .h (shfav .lf) t o1 o2
/-- `SHFAV.LF.H` executed at the PC. -/
def execShfavLfH (t : TMode) (o1 o2 : OD) (s : State) : Res :=
  runInstr (.top 280 t o1 o2) (bodyShfavLfH t o1 o2) s

/-- `SHFAV.LF.S` (R543). -/
def bodyShfavLfS (t : TMode) (o1 o2 : OD) : Body :=
  top3 .s .s .s (shfav .lf) t o1 o2
/-- `SHFAV.LF.S` executed at the PC. -/
def execShfavLfS (t : TMode) (o1 o2 : OD) (s : State) : Res :=
  runInstr (.top 281 t o1 o2) (bodyShfavLfS t o1 o2) s

/-- `SHFAV.LF.D` (R543). -/
def bodyShfavLfD (t : TMode) (o1 o2 : OD) : Body :=
  top3 .d .s .d (shfav .lf) t o1 o2
/-- `SHFAV.LF.D` executed at the PC. -/
def execShfavLfD (t : TMode) (o1 o2 : OD) (s : State) : Res :=
  runInstr (.top 282 t o1 o2) (bodyShfavLfD t o1 o2) s

/-- `SHFAV.RT.Q` (R543). -/
def bodyShfavRtQ (t : TMode) (o1 o2 : OD) : Body :=
  top3 .q .s .q (shfav .rt) t o1 o2
/-- `SHFAV.RT.Q` executed at the PC. -/
def execShfavRtQ (t : TMode) (o1 o2 : OD) (s : State) : Res :=
  runInstr (.top 283 t o1 o2) (bodyShfavRtQ t o1 o2) s

/-- `SHFAV.RT.H` (R543). -/
def bodyShfavRtH (t : TMode) (o1 o2 : OD) : Body :=
  top3 .h .s .h (shfav .rt) t o1 o2
/-- `SHFAV.RT.H` executed at the PC. -/
def execShfavRtH (t : TMode) (o1 o2 : OD) (s : State) : Res :=
  runInstr (.top 284 t o1 o2) (bodyShfavRtH t o1 o2) s

/-- `SHFAV.RT.S` (R543). -/
def bodyShfavRtS (t : TMode) (o1 o2 : OD) : Body :=
  top3 .s .s .s (shfav .rt) t o1 o2
/-- `SHFAV.RT.S` executed at the PC. -/
def execShfavRtS (t : TMode) (o1 o2 : OD) (s : State) : Res :=
  runInstr (.top 285 t o1 o2) (bodyShfavRtS t o1 o2) s

/-- `SHFAV.RT.D` (R543). -/
def bodyShfavRtD (t : TMode) (o1 o2 : OD) : Body :=
  top3 .d .s .d (shfav .rt) t o1 o2
/-- `SHFAV.RT.D` executed at the PC. -/
def execShfavRtD (t : TMode) (o1 o2 : OD) (s : State) : Res :=
  runInstr (.top 286 t o1 o2) (bodyShfavRtD t o1 o2) s

/-! ### `ROT` (R546): DEST <- S1 moved by S2 -/

/-- `ROT.LF.Q` (R546). -/
def bodyRotLfQ (t : TMode) (o1 o2 : OD) : Body :=
  top3 .q .q .s (pureAlu (rot .lf)) t o1 o2
/-- `ROT.LF.Q` executed at the PC. -/
def execRotLfQ (t : TMode) (o1 o2 : OD) (s : State) : Res :=
  runInstr (.top 287 t o1 o2) (bodyRotLfQ t o1 o2) s

/-- `ROT.LF.H` (R546). -/
def bodyRotLfH (t : TMode) (o1 o2 : OD) : Body :=
  top3 .h .h .s (pureAlu (rot .lf)) t o1 o2
/-- `ROT.LF.H` executed at the PC. -/
def execRotLfH (t : TMode) (o1 o2 : OD) (s : State) : Res :=
  runInstr (.top 288 t o1 o2) (bodyRotLfH t o1 o2) s

/-- `ROT.LF.S` (R546). -/
def bodyRotLfS (t : TMode) (o1 o2 : OD) : Body :=
  top3 .s .s .s (pureAlu (rot .lf)) t o1 o2
/-- `ROT.LF.S` executed at the PC. -/
def execRotLfS (t : TMode) (o1 o2 : OD) (s : State) : Res :=
  runInstr (.top 289 t o1 o2) (bodyRotLfS t o1 o2) s

/-- `ROT.LF.D` (R546). -/
def bodyRotLfD (t : TMode) (o1 o2 : OD) : Body :=
  top3 .d .d .s (pureAlu (rot .lf)) t o1 o2
/-- `ROT.LF.D` executed at the PC. -/
def execRotLfD (t : TMode) (o1 o2 : OD) (s : State) : Res :=
  runInstr (.top 290 t o1 o2) (bodyRotLfD t o1 o2) s

/-- `ROT.RT.Q` (R546). -/
def bodyRotRtQ (t : TMode) (o1 o2 : OD) : Body :=
  top3 .q .q .s (pureAlu (rot .rt)) t o1 o2
/-- `ROT.RT.Q` executed at the PC. -/
def execRotRtQ (t : TMode) (o1 o2 : OD) (s : State) : Res :=
  runInstr (.top 291 t o1 o2) (bodyRotRtQ t o1 o2) s

/-- `ROT.RT.H` (R546). -/
def bodyRotRtH (t : TMode) (o1 o2 : OD) : Body :=
  top3 .h .h .s (pureAlu (rot .rt)) t o1 o2
/-- `ROT.RT.H` executed at the PC. -/
def execRotRtH (t : TMode) (o1 o2 : OD) (s : State) : Res :=
  runInstr (.top 292 t o1 o2) (bodyRotRtH t o1 o2) s

/-- `ROT.RT.S` (R546). -/
def bodyRotRtS (t : TMode) (o1 o2 : OD) : Body :=
  top3 .s .s .s (pureAlu (rot .rt)) t o1 o2
/-- `ROT.RT.S` executed at the PC. -/
def execRotRtS (t : TMode) (o1 o2 : OD) (s : State) : Res :=
  runInstr (.top 293 t o1 o2) (bodyRotRtS t o1 o2) s

/-- `ROT.RT.D` (R546). -/
def bodyRotRtD (t : TMode) (o1 o2 : OD) : Body :=
  top3 .d .d .s (pureAlu (rot .rt)) t o1 o2
/-- `ROT.RT.D` executed at the PC. -/
def execRotRtD (t : TMode) (o1 o2 : OD) (s : State) : Res :=
  runInstr (.top 294 t o1 o2) (bodyRotRtD t o1 o2) s

/-! ### `ROTV` (R547): DEST <- S2 moved by S1 -/

/-- `ROTV.LF.Q` (R547). -/
def bodyRotvLfQ (t : TMode) (o1 o2 : OD) : Body :=
  top3 .q .s .q (pureAlu (rotv .lf)) t o1 o2
/-- `ROTV.LF.Q` executed at the PC. -/
def execRotvLfQ (t : TMode) (o1 o2 : OD) (s : State) : Res :=
  runInstr (.top 295 t o1 o2) (bodyRotvLfQ t o1 o2) s

/-- `ROTV.LF.H` (R547). -/
def bodyRotvLfH (t : TMode) (o1 o2 : OD) : Body :=
  top3 .h .s .h (pureAlu (rotv .lf)) t o1 o2
/-- `ROTV.LF.H` executed at the PC. -/
def execRotvLfH (t : TMode) (o1 o2 : OD) (s : State) : Res :=
  runInstr (.top 296 t o1 o2) (bodyRotvLfH t o1 o2) s

/-- `ROTV.LF.S` (R547). -/
def bodyRotvLfS (t : TMode) (o1 o2 : OD) : Body :=
  top3 .s .s .s (pureAlu (rotv .lf)) t o1 o2
/-- `ROTV.LF.S` executed at the PC. -/
def execRotvLfS (t : TMode) (o1 o2 : OD) (s : State) : Res :=
  runInstr (.top 297 t o1 o2) (bodyRotvLfS t o1 o2) s

/-- `ROTV.LF.D` (R547). -/
def bodyRotvLfD (t : TMode) (o1 o2 : OD) : Body :=
  top3 .d .s .d (pureAlu (rotv .lf)) t o1 o2
/-- `ROTV.LF.D` executed at the PC. -/
def execRotvLfD (t : TMode) (o1 o2 : OD) (s : State) : Res :=
  runInstr (.top 298 t o1 o2) (bodyRotvLfD t o1 o2) s

/-- `ROTV.RT.Q` (R547). -/
def bodyRotvRtQ (t : TMode) (o1 o2 : OD) : Body :=
  top3 .q .s .q (pureAlu (rotv .rt)) t o1 o2
/-- `ROTV.RT.Q` executed at the PC. -/
def execRotvRtQ (t : TMode) (o1 o2 : OD) (s : State) : Res :=
  runInstr (.top 299 t o1 o2) (bodyRotvRtQ t o1 o2) s

/-- `ROTV.RT.H` (R547). -/
def bodyRotvRtH (t : TMode) (o1 o2 : OD) : Body :=
  top3 .h .s .h (pureAlu (rotv .rt)) t o1 o2
/-- `ROTV.RT.H` executed at the PC. -/
def execRotvRtH (t : TMode) (o1 o2 : OD) (s : State) : Res :=
  runInstr (.top 300 t o1 o2) (bodyRotvRtH t o1 o2) s

/-- `ROTV.RT.S` (R547). -/
def bodyRotvRtS (t : TMode) (o1 o2 : OD) : Body :=
  top3 .s .s .s (pureAlu (rotv .rt)) t o1 o2
/-- `ROTV.RT.S` executed at the PC. -/
def execRotvRtS (t : TMode) (o1 o2 : OD) (s : State) : Res :=
  runInstr (.top 301 t o1 o2) (bodyRotvRtS t o1 o2) s

/-- `ROTV.RT.D` (R547). -/
def bodyRotvRtD (t : TMode) (o1 o2 : OD) : Body :=
  top3 .d .s .d (pureAlu (rotv .rt)) t o1 o2
/-- `ROTV.RT.D` executed at the PC. -/
def execRotvRtD (t : TMode) (o1 o2 : OD) (s : State) : Res :=
  runInstr (.top 302 t o1 o2) (bodyRotvRtD t o1 o2) s

end Sys2Proof.Machine
end

