-- ==== Sys2Proof/Machine/StackByteBit.lean ====
section
/-! DEFINITION. The stack, byte and bit instructions (46_stack_byte_bit.md). -/

namespace Sys2Proof.Machine

/-! ### `ADJSP` (R666): adjust a stack pointer -/

/-- `ADJSP.UP` (R666). -/
def bodyAdjspUp (o1 o2 : OD) : Body :=
  adjustStack .up o1 o2
/-- `ADJSP.UP` executed at the PC. -/
def execAdjspUp (o1 o2 : OD) (s : State) : Res :=
  runInstr (.xop 458 o1 o2) (bodyAdjspUp o1 o2) s

/-- `ADJSP.DN` (R666). -/
def bodyAdjspDn (o1 o2 : OD) : Body :=
  adjustStack .dn o1 o2
/-- `ADJSP.DN` executed at the PC. -/
def execAdjspDn (o1 o2 : OD) (s : State) : Res :=
  runInstr (.xop 459 o1 o2) (bodyAdjspDn o1 o2) s

/-! ### `PUSH` (R668): push OP2 -/

/-- `PUSH.UP.Q` (R668). -/
def bodyPushUpQ (o1 o2 : OD) : Body :=
  pushItem .up .q o1 o2
/-- `PUSH.UP.Q` executed at the PC. -/
def execPushUpQ (o1 o2 : OD) (s : State) : Res :=
  runInstr (.xop 460 o1 o2) (bodyPushUpQ o1 o2) s

/-- `PUSH.UP.H` (R668). -/
def bodyPushUpH (o1 o2 : OD) : Body :=
  pushItem .up .h o1 o2
/-- `PUSH.UP.H` executed at the PC. -/
def execPushUpH (o1 o2 : OD) (s : State) : Res :=
  runInstr (.xop 461 o1 o2) (bodyPushUpH o1 o2) s

/-- `PUSH.UP.S` (R668). -/
def bodyPushUpS (o1 o2 : OD) : Body :=
  pushItem .up .s o1 o2
/-- `PUSH.UP.S` executed at the PC. -/
def execPushUpS (o1 o2 : OD) (s : State) : Res :=
  runInstr (.xop 462 o1 o2) (bodyPushUpS o1 o2) s

/-- `PUSH.UP.D` (R668). -/
def bodyPushUpD (o1 o2 : OD) : Body :=
  pushItem .up .d o1 o2
/-- `PUSH.UP.D` executed at the PC. -/
def execPushUpD (o1 o2 : OD) (s : State) : Res :=
  runInstr (.xop 463 o1 o2) (bodyPushUpD o1 o2) s

/-- `PUSH.DN.Q` (R668). -/
def bodyPushDnQ (o1 o2 : OD) : Body :=
  pushItem .dn .q o1 o2
/-- `PUSH.DN.Q` executed at the PC. -/
def execPushDnQ (o1 o2 : OD) (s : State) : Res :=
  runInstr (.xop 464 o1 o2) (bodyPushDnQ o1 o2) s

/-- `PUSH.DN.H` (R668). -/
def bodyPushDnH (o1 o2 : OD) : Body :=
  pushItem .dn .h o1 o2
/-- `PUSH.DN.H` executed at the PC. -/
def execPushDnH (o1 o2 : OD) (s : State) : Res :=
  runInstr (.xop 465 o1 o2) (bodyPushDnH o1 o2) s

/-- `PUSH.DN.S` (R668). -/
def bodyPushDnS (o1 o2 : OD) : Body :=
  pushItem .dn .s o1 o2
/-- `PUSH.DN.S` executed at the PC. -/
def execPushDnS (o1 o2 : OD) (s : State) : Res :=
  runInstr (.xop 466 o1 o2) (bodyPushDnS o1 o2) s

/-- `PUSH.DN.D` (R668). -/
def bodyPushDnD (o1 o2 : OD) : Body :=
  pushItem .dn .d o1 o2
/-- `PUSH.DN.D` executed at the PC. -/
def execPushDnD (o1 o2 : OD) (s : State) : Res :=
  runInstr (.xop 467 o1 o2) (bodyPushDnD o1 o2) s

/-! ### `POP` (R670): pop into OP2 -/

/-- `POP.UP.Q` (R670). -/
def bodyPopUpQ (o1 o2 : OD) : Body :=
  popItem .up .q o1 o2
/-- `POP.UP.Q` executed at the PC. -/
def execPopUpQ (o1 o2 : OD) (s : State) : Res :=
  runInstr (.xop 468 o1 o2) (bodyPopUpQ o1 o2) s

/-- `POP.UP.H` (R670). -/
def bodyPopUpH (o1 o2 : OD) : Body :=
  popItem .up .h o1 o2
/-- `POP.UP.H` executed at the PC. -/
def execPopUpH (o1 o2 : OD) (s : State) : Res :=
  runInstr (.xop 469 o1 o2) (bodyPopUpH o1 o2) s

/-- `POP.UP.S` (R670). -/
def bodyPopUpS (o1 o2 : OD) : Body :=
  popItem .up .s o1 o2
/-- `POP.UP.S` executed at the PC. -/
def execPopUpS (o1 o2 : OD) (s : State) : Res :=
  runInstr (.xop 470 o1 o2) (bodyPopUpS o1 o2) s

/-- `POP.UP.D` (R670). -/
def bodyPopUpD (o1 o2 : OD) : Body :=
  popItem .up .d o1 o2
/-- `POP.UP.D` executed at the PC. -/
def execPopUpD (o1 o2 : OD) (s : State) : Res :=
  runInstr (.xop 471 o1 o2) (bodyPopUpD o1 o2) s

/-- `POP.DN.Q` (R670). -/
def bodyPopDnQ (o1 o2 : OD) : Body :=
  popItem .dn .q o1 o2
/-- `POP.DN.Q` executed at the PC. -/
def execPopDnQ (o1 o2 : OD) (s : State) : Res :=
  runInstr (.xop 472 o1 o2) (bodyPopDnQ o1 o2) s

/-- `POP.DN.H` (R670). -/
def bodyPopDnH (o1 o2 : OD) : Body :=
  popItem .dn .h o1 o2
/-- `POP.DN.H` executed at the PC. -/
def execPopDnH (o1 o2 : OD) (s : State) : Res :=
  runInstr (.xop 473 o1 o2) (bodyPopDnH o1 o2) s

/-- `POP.DN.S` (R670). -/
def bodyPopDnS (o1 o2 : OD) : Body :=
  popItem .dn .s o1 o2
/-- `POP.DN.S` executed at the PC. -/
def execPopDnS (o1 o2 : OD) (s : State) : Res :=
  runInstr (.xop 474 o1 o2) (bodyPopDnS o1 o2) s

/-- `POP.DN.D` (R670). -/
def bodyPopDnD (o1 o2 : OD) : Body :=
  popItem .dn .d o1 o2
/-- `POP.DN.D` executed at the PC. -/
def execPopDnD (o1 o2 : OD) (s : State) : Res :=
  runInstr (.xop 475 o1 o2) (bodyPopDnD o1 o2) s

/-! ### `LBYT` (R686): load a byte -/

/-- `LBYT.S` (R686). -/
def bodyLbytS (o1 o2 : OD) : Body :=
  loadByteOf .s loadByte o1 o2
/-- `LBYT.S` executed at the PC. -/
def execLbytS (o1 o2 : OD) (s : State) : Res :=
  runInstr (.xop 476 o1 o2) (bodyLbytS o1 o2) s

/-- `LBYT.D` (R686). -/
def bodyLbytD (o1 o2 : OD) : Body :=
  loadByteOf .d loadByte o1 o2
/-- `LBYT.D` executed at the PC. -/
def execLbytD (o1 o2 : OD) (s : State) : Res :=
  runInstr (.xop 477 o1 o2) (bodyLbytD o1 o2) s

/-! ### `LIBYT` (R687): load an immediate byte -/

/-- `LIBYT.S` (R687). -/
def bodyLibytS (t : TMode) (o1 o2 : OD) : Body :=
  top3Trap .s .s .s (loadImmByte .s loadByte) t o1 o2
/-- `LIBYT.S` executed at the PC. -/
def execLibytS (t : TMode) (o1 o2 : OD) (s : State) : Res :=
  runInstr (.top 303 t o1 o2) (bodyLibytS t o1 o2) s

/-- `LIBYT.D` (R687). -/
def bodyLibytD (t : TMode) (o1 o2 : OD) : Body :=
  top3Trap .d .d .s (loadImmByte .d loadByte) t o1 o2
/-- `LIBYT.D` executed at the PC. -/
def execLibytD (t : TMode) (o1 o2 : OD) (s : State) : Res :=
  runInstr (.top 304 t o1 o2) (bodyLibytD t o1 o2) s

/-! ### `LSBYT` (R688): load a signed byte -/

/-- `LSBYT.S` (R688). -/
def bodyLsbytS (o1 o2 : OD) : Body :=
  loadByteOf .s loadSignedByte o1 o2
/-- `LSBYT.S` executed at the PC. -/
def execLsbytS (o1 o2 : OD) (s : State) : Res :=
  runInstr (.xop 478 o1 o2) (bodyLsbytS o1 o2) s

/-- `LSBYT.D` (R688). -/
def bodyLsbytD (o1 o2 : OD) : Body :=
  loadByteOf .d loadSignedByte o1 o2
/-- `LSBYT.D` executed at the PC. -/
def execLsbytD (o1 o2 : OD) (s : State) : Res :=
  runInstr (.xop 479 o1 o2) (bodyLsbytD o1 o2) s

/-! ### `LISBYT` (R689): load an immediate signed byte -/

/-- `LISBYT.S` (R689). -/
def bodyLisbytS (t : TMode) (o1 o2 : OD) : Body :=
  top3Trap .s .s .s (loadImmByte .s loadSignedByte) t o1 o2
/-- `LISBYT.S` executed at the PC. -/
def execLisbytS (t : TMode) (o1 o2 : OD) (s : State) : Res :=
  runInstr (.top 305 t o1 o2) (bodyLisbytS t o1 o2) s

/-- `LISBYT.D` (R689). -/
def bodyLisbytD (t : TMode) (o1 o2 : OD) : Body :=
  top3Trap .d .d .s (loadImmByte .d loadSignedByte) t o1 o2
/-- `LISBYT.D` executed at the PC. -/
def execLisbytD (t : TMode) (o1 o2 : OD) (s : State) : Res :=
  runInstr (.top 306 t o1 o2) (bodyLisbytD t o1 o2) s

/-! ### `DBYT` (R691): deposit a byte -/

/-- `DBYT.S` (R691). -/
def bodyDbytS (o1 o2 : OD) : Body :=
  depositByteIn .s o1 o2
/-- `DBYT.S` executed at the PC. -/
def execDbytS (o1 o2 : OD) (s : State) : Res :=
  runInstr (.xop 480 o1 o2) (bodyDbytS o1 o2) s

/-- `DBYT.D` (R691). -/
def bodyDbytD (o1 o2 : OD) : Body :=
  depositByteIn .d o1 o2
/-- `DBYT.D` executed at the PC. -/
def execDbytD (o1 o2 : OD) (s : State) : Res :=
  runInstr (.xop 481 o1 o2) (bodyDbytD o1 o2) s

/-! ### `DIBYT` (R692): deposit an immediate byte -/

/-- `DIBYT.S` (R692). -/
def bodyDibytS (t : TMode) (o1 o2 : OD) : Body :=
  depositImmByte .s t o1 o2
/-- `DIBYT.S` executed at the PC. -/
def execDibytS (t : TMode) (o1 o2 : OD) (s : State) : Res :=
  runInstr (.top 307 t o1 o2) (bodyDibytS t o1 o2) s

/-- `DIBYT.D` (R692). -/
def bodyDibytD (t : TMode) (o1 o2 : OD) : Body :=
  depositImmByte .d t o1 o2
/-- `DIBYT.D` executed at the PC. -/
def execDibytD (t : TMode) (o1 o2 : OD) (s : State) : Res :=
  runInstr (.top 308 t o1 o2) (bodyDibytD t o1 o2) s

/-! ### `ADJBP` (R694): adjust a byte pointer -/

/-- `ADJBP.S` (R694). -/
def bodyAdjbpS (t : TMode) (o1 o2 : OD) : Body :=
  top3Trap .d .d .s (adjustPointer .s) t o1 o2
/-- `ADJBP.S` executed at the PC. -/
def execAdjbpS (t : TMode) (o1 o2 : OD) (s : State) : Res :=
  runInstr (.top 309 t o1 o2) (bodyAdjbpS t o1 o2) s

/-- `ADJBP.D` (R694). -/
def bodyAdjbpD (t : TMode) (o1 o2 : OD) : Body :=
  top3Trap .d .d .s (adjustPointer .d) t o1 o2
/-- `ADJBP.D` executed at the PC. -/
def execAdjbpD (t : TMode) (o1 o2 : OD) (s : State) : Res :=
  runInstr (.top 310 t o1 o2) (bodyAdjbpD t o1 o2) s

/-! ### `BITRV` (R702): reverse the S2 low-order bits of S1 -/

/-- `BITRV.Q` (R702). -/
def bodyBitrvQ (t : TMode) (o1 o2 : OD) : Body :=
  top3Trap .q .q .s bitrv t o1 o2
/-- `BITRV.Q` executed at the PC. -/
def execBitrvQ (t : TMode) (o1 o2 : OD) (s : State) : Res :=
  runInstr (.top 311 t o1 o2) (bodyBitrvQ t o1 o2) s

/-- `BITRV.H` (R702). -/
def bodyBitrvH (t : TMode) (o1 o2 : OD) : Body :=
  top3Trap .h .h .s bitrv t o1 o2
/-- `BITRV.H` executed at the PC. -/
def execBitrvH (t : TMode) (o1 o2 : OD) (s : State) : Res :=
  runInstr (.top 312 t o1 o2) (bodyBitrvH t o1 o2) s

/-- `BITRV.S` (R702). -/
def bodyBitrvS (t : TMode) (o1 o2 : OD) : Body :=
  top3Trap .s .s .s bitrv t o1 o2
/-- `BITRV.S` executed at the PC. -/
def execBitrvS (t : TMode) (o1 o2 : OD) (s : State) : Res :=
  runInstr (.top 313 t o1 o2) (bodyBitrvS t o1 o2) s

/-- `BITRV.D` (R702). -/
def bodyBitrvD (t : TMode) (o1 o2 : OD) : Body :=
  top3Trap .d .d .s bitrv t o1 o2
/-- `BITRV.D` executed at the PC. -/
def execBitrvD (t : TMode) (o1 o2 : OD) (s : State) : Res :=
  runInstr (.top 314 t o1 o2) (bodyBitrvD t o1 o2) s

/-! ### `BITRVV` (R703): reverse the S1 low-order bits of S2 -/

/-- `BITRVV.Q` (R703). -/
def bodyBitrvvQ (t : TMode) (o1 o2 : OD) : Body :=
  top3Trap .q .s .q bitrvv t o1 o2
/-- `BITRVV.Q` executed at the PC. -/
def execBitrvvQ (t : TMode) (o1 o2 : OD) (s : State) : Res :=
  runInstr (.top 315 t o1 o2) (bodyBitrvvQ t o1 o2) s

/-- `BITRVV.H` (R703). -/
def bodyBitrvvH (t : TMode) (o1 o2 : OD) : Body :=
  top3Trap .h .s .h bitrvv t o1 o2
/-- `BITRVV.H` executed at the PC. -/
def execBitrvvH (t : TMode) (o1 o2 : OD) (s : State) : Res :=
  runInstr (.top 316 t o1 o2) (bodyBitrvvH t o1 o2) s

/-- `BITRVV.S` (R703). -/
def bodyBitrvvS (t : TMode) (o1 o2 : OD) : Body :=
  top3Trap .s .s .s bitrvv t o1 o2
/-- `BITRVV.S` executed at the PC. -/
def execBitrvvS (t : TMode) (o1 o2 : OD) (s : State) : Res :=
  runInstr (.top 317 t o1 o2) (bodyBitrvvS t o1 o2) s

/-- `BITRVV.D` (R703). -/
def bodyBitrvvD (t : TMode) (o1 o2 : OD) : Body :=
  top3Trap .d .s .d bitrvv t o1 o2
/-- `BITRVV.D` executed at the PC. -/
def execBitrvvD (t : TMode) (o1 o2 : OD) (s : State) : Res :=
  runInstr (.top 318 t o1 o2) (bodyBitrvvD t o1 o2) s

/-! ### `BITEX` (R705): extract the bits of S1 that S2 selects -/

/-- `BITEX.Q` (R705). -/
def bodyBitexQ (t : TMode) (o1 o2 : OD) : Body :=
  top3 .q .q .q (pureAlu extractBits) t o1 o2
/-- `BITEX.Q` executed at the PC. -/
def execBitexQ (t : TMode) (o1 o2 : OD) (s : State) : Res :=
  runInstr (.top 319 t o1 o2) (bodyBitexQ t o1 o2) s

/-- `BITEX.H` (R705). -/
def bodyBitexH (t : TMode) (o1 o2 : OD) : Body :=
  top3 .h .h .h (pureAlu extractBits) t o1 o2
/-- `BITEX.H` executed at the PC. -/
def execBitexH (t : TMode) (o1 o2 : OD) (s : State) : Res :=
  runInstr (.top 320 t o1 o2) (bodyBitexH t o1 o2) s

/-- `BITEX.S` (R705). -/
def bodyBitexS (t : TMode) (o1 o2 : OD) : Body :=
  top3 .s .s .s (pureAlu extractBits) t o1 o2
/-- `BITEX.S` executed at the PC. -/
def execBitexS (t : TMode) (o1 o2 : OD) (s : State) : Res :=
  runInstr (.top 321 t o1 o2) (bodyBitexS t o1 o2) s

/-- `BITEX.D` (R705). -/
def bodyBitexD (t : TMode) (o1 o2 : OD) : Body :=
  top3 .d .d .d (pureAlu extractBits) t o1 o2
/-- `BITEX.D` executed at the PC. -/
def execBitexD (t : TMode) (o1 o2 : OD) (s : State) : Res :=
  runInstr (.top 322 t o1 o2) (bodyBitexD t o1 o2) s

/-! ### `BITEXV` (R706): extract the bits of S2 that S1 selects -/

/-- `BITEXV.Q` (R706). -/
def bodyBitexvQ (t : TMode) (o1 o2 : OD) : Body :=
  top3 .q .q .q (pureAlu fun x y => extractBits y x) t o1 o2
/-- `BITEXV.Q` executed at the PC. -/
def execBitexvQ (t : TMode) (o1 o2 : OD) (s : State) : Res :=
  runInstr (.top 323 t o1 o2) (bodyBitexvQ t o1 o2) s

/-- `BITEXV.H` (R706). -/
def bodyBitexvH (t : TMode) (o1 o2 : OD) : Body :=
  top3 .h .h .h (pureAlu fun x y => extractBits y x) t o1 o2
/-- `BITEXV.H` executed at the PC. -/
def execBitexvH (t : TMode) (o1 o2 : OD) (s : State) : Res :=
  runInstr (.top 324 t o1 o2) (bodyBitexvH t o1 o2) s

/-- `BITEXV.S` (R706). -/
def bodyBitexvS (t : TMode) (o1 o2 : OD) : Body :=
  top3 .s .s .s (pureAlu fun x y => extractBits y x) t o1 o2
/-- `BITEXV.S` executed at the PC. -/
def execBitexvS (t : TMode) (o1 o2 : OD) (s : State) : Res :=
  runInstr (.top 325 t o1 o2) (bodyBitexvS t o1 o2) s

/-- `BITEXV.D` (R706). -/
def bodyBitexvD (t : TMode) (o1 o2 : OD) : Body :=
  top3 .d .d .d (pureAlu fun x y => extractBits y x) t o1 o2
/-- `BITEXV.D` executed at the PC. -/
def execBitexvD (t : TMode) (o1 o2 : OD) (s : State) : Res :=
  runInstr (.top 326 t o1 o2) (bodyBitexvD t o1 o2) s

/-! ### `BITCNT` (R708): count the ones of OP2 -/

/-- `BITCNT.Q` (R708). -/
def bodyBitcntQ (o1 o2 : OD) : Body :=
  xop2 .s .q (pureAlu1 countOnes) o1 o2
/-- `BITCNT.Q` executed at the PC. -/
def execBitcntQ (o1 o2 : OD) (s : State) : Res :=
  runInstr (.xop 482 o1 o2) (bodyBitcntQ o1 o2) s

/-- `BITCNT.H` (R708). -/
def bodyBitcntH (o1 o2 : OD) : Body :=
  xop2 .s .h (pureAlu1 countOnes) o1 o2
/-- `BITCNT.H` executed at the PC. -/
def execBitcntH (o1 o2 : OD) (s : State) : Res :=
  runInstr (.xop 483 o1 o2) (bodyBitcntH o1 o2) s

/-- `BITCNT.S` (R708). -/
def bodyBitcntS (o1 o2 : OD) : Body :=
  xop2 .s .s (pureAlu1 countOnes) o1 o2
/-- `BITCNT.S` executed at the PC. -/
def execBitcntS (o1 o2 : OD) (s : State) : Res :=
  runInstr (.xop 484 o1 o2) (bodyBitcntS o1 o2) s

/-- `BITCNT.D` (R708). -/
def bodyBitcntD (o1 o2 : OD) : Body :=
  xop2 .s .d (pureAlu1 countOnes) o1 o2
/-- `BITCNT.D` executed at the PC. -/
def execBitcntD (o1 o2 : OD) (s : State) : Res :=
  runInstr (.xop 485 o1 o2) (bodyBitcntD o1 o2) s

/-! ### `BITFST` (R709): the number of the first one bit of OP2 -/

/-- `BITFST.Q` (R709). -/
def bodyBitfstQ (o1 o2 : OD) : Body :=
  xop2 .s .q (pureAlu1 firstOneBit) o1 o2
/-- `BITFST.Q` executed at the PC. -/
def execBitfstQ (o1 o2 : OD) (s : State) : Res :=
  runInstr (.xop 486 o1 o2) (bodyBitfstQ o1 o2) s

/-- `BITFST.H` (R709). -/
def bodyBitfstH (o1 o2 : OD) : Body :=
  xop2 .s .h (pureAlu1 firstOneBit) o1 o2
/-- `BITFST.H` executed at the PC. -/
def execBitfstH (o1 o2 : OD) (s : State) : Res :=
  runInstr (.xop 487 o1 o2) (bodyBitfstH o1 o2) s

/-- `BITFST.S` (R709). -/
def bodyBitfstS (o1 o2 : OD) : Body :=
  xop2 .s .s (pureAlu1 firstOneBit) o1 o2
/-- `BITFST.S` executed at the PC. -/
def execBitfstS (o1 o2 : OD) (s : State) : Res :=
  runInstr (.xop 488 o1 o2) (bodyBitfstS o1 o2) s

/-- `BITFST.D` (R709). -/
def bodyBitfstD (o1 o2 : OD) : Body :=
  xop2 .s .d (pureAlu1 firstOneBit) o1 o2
/-- `BITFST.D` executed at the PC. -/
def execBitfstD (o1 o2 : OD) (s : State) : Res :=
  runInstr (.xop 489 o1 o2) (bodyBitfstD o1 o2) s

end Sys2Proof.Machine
end

