-- ==== Sys2Proof/Machine/SystemAlu.lean ====
section
/-! DEFINITION. The shapes of the cache, map, interrupt, input/output, counter and miscellaneous instructions
(48_cache_intr_io_misc.md). -/

namespace Sys2Proof.Machine

/-! ### Sweeps (R792 to R802) and segment registers (R804 to R808) -/

/-- `SWPIC`, `SWPDC` (R792): the checks, which are all the effect of a model without caches; `phys` marks the
executive-only forms. -/
def sweepCache (phys : Bool) (cnt : RegNum) (o1 o2 : OD) : Body := fun env s => do
  if phys then s.privileged env
  checkUnused o2
  let x1 ← s.evalOD o1
  let l ← x1.asLoc
  let n := s.count cnt
  fatalIf (n % 4 != 0) .blockAlignment
  boundaryCheck l.va n l.rd
  .ok (s.setPc env.next)

/-- `SWPIM`, `SWPDM` (R800, R802): OP1 is read; there is no page map to sweep. -/
def sweepMap (o1 o2 : OD) : Body := fun env s => do
  s.privileged env
  checkUnused o2
  let x1 ← s.evalOD o1
  let _ ← s.readOp x1 .s
  .ok (s.setPc env.next)

/-- `WriteSegRegs` (R804): both words are read and checked before either register is written. -/
def writeSegment (set : State → PAddr → PAddr → State) (o1 : OD) (j : JDest) : Body := fun env s => do
  s.privileged env
  let x1 ← s.evalOD o1
  let d ← s.jumpDest j
  let l ← x1.asLoc
  let p ← s.readLoc l .s
  let q ← s.readLoc (l.next .s) .s
  fatalIf (field p 34 2 != 0 || field q 34 2 != 0) .notAligned
  .ok ((set s (field p 2 34) (field q 2 34)).setPc d)

/-- Write `USER_STP` and `USER_STL` (R806). -/
def State.setUserSegment (s : State) (p l : PAddr) : State := { s with userStp := p, userStl := l }
/-- Write `EXEC_STP` and `EXEC_STL` (R808). -/
def State.setExecSegment (s : State) (p l : PAddr) : State := { s with execStp := p, execStl := l }

/-! ### Interrupt registers (R810 to R827) and counters (R848 to R853) -/

/-- An instruction `{pd,W; S,R}` that stores a part of the state named by OP2 in OP1. -/
def storePart (priv : Bool) (pd : Prec) (f : SW → State → M (BitVec pd.bits × State)) (o1 o2 : OD) : Body :=
  fun env s => do
    if priv then s.privileged env
    let x1 ← s.evalOD o1
    let x2 ← s.evalOD o2
    let d ← s.checkWrite x1 pd
    let k ← s.readOp x2 .s
    let r ← f k s
    .ok ((r.2.writeSpan pd d r.1).setPc env.next)

/-- An instruction `{S,R; p,R}` that changes a part of the state named by OP1 according to OP2. -/
def loadPart (priv : Bool) (p : Prec) (f : SW → BitVec p.bits → State → M State) (o1 o2 : OD) : Body :=
  fun env s => do
    if priv then s.privileged env
    let x1 ← s.evalOD o1
    let x2 ← s.evalOD o2
    let k ← s.readOp x1 .s
    let v ← s.readOp x2 p
    let s1 ← f k v s
    .ok (s1.setPc env.next)

/-- `Level(w)` (R812). -/
def intLevel (w : SW) : M (BitVec 3) := if field w 0 33 != 0 then .error (.fatal .other) else .ok (field w 33 3)

/-- `VecNum(w)` (R812). -/
def intVector (w : SW) : M (BitVec 8) := if field w 0 28 != 0 then .error (.fatal .other) else .ok (field w 28 8)

/-- `INTUPT_ENB[i]`. -/
def State.enb (s : State) (i : BitVec 3) : SW := s.intEnb[i.toNat]'i.isLt
/-- `INTUPT_PEND[i]`. -/
def State.pend (s : State) (i : BitVec 3) : SW := s.intPend[i.toNat]'i.isLt
/-- `INTUPT_ENB[i] <- v`. -/
def State.setEnb (s : State) (i : BitVec 3) (v : SW) : State := { s with intEnb := s.intEnb.set i.toNat v i.isLt }
/-- `INTUPT_PEND[i] <- v`. -/
def State.setPend (s : State) (i : BitVec 3) (v : SW) : State := { s with intPend := s.intPend.set i.toNat v i.isLt }
/-- `INTUPT_PARM[k] <- v`. -/
def State.setParm (s : State) (k : BitVec 8) (v : SW) : State := { s with intParm := s.intParm.set k.toNat v k.isLt }

/-- The mask of a set instruction: bits 32..35 are ignored (R816, R822). -/
def levelMask (v : SW) : SW := field v 0 32 ++ 0#4

/-- `RIEN` (R814). -/
def readEnb (k : SW) (s : State) : M (SW × State) := do
  let i ← intLevel k
  .ok (s.enb i, s)
/-- `WIEN` (R815). -/
def writeEnb (k v : SW) (s : State) : M State := do
  let i ← intLevel k
  fatalIf (field v 32 4 != 0) .other
  .ok (s.setEnb i v)
/-- `SIEN` (R816). -/
def setEnbBits (k v : SW) (s : State) : M State := do
  let i ← intLevel k
  .ok (s.setEnb i (s.enb i ||| levelMask v))
/-- `CIEN` (R817). -/
def clearEnbBits (k v : SW) (s : State) : M State := do
  let i ← intLevel k
  .ok (s.setEnb i (s.enb i &&& ~~~v))
/-- `RIPND` (R820). -/
def readPend (k : SW) (s : State) : M (SW × State) := do
  let i ← intLevel k
  .ok (s.pend i, s)
/-- `WIPND` (R821). -/
def writePend (k v : SW) (s : State) : M State := do
  let i ← intLevel k
  fatalIf (field v 32 4 != 0) .other
  .ok (s.setPend i v)
/-- `SIPND` (R822). -/
def setPendBits (k v : SW) (s : State) : M State := do
  let i ← intLevel k
  .ok (s.setPend i (s.pend i ||| levelMask v))
/-- `CIPND` (R823). -/
def clearPendBits (k v : SW) (s : State) : M State := do
  let i ← intLevel k
  .ok (s.setPend i (s.pend i &&& ~~~v))
/-- `RIPAR` (R826). -/
def readParm (k : SW) (s : State) : M (SW × State) := do
  let i ← intVector k
  .ok (s.intParmAt i, s)
/-- `WIPAR` (R827). -/
def writeParm (k v : SW) (s : State) : M State := do
  let i ← intVector k
  .ok (s.setParm i v)

/-- `Ctr(w)` (R848): a number that names no counter is a fatal trap. -/
def counterNum (w : SW) : M (Fin Config.nCtr) :=
  if h : w.toNat < Config.nCtr then .ok ⟨w.toNat, h⟩ else .error (.fatal .other)

/-- Counter 0 has advanced by a free, positive amount (R81; log 9). -/
def State.advanceClock (s : State) : State :=
  { s with
    ctr := s.ctr.set 0 (s.ctr[0] + 1 + BitVec.ofNat 72 (Config.cycleAdvance s.freeCount))
    freeCount := s.freeCount + 1 }

/-- `RCTR` (R850): counter 0 is read after it has advanced. -/
def readCounter (k : SW) (s : State) : M (DW × State) := do
  let i ← counterNum k
  let s1 := if i.val = 0 then s.advanceClock else s
  .ok (s1.ctr[i], s1)
/-- `WCTR` (R851). -/
def writeCounter (k : SW) (v : DW) (s : State) : M State := do
  let i ← counterNum k
  .ok { s with ctr := s.ctr.set i v }
/-- `RECTR` (R852). -/
def readCounterEnb (k : SW) (s : State) : M (DW × State) := do
  let i ← counterNum k
  .ok (s.ctrEnb[i], s)
/-- `WECTR` (R853). -/
def writeCounterEnb (k : SW) (v : DW) (s : State) : M State := do
  let i ← counterNum k
  .ok { s with ctrEnb := s.ctrEnb.set i v }

/-! ### Input and output (R830 to R844) -/

/-- `IOBufLoc` (R832): the index of a buffer word, `IOBUF_SIZE * number + address`. -/
def State.ioBufLoc (s : State) (ctx : Ctx) (va : VAddr) : M Nat :=
  if ctx == .prev && !Ps.crntMode s.ps then .error (.hard .userP (pcWord va))
  else do
    let (pa, a) ← s.translate (s.space ctx) va
    checkAccess .io (s.space ctx) va a
    fatalIf (field pa 0 7 != 0) .iobufRange
    let num := (field pa 7 9).toNat
    let addr := (field pa 16 18).toNat
    fatalIf (decide (Config.nIobuf ≤ num) || decide (Config.iobufSize ≤ addr)) .iobufRange
    .ok (Config.iobufSize * num + addr)

/-- The buffer words at `m` consecutive virtual addresses (R832). -/
def State.ioBufRun (s : State) (ctx : Ctx) : (m : Nat) → VAddr → M (List Nat)
  | 0, _ => .ok []
  | m + 1, va => do
    let a ← s.ioBufLoc ctx va
    let rest ← s.ioBufRun ctx m (vaAdd va 1)
    .ok (a :: rest)

/-- The translations of Table 5-10 (R838). -/
inductive IoKind where
  | b | q | h | s
  deriving DecidableEq, Repr

/-- The precision of a memory element. -/
@[reducible] def IoKind.prec : IoKind → Prec
  | .b | .q => .q
  | .h => .h
  | .s => .s

/-- The bits of an element in the buffer. -/
def IoKind.bits : IoKind → Nat
  | .b => 9
  | .q => 8
  | .h => 16
  | .s => 32

/-- The number of buffer words of a block of `n` elements (R838). -/
def IoKind.words (t : IoKind) (n : Nat) : Nat := (n * t.bits + 31) / 32

/-- Bits `start .. start+len-1` of a string of `total` bits whose value is `v`, most significant first. -/
def streamField (v total start len : Nat) : Nat := (v >>> (total - start - len)) % 2 ^ len

/-- The bit string of buffer words: bits 4..35 of each, most significant first (R838). -/
def bufferStream (ws : List SW) : Nat := ws.foldl (fun t w => t * 2 ^ 32 + (field w 4 32).toNat) 0

/-- The bit string of `n` memory elements, filled with zeros to whole buffer words (R838). -/
def elementStream (t : IoKind) (vs : List (BitVec t.prec.bits)) : Nat :=
  (vs.foldl (fun a v => a * 2 ^ t.bits + v.toNat % 2 ^ t.bits) 0) <<< (32 * t.words vs.length - vs.length * t.bits)

/-- The buffer words of `n` memory elements: bits 0..3 are zero (R838). -/
def bufferWords (t : IoKind) (vs : List (BitVec t.prec.bits)) : List SW :=
  let m := t.words vs.length
  (List.range m).map fun j => BitVec.ofNat 36 (streamField (elementStream t vs) (32 * m) (32 * j) 32)

/-- The `n` memory elements in buffer words, each zero-extended (R838). -/
def bufferElements (t : IoKind) (n : Nat) (ws : List SW) : List (BitVec t.prec.bits) :=
  (List.range n).map fun i =>
    BitVec.ofNat t.prec.bits (streamField (bufferStream ws) (32 * ws.length) (t.bits * i) t.bits)

/-- Store buffer words, the first first. -/
def IoBuffers.store : IoBuffers → List Nat → List SW → IoBuffers
  | b, k :: ks, w :: ws => IoBuffers.store (Cells.set k w b) ks ws
  | b, _, _ => b

/-- `BLKIOR` (R840): all buffer words are read and all writes checked before memory is written. -/
def ioRead (cnt : RegNum) (t : IoKind) (o1 o2 : OD) : Body := fun env s => do
  let x1 ← s.evalOD o1
  let x2 ← s.evalOD o2
  let l1 ← x1.asLoc
  let l2 ← x2.asLoc
  let n := s.count cnt
  fatalIf (n % t.prec.qws != 0) .blockAlignment
  fatalIf (n != 0 && !aligned t.prec l1.va) .blockAlignment
  boundaryCheck l1.va n l1.rd
  let e := n / t.prec.qws
  let ks ← s.ioBufRun l2.ctx (t.words e) l2.va
  let ds ← s.locateRun .write l1.ctx t.prec e l1.va
  .ok ((s.writeRun t.prec ds (bufferElements t e (ks.map fun k => Cells.get k s.iobuf))).setPc env.next)

/-- The elements of an immediate source block: consecutive parts of the constant (R722, R842). -/
def immElements (p : Prec) (w : SW) (n : Nat) : List (BitVec p.bits) :=
  (List.range n).map fun i => field w (p.bits * i) p.bits

/-- The memory elements `BLKIOW` transfers, with the checks of the source block (R842). -/
def State.ioSource (s : State) (t : IoKind) (x : Operand) (n : Nat) : M (List (BitVec t.prec.bits)) :=
  match x with
  | .imm _ w =>
    if 4 < n then .error (.fatal .immediate) else .ok (immElements t.prec w (n / t.prec.qws))
  | .loc l => do
    fatalIf (n != 0 && !aligned t.prec l.va) .blockAlignment
    boundaryCheck l.va n l.rd
    let sps ← s.locateRun .read l.ctx t.prec (n / t.prec.qws) l.va
    .ok (s.readRun t.prec sps)

/-- `BLKIOW` (R842): whole buffer words are written. -/
def ioWrite (cnt : RegNum) (t : IoKind) (o1 o2 : OD) : Body := fun env s => do
  let x1 ← s.evalOD o1
  let x2 ← s.evalOD o2
  let l1 ← x1.asLoc
  let n := s.count cnt
  fatalIf (n % t.prec.qws != 0) .blockAlignment
  let vs ← s.ioSource t x2 n
  let ks ← s.ioBufRun l1.ctx (t.words (n / t.prec.qws)) l1.va
  .ok (({ s with iobuf := s.iobuf.store ks (bufferWords t vs) } : State).setPc env.next)

/-- `INTIOP` (R844): the I/O processor of the buffer that contains OP1 is interrupted. -/
def interruptIop (o1 o2 : OD) : Body := fun env s => do
  checkUnused o2
  let x1 ← s.evalOD o1
  let l ← x1.asLoc
  let k ← s.ioBufLoc l.ctx l.va
  .ok (({ s with iopOut := s.iopOut ++ [BitVec.ofNat 9 (k / Config.iobufSize)] } : State).setPc env.next)

/-! ### Miscellaneous (R856 to R866) -/

/-- `NOP` (R856): the operands are evaluated, not accessed. -/
def noOperation (o1 o2 : OD) : Body := fun env s => do
  let _ ← s.evalOD o1
  let _ ← s.evalOD o2
  .ok (s.setPc env.next)

/-- `RMW` (R860): S2 is exchanged with S1, then DEST gets the old S2. -/
def readModifyWrite (t : TMode) (o1 o2 : OD) : Body := fun env s => do
  let a ← s.evalTop t o1 o2
  let l2 ← a.s2.asLoc
  let ld ← a.dest.asLoc
  let x ← s.readOp a.s1 .s
  let w2 ← s.checkWriteLoc l2 .s
  let wd ← s.checkWriteLoc ld .s
  let old ← s.readLoc l2 .s
  .ok (((s.writeSpan .s w2 x).writeSpan .s wd old).setPc env.next)

/-- One link of `XCT` (R862): three words are read as data from OP1 on, and the instruction they begin runs with the PC
and `PC_NEXT_INSTR` of the `XCT`. -/
def xctLink (run : Form → Body) (o1 o2 : OD) : Body := fun env s => do
  checkUnused o2
  let x1 ← s.evalOD o1
  let l ← x1.asLoc
  fatalIf (l.ctx == .prev) .pBit
  let w0 ← s.readLoc l .s
  let w1 ← s.readLoc (l.next .s) .s
  let w2 ← s.readLoc ((l.next .s).next .s) .s
  match decodeForm w0 w1 w2 with
  | .error _ => .error (.fatal .illegalInstruction)
  | .ok f => run f ⟨w0, env.next⟩ s

/-- `WAIT` (R864). -/
def waitInterrupt (o1 o2 : OD) : Body := fun env s => do
  s.privileged env
  checkUnused o1
  checkUnused o2
  .ok ((s.setPc env.next).setRun .waiting)

/-- `HALT` (R866). -/
def haltAt (o1 : OD) (j : JDest) : Body := fun env s => do
  s.privileged env
  checkUnused o1
  let d ← s.jumpDest j
  .ok ((s.setPc d).setRun .halted)

end Sys2Proof.Machine
end

