-- ==== Sys2Proof/Machine/System.lean ====
section
/-! DEFINITION. The cache, map, interrupt, input/output, counter and miscellaneous instructions (48_cache_intr_io_misc.md). -/

namespace Sys2Proof.Machine

/-! ### `SWPIC` (R796): sweep a cache -/

/-- `SWPIC.RTA.V` (R796). -/
def bodySwpicRtaV (o1 o2 : OD) : Body :=
  sweepCache false 4 o1 o2
/-- `SWPIC.RTA.V` executed at the PC. -/
def execSwpicRtaV (o1 o2 : OD) (s : State) : Res :=
  runInstr (.xop 519 o1 o2) (bodySwpicRtaV o1 o2) s

/-- `SWPIC.RTA.P` (R796). -/
def bodySwpicRtaP (o1 o2 : OD) : Body :=
  sweepCache true 4 o1 o2
/-- `SWPIC.RTA.P` executed at the PC. -/
def execSwpicRtaP (o1 o2 : OD) (s : State) : Res :=
  runInstr (.xop 520 o1 o2) (bodySwpicRtaP o1 o2) s

/-- `SWPIC.RTB.V` (R796). -/
def bodySwpicRtbV (o1 o2 : OD) : Body :=
  sweepCache false 6 o1 o2
/-- `SWPIC.RTB.V` executed at the PC. -/
def execSwpicRtbV (o1 o2 : OD) (s : State) : Res :=
  runInstr (.xop 521 o1 o2) (bodySwpicRtbV o1 o2) s

/-- `SWPIC.RTB.P` (R796). -/
def bodySwpicRtbP (o1 o2 : OD) : Body :=
  sweepCache true 6 o1 o2
/-- `SWPIC.RTB.P` executed at the PC. -/
def execSwpicRtbP (o1 o2 : OD) (s : State) : Res :=
  runInstr (.xop 522 o1 o2) (bodySwpicRtbP o1 o2) s

/-! ### `SWPDC` (R798): sweep a cache -/

/-- `SWPDC.RTA.V.U` (R798). -/
def bodySwpdcRtaVU (o1 o2 : OD) : Body :=
  sweepCache false 4 o1 o2
/-- `SWPDC.RTA.V.U` executed at the PC. -/
def execSwpdcRtaVU (o1 o2 : OD) (s : State) : Res :=
  runInstr (.xop 523 o1 o2) (bodySwpdcRtaVU o1 o2) s

/-- `SWPDC.RTA.V.UK` (R798). -/
def bodySwpdcRtaVUk (o1 o2 : OD) : Body :=
  sweepCache false 4 o1 o2
/-- `SWPDC.RTA.V.UK` executed at the PC. -/
def execSwpdcRtaVUk (o1 o2 : OD) (s : State) : Res :=
  runInstr (.xop 524 o1 o2) (bodySwpdcRtaVUk o1 o2) s

/-- `SWPDC.RTA.P.U` (R798). -/
def bodySwpdcRtaPU (o1 o2 : OD) : Body :=
  sweepCache true 4 o1 o2
/-- `SWPDC.RTA.P.U` executed at the PC. -/
def execSwpdcRtaPU (o1 o2 : OD) (s : State) : Res :=
  runInstr (.xop 525 o1 o2) (bodySwpdcRtaPU o1 o2) s

/-- `SWPDC.RTA.P.UK` (R798). -/
def bodySwpdcRtaPUk (o1 o2 : OD) : Body :=
  sweepCache true 4 o1 o2
/-- `SWPDC.RTA.P.UK` executed at the PC. -/
def execSwpdcRtaPUk (o1 o2 : OD) (s : State) : Res :=
  runInstr (.xop 526 o1 o2) (bodySwpdcRtaPUk o1 o2) s

/-- `SWPDC.RTB.V.U` (R798). -/
def bodySwpdcRtbVU (o1 o2 : OD) : Body :=
  sweepCache false 6 o1 o2
/-- `SWPDC.RTB.V.U` executed at the PC. -/
def execSwpdcRtbVU (o1 o2 : OD) (s : State) : Res :=
  runInstr (.xop 527 o1 o2) (bodySwpdcRtbVU o1 o2) s

/-- `SWPDC.RTB.V.UK` (R798). -/
def bodySwpdcRtbVUk (o1 o2 : OD) : Body :=
  sweepCache false 6 o1 o2
/-- `SWPDC.RTB.V.UK` executed at the PC. -/
def execSwpdcRtbVUk (o1 o2 : OD) (s : State) : Res :=
  runInstr (.xop 528 o1 o2) (bodySwpdcRtbVUk o1 o2) s

/-- `SWPDC.RTB.P.U` (R798). -/
def bodySwpdcRtbPU (o1 o2 : OD) : Body :=
  sweepCache true 6 o1 o2
/-- `SWPDC.RTB.P.U` executed at the PC. -/
def execSwpdcRtbPU (o1 o2 : OD) (s : State) : Res :=
  runInstr (.xop 529 o1 o2) (bodySwpdcRtbPU o1 o2) s

/-- `SWPDC.RTB.P.UK` (R798). -/
def bodySwpdcRtbPUk (o1 o2 : OD) : Body :=
  sweepCache true 6 o1 o2
/-- `SWPDC.RTB.P.UK` executed at the PC. -/
def execSwpdcRtbPUk (o1 o2 : OD) (s : State) : Res :=
  runInstr (.xop 530 o1 o2) (bodySwpdcRtbPUk o1 o2) s

/-! ### `SWPIM` (R800): sweep a page map -/

/-- `SWPIM.E` (R800). -/
def bodySwpimE (o1 o2 : OD) : Body :=
  sweepMap o1 o2
/-- `SWPIM.E` executed at the PC. -/
def execSwpimE (o1 o2 : OD) (s : State) : Res :=
  runInstr (.xop 531 o1 o2) (bodySwpimE o1 o2) s

/-- `SWPIM.U` (R800). -/
def bodySwpimU (o1 o2 : OD) : Body :=
  sweepMap o1 o2
/-- `SWPIM.U` executed at the PC. -/
def execSwpimU (o1 o2 : OD) (s : State) : Res :=
  runInstr (.xop 532 o1 o2) (bodySwpimU o1 o2) s

/-! ### `SWPDM` (R802): sweep a page map -/

/-- `SWPDM.E` (R802). -/
def bodySwpdmE (o1 o2 : OD) : Body :=
  sweepMap o1 o2
/-- `SWPDM.E` executed at the PC. -/
def execSwpdmE (o1 o2 : OD) (s : State) : Res :=
  runInstr (.xop 533 o1 o2) (bodySwpdmE o1 o2) s

/-- `SWPDM.U` (R802). -/
def bodySwpdmU (o1 o2 : OD) : Body :=
  sweepMap o1 o2
/-- `SWPDM.U` executed at the PC. -/
def execSwpdmU (o1 o2 : OD) (s : State) : Res :=
  runInstr (.xop 534 o1 o2) (bodySwpdmU o1 o2) s

/-! ### `WUPJMP` (R806): write the user segment registers and jump -/

/-- `WUPJMP` (R806). -/
def bodyWupjmp (o1 : OD) (j : JDest) : Body :=
  writeSegment State.setUserSegment o1 j
/-- `WUPJMP` executed at the PC. -/
def execWupjmp (o1 : OD) (j : JDest) (s : State) : Res :=
  runInstr (.jop 68 o1 j) (bodyWupjmp o1 j) s

/-! ### `WEPJMP` (R808): write the executive segment registers and jump -/

/-- `WEPJMP` (R808). -/
def bodyWepjmp (o1 : OD) (j : JDest) : Body :=
  writeSegment State.setExecSegment o1 j
/-- `WEPJMP` executed at the PC. -/
def execWepjmp (o1 : OD) (j : JDest) (s : State) : Res :=
  runInstr (.jop 69 o1 j) (bodyWepjmp o1 j) s

/-! ### `RIEN` (R814): OP1 <- INTUPT_ENB[OP2] -/

/-- `RIEN` (R814). -/
def bodyRien (o1 o2 : OD) : Body :=
  storePart true .s readEnb o1 o2
/-- `RIEN` executed at the PC. -/
def execRien (o1 o2 : OD) (s : State) : Res :=
  runInstr (.xop 535 o1 o2) (bodyRien o1 o2) s

/-! ### `WIEN` (R815): INTUPT_ENB[OP1] <- OP2 -/

/-- `WIEN` (R815). -/
def bodyWien (o1 o2 : OD) : Body :=
  loadPart true .s writeEnb o1 o2
/-- `WIEN` executed at the PC. -/
def execWien (o1 o2 : OD) (s : State) : Res :=
  runInstr (.xop 536 o1 o2) (bodyWien o1 o2) s

/-! ### `SIEN` (R816): set bits of INTUPT_ENB[OP1] -/

/-- `SIEN` (R816). -/
def bodySien (o1 o2 : OD) : Body :=
  loadPart false .s setEnbBits o1 o2
/-- `SIEN` executed at the PC. -/
def execSien (o1 o2 : OD) (s : State) : Res :=
  runInstr (.xop 537 o1 o2) (bodySien o1 o2) s

/-! ### `CIEN` (R817): clear bits of INTUPT_ENB[OP1] -/

/-- `CIEN` (R817). -/
def bodyCien (o1 o2 : OD) : Body :=
  loadPart false .s clearEnbBits o1 o2
/-- `CIEN` executed at the PC. -/
def execCien (o1 o2 : OD) (s : State) : Res :=
  runInstr (.xop 538 o1 o2) (bodyCien o1 o2) s

/-! ### `RIPND` (R820): OP1 <- INTUPT_PEND[OP2] -/

/-- `RIPND` (R820). -/
def bodyRipnd (o1 o2 : OD) : Body :=
  storePart false .s readPend o1 o2
/-- `RIPND` executed at the PC. -/
def execRipnd (o1 o2 : OD) (s : State) : Res :=
  runInstr (.xop 539 o1 o2) (bodyRipnd o1 o2) s

/-! ### `WIPND` (R821): INTUPT_PEND[OP1] <- OP2 -/

/-- `WIPND` (R821). -/
def bodyWipnd (o1 o2 : OD) : Body :=
  loadPart false .s writePend o1 o2
/-- `WIPND` executed at the PC. -/
def execWipnd (o1 o2 : OD) (s : State) : Res :=
  runInstr (.xop 540 o1 o2) (bodyWipnd o1 o2) s

/-! ### `SIPND` (R822): set bits of INTUPT_PEND[OP1] -/

/-- `SIPND` (R822). -/
def bodySipnd (o1 o2 : OD) : Body :=
  loadPart false .s setPendBits o1 o2
/-- `SIPND` executed at the PC. -/
def execSipnd (o1 o2 : OD) (s : State) : Res :=
  runInstr (.xop 541 o1 o2) (bodySipnd o1 o2) s

/-! ### `CIPND` (R823): clear bits of INTUPT_PEND[OP1] -/

/-- `CIPND` (R823). -/
def bodyCipnd (o1 o2 : OD) : Body :=
  loadPart false .s clearPendBits o1 o2
/-- `CIPND` executed at the PC. -/
def execCipnd (o1 o2 : OD) (s : State) : Res :=
  runInstr (.xop 542 o1 o2) (bodyCipnd o1 o2) s

/-! ### `RIPAR` (R826): OP1 <- INTUPT_PARM[OP2] -/

/-- `RIPAR` (R826). -/
def bodyRipar (o1 o2 : OD) : Body :=
  storePart false .s readParm o1 o2
/-- `RIPAR` executed at the PC. -/
def execRipar (o1 o2 : OD) (s : State) : Res :=
  runInstr (.xop 543 o1 o2) (bodyRipar o1 o2) s

/-! ### `WIPAR` (R827): INTUPT_PARM[OP1] <- OP2 -/

/-- `WIPAR` (R827). -/
def bodyWipar (o1 o2 : OD) : Body :=
  loadPart false .s writeParm o1 o2
/-- `WIPAR` executed at the PC. -/
def execWipar (o1 o2 : OD) (s : State) : Res :=
  runInstr (.xop 544 o1 o2) (bodyWipar o1 o2) s

/-! ### `BLKIOR` (R840): read an I/O buffer -/

/-- `BLKIOR.RTA.B` (R840). -/
def bodyBlkiorRtaB (o1 o2 : OD) : Body :=
  ioRead 4 .b o1 o2
/-- `BLKIOR.RTA.B` executed at the PC. -/
def execBlkiorRtaB (o1 o2 : OD) (s : State) : Res :=
  runInstr (.xop 545 o1 o2) (bodyBlkiorRtaB o1 o2) s

/-- `BLKIOR.RTA.Q` (R840). -/
def bodyBlkiorRtaQ (o1 o2 : OD) : Body :=
  ioRead 4 .q o1 o2
/-- `BLKIOR.RTA.Q` executed at the PC. -/
def execBlkiorRtaQ (o1 o2 : OD) (s : State) : Res :=
  runInstr (.xop 546 o1 o2) (bodyBlkiorRtaQ o1 o2) s

/-- `BLKIOR.RTA.H` (R840). -/
def bodyBlkiorRtaH (o1 o2 : OD) : Body :=
  ioRead 4 .h o1 o2
/-- `BLKIOR.RTA.H` executed at the PC. -/
def execBlkiorRtaH (o1 o2 : OD) (s : State) : Res :=
  runInstr (.xop 547 o1 o2) (bodyBlkiorRtaH o1 o2) s

/-- `BLKIOR.RTA.S` (R840). -/
def bodyBlkiorRtaS (o1 o2 : OD) : Body :=
  ioRead 4 .s o1 o2
/-- `BLKIOR.RTA.S` executed at the PC. -/
def execBlkiorRtaS (o1 o2 : OD) (s : State) : Res :=
  runInstr (.xop 548 o1 o2) (bodyBlkiorRtaS o1 o2) s

/-- `BLKIOR.RTB.B` (R840). -/
def bodyBlkiorRtbB (o1 o2 : OD) : Body :=
  ioRead 6 .b o1 o2
/-- `BLKIOR.RTB.B` executed at the PC. -/
def execBlkiorRtbB (o1 o2 : OD) (s : State) : Res :=
  runInstr (.xop 549 o1 o2) (bodyBlkiorRtbB o1 o2) s

/-- `BLKIOR.RTB.Q` (R840). -/
def bodyBlkiorRtbQ (o1 o2 : OD) : Body :=
  ioRead 6 .q o1 o2
/-- `BLKIOR.RTB.Q` executed at the PC. -/
def execBlkiorRtbQ (o1 o2 : OD) (s : State) : Res :=
  runInstr (.xop 550 o1 o2) (bodyBlkiorRtbQ o1 o2) s

/-- `BLKIOR.RTB.H` (R840). -/
def bodyBlkiorRtbH (o1 o2 : OD) : Body :=
  ioRead 6 .h o1 o2
/-- `BLKIOR.RTB.H` executed at the PC. -/
def execBlkiorRtbH (o1 o2 : OD) (s : State) : Res :=
  runInstr (.xop 551 o1 o2) (bodyBlkiorRtbH o1 o2) s

/-- `BLKIOR.RTB.S` (R840). -/
def bodyBlkiorRtbS (o1 o2 : OD) : Body :=
  ioRead 6 .s o1 o2
/-- `BLKIOR.RTB.S` executed at the PC. -/
def execBlkiorRtbS (o1 o2 : OD) (s : State) : Res :=
  runInstr (.xop 552 o1 o2) (bodyBlkiorRtbS o1 o2) s

/-! ### `BLKIOW` (R842): write an I/O buffer -/

/-- `BLKIOW.RTA.B` (R842). -/
def bodyBlkiowRtaB (o1 o2 : OD) : Body :=
  ioWrite 4 .b o1 o2
/-- `BLKIOW.RTA.B` executed at the PC. -/
def execBlkiowRtaB (o1 o2 : OD) (s : State) : Res :=
  runInstr (.xop 553 o1 o2) (bodyBlkiowRtaB o1 o2) s

/-- `BLKIOW.RTA.Q` (R842). -/
def bodyBlkiowRtaQ (o1 o2 : OD) : Body :=
  ioWrite 4 .q o1 o2
/-- `BLKIOW.RTA.Q` executed at the PC. -/
def execBlkiowRtaQ (o1 o2 : OD) (s : State) : Res :=
  runInstr (.xop 554 o1 o2) (bodyBlkiowRtaQ o1 o2) s

/-- `BLKIOW.RTA.H` (R842). -/
def bodyBlkiowRtaH (o1 o2 : OD) : Body :=
  ioWrite 4 .h o1 o2
/-- `BLKIOW.RTA.H` executed at the PC. -/
def execBlkiowRtaH (o1 o2 : OD) (s : State) : Res :=
  runInstr (.xop 555 o1 o2) (bodyBlkiowRtaH o1 o2) s

/-- `BLKIOW.RTA.S` (R842). -/
def bodyBlkiowRtaS (o1 o2 : OD) : Body :=
  ioWrite 4 .s o1 o2
/-- `BLKIOW.RTA.S` executed at the PC. -/
def execBlkiowRtaS (o1 o2 : OD) (s : State) : Res :=
  runInstr (.xop 556 o1 o2) (bodyBlkiowRtaS o1 o2) s

/-- `BLKIOW.RTB.B` (R842). -/
def bodyBlkiowRtbB (o1 o2 : OD) : Body :=
  ioWrite 6 .b o1 o2
/-- `BLKIOW.RTB.B` executed at the PC. -/
def execBlkiowRtbB (o1 o2 : OD) (s : State) : Res :=
  runInstr (.xop 557 o1 o2) (bodyBlkiowRtbB o1 o2) s

/-- `BLKIOW.RTB.Q` (R842). -/
def bodyBlkiowRtbQ (o1 o2 : OD) : Body :=
  ioWrite 6 .q o1 o2
/-- `BLKIOW.RTB.Q` executed at the PC. -/
def execBlkiowRtbQ (o1 o2 : OD) (s : State) : Res :=
  runInstr (.xop 558 o1 o2) (bodyBlkiowRtbQ o1 o2) s

/-- `BLKIOW.RTB.H` (R842). -/
def bodyBlkiowRtbH (o1 o2 : OD) : Body :=
  ioWrite 6 .h o1 o2
/-- `BLKIOW.RTB.H` executed at the PC. -/
def execBlkiowRtbH (o1 o2 : OD) (s : State) : Res :=
  runInstr (.xop 559 o1 o2) (bodyBlkiowRtbH o1 o2) s

/-- `BLKIOW.RTB.S` (R842). -/
def bodyBlkiowRtbS (o1 o2 : OD) : Body :=
  ioWrite 6 .s o1 o2
/-- `BLKIOW.RTB.S` executed at the PC. -/
def execBlkiowRtbS (o1 o2 : OD) (s : State) : Res :=
  runInstr (.xop 560 o1 o2) (bodyBlkiowRtbS o1 o2) s

/-! ### `INTIOP` (R844): interrupt an I/O processor -/

/-- `INTIOP` (R844). -/
def bodyIntiop (o1 o2 : OD) : Body :=
  interruptIop o1 o2
/-- `INTIOP` executed at the PC. -/
def execIntiop (o1 o2 : OD) (s : State) : Res :=
  runInstr (.xop 561 o1 o2) (bodyIntiop o1 o2) s

/-! ### `RCTR` (R850): OP1 <- CTR[OP2] -/

/-- `RCTR` (R850). -/
def bodyRctr (o1 o2 : OD) : Body :=
  storePart false .d readCounter o1 o2
/-- `RCTR` executed at the PC. -/
def execRctr (o1 o2 : OD) (s : State) : Res :=
  runInstr (.xop 562 o1 o2) (bodyRctr o1 o2) s

/-! ### `WCTR` (R851): CTR[OP1] <- OP2 -/

/-- `WCTR` (R851). -/
def bodyWctr (o1 o2 : OD) : Body :=
  loadPart true .d writeCounter o1 o2
/-- `WCTR` executed at the PC. -/
def execWctr (o1 o2 : OD) (s : State) : Res :=
  runInstr (.xop 563 o1 o2) (bodyWctr o1 o2) s

/-! ### `RECTR` (R852): OP1 <- CTR_ENB[OP2] -/

/-- `RECTR` (R852). -/
def bodyRectr (o1 o2 : OD) : Body :=
  storePart true .d readCounterEnb o1 o2
/-- `RECTR` executed at the PC. -/
def execRectr (o1 o2 : OD) (s : State) : Res :=
  runInstr (.xop 564 o1 o2) (bodyRectr o1 o2) s

/-! ### `WECTR` (R853): CTR_ENB[OP1] <- OP2 -/

/-- `WECTR` (R853). -/
def bodyWectr (o1 o2 : OD) : Body :=
  loadPart true .d writeCounterEnb o1 o2
/-- `WECTR` executed at the PC. -/
def execWectr (o1 o2 : OD) (s : State) : Res :=
  runInstr (.xop 565 o1 o2) (bodyWectr o1 o2) s

/-! ### `NOP` (R856): no operation -/

/-- `NOP` (R856). -/
def bodyNop (o1 o2 : OD) : Body :=
  noOperation o1 o2
/-- `NOP` executed at the PC. -/
def execNop (o1 o2 : OD) (s : State) : Res :=
  runInstr (.xop 566 o1 o2) (bodyNop o1 o2) s

/-! ### `XCT` (R862): execute the instruction OP1 -/

/-! ### `RMW` (R860): DEST <- S2; S2 <- S1 -/

/-- `RMW` (R860). -/
def bodyRmw (t : TMode) (o1 o2 : OD) : Body :=
  readModifyWrite t o1 o2
/-- `RMW` executed at the PC. -/
def execRmw (t : TMode) (o1 o2 : OD) (s : State) : Res :=
  runInstr (.top 327 t o1 o2) (bodyRmw t o1 o2) s

/-! ### `WAIT` (R864): wait for an interrupt -/

/-- `WAIT` (R864). -/
def bodyWait (o1 o2 : OD) : Body :=
  waitInterrupt o1 o2
/-- `WAIT` executed at the PC. -/
def execWait (o1 o2 : OD) (s : State) : Res :=
  runInstr (.xop 568 o1 o2) (bodyWait o1 o2) s

/-! ### `HALT` (R866): halt -/

/-- `HALT` (R866). -/
def bodyHalt (o1 : OD) (j : JDest) : Body :=
  haltAt o1 j
/-- `HALT` executed at the PC. -/
def execHalt (o1 : OD) (j : JDest) (s : State) : Res :=
  runInstr (.jop 70 o1 j) (bodyHalt o1 j) s

end Sys2Proof.Machine
end

