-- ==== Sys2Proof/Machine/Perform.lean ====
section
/-! DEFINITION. The bodies of the instructions in the order of the opcode map, for `XCT`: the executed instruction runs
inside the step of the `XCT` (R862, R863). An `XCT` met in a chain is handed to `xct`. -/

namespace Sys2Proof.Machine

/-- The bodies of XOP numbers 0 to 39. -/
def xopBodies0 : List (OD → OD → Body) := [
  bodyIncQ, bodyIncH, bodyIncS, bodyIncD, bodyDecQ, bodyDecH, bodyDecS, bodyDecD, bodyTransQQ, bodyTransQH,
  bodyTransQS, bodyTransQD, bodyTransHQ, bodyTransHH, bodyTransHS, bodyTransHD, bodyTransSQ, bodyTransSH,
  bodyTransSS, bodyTransSD, bodyTransDQ, bodyTransDH, bodyTransDS, bodyTransDD, bodyNegQ, bodyNegH, bodyNegS,
  bodyNegD, bodyAbsQ, bodyAbsH, bodyAbsS, bodyAbsD, bodyFixFlQH, bodyFixFlQS, bodyFixFlQD, bodyFixFlHH, bodyFixFlHS,
  bodyFixFlHD, bodyFixFlSH, bodyFixFlSS]

/-- The bodies of XOP numbers 40 to 79. -/
def xopBodies1 : List (OD → OD → Body) := [
  bodyFixFlSD, bodyFixFlDH, bodyFixFlDS, bodyFixFlDD, bodyFixClQH, bodyFixClQS, bodyFixClQD, bodyFixClHH,
  bodyFixClHS, bodyFixClHD, bodyFixClSH, bodyFixClSS, bodyFixClSD, bodyFixClDH, bodyFixClDS, bodyFixClDD,
  bodyFixDmQH, bodyFixDmQS, bodyFixDmQD, bodyFixDmHH, bodyFixDmHS, bodyFixDmHD, bodyFixDmSH, bodyFixDmSS,
  bodyFixDmSD, bodyFixDmDH, bodyFixDmDS, bodyFixDmDD, bodyFixHpQH, bodyFixHpQS, bodyFixHpQD, bodyFixHpHH,
  bodyFixHpHS, bodyFixHpHD, bodyFixHpSH, bodyFixHpSS, bodyFixHpSD, bodyFixHpDH, bodyFixHpDS, bodyFixHpDD]

/-- The bodies of XOP numbers 80 to 119. -/
def xopBodies2 : List (OD → OD → Body) := [
  bodyFixUsQH, bodyFixUsQS, bodyFixUsQD, bodyFixUsHH, bodyFixUsHS, bodyFixUsHD, bodyFixUsSH, bodyFixUsSS,
  bodyFixUsSD, bodyFixUsDH, bodyFixUsDS, bodyFixUsDD, bodyFloatHQ, bodyFloatHH, bodyFloatHS, bodyFloatHD,
  bodyFloatSQ, bodyFloatSH, bodyFloatSS, bodyFloatSD, bodyFloatDQ, bodyFloatDH, bodyFloatDS, bodyFloatDD,
  bodyFtransHH, bodyFtransHS, bodyFtransHD, bodyFtransSH, bodyFtransSS, bodyFtransSD, bodyFtransDH, bodyFtransDS,
  bodyFtransDD, bodyFnegH, bodyFnegS, bodyFnegD, bodyFabsH, bodyFabsS, bodyFabsD, bodyMovQQ]

/-- The bodies of XOP numbers 120 to 159. -/
def xopBodies3 : List (OD → OD → Body) := [
  bodyMovQH, bodyMovQS, bodyMovQD, bodyMovHQ, bodyMovHH, bodyMovHS, bodyMovHD, bodyMovSQ, bodyMovSH, bodyMovSS,
  bodyMovSD, bodyMovDQ, bodyMovDH, bodyMovDS, bodyMovDD, bodyMovmq2, bodyMovmq3, bodyMovmq4, bodyMovmq5, bodyMovmq6,
  bodyMovmq7, bodyMovmq8, bodyMovmq9, bodyMovmq10, bodyMovmq11, bodyMovmq12, bodyMovmq13, bodyMovmq14, bodyMovmq15,
  bodyMovmq16, bodyMovmq17, bodyMovmq18, bodyMovmq19, bodyMovmq20, bodyMovmq21, bodyMovmq22, bodyMovmq23,
  bodyMovmq24, bodyMovmq25, bodyMovmq26]

/-- The bodies of XOP numbers 160 to 199. -/
def xopBodies4 : List (OD → OD → Body) := [
  bodyMovmq27, bodyMovmq28, bodyMovmq29, bodyMovmq30, bodyMovmq31, bodyMovmq32, bodyMovmq64, bodyMovmq128,
  bodyMovms2, bodyMovms3, bodyMovms4, bodyMovms5, bodyMovms6, bodyMovms7, bodyMovms8, bodyMovms9, bodyMovms10,
  bodyMovms11, bodyMovms12, bodyMovms13, bodyMovms14, bodyMovms15, bodyMovms16, bodyMovms17, bodyMovms18,
  bodyMovms19, bodyMovms20, bodyMovms21, bodyMovms22, bodyMovms23, bodyMovms24, bodyMovms25, bodyMovms26,
  bodyMovms27, bodyMovms28, bodyMovms29, bodyMovms30, bodyMovms31, bodyMovms32, bodyExchQ]

/-- The bodies of XOP numbers 200 to 239. -/
def xopBodies5 : List (OD → OD → Body) := [
  bodyExchH, bodyExchS, bodyExchD, bodySlr0, bodySlr1, bodySlr2, bodySlr3, bodySlr4, bodySlr5, bodySlr6, bodySlr7,
  bodySlr8, bodySlr9, bodySlr10, bodySlr11, bodySlr12, bodySlr13, bodySlr14, bodySlr15, bodySlr16, bodySlr17,
  bodySlr18, bodySlr19, bodySlr20, bodySlr21, bodySlr22, bodySlr23, bodySlr24, bodySlr25, bodySlr26, bodySlr27,
  bodySlr28, bodySlr29, bodySlr30, bodySlr31, bodySlradr0, bodySlradr1, bodySlradr2, bodySlradr3, bodySlradr4]

/-- The bodies of XOP numbers 240 to 279. -/
def xopBodies6 : List (OD → OD → Body) := [
  bodySlradr5, bodySlradr6, bodySlradr7, bodySlradr8, bodySlradr9, bodySlradr10, bodySlradr11, bodySlradr12,
  bodySlradr13, bodySlradr14, bodySlradr15, bodySlradr16, bodySlradr17, bodySlradr18, bodySlradr19, bodySlradr20,
  bodySlradr21, bodySlradr22, bodySlradr23, bodySlradr24, bodySlradr25, bodySlradr26, bodySlradr27, bodySlradr28,
  bodySlradr29, bodySlradr30, bodySlradr31, bodyMovadr, bodyMovphy, bodyNotQ, bodyNotH, bodyNotS, bodyNotD,
  bodyBndtrpBQ, bodyBndtrpBH, bodyBndtrpBS, bodyBndtrpBD, bodyBndtrpMinQ, bodyBndtrpMinH, bodyBndtrpMinS]

/-- The bodies of XOP numbers 280 to 319. -/
def xopBodies7 : List (OD → OD → Body) := [
  bodyBndtrpMinD, bodyBndtrpM1Q, bodyBndtrpM1H, bodyBndtrpM1S, bodyBndtrpM1D, bodyBndtrp0Q, bodyBndtrp0H,
  bodyBndtrp0S, bodyBndtrp0D, bodyBndtrp1Q, bodyBndtrp1H, bodyBndtrp1S, bodyBndtrp1D, bodyJcr, bodyAlloc1,
  bodyAlloc2, bodyAlloc3, bodyAlloc4, bodyAlloc5, bodyAlloc6, bodyAlloc7, bodyAlloc8, bodyAlloc9, bodyAlloc10,
  bodyAlloc11, bodyAlloc12, bodyAlloc13, bodyAlloc14, bodyAlloc15, bodyAlloc16, bodyAlloc17, bodyAlloc18,
  bodyAlloc19, bodyAlloc20, bodyAlloc21, bodyAlloc22, bodyAlloc23, bodyAlloc24, bodyAlloc25, bodyAlloc26]

/-- The bodies of XOP numbers 320 to 359. -/
def xopBodies8 : List (OD → OD → Body) := [
  bodyAlloc27, bodyAlloc28, bodyAlloc29, bodyAlloc30, bodyAlloc31, bodyAlloc32, bodyRetsr, bodyRet, bodyRetus,
  bodyRetfs, bodyTrpslf0, bodyTrpslf1, bodyTrpslf2, bodyTrpslf3, bodyTrpslf4, bodyTrpslf5, bodyTrpslf6, bodyTrpslf7,
  bodyTrpslf8, bodyTrpslf9, bodyTrpslf10, bodyTrpslf11, bodyTrpslf12, bodyTrpslf13, bodyTrpslf14, bodyTrpslf15,
  bodyTrpslf16, bodyTrpslf17, bodyTrpslf18, bodyTrpslf19, bodyTrpslf20, bodyTrpslf21, bodyTrpslf22, bodyTrpslf23,
  bodyTrpslf24, bodyTrpslf25, bodyTrpslf26, bodyTrpslf27, bodyTrpslf28, bodyTrpslf29]

/-- The bodies of XOP numbers 360 to 399. -/
def xopBodies9 : List (OD → OD → Body) := [
  bodyTrpslf30, bodyTrpslf31, bodyTrpslf32, bodyTrpslf33, bodyTrpslf34, bodyTrpslf35, bodyTrpslf36, bodyTrpslf37,
  bodyTrpslf38, bodyTrpslf39, bodyTrpslf40, bodyTrpslf41, bodyTrpslf42, bodyTrpslf43, bodyTrpslf44, bodyTrpslf45,
  bodyTrpslf46, bodyTrpslf47, bodyTrpslf48, bodyTrpslf49, bodyTrpslf50, bodyTrpslf51, bodyTrpslf52, bodyTrpslf53,
  bodyTrpslf54, bodyTrpslf55, bodyTrpslf56, bodyTrpslf57, bodyTrpslf58, bodyTrpslf59, bodyTrpslf60, bodyTrpslf61,
  bodyTrpslf62, bodyTrpslf63, bodyTrpexe0, bodyTrpexe1, bodyTrpexe2, bodyTrpexe3, bodyTrpexe4, bodyTrpexe5]

/-- The bodies of XOP numbers 400 to 439. -/
def xopBodies10 : List (OD → OD → Body) := [
  bodyTrpexe6, bodyTrpexe7, bodyTrpexe8, bodyTrpexe9, bodyTrpexe10, bodyTrpexe11, bodyTrpexe12, bodyTrpexe13,
  bodyTrpexe14, bodyTrpexe15, bodyTrpexe16, bodyTrpexe17, bodyTrpexe18, bodyTrpexe19, bodyTrpexe20, bodyTrpexe21,
  bodyTrpexe22, bodyTrpexe23, bodyTrpexe24, bodyTrpexe25, bodyTrpexe26, bodyTrpexe27, bodyTrpexe28, bodyTrpexe29,
  bodyTrpexe30, bodyTrpexe31, bodyTrpexe32, bodyTrpexe33, bodyTrpexe34, bodyTrpexe35, bodyTrpexe36, bodyTrpexe37,
  bodyTrpexe38, bodyTrpexe39, bodyTrpexe40, bodyTrpexe41, bodyTrpexe42, bodyTrpexe43, bodyTrpexe44, bodyTrpexe45]

/-- The bodies of XOP numbers 440 to 479. -/
def xopBodies11 : List (OD → OD → Body) := [
  bodyTrpexe46, bodyTrpexe47, bodyTrpexe48, bodyTrpexe49, bodyTrpexe50, bodyTrpexe51, bodyTrpexe52, bodyTrpexe53,
  bodyTrpexe54, bodyTrpexe55, bodyTrpexe56, bodyTrpexe57, bodyTrpexe58, bodyTrpexe59, bodyTrpexe60, bodyTrpexe61,
  bodyTrpexe62, bodyTrpexe63, bodyAdjspUp, bodyAdjspDn, bodyPushUpQ, bodyPushUpH, bodyPushUpS, bodyPushUpD,
  bodyPushDnQ, bodyPushDnH, bodyPushDnS, bodyPushDnD, bodyPopUpQ, bodyPopUpH, bodyPopUpS, bodyPopUpD, bodyPopDnQ,
  bodyPopDnH, bodyPopDnS, bodyPopDnD, bodyLbytS, bodyLbytD, bodyLsbytS, bodyLsbytD]

/-- The bodies of XOP numbers 480 to 519. -/
def xopBodies12 : List (OD → OD → Body) := [
  bodyDbytS, bodyDbytD, bodyBitcntQ, bodyBitcntH, bodyBitcntS, bodyBitcntD, bodyBitfstQ, bodyBitfstH, bodyBitfstS,
  bodyBitfstD, bodyStrcmpRta, bodyStrcmpRtb, bodyBlkmovRta, bodyBlkmovRtb, bodyBlkiniRtaQ, bodyBlkiniRtaH,
  bodyBlkiniRtaS, bodyBlkiniRtaD, bodyBlkiniRtbQ, bodyBlkiniRtbH, bodyBlkiniRtbS, bodyBlkiniRtbD, bodyBlkidRta,
  bodyBlkidRtb, bodyBlkdiRta, bodyBlkdiRtb, bodyRus, bodySetus, bodyClrus, bodyRspid, bodyWspid, bodyRrndmd,
  bodyWrndmd, bodyRps, bodyRcfile, bodyWcfile, bodyRpfile, bodyWpfile, bodyRpid, bodySwpicRtaV]

/-- The bodies of XOP numbers 520 to 559. -/
def xopBodies13 : List (OD → OD → Body) := [
  bodySwpicRtaP, bodySwpicRtbV, bodySwpicRtbP, bodySwpdcRtaVU, bodySwpdcRtaVUk, bodySwpdcRtaPU, bodySwpdcRtaPUk,
  bodySwpdcRtbVU, bodySwpdcRtbVUk, bodySwpdcRtbPU, bodySwpdcRtbPUk, bodySwpimE, bodySwpimU, bodySwpdmE, bodySwpdmU,
  bodyRien, bodyWien, bodySien, bodyCien, bodyRipnd, bodyWipnd, bodySipnd, bodyCipnd, bodyRipar, bodyWipar,
  bodyBlkiorRtaB, bodyBlkiorRtaQ, bodyBlkiorRtaH, bodyBlkiorRtaS, bodyBlkiorRtbB, bodyBlkiorRtbQ, bodyBlkiorRtbH,
  bodyBlkiorRtbS, bodyBlkiowRtaB, bodyBlkiowRtaQ, bodyBlkiowRtaH, bodyBlkiowRtaS, bodyBlkiowRtbB, bodyBlkiowRtbQ,
  bodyBlkiowRtbH]

/-- The bodies of XOP numbers 560 to 568. -/
def xopBodies14 (xct : OD → OD → Body) : List (OD → OD → Body) := [
  bodyBlkiowRtbS, bodyIntiop, bodyRctr, bodyWctr, bodyRectr, bodyWectr, bodyNop, xct, bodyWait]

/-- The bodies of the XOP instructions in the order of the opcode map, in blocks of 40. -/
def xopBodies (xct : OD → OD → Body) : List (List (OD → OD → Body)) := [
  xopBodies0, xopBodies1, xopBodies2, xopBodies3, xopBodies4, xopBodies5, xopBodies6, xopBodies7, xopBodies8,
  xopBodies9, xopBodies10, xopBodies11, xopBodies12, xopBodies13, xopBodies14 xct]

/-- The bodies of JOP numbers 0 to 39. -/
def jopBodies0 : List (OD → JDest → Body) := [
  bodyJmpGtr, bodyJmpEql, bodyJmpGeq, bodyJmpLss, bodyJmpNeq, bodyJmpLeq, bodyJmpzGtrQ, bodyJmpzGtrH, bodyJmpzGtrS,
  bodyJmpzGtrD, bodyJmpzEqlQ, bodyJmpzEqlH, bodyJmpzEqlS, bodyJmpzEqlD, bodyJmpzGeqQ, bodyJmpzGeqH, bodyJmpzGeqS,
  bodyJmpzGeqD, bodyJmpzLssQ, bodyJmpzLssH, bodyJmpzLssS, bodyJmpzLssD, bodyJmpzNeqQ, bodyJmpzNeqH, bodyJmpzNeqS,
  bodyJmpzNeqD, bodyJmpzLeqQ, bodyJmpzLeqH, bodyJmpzLeqS, bodyJmpzLeqD, bodyJmpa, bodyIjmpGtr, bodyIjmpEql,
  bodyIjmpGeq, bodyIjmpLss, bodyIjmpNeq, bodyIjmpLeq, bodyIjmpzGtr, bodyIjmpzEql, bodyIjmpzGeq]

/-- The bodies of JOP numbers 40 to 70. -/
def jopBodies1 : List (OD → JDest → Body) := [
  bodyIjmpzLss, bodyIjmpzNeq, bodyIjmpzLeq, bodyIjmpa, bodyDjmpGtr, bodyDjmpEql, bodyDjmpGeq, bodyDjmpLss,
  bodyDjmpNeq, bodyDjmpLeq, bodyDjmpzGtr, bodyDjmpzEql, bodyDjmpzGeq, bodyDjmpzLss, bodyDjmpzNeq, bodyDjmpzLeq,
  bodyDjmpa, bodyJsr, bodyJusclrNon, bodyJusclrAll, bodyJusclrNal, bodyJusclrAny, bodyJusNon, bodyJusAll,
  bodyJusNal, bodyJusAny, bodyWusjmp, bodyWfsjmp, bodyWupjmp, bodyWepjmp, bodyHalt]

/-- The bodies of the JOP instructions in the order of the opcode map, in blocks of 40. -/
def jopBodies : List (List (OD → JDest → Body)) := [
  jopBodies0, jopBodies1]

/-- The bodies of SOP numbers 0 to 39. -/
def sopBodies0 : List (BitVec 4 → OD → OD → Body) := [
  bodySkpGtrQ, bodySkpGtrH, bodySkpGtrS, bodySkpGtrD, bodySkpEqlQ, bodySkpEqlH, bodySkpEqlS, bodySkpEqlD,
  bodySkpGeqQ, bodySkpGeqH, bodySkpGeqS, bodySkpGeqD, bodySkpLssQ, bodySkpLssH, bodySkpLssS, bodySkpLssD,
  bodySkpNeqQ, bodySkpNeqH, bodySkpNeqS, bodySkpNeqD, bodySkpLeqQ, bodySkpLeqH, bodySkpLeqS, bodySkpLeqD,
  bodySkpNonQ, bodySkpNonH, bodySkpNonS, bodySkpNonD, bodySkpAllQ, bodySkpAllH, bodySkpAllS, bodySkpAllD,
  bodySkpNalQ, bodySkpNalH, bodySkpNalS, bodySkpNalD, bodySkpAnyQ, bodySkpAnyH, bodySkpAnyS, bodySkpAnyD]

/-- The bodies of SOP numbers 40 to 51. -/
def sopBodies1 : List (BitVec 4 → OD → OD → Body) := [
  bodyIskpGtr, bodyIskpEql, bodyIskpGeq, bodyIskpLss, bodyIskpNeq, bodyIskpLeq, bodyDskpGtr, bodyDskpEql,
  bodyDskpGeq, bodyDskpLss, bodyDskpNeq, bodyDskpLeq]

/-- The bodies of the SOP instructions in the order of the opcode map, in blocks of 40. -/
def sopBodies : List (List (BitVec 4 → OD → OD → Body)) := [
  sopBodies0, sopBodies1]

/-- The bodies of TOP numbers 0 to 39. -/
def topBodies0 : List (TMode → OD → OD → Body) := [
  bodyAddQ, bodyAddH, bodyAddS, bodyAddD, bodyAddcQ, bodyAddcH, bodyAddcS, bodyAddcD, bodySubQ, bodySubH, bodySubS,
  bodySubD, bodySubvQ, bodySubvH, bodySubvS, bodySubvD, bodySubcQ, bodySubcH, bodySubcS, bodySubcD, bodySubcvQ,
  bodySubcvH, bodySubcvS, bodySubcvD, bodyMultQ, bodyMultH, bodyMultS, bodyMultD, bodyMultlQ, bodyMultlH,
  bodyMultlS, bodyQuoQ, bodyQuoH, bodyQuoS, bodyQuoD, bodyQuovQ, bodyQuovH, bodyQuovS, bodyQuovD, bodyQuolQ]

/-- The bodies of TOP numbers 40 to 79. -/
def topBodies1 : List (TMode → OD → OD → Body) := [
  bodyQuolH, bodyQuolS, bodyQuolvQ, bodyQuolvH, bodyQuolvS, bodyQuo2Q, bodyQuo2H, bodyQuo2S, bodyQuo2D, bodyQuo2vQ,
  bodyQuo2vH, bodyQuo2vS, bodyQuo2vD, bodyQuo2lQ, bodyQuo2lH, bodyQuo2lS, bodyQuo2lvQ, bodyQuo2lvH, bodyQuo2lvS,
  bodyRemQ, bodyRemH, bodyRemS, bodyRemD, bodyRemvQ, bodyRemvH, bodyRemvS, bodyRemvD, bodyRemlQ, bodyRemlH,
  bodyRemlS, bodyRemlvQ, bodyRemlvH, bodyRemlvS, bodyModQ, bodyModH, bodyModS, bodyModD, bodyModvQ, bodyModvH,
  bodyModvS]

/-- The bodies of TOP numbers 80 to 119. -/
def topBodies2 : List (TMode → OD → OD → Body) := [
  bodyModvD, bodyModlQ, bodyModlH, bodyModlS, bodyModlvQ, bodyModlvH, bodyModlvS, bodyDivQ, bodyDivH, bodyDivS,
  bodyDivD, bodyDivvQ, bodyDivvH, bodyDivvS, bodyDivvD, bodyDivlQ, bodyDivlH, bodyDivlS, bodyDivlvQ, bodyDivlvH,
  bodyDivlvS, bodyMinQ, bodyMinH, bodyMinS, bodyMinD, bodyMaxQ, bodyMaxH, bodyMaxS, bodyMaxD, bodyUmultQ,
  bodyUmultH, bodyUmultS, bodyUmultD, bodyUmultlQ, bodyUmultlH, bodyUmultlS, bodyUdivQ, bodyUdivH, bodyUdivS,
  bodyUdivD]

/-- The bodies of TOP numbers 120 to 159. -/
def topBodies3 : List (TMode → OD → OD → Body) := [
  bodyUdivlQ, bodyUdivlH, bodyUdivlS, bodyFaddH, bodyFaddS, bodyFaddD, bodyFsubH, bodyFsubS, bodyFsubD, bodyFsubvH,
  bodyFsubvS, bodyFsubvD, bodyFmultH, bodyFmultS, bodyFmultD, bodyFmultlH, bodyFmultlS, bodyFdivH, bodyFdivS,
  bodyFdivD, bodyFdivvH, bodyFdivvS, bodyFdivvD, bodyFdivlH, bodyFdivlS, bodyFdivlvH, bodyFdivlvS, bodyFscH,
  bodyFscS, bodyFscD, bodyFscvH, bodyFscvS, bodyFscvD, bodyFminH, bodyFminS, bodyFminD, bodyFmaxH, bodyFmaxS,
  bodyFmaxD, bodyCmpsfGtrQ]

/-- The bodies of TOP numbers 160 to 199. -/
def topBodies4 : List (TMode → OD → OD → Body) := [
  bodyCmpsfGtrH, bodyCmpsfGtrS, bodyCmpsfGtrD, bodyCmpsfEqlQ, bodyCmpsfEqlH, bodyCmpsfEqlS, bodyCmpsfEqlD,
  bodyCmpsfGeqQ, bodyCmpsfGeqH, bodyCmpsfGeqS, bodyCmpsfGeqD, bodyCmpsfLssQ, bodyCmpsfLssH, bodyCmpsfLssS,
  bodyCmpsfLssD, bodyCmpsfNeqQ, bodyCmpsfNeqH, bodyCmpsfNeqS, bodyCmpsfNeqD, bodyCmpsfLeqQ, bodyCmpsfLeqH,
  bodyCmpsfLeqS, bodyCmpsfLeqD, bodyBndsfBQ, bodyBndsfBH, bodyBndsfBS, bodyBndsfBD, bodyBndsfMinQ, bodyBndsfMinH,
  bodyBndsfMinS, bodyBndsfMinD, bodyBndsfM1Q, bodyBndsfM1H, bodyBndsfM1S, bodyBndsfM1D, bodyBndsf0Q, bodyBndsf0H,
  bodyBndsf0S, bodyBndsf0D, bodyBndsf1Q]

/-- The bodies of TOP numbers 200 to 239. -/
def topBodies5 : List (TMode → OD → OD → Body) := [
  bodyBndsf1H, bodyBndsf1S, bodyBndsf1D, bodyAndQ, bodyAndH, bodyAndS, bodyAndD, bodyAndtcQ, bodyAndtcH, bodyAndtcS,
  bodyAndtcD, bodyAndctQ, bodyAndctH, bodyAndctS, bodyAndctD, bodyOrQ, bodyOrH, bodyOrS, bodyOrD, bodyOrtcQ,
  bodyOrtcH, bodyOrtcS, bodyOrtcD, bodyOrctQ, bodyOrctH, bodyOrctS, bodyOrctD, bodyNandQ, bodyNandH, bodyNandS,
  bodyNandD, bodyNorQ, bodyNorH, bodyNorS, bodyNorD, bodyXorQ, bodyXorH, bodyXorS, bodyXorD, bodyEqvQ]

/-- The bodies of TOP numbers 240 to 279. -/
def topBodies6 : List (TMode → OD → OD → Body) := [
  bodyEqvH, bodyEqvS, bodyEqvD, bodyShfLfQ, bodyShfLfH, bodyShfLfS, bodyShfLfD, bodyShfRtQ, bodyShfRtH, bodyShfRtS,
  bodyShfRtD, bodyShfvLfQ, bodyShfvLfH, bodyShfvLfS, bodyShfvLfD, bodyShfvRtQ, bodyShfvRtH, bodyShfvRtS,
  bodyShfvRtD, bodyDshfLfQ, bodyDshfLfH, bodyDshfLfS, bodyDshfRtQ, bodyDshfRtH, bodyDshfRtS, bodyDshfvLfQ,
  bodyDshfvLfH, bodyDshfvLfS, bodyDshfvRtQ, bodyDshfvRtH, bodyDshfvRtS, bodyShfaLfQ, bodyShfaLfH, bodyShfaLfS,
  bodyShfaLfD, bodyShfaRtQ, bodyShfaRtH, bodyShfaRtS, bodyShfaRtD, bodyShfavLfQ]

/-- The bodies of TOP numbers 280 to 319. -/
def topBodies7 : List (TMode → OD → OD → Body) := [
  bodyShfavLfH, bodyShfavLfS, bodyShfavLfD, bodyShfavRtQ, bodyShfavRtH, bodyShfavRtS, bodyShfavRtD, bodyRotLfQ,
  bodyRotLfH, bodyRotLfS, bodyRotLfD, bodyRotRtQ, bodyRotRtH, bodyRotRtS, bodyRotRtD, bodyRotvLfQ, bodyRotvLfH,
  bodyRotvLfS, bodyRotvLfD, bodyRotvRtQ, bodyRotvRtH, bodyRotvRtS, bodyRotvRtD, bodyLibytS, bodyLibytD, bodyLisbytS,
  bodyLisbytD, bodyDibytS, bodyDibytD, bodyAdjbpS, bodyAdjbpD, bodyBitrvQ, bodyBitrvH, bodyBitrvS, bodyBitrvD,
  bodyBitrvvQ, bodyBitrvvH, bodyBitrvvS, bodyBitrvvD, bodyBitexQ]

/-- The bodies of TOP numbers 320 to 327. -/
def topBodies8 : List (TMode → OD → OD → Body) := [
  bodyBitexH, bodyBitexS, bodyBitexD, bodyBitexvQ, bodyBitexvH, bodyBitexvS, bodyBitexvD, bodyRmw]

/-- The bodies of the TOP instructions in the order of the opcode map, in blocks of 40. -/
def topBodies : List (List (TMode → OD → OD → Body)) := [
  topBodies0, topBodies1, topBodies2, topBodies3, topBodies4, topBodies5, topBodies6, topBodies7, topBodies8]

/-- An opcode that holds no instruction: fatal 6 (R272). -/
def bodyIllegal : Body := fun _ _ => .error (.fatal .illegalInstruction)

/-- The body of the instruction of a class, number and fields. -/
def perform (xct : OD → OD → Body) (f : Form) : Body :=
  match f with
  | .hop _ d => bodyJpatch d
  | .xop k o1 o2 =>
    match tableGet (xopBodies xct) k with
    | some b => b o1 o2
    | none => bodyIllegal
  | .jop k o1 j =>
    match tableGet jopBodies k with
    | some b => b o1 j
    | none => bodyIllegal
  | .sop k skp o1 o2 =>
    match tableGet sopBodies k with
    | some b => b skp o1 o2
    | none => bodyIllegal
  | .top k t o1 o2 =>
    match tableGet topBodies k with
    | some b => b t o1 o2
    | none => bodyIllegal

/-- The body of `XCT` with at most `n` further links (R862, R863): beyond them the step changes nothing. -/
def xctChain : Nat → OD → OD → Body
  | 0 => fun _ _ _ _ => .error .stuck
  | n + 1 => fun o1 o2 => xctLink (perform (xctChain n)) o1 o2

/-- `XCT` (R862). -/
def bodyXct (o1 o2 : OD) : Body := xctChain Config.xctDepthMax o1 o2

/-- `XCT` executed at the PC. -/
def execXct (o1 o2 : OD) (s : State) : Res :=
  runInstr (.xop 567 o1 o2) (bodyXct o1 o2) s

end Sys2Proof.Machine
end

