-- ==== Sys2Proof/Machine/Dispatch.lean ====
section
/-! DEFINITION. Dispatch: one arm per instruction, each a direct call of its meaning. -/

namespace Sys2Proof.Machine

def exec (i : Instr) (s : State) : Host.Outcome State Fault Refusal :=
  match i with
  | .addQ t o1 o2 => Sys2Proof.Machine.execAddQ t o1 o2 s
  | .addH t o1 o2 => Sys2Proof.Machine.execAddH t o1 o2 s
  | .addS t o1 o2 => Sys2Proof.Machine.execAddS t o1 o2 s
  | .addD t o1 o2 => Sys2Proof.Machine.execAddD t o1 o2 s
  | .addcQ t o1 o2 => Sys2Proof.Machine.execAddcQ t o1 o2 s
  | .addcH t o1 o2 => Sys2Proof.Machine.execAddcH t o1 o2 s
  | .addcS t o1 o2 => Sys2Proof.Machine.execAddcS t o1 o2 s
  | .addcD t o1 o2 => Sys2Proof.Machine.execAddcD t o1 o2 s
  | .subQ t o1 o2 => Sys2Proof.Machine.execSubQ t o1 o2 s
  | .subH t o1 o2 => Sys2Proof.Machine.execSubH t o1 o2 s
  | .subS t o1 o2 => Sys2Proof.Machine.execSubS t o1 o2 s
  | .subD t o1 o2 => Sys2Proof.Machine.execSubD t o1 o2 s
  | .subvQ t o1 o2 => Sys2Proof.Machine.execSubvQ t o1 o2 s
  | .subvH t o1 o2 => Sys2Proof.Machine.execSubvH t o1 o2 s
  | .subvS t o1 o2 => Sys2Proof.Machine.execSubvS t o1 o2 s
  | .subvD t o1 o2 => Sys2Proof.Machine.execSubvD t o1 o2 s
  | .subcQ t o1 o2 => Sys2Proof.Machine.execSubcQ t o1 o2 s
  | .subcH t o1 o2 => Sys2Proof.Machine.execSubcH t o1 o2 s
  | .subcS t o1 o2 => Sys2Proof.Machine.execSubcS t o1 o2 s
  | .subcD t o1 o2 => Sys2Proof.Machine.execSubcD t o1 o2 s
  | .subcvQ t o1 o2 => Sys2Proof.Machine.execSubcvQ t o1 o2 s
  | .subcvH t o1 o2 => Sys2Proof.Machine.execSubcvH t o1 o2 s
  | .subcvS t o1 o2 => Sys2Proof.Machine.execSubcvS t o1 o2 s
  | .subcvD t o1 o2 => Sys2Proof.Machine.execSubcvD t o1 o2 s
  | .multQ t o1 o2 => Sys2Proof.Machine.execMultQ t o1 o2 s
  | .multH t o1 o2 => Sys2Proof.Machine.execMultH t o1 o2 s
  | .multS t o1 o2 => Sys2Proof.Machine.execMultS t o1 o2 s
  | .multD t o1 o2 => Sys2Proof.Machine.execMultD t o1 o2 s
  | .multlQ t o1 o2 => Sys2Proof.Machine.execMultlQ t o1 o2 s
  | .multlH t o1 o2 => Sys2Proof.Machine.execMultlH t o1 o2 s
  | .multlS t o1 o2 => Sys2Proof.Machine.execMultlS t o1 o2 s
  | .quoQ t o1 o2 => Sys2Proof.Machine.execQuoQ t o1 o2 s
  | .quoH t o1 o2 => Sys2Proof.Machine.execQuoH t o1 o2 s
  | .quoS t o1 o2 => Sys2Proof.Machine.execQuoS t o1 o2 s
  | .quoD t o1 o2 => Sys2Proof.Machine.execQuoD t o1 o2 s
  | .quovQ t o1 o2 => Sys2Proof.Machine.execQuovQ t o1 o2 s
  | .quovH t o1 o2 => Sys2Proof.Machine.execQuovH t o1 o2 s
  | .quovS t o1 o2 => Sys2Proof.Machine.execQuovS t o1 o2 s
  | .quovD t o1 o2 => Sys2Proof.Machine.execQuovD t o1 o2 s
  | .quolQ t o1 o2 => Sys2Proof.Machine.execQuolQ t o1 o2 s
  | .quolH t o1 o2 => Sys2Proof.Machine.execQuolH t o1 o2 s
  | .quolS t o1 o2 => Sys2Proof.Machine.execQuolS t o1 o2 s
  | .quolvQ t o1 o2 => Sys2Proof.Machine.execQuolvQ t o1 o2 s
  | .quolvH t o1 o2 => Sys2Proof.Machine.execQuolvH t o1 o2 s
  | .quolvS t o1 o2 => Sys2Proof.Machine.execQuolvS t o1 o2 s
  | .quo2Q t o1 o2 => Sys2Proof.Machine.execQuo2Q t o1 o2 s
  | .quo2H t o1 o2 => Sys2Proof.Machine.execQuo2H t o1 o2 s
  | .quo2S t o1 o2 => Sys2Proof.Machine.execQuo2S t o1 o2 s
  | .quo2D t o1 o2 => Sys2Proof.Machine.execQuo2D t o1 o2 s
  | .quo2vQ t o1 o2 => Sys2Proof.Machine.execQuo2vQ t o1 o2 s
  | .quo2vH t o1 o2 => Sys2Proof.Machine.execQuo2vH t o1 o2 s
  | .quo2vS t o1 o2 => Sys2Proof.Machine.execQuo2vS t o1 o2 s
  | .quo2vD t o1 o2 => Sys2Proof.Machine.execQuo2vD t o1 o2 s
  | .quo2lQ t o1 o2 => Sys2Proof.Machine.execQuo2lQ t o1 o2 s
  | .quo2lH t o1 o2 => Sys2Proof.Machine.execQuo2lH t o1 o2 s
  | .quo2lS t o1 o2 => Sys2Proof.Machine.execQuo2lS t o1 o2 s
  | .quo2lvQ t o1 o2 => Sys2Proof.Machine.execQuo2lvQ t o1 o2 s
  | .quo2lvH t o1 o2 => Sys2Proof.Machine.execQuo2lvH t o1 o2 s
  | .quo2lvS t o1 o2 => Sys2Proof.Machine.execQuo2lvS t o1 o2 s
  | .remQ t o1 o2 => Sys2Proof.Machine.execRemQ t o1 o2 s
  | .remH t o1 o2 => Sys2Proof.Machine.execRemH t o1 o2 s
  | .remS t o1 o2 => Sys2Proof.Machine.execRemS t o1 o2 s
  | .remD t o1 o2 => Sys2Proof.Machine.execRemD t o1 o2 s
  | .remvQ t o1 o2 => Sys2Proof.Machine.execRemvQ t o1 o2 s
  | .remvH t o1 o2 => Sys2Proof.Machine.execRemvH t o1 o2 s
  | .remvS t o1 o2 => Sys2Proof.Machine.execRemvS t o1 o2 s
  | .remvD t o1 o2 => Sys2Proof.Machine.execRemvD t o1 o2 s
  | .remlQ t o1 o2 => Sys2Proof.Machine.execRemlQ t o1 o2 s
  | .remlH t o1 o2 => Sys2Proof.Machine.execRemlH t o1 o2 s
  | .remlS t o1 o2 => Sys2Proof.Machine.execRemlS t o1 o2 s
  | .remlvQ t o1 o2 => Sys2Proof.Machine.execRemlvQ t o1 o2 s
  | .remlvH t o1 o2 => Sys2Proof.Machine.execRemlvH t o1 o2 s
  | .remlvS t o1 o2 => Sys2Proof.Machine.execRemlvS t o1 o2 s
  | .modQ t o1 o2 => Sys2Proof.Machine.execModQ t o1 o2 s
  | .modH t o1 o2 => Sys2Proof.Machine.execModH t o1 o2 s
  | .modS t o1 o2 => Sys2Proof.Machine.execModS t o1 o2 s
  | .modD t o1 o2 => Sys2Proof.Machine.execModD t o1 o2 s
  | .modvQ t o1 o2 => Sys2Proof.Machine.execModvQ t o1 o2 s
  | .modvH t o1 o2 => Sys2Proof.Machine.execModvH t o1 o2 s
  | .modvS t o1 o2 => Sys2Proof.Machine.execModvS t o1 o2 s
  | .modvD t o1 o2 => Sys2Proof.Machine.execModvD t o1 o2 s
  | .modlQ t o1 o2 => Sys2Proof.Machine.execModlQ t o1 o2 s
  | .modlH t o1 o2 => Sys2Proof.Machine.execModlH t o1 o2 s
  | .modlS t o1 o2 => Sys2Proof.Machine.execModlS t o1 o2 s
  | .modlvQ t o1 o2 => Sys2Proof.Machine.execModlvQ t o1 o2 s
  | .modlvH t o1 o2 => Sys2Proof.Machine.execModlvH t o1 o2 s
  | .modlvS t o1 o2 => Sys2Proof.Machine.execModlvS t o1 o2 s
  | .divQ t o1 o2 => Sys2Proof.Machine.execDivQ t o1 o2 s
  | .divH t o1 o2 => Sys2Proof.Machine.execDivH t o1 o2 s
  | .divS t o1 o2 => Sys2Proof.Machine.execDivS t o1 o2 s
  | .divD t o1 o2 => Sys2Proof.Machine.execDivD t o1 o2 s
  | .divvQ t o1 o2 => Sys2Proof.Machine.execDivvQ t o1 o2 s
  | .divvH t o1 o2 => Sys2Proof.Machine.execDivvH t o1 o2 s
  | .divvS t o1 o2 => Sys2Proof.Machine.execDivvS t o1 o2 s
  | .divvD t o1 o2 => Sys2Proof.Machine.execDivvD t o1 o2 s
  | .divlQ t o1 o2 => Sys2Proof.Machine.execDivlQ t o1 o2 s
  | .divlH t o1 o2 => Sys2Proof.Machine.execDivlH t o1 o2 s
  | .divlS t o1 o2 => Sys2Proof.Machine.execDivlS t o1 o2 s
  | .divlvQ t o1 o2 => Sys2Proof.Machine.execDivlvQ t o1 o2 s
  | .divlvH t o1 o2 => Sys2Proof.Machine.execDivlvH t o1 o2 s
  | .divlvS t o1 o2 => Sys2Proof.Machine.execDivlvS t o1 o2 s
  | .incQ o1 o2 => Sys2Proof.Machine.execIncQ o1 o2 s
  | .incH o1 o2 => Sys2Proof.Machine.execIncH o1 o2 s
  | .incS o1 o2 => Sys2Proof.Machine.execIncS o1 o2 s
  | .incD o1 o2 => Sys2Proof.Machine.execIncD o1 o2 s
  | .decQ o1 o2 => Sys2Proof.Machine.execDecQ o1 o2 s
  | .decH o1 o2 => Sys2Proof.Machine.execDecH o1 o2 s
  | .decS o1 o2 => Sys2Proof.Machine.execDecS o1 o2 s
  | .decD o1 o2 => Sys2Proof.Machine.execDecD o1 o2 s
  | .transQQ o1 o2 => Sys2Proof.Machine.execTransQQ o1 o2 s
  | .transQH o1 o2 => Sys2Proof.Machine.execTransQH o1 o2 s
  | .transQS o1 o2 => Sys2Proof.Machine.execTransQS o1 o2 s
  | .transQD o1 o2 => Sys2Proof.Machine.execTransQD o1 o2 s
  | .transHQ o1 o2 => Sys2Proof.Machine.execTransHQ o1 o2 s
  | .transHH o1 o2 => Sys2Proof.Machine.execTransHH o1 o2 s
  | .transHS o1 o2 => Sys2Proof.Machine.execTransHS o1 o2 s
  | .transHD o1 o2 => Sys2Proof.Machine.execTransHD o1 o2 s
  | .transSQ o1 o2 => Sys2Proof.Machine.execTransSQ o1 o2 s
  | .transSH o1 o2 => Sys2Proof.Machine.execTransSH o1 o2 s
  | .transSS o1 o2 => Sys2Proof.Machine.execTransSS o1 o2 s
  | .transSD o1 o2 => Sys2Proof.Machine.execTransSD o1 o2 s
  | .transDQ o1 o2 => Sys2Proof.Machine.execTransDQ o1 o2 s
  | .transDH o1 o2 => Sys2Proof.Machine.execTransDH o1 o2 s
  | .transDS o1 o2 => Sys2Proof.Machine.execTransDS o1 o2 s
  | .transDD o1 o2 => Sys2Proof.Machine.execTransDD o1 o2 s
  | .negQ o1 o2 => Sys2Proof.Machine.execNegQ o1 o2 s
  | .negH o1 o2 => Sys2Proof.Machine.execNegH o1 o2 s
  | .negS o1 o2 => Sys2Proof.Machine.execNegS o1 o2 s
  | .negD o1 o2 => Sys2Proof.Machine.execNegD o1 o2 s
  | .absQ o1 o2 => Sys2Proof.Machine.execAbsQ o1 o2 s
  | .absH o1 o2 => Sys2Proof.Machine.execAbsH o1 o2 s
  | .absS o1 o2 => Sys2Proof.Machine.execAbsS o1 o2 s
  | .absD o1 o2 => Sys2Proof.Machine.execAbsD o1 o2 s
  | .minQ t o1 o2 => Sys2Proof.Machine.execMinQ t o1 o2 s
  | .minH t o1 o2 => Sys2Proof.Machine.execMinH t o1 o2 s
  | .minS t o1 o2 => Sys2Proof.Machine.execMinS t o1 o2 s
  | .minD t o1 o2 => Sys2Proof.Machine.execMinD t o1 o2 s
  | .maxQ t o1 o2 => Sys2Proof.Machine.execMaxQ t o1 o2 s
  | .maxH t o1 o2 => Sys2Proof.Machine.execMaxH t o1 o2 s
  | .maxS t o1 o2 => Sys2Proof.Machine.execMaxS t o1 o2 s
  | .maxD t o1 o2 => Sys2Proof.Machine.execMaxD t o1 o2 s
  | .umultQ t o1 o2 => Sys2Proof.Machine.execUmultQ t o1 o2 s
  | .umultH t o1 o2 => Sys2Proof.Machine.execUmultH t o1 o2 s
  | .umultS t o1 o2 => Sys2Proof.Machine.execUmultS t o1 o2 s
  | .umultD t o1 o2 => Sys2Proof.Machine.execUmultD t o1 o2 s
  | .umultlQ t o1 o2 => Sys2Proof.Machine.execUmultlQ t o1 o2 s
  | .umultlH t o1 o2 => Sys2Proof.Machine.execUmultlH t o1 o2 s
  | .umultlS t o1 o2 => Sys2Proof.Machine.execUmultlS t o1 o2 s
  | .udivQ t o1 o2 => Sys2Proof.Machine.execUdivQ t o1 o2 s
  | .udivH t o1 o2 => Sys2Proof.Machine.execUdivH t o1 o2 s
  | .udivS t o1 o2 => Sys2Proof.Machine.execUdivS t o1 o2 s
  | .udivD t o1 o2 => Sys2Proof.Machine.execUdivD t o1 o2 s
  | .udivlQ t o1 o2 => Sys2Proof.Machine.execUdivlQ t o1 o2 s
  | .udivlH t o1 o2 => Sys2Proof.Machine.execUdivlH t o1 o2 s
  | .udivlS t o1 o2 => Sys2Proof.Machine.execUdivlS t o1 o2 s
  | .faddH t o1 o2 => Sys2Proof.Machine.execFaddH t o1 o2 s
  | .faddS t o1 o2 => Sys2Proof.Machine.execFaddS t o1 o2 s
  | .faddD t o1 o2 => Sys2Proof.Machine.execFaddD t o1 o2 s
  | .fsubH t o1 o2 => Sys2Proof.Machine.execFsubH t o1 o2 s
  | .fsubS t o1 o2 => Sys2Proof.Machine.execFsubS t o1 o2 s
  | .fsubD t o1 o2 => Sys2Proof.Machine.execFsubD t o1 o2 s
  | .fsubvH t o1 o2 => Sys2Proof.Machine.execFsubvH t o1 o2 s
  | .fsubvS t o1 o2 => Sys2Proof.Machine.execFsubvS t o1 o2 s
  | .fsubvD t o1 o2 => Sys2Proof.Machine.execFsubvD t o1 o2 s
  | .fmultH t o1 o2 => Sys2Proof.Machine.execFmultH t o1 o2 s
  | .fmultS t o1 o2 => Sys2Proof.Machine.execFmultS t o1 o2 s
  | .fmultD t o1 o2 => Sys2Proof.Machine.execFmultD t o1 o2 s
  | .fmultlH t o1 o2 => Sys2Proof.Machine.execFmultlH t o1 o2 s
  | .fmultlS t o1 o2 => Sys2Proof.Machine.execFmultlS t o1 o2 s
  | .fdivH t o1 o2 => Sys2Proof.Machine.execFdivH t o1 o2 s
  | .fdivS t o1 o2 => Sys2Proof.Machine.execFdivS t o1 o2 s
  | .fdivD t o1 o2 => Sys2Proof.Machine.execFdivD t o1 o2 s
  | .fdivvH t o1 o2 => Sys2Proof.Machine.execFdivvH t o1 o2 s
  | .fdivvS t o1 o2 => Sys2Proof.Machine.execFdivvS t o1 o2 s
  | .fdivvD t o1 o2 => Sys2Proof.Machine.execFdivvD t o1 o2 s
  | .fdivlH t o1 o2 => Sys2Proof.Machine.execFdivlH t o1 o2 s
  | .fdivlS t o1 o2 => Sys2Proof.Machine.execFdivlS t o1 o2 s
  | .fdivlvH t o1 o2 => Sys2Proof.Machine.execFdivlvH t o1 o2 s
  | .fdivlvS t o1 o2 => Sys2Proof.Machine.execFdivlvS t o1 o2 s
  | .fscH t o1 o2 => Sys2Proof.Machine.execFscH t o1 o2 s
  | .fscS t o1 o2 => Sys2Proof.Machine.execFscS t o1 o2 s
  | .fscD t o1 o2 => Sys2Proof.Machine.execFscD t o1 o2 s
  | .fscvH t o1 o2 => Sys2Proof.Machine.execFscvH t o1 o2 s
  | .fscvS t o1 o2 => Sys2Proof.Machine.execFscvS t o1 o2 s
  | .fscvD t o1 o2 => Sys2Proof.Machine.execFscvD t o1 o2 s
  | .fixFlQH o1 o2 => Sys2Proof.Machine.execFixFlQH o1 o2 s
  | .fixFlQS o1 o2 => Sys2Proof.Machine.execFixFlQS o1 o2 s
  | .fixFlQD o1 o2 => Sys2Proof.Machine.execFixFlQD o1 o2 s
  | .fixFlHH o1 o2 => Sys2Proof.Machine.execFixFlHH o1 o2 s
  | .fixFlHS o1 o2 => Sys2Proof.Machine.execFixFlHS o1 o2 s
  | .fixFlHD o1 o2 => Sys2Proof.Machine.execFixFlHD o1 o2 s
  | .fixFlSH o1 o2 => Sys2Proof.Machine.execFixFlSH o1 o2 s
  | .fixFlSS o1 o2 => Sys2Proof.Machine.execFixFlSS o1 o2 s
  | .fixFlSD o1 o2 => Sys2Proof.Machine.execFixFlSD o1 o2 s
  | .fixFlDH o1 o2 => Sys2Proof.Machine.execFixFlDH o1 o2 s
  | .fixFlDS o1 o2 => Sys2Proof.Machine.execFixFlDS o1 o2 s
  | .fixFlDD o1 o2 => Sys2Proof.Machine.execFixFlDD o1 o2 s
  | .fixClQH o1 o2 => Sys2Proof.Machine.execFixClQH o1 o2 s
  | .fixClQS o1 o2 => Sys2Proof.Machine.execFixClQS o1 o2 s
  | .fixClQD o1 o2 => Sys2Proof.Machine.execFixClQD o1 o2 s
  | .fixClHH o1 o2 => Sys2Proof.Machine.execFixClHH o1 o2 s
  | .fixClHS o1 o2 => Sys2Proof.Machine.execFixClHS o1 o2 s
  | .fixClHD o1 o2 => Sys2Proof.Machine.execFixClHD o1 o2 s
  | .fixClSH o1 o2 => Sys2Proof.Machine.execFixClSH o1 o2 s
  | .fixClSS o1 o2 => Sys2Proof.Machine.execFixClSS o1 o2 s
  | .fixClSD o1 o2 => Sys2Proof.Machine.execFixClSD o1 o2 s
  | .fixClDH o1 o2 => Sys2Proof.Machine.execFixClDH o1 o2 s
  | .fixClDS o1 o2 => Sys2Proof.Machine.execFixClDS o1 o2 s
  | .fixClDD o1 o2 => Sys2Proof.Machine.execFixClDD o1 o2 s
  | .fixDmQH o1 o2 => Sys2Proof.Machine.execFixDmQH o1 o2 s
  | .fixDmQS o1 o2 => Sys2Proof.Machine.execFixDmQS o1 o2 s
  | .fixDmQD o1 o2 => Sys2Proof.Machine.execFixDmQD o1 o2 s
  | .fixDmHH o1 o2 => Sys2Proof.Machine.execFixDmHH o1 o2 s
  | .fixDmHS o1 o2 => Sys2Proof.Machine.execFixDmHS o1 o2 s
  | .fixDmHD o1 o2 => Sys2Proof.Machine.execFixDmHD o1 o2 s
  | .fixDmSH o1 o2 => Sys2Proof.Machine.execFixDmSH o1 o2 s
  | .fixDmSS o1 o2 => Sys2Proof.Machine.execFixDmSS o1 o2 s
  | .fixDmSD o1 o2 => Sys2Proof.Machine.execFixDmSD o1 o2 s
  | .fixDmDH o1 o2 => Sys2Proof.Machine.execFixDmDH o1 o2 s
  | .fixDmDS o1 o2 => Sys2Proof.Machine.execFixDmDS o1 o2 s
  | .fixDmDD o1 o2 => Sys2Proof.Machine.execFixDmDD o1 o2 s
  | .fixHpQH o1 o2 => Sys2Proof.Machine.execFixHpQH o1 o2 s
  | .fixHpQS o1 o2 => Sys2Proof.Machine.execFixHpQS o1 o2 s
  | .fixHpQD o1 o2 => Sys2Proof.Machine.execFixHpQD o1 o2 s
  | .fixHpHH o1 o2 => Sys2Proof.Machine.execFixHpHH o1 o2 s
  | .fixHpHS o1 o2 => Sys2Proof.Machine.execFixHpHS o1 o2 s
  | .fixHpHD o1 o2 => Sys2Proof.Machine.execFixHpHD o1 o2 s
  | .fixHpSH o1 o2 => Sys2Proof.Machine.execFixHpSH o1 o2 s
  | .fixHpSS o1 o2 => Sys2Proof.Machine.execFixHpSS o1 o2 s
  | .fixHpSD o1 o2 => Sys2Proof.Machine.execFixHpSD o1 o2 s
  | .fixHpDH o1 o2 => Sys2Proof.Machine.execFixHpDH o1 o2 s
  | .fixHpDS o1 o2 => Sys2Proof.Machine.execFixHpDS o1 o2 s
  | .fixHpDD o1 o2 => Sys2Proof.Machine.execFixHpDD o1 o2 s
  | .fixUsQH o1 o2 => Sys2Proof.Machine.execFixUsQH o1 o2 s
  | .fixUsQS o1 o2 => Sys2Proof.Machine.execFixUsQS o1 o2 s
  | .fixUsQD o1 o2 => Sys2Proof.Machine.execFixUsQD o1 o2 s
  | .fixUsHH o1 o2 => Sys2Proof.Machine.execFixUsHH o1 o2 s
  | .fixUsHS o1 o2 => Sys2Proof.Machine.execFixUsHS o1 o2 s
  | .fixUsHD o1 o2 => Sys2Proof.Machine.execFixUsHD o1 o2 s
  | .fixUsSH o1 o2 => Sys2Proof.Machine.execFixUsSH o1 o2 s
  | .fixUsSS o1 o2 => Sys2Proof.Machine.execFixUsSS o1 o2 s
  | .fixUsSD o1 o2 => Sys2Proof.Machine.execFixUsSD o1 o2 s
  | .fixUsDH o1 o2 => Sys2Proof.Machine.execFixUsDH o1 o2 s
  | .fixUsDS o1 o2 => Sys2Proof.Machine.execFixUsDS o1 o2 s
  | .fixUsDD o1 o2 => Sys2Proof.Machine.execFixUsDD o1 o2 s
  | .floatHQ o1 o2 => Sys2Proof.Machine.execFloatHQ o1 o2 s
  | .floatHH o1 o2 => Sys2Proof.Machine.execFloatHH o1 o2 s
  | .floatHS o1 o2 => Sys2Proof.Machine.execFloatHS o1 o2 s
  | .floatHD o1 o2 => Sys2Proof.Machine.execFloatHD o1 o2 s
  | .floatSQ o1 o2 => Sys2Proof.Machine.execFloatSQ o1 o2 s
  | .floatSH o1 o2 => Sys2Proof.Machine.execFloatSH o1 o2 s
  | .floatSS o1 o2 => Sys2Proof.Machine.execFloatSS o1 o2 s
  | .floatSD o1 o2 => Sys2Proof.Machine.execFloatSD o1 o2 s
  | .floatDQ o1 o2 => Sys2Proof.Machine.execFloatDQ o1 o2 s
  | .floatDH o1 o2 => Sys2Proof.Machine.execFloatDH o1 o2 s
  | .floatDS o1 o2 => Sys2Proof.Machine.execFloatDS o1 o2 s
  | .floatDD o1 o2 => Sys2Proof.Machine.execFloatDD o1 o2 s
  | .ftransHH o1 o2 => Sys2Proof.Machine.execFtransHH o1 o2 s
  | .ftransHS o1 o2 => Sys2Proof.Machine.execFtransHS o1 o2 s
  | .ftransHD o1 o2 => Sys2Proof.Machine.execFtransHD o1 o2 s
  | .ftransSH o1 o2 => Sys2Proof.Machine.execFtransSH o1 o2 s
  | .ftransSS o1 o2 => Sys2Proof.Machine.execFtransSS o1 o2 s
  | .ftransSD o1 o2 => Sys2Proof.Machine.execFtransSD o1 o2 s
  | .ftransDH o1 o2 => Sys2Proof.Machine.execFtransDH o1 o2 s
  | .ftransDS o1 o2 => Sys2Proof.Machine.execFtransDS o1 o2 s
  | .ftransDD o1 o2 => Sys2Proof.Machine.execFtransDD o1 o2 s
  | .fnegH o1 o2 => Sys2Proof.Machine.execFnegH o1 o2 s
  | .fnegS o1 o2 => Sys2Proof.Machine.execFnegS o1 o2 s
  | .fnegD o1 o2 => Sys2Proof.Machine.execFnegD o1 o2 s
  | .fabsH o1 o2 => Sys2Proof.Machine.execFabsH o1 o2 s
  | .fabsS o1 o2 => Sys2Proof.Machine.execFabsS o1 o2 s
  | .fabsD o1 o2 => Sys2Proof.Machine.execFabsD o1 o2 s
  | .fminH t o1 o2 => Sys2Proof.Machine.execFminH t o1 o2 s
  | .fminS t o1 o2 => Sys2Proof.Machine.execFminS t o1 o2 s
  | .fminD t o1 o2 => Sys2Proof.Machine.execFminD t o1 o2 s
  | .fmaxH t o1 o2 => Sys2Proof.Machine.execFmaxH t o1 o2 s
  | .fmaxS t o1 o2 => Sys2Proof.Machine.execFmaxS t o1 o2 s
  | .fmaxD t o1 o2 => Sys2Proof.Machine.execFmaxD t o1 o2 s
  | .movQQ o1 o2 => Sys2Proof.Machine.execMovQQ o1 o2 s
  | .movQH o1 o2 => Sys2Proof.Machine.execMovQH o1 o2 s
  | .movQS o1 o2 => Sys2Proof.Machine.execMovQS o1 o2 s
  | .movQD o1 o2 => Sys2Proof.Machine.execMovQD o1 o2 s
  | .movHQ o1 o2 => Sys2Proof.Machine.execMovHQ o1 o2 s
  | .movHH o1 o2 => Sys2Proof.Machine.execMovHH o1 o2 s
  | .movHS o1 o2 => Sys2Proof.Machine.execMovHS o1 o2 s
  | .movHD o1 o2 => Sys2Proof.Machine.execMovHD o1 o2 s
  | .movSQ o1 o2 => Sys2Proof.Machine.execMovSQ o1 o2 s
  | .movSH o1 o2 => Sys2Proof.Machine.execMovSH o1 o2 s
  | .movSS o1 o2 => Sys2Proof.Machine.execMovSS o1 o2 s
  | .movSD o1 o2 => Sys2Proof.Machine.execMovSD o1 o2 s
  | .movDQ o1 o2 => Sys2Proof.Machine.execMovDQ o1 o2 s
  | .movDH o1 o2 => Sys2Proof.Machine.execMovDH o1 o2 s
  | .movDS o1 o2 => Sys2Proof.Machine.execMovDS o1 o2 s
  | .movDD o1 o2 => Sys2Proof.Machine.execMovDD o1 o2 s
  | .movmq2 o1 o2 => Sys2Proof.Machine.execMovmq2 o1 o2 s
  | .movmq3 o1 o2 => Sys2Proof.Machine.execMovmq3 o1 o2 s
  | .movmq4 o1 o2 => Sys2Proof.Machine.execMovmq4 o1 o2 s
  | .movmq5 o1 o2 => Sys2Proof.Machine.execMovmq5 o1 o2 s
  | .movmq6 o1 o2 => Sys2Proof.Machine.execMovmq6 o1 o2 s
  | .movmq7 o1 o2 => Sys2Proof.Machine.execMovmq7 o1 o2 s
  | .movmq8 o1 o2 => Sys2Proof.Machine.execMovmq8 o1 o2 s
  | .movmq9 o1 o2 => Sys2Proof.Machine.execMovmq9 o1 o2 s
  | .movmq10 o1 o2 => Sys2Proof.Machine.execMovmq10 o1 o2 s
  | .movmq11 o1 o2 => Sys2Proof.Machine.execMovmq11 o1 o2 s
  | .movmq12 o1 o2 => Sys2Proof.Machine.execMovmq12 o1 o2 s
  | .movmq13 o1 o2 => Sys2Proof.Machine.execMovmq13 o1 o2 s
  | .movmq14 o1 o2 => Sys2Proof.Machine.execMovmq14 o1 o2 s
  | .movmq15 o1 o2 => Sys2Proof.Machine.execMovmq15 o1 o2 s
  | .movmq16 o1 o2 => Sys2Proof.Machine.execMovmq16 o1 o2 s
  | .movmq17 o1 o2 => Sys2Proof.Machine.execMovmq17 o1 o2 s
  | .movmq18 o1 o2 => Sys2Proof.Machine.execMovmq18 o1 o2 s
  | .movmq19 o1 o2 => Sys2Proof.Machine.execMovmq19 o1 o2 s
  | .movmq20 o1 o2 => Sys2Proof.Machine.execMovmq20 o1 o2 s
  | .movmq21 o1 o2 => Sys2Proof.Machine.execMovmq21 o1 o2 s
  | .movmq22 o1 o2 => Sys2Proof.Machine.execMovmq22 o1 o2 s
  | .movmq23 o1 o2 => Sys2Proof.Machine.execMovmq23 o1 o2 s
  | .movmq24 o1 o2 => Sys2Proof.Machine.execMovmq24 o1 o2 s
  | .movmq25 o1 o2 => Sys2Proof.Machine.execMovmq25 o1 o2 s
  | .movmq26 o1 o2 => Sys2Proof.Machine.execMovmq26 o1 o2 s
  | .movmq27 o1 o2 => Sys2Proof.Machine.execMovmq27 o1 o2 s
  | .movmq28 o1 o2 => Sys2Proof.Machine.execMovmq28 o1 o2 s
  | .movmq29 o1 o2 => Sys2Proof.Machine.execMovmq29 o1 o2 s
  | .movmq30 o1 o2 => Sys2Proof.Machine.execMovmq30 o1 o2 s
  | .movmq31 o1 o2 => Sys2Proof.Machine.execMovmq31 o1 o2 s
  | .movmq32 o1 o2 => Sys2Proof.Machine.execMovmq32 o1 o2 s
  | .movmq64 o1 o2 => Sys2Proof.Machine.execMovmq64 o1 o2 s
  | .movmq128 o1 o2 => Sys2Proof.Machine.execMovmq128 o1 o2 s
  | .movms2 o1 o2 => Sys2Proof.Machine.execMovms2 o1 o2 s
  | .movms3 o1 o2 => Sys2Proof.Machine.execMovms3 o1 o2 s
  | .movms4 o1 o2 => Sys2Proof.Machine.execMovms4 o1 o2 s
  | .movms5 o1 o2 => Sys2Proof.Machine.execMovms5 o1 o2 s
  | .movms6 o1 o2 => Sys2Proof.Machine.execMovms6 o1 o2 s
  | .movms7 o1 o2 => Sys2Proof.Machine.execMovms7 o1 o2 s
  | .movms8 o1 o2 => Sys2Proof.Machine.execMovms8 o1 o2 s
  | .movms9 o1 o2 => Sys2Proof.Machine.execMovms9 o1 o2 s
  | .movms10 o1 o2 => Sys2Proof.Machine.execMovms10 o1 o2 s
  | .movms11 o1 o2 => Sys2Proof.Machine.execMovms11 o1 o2 s
  | .movms12 o1 o2 => Sys2Proof.Machine.execMovms12 o1 o2 s
  | .movms13 o1 o2 => Sys2Proof.Machine.execMovms13 o1 o2 s
  | .movms14 o1 o2 => Sys2Proof.Machine.execMovms14 o1 o2 s
  | .movms15 o1 o2 => Sys2Proof.Machine.execMovms15 o1 o2 s
  | .movms16 o1 o2 => Sys2Proof.Machine.execMovms16 o1 o2 s
  | .movms17 o1 o2 => Sys2Proof.Machine.execMovms17 o1 o2 s
  | .movms18 o1 o2 => Sys2Proof.Machine.execMovms18 o1 o2 s
  | .movms19 o1 o2 => Sys2Proof.Machine.execMovms19 o1 o2 s
  | .movms20 o1 o2 => Sys2Proof.Machine.execMovms20 o1 o2 s
  | .movms21 o1 o2 => Sys2Proof.Machine.execMovms21 o1 o2 s
  | .movms22 o1 o2 => Sys2Proof.Machine.execMovms22 o1 o2 s
  | .movms23 o1 o2 => Sys2Proof.Machine.execMovms23 o1 o2 s
  | .movms24 o1 o2 => Sys2Proof.Machine.execMovms24 o1 o2 s
  | .movms25 o1 o2 => Sys2Proof.Machine.execMovms25 o1 o2 s
  | .movms26 o1 o2 => Sys2Proof.Machine.execMovms26 o1 o2 s
  | .movms27 o1 o2 => Sys2Proof.Machine.execMovms27 o1 o2 s
  | .movms28 o1 o2 => Sys2Proof.Machine.execMovms28 o1 o2 s
  | .movms29 o1 o2 => Sys2Proof.Machine.execMovms29 o1 o2 s
  | .movms30 o1 o2 => Sys2Proof.Machine.execMovms30 o1 o2 s
  | .movms31 o1 o2 => Sys2Proof.Machine.execMovms31 o1 o2 s
  | .movms32 o1 o2 => Sys2Proof.Machine.execMovms32 o1 o2 s
  | .exchQ o1 o2 => Sys2Proof.Machine.execExchQ o1 o2 s
  | .exchH o1 o2 => Sys2Proof.Machine.execExchH o1 o2 s
  | .exchS o1 o2 => Sys2Proof.Machine.execExchS o1 o2 s
  | .exchD o1 o2 => Sys2Proof.Machine.execExchD o1 o2 s
  | .slr0 o1 o2 => Sys2Proof.Machine.execSlr0 o1 o2 s
  | .slr1 o1 o2 => Sys2Proof.Machine.execSlr1 o1 o2 s
  | .slr2 o1 o2 => Sys2Proof.Machine.execSlr2 o1 o2 s
  | .slr3 o1 o2 => Sys2Proof.Machine.execSlr3 o1 o2 s
  | .slr4 o1 o2 => Sys2Proof.Machine.execSlr4 o1 o2 s
  | .slr5 o1 o2 => Sys2Proof.Machine.execSlr5 o1 o2 s
  | .slr6 o1 o2 => Sys2Proof.Machine.execSlr6 o1 o2 s
  | .slr7 o1 o2 => Sys2Proof.Machine.execSlr7 o1 o2 s
  | .slr8 o1 o2 => Sys2Proof.Machine.execSlr8 o1 o2 s
  | .slr9 o1 o2 => Sys2Proof.Machine.execSlr9 o1 o2 s
  | .slr10 o1 o2 => Sys2Proof.Machine.execSlr10 o1 o2 s
  | .slr11 o1 o2 => Sys2Proof.Machine.execSlr11 o1 o2 s
  | .slr12 o1 o2 => Sys2Proof.Machine.execSlr12 o1 o2 s
  | .slr13 o1 o2 => Sys2Proof.Machine.execSlr13 o1 o2 s
  | .slr14 o1 o2 => Sys2Proof.Machine.execSlr14 o1 o2 s
  | .slr15 o1 o2 => Sys2Proof.Machine.execSlr15 o1 o2 s
  | .slr16 o1 o2 => Sys2Proof.Machine.execSlr16 o1 o2 s
  | .slr17 o1 o2 => Sys2Proof.Machine.execSlr17 o1 o2 s
  | .slr18 o1 o2 => Sys2Proof.Machine.execSlr18 o1 o2 s
  | .slr19 o1 o2 => Sys2Proof.Machine.execSlr19 o1 o2 s
  | .slr20 o1 o2 => Sys2Proof.Machine.execSlr20 o1 o2 s
  | .slr21 o1 o2 => Sys2Proof.Machine.execSlr21 o1 o2 s
  | .slr22 o1 o2 => Sys2Proof.Machine.execSlr22 o1 o2 s
  | .slr23 o1 o2 => Sys2Proof.Machine.execSlr23 o1 o2 s
  | .slr24 o1 o2 => Sys2Proof.Machine.execSlr24 o1 o2 s
  | .slr25 o1 o2 => Sys2Proof.Machine.execSlr25 o1 o2 s
  | .slr26 o1 o2 => Sys2Proof.Machine.execSlr26 o1 o2 s
  | .slr27 o1 o2 => Sys2Proof.Machine.execSlr27 o1 o2 s
  | .slr28 o1 o2 => Sys2Proof.Machine.execSlr28 o1 o2 s
  | .slr29 o1 o2 => Sys2Proof.Machine.execSlr29 o1 o2 s
  | .slr30 o1 o2 => Sys2Proof.Machine.execSlr30 o1 o2 s
  | .slr31 o1 o2 => Sys2Proof.Machine.execSlr31 o1 o2 s
  | .slradr0 o1 o2 => Sys2Proof.Machine.execSlradr0 o1 o2 s
  | .slradr1 o1 o2 => Sys2Proof.Machine.execSlradr1 o1 o2 s
  | .slradr2 o1 o2 => Sys2Proof.Machine.execSlradr2 o1 o2 s
  | .slradr3 o1 o2 => Sys2Proof.Machine.execSlradr3 o1 o2 s
  | .slradr4 o1 o2 => Sys2Proof.Machine.execSlradr4 o1 o2 s
  | .slradr5 o1 o2 => Sys2Proof.Machine.execSlradr5 o1 o2 s
  | .slradr6 o1 o2 => Sys2Proof.Machine.execSlradr6 o1 o2 s
  | .slradr7 o1 o2 => Sys2Proof.Machine.execSlradr7 o1 o2 s
  | .slradr8 o1 o2 => Sys2Proof.Machine.execSlradr8 o1 o2 s
  | .slradr9 o1 o2 => Sys2Proof.Machine.execSlradr9 o1 o2 s
  | .slradr10 o1 o2 => Sys2Proof.Machine.execSlradr10 o1 o2 s
  | .slradr11 o1 o2 => Sys2Proof.Machine.execSlradr11 o1 o2 s
  | .slradr12 o1 o2 => Sys2Proof.Machine.execSlradr12 o1 o2 s
  | .slradr13 o1 o2 => Sys2Proof.Machine.execSlradr13 o1 o2 s
  | .slradr14 o1 o2 => Sys2Proof.Machine.execSlradr14 o1 o2 s
  | .slradr15 o1 o2 => Sys2Proof.Machine.execSlradr15 o1 o2 s
  | .slradr16 o1 o2 => Sys2Proof.Machine.execSlradr16 o1 o2 s
  | .slradr17 o1 o2 => Sys2Proof.Machine.execSlradr17 o1 o2 s
  | .slradr18 o1 o2 => Sys2Proof.Machine.execSlradr18 o1 o2 s
  | .slradr19 o1 o2 => Sys2Proof.Machine.execSlradr19 o1 o2 s
  | .slradr20 o1 o2 => Sys2Proof.Machine.execSlradr20 o1 o2 s
  | .slradr21 o1 o2 => Sys2Proof.Machine.execSlradr21 o1 o2 s
  | .slradr22 o1 o2 => Sys2Proof.Machine.execSlradr22 o1 o2 s
  | .slradr23 o1 o2 => Sys2Proof.Machine.execSlradr23 o1 o2 s
  | .slradr24 o1 o2 => Sys2Proof.Machine.execSlradr24 o1 o2 s
  | .slradr25 o1 o2 => Sys2Proof.Machine.execSlradr25 o1 o2 s
  | .slradr26 o1 o2 => Sys2Proof.Machine.execSlradr26 o1 o2 s
  | .slradr27 o1 o2 => Sys2Proof.Machine.execSlradr27 o1 o2 s
  | .slradr28 o1 o2 => Sys2Proof.Machine.execSlradr28 o1 o2 s
  | .slradr29 o1 o2 => Sys2Proof.Machine.execSlradr29 o1 o2 s
  | .slradr30 o1 o2 => Sys2Proof.Machine.execSlradr30 o1 o2 s
  | .slradr31 o1 o2 => Sys2Proof.Machine.execSlradr31 o1 o2 s
  | .movadr o1 o2 => Sys2Proof.Machine.execMovadr o1 o2 s
  | .movphy o1 o2 => Sys2Proof.Machine.execMovphy o1 o2 s
  | .cmpsfGtrQ t o1 o2 => Sys2Proof.Machine.execCmpsfGtrQ t o1 o2 s
  | .cmpsfGtrH t o1 o2 => Sys2Proof.Machine.execCmpsfGtrH t o1 o2 s
  | .cmpsfGtrS t o1 o2 => Sys2Proof.Machine.execCmpsfGtrS t o1 o2 s
  | .cmpsfGtrD t o1 o2 => Sys2Proof.Machine.execCmpsfGtrD t o1 o2 s
  | .cmpsfEqlQ t o1 o2 => Sys2Proof.Machine.execCmpsfEqlQ t o1 o2 s
  | .cmpsfEqlH t o1 o2 => Sys2Proof.Machine.execCmpsfEqlH t o1 o2 s
  | .cmpsfEqlS t o1 o2 => Sys2Proof.Machine.execCmpsfEqlS t o1 o2 s
  | .cmpsfEqlD t o1 o2 => Sys2Proof.Machine.execCmpsfEqlD t o1 o2 s
  | .cmpsfGeqQ t o1 o2 => Sys2Proof.Machine.execCmpsfGeqQ t o1 o2 s
  | .cmpsfGeqH t o1 o2 => Sys2Proof.Machine.execCmpsfGeqH t o1 o2 s
  | .cmpsfGeqS t o1 o2 => Sys2Proof.Machine.execCmpsfGeqS t o1 o2 s
  | .cmpsfGeqD t o1 o2 => Sys2Proof.Machine.execCmpsfGeqD t o1 o2 s
  | .cmpsfLssQ t o1 o2 => Sys2Proof.Machine.execCmpsfLssQ t o1 o2 s
  | .cmpsfLssH t o1 o2 => Sys2Proof.Machine.execCmpsfLssH t o1 o2 s
  | .cmpsfLssS t o1 o2 => Sys2Proof.Machine.execCmpsfLssS t o1 o2 s
  | .cmpsfLssD t o1 o2 => Sys2Proof.Machine.execCmpsfLssD t o1 o2 s
  | .cmpsfNeqQ t o1 o2 => Sys2Proof.Machine.execCmpsfNeqQ t o1 o2 s
  | .cmpsfNeqH t o1 o2 => Sys2Proof.Machine.execCmpsfNeqH t o1 o2 s
  | .cmpsfNeqS t o1 o2 => Sys2Proof.Machine.execCmpsfNeqS t o1 o2 s
  | .cmpsfNeqD t o1 o2 => Sys2Proof.Machine.execCmpsfNeqD t o1 o2 s
  | .cmpsfLeqQ t o1 o2 => Sys2Proof.Machine.execCmpsfLeqQ t o1 o2 s
  | .cmpsfLeqH t o1 o2 => Sys2Proof.Machine.execCmpsfLeqH t o1 o2 s
  | .cmpsfLeqS t o1 o2 => Sys2Proof.Machine.execCmpsfLeqS t o1 o2 s
  | .cmpsfLeqD t o1 o2 => Sys2Proof.Machine.execCmpsfLeqD t o1 o2 s
  | .bndsfBQ t o1 o2 => Sys2Proof.Machine.execBndsfBQ t o1 o2 s
  | .bndsfBH t o1 o2 => Sys2Proof.Machine.execBndsfBH t o1 o2 s
  | .bndsfBS t o1 o2 => Sys2Proof.Machine.execBndsfBS t o1 o2 s
  | .bndsfBD t o1 o2 => Sys2Proof.Machine.execBndsfBD t o1 o2 s
  | .bndsfMinQ t o1 o2 => Sys2Proof.Machine.execBndsfMinQ t o1 o2 s
  | .bndsfMinH t o1 o2 => Sys2Proof.Machine.execBndsfMinH t o1 o2 s
  | .bndsfMinS t o1 o2 => Sys2Proof.Machine.execBndsfMinS t o1 o2 s
  | .bndsfMinD t o1 o2 => Sys2Proof.Machine.execBndsfMinD t o1 o2 s
  | .bndsfM1Q t o1 o2 => Sys2Proof.Machine.execBndsfM1Q t o1 o2 s
  | .bndsfM1H t o1 o2 => Sys2Proof.Machine.execBndsfM1H t o1 o2 s
  | .bndsfM1S t o1 o2 => Sys2Proof.Machine.execBndsfM1S t o1 o2 s
  | .bndsfM1D t o1 o2 => Sys2Proof.Machine.execBndsfM1D t o1 o2 s
  | .bndsf0Q t o1 o2 => Sys2Proof.Machine.execBndsf0Q t o1 o2 s
  | .bndsf0H t o1 o2 => Sys2Proof.Machine.execBndsf0H t o1 o2 s
  | .bndsf0S t o1 o2 => Sys2Proof.Machine.execBndsf0S t o1 o2 s
  | .bndsf0D t o1 o2 => Sys2Proof.Machine.execBndsf0D t o1 o2 s
  | .bndsf1Q t o1 o2 => Sys2Proof.Machine.execBndsf1Q t o1 o2 s
  | .bndsf1H t o1 o2 => Sys2Proof.Machine.execBndsf1H t o1 o2 s
  | .bndsf1S t o1 o2 => Sys2Proof.Machine.execBndsf1S t o1 o2 s
  | .bndsf1D t o1 o2 => Sys2Proof.Machine.execBndsf1D t o1 o2 s
  | .notQ o1 o2 => Sys2Proof.Machine.execNotQ o1 o2 s
  | .notH o1 o2 => Sys2Proof.Machine.execNotH o1 o2 s
  | .notS o1 o2 => Sys2Proof.Machine.execNotS o1 o2 s
  | .notD o1 o2 => Sys2Proof.Machine.execNotD o1 o2 s
  | .andQ t o1 o2 => Sys2Proof.Machine.execAndQ t o1 o2 s
  | .andH t o1 o2 => Sys2Proof.Machine.execAndH t o1 o2 s
  | .andS t o1 o2 => Sys2Proof.Machine.execAndS t o1 o2 s
  | .andD t o1 o2 => Sys2Proof.Machine.execAndD t o1 o2 s
  | .andtcQ t o1 o2 => Sys2Proof.Machine.execAndtcQ t o1 o2 s
  | .andtcH t o1 o2 => Sys2Proof.Machine.execAndtcH t o1 o2 s
  | .andtcS t o1 o2 => Sys2Proof.Machine.execAndtcS t o1 o2 s
  | .andtcD t o1 o2 => Sys2Proof.Machine.execAndtcD t o1 o2 s
  | .andctQ t o1 o2 => Sys2Proof.Machine.execAndctQ t o1 o2 s
  | .andctH t o1 o2 => Sys2Proof.Machine.execAndctH t o1 o2 s
  | .andctS t o1 o2 => Sys2Proof.Machine.execAndctS t o1 o2 s
  | .andctD t o1 o2 => Sys2Proof.Machine.execAndctD t o1 o2 s
  | .orQ t o1 o2 => Sys2Proof.Machine.execOrQ t o1 o2 s
  | .orH t o1 o2 => Sys2Proof.Machine.execOrH t o1 o2 s
  | .orS t o1 o2 => Sys2Proof.Machine.execOrS t o1 o2 s
  | .orD t o1 o2 => Sys2Proof.Machine.execOrD t o1 o2 s
  | .ortcQ t o1 o2 => Sys2Proof.Machine.execOrtcQ t o1 o2 s
  | .ortcH t o1 o2 => Sys2Proof.Machine.execOrtcH t o1 o2 s
  | .ortcS t o1 o2 => Sys2Proof.Machine.execOrtcS t o1 o2 s
  | .ortcD t o1 o2 => Sys2Proof.Machine.execOrtcD t o1 o2 s
  | .orctQ t o1 o2 => Sys2Proof.Machine.execOrctQ t o1 o2 s
  | .orctH t o1 o2 => Sys2Proof.Machine.execOrctH t o1 o2 s
  | .orctS t o1 o2 => Sys2Proof.Machine.execOrctS t o1 o2 s
  | .orctD t o1 o2 => Sys2Proof.Machine.execOrctD t o1 o2 s
  | .nandQ t o1 o2 => Sys2Proof.Machine.execNandQ t o1 o2 s
  | .nandH t o1 o2 => Sys2Proof.Machine.execNandH t o1 o2 s
  | .nandS t o1 o2 => Sys2Proof.Machine.execNandS t o1 o2 s
  | .nandD t o1 o2 => Sys2Proof.Machine.execNandD t o1 o2 s
  | .norQ t o1 o2 => Sys2Proof.Machine.execNorQ t o1 o2 s
  | .norH t o1 o2 => Sys2Proof.Machine.execNorH t o1 o2 s
  | .norS t o1 o2 => Sys2Proof.Machine.execNorS t o1 o2 s
  | .norD t o1 o2 => Sys2Proof.Machine.execNorD t o1 o2 s
  | .xorQ t o1 o2 => Sys2Proof.Machine.execXorQ t o1 o2 s
  | .xorH t o1 o2 => Sys2Proof.Machine.execXorH t o1 o2 s
  | .xorS t o1 o2 => Sys2Proof.Machine.execXorS t o1 o2 s
  | .xorD t o1 o2 => Sys2Proof.Machine.execXorD t o1 o2 s
  | .eqvQ t o1 o2 => Sys2Proof.Machine.execEqvQ t o1 o2 s
  | .eqvH t o1 o2 => Sys2Proof.Machine.execEqvH t o1 o2 s
  | .eqvS t o1 o2 => Sys2Proof.Machine.execEqvS t o1 o2 s
  | .eqvD t o1 o2 => Sys2Proof.Machine.execEqvD t o1 o2 s
  | .shfLfQ t o1 o2 => Sys2Proof.Machine.execShfLfQ t o1 o2 s
  | .shfLfH t o1 o2 => Sys2Proof.Machine.execShfLfH t o1 o2 s
  | .shfLfS t o1 o2 => Sys2Proof.Machine.execShfLfS t o1 o2 s
  | .shfLfD t o1 o2 => Sys2Proof.Machine.execShfLfD t o1 o2 s
  | .shfRtQ t o1 o2 => Sys2Proof.Machine.execShfRtQ t o1 o2 s
  | .shfRtH t o1 o2 => Sys2Proof.Machine.execShfRtH t o1 o2 s
  | .shfRtS t o1 o2 => Sys2Proof.Machine.execShfRtS t o1 o2 s
  | .shfRtD t o1 o2 => Sys2Proof.Machine.execShfRtD t o1 o2 s
  | .shfvLfQ t o1 o2 => Sys2Proof.Machine.execShfvLfQ t o1 o2 s
  | .shfvLfH t o1 o2 => Sys2Proof.Machine.execShfvLfH t o1 o2 s
  | .shfvLfS t o1 o2 => Sys2Proof.Machine.execShfvLfS t o1 o2 s
  | .shfvLfD t o1 o2 => Sys2Proof.Machine.execShfvLfD t o1 o2 s
  | .shfvRtQ t o1 o2 => Sys2Proof.Machine.execShfvRtQ t o1 o2 s
  | .shfvRtH t o1 o2 => Sys2Proof.Machine.execShfvRtH t o1 o2 s
  | .shfvRtS t o1 o2 => Sys2Proof.Machine.execShfvRtS t o1 o2 s
  | .shfvRtD t o1 o2 => Sys2Proof.Machine.execShfvRtD t o1 o2 s
  | .dshfLfQ t o1 o2 => Sys2Proof.Machine.execDshfLfQ t o1 o2 s
  | .dshfLfH t o1 o2 => Sys2Proof.Machine.execDshfLfH t o1 o2 s
  | .dshfLfS t o1 o2 => Sys2Proof.Machine.execDshfLfS t o1 o2 s
  | .dshfRtQ t o1 o2 => Sys2Proof.Machine.execDshfRtQ t o1 o2 s
  | .dshfRtH t o1 o2 => Sys2Proof.Machine.execDshfRtH t o1 o2 s
  | .dshfRtS t o1 o2 => Sys2Proof.Machine.execDshfRtS t o1 o2 s
  | .dshfvLfQ t o1 o2 => Sys2Proof.Machine.execDshfvLfQ t o1 o2 s
  | .dshfvLfH t o1 o2 => Sys2Proof.Machine.execDshfvLfH t o1 o2 s
  | .dshfvLfS t o1 o2 => Sys2Proof.Machine.execDshfvLfS t o1 o2 s
  | .dshfvRtQ t o1 o2 => Sys2Proof.Machine.execDshfvRtQ t o1 o2 s
  | .dshfvRtH t o1 o2 => Sys2Proof.Machine.execDshfvRtH t o1 o2 s
  | .dshfvRtS t o1 o2 => Sys2Proof.Machine.execDshfvRtS t o1 o2 s
  | .shfaLfQ t o1 o2 => Sys2Proof.Machine.execShfaLfQ t o1 o2 s
  | .shfaLfH t o1 o2 => Sys2Proof.Machine.execShfaLfH t o1 o2 s
  | .shfaLfS t o1 o2 => Sys2Proof.Machine.execShfaLfS t o1 o2 s
  | .shfaLfD t o1 o2 => Sys2Proof.Machine.execShfaLfD t o1 o2 s
  | .shfaRtQ t o1 o2 => Sys2Proof.Machine.execShfaRtQ t o1 o2 s
  | .shfaRtH t o1 o2 => Sys2Proof.Machine.execShfaRtH t o1 o2 s
  | .shfaRtS t o1 o2 => Sys2Proof.Machine.execShfaRtS t o1 o2 s
  | .shfaRtD t o1 o2 => Sys2Proof.Machine.execShfaRtD t o1 o2 s
  | .shfavLfQ t o1 o2 => Sys2Proof.Machine.execShfavLfQ t o1 o2 s
  | .shfavLfH t o1 o2 => Sys2Proof.Machine.execShfavLfH t o1 o2 s
  | .shfavLfS t o1 o2 => Sys2Proof.Machine.execShfavLfS t o1 o2 s
  | .shfavLfD t o1 o2 => Sys2Proof.Machine.execShfavLfD t o1 o2 s
  | .shfavRtQ t o1 o2 => Sys2Proof.Machine.execShfavRtQ t o1 o2 s
  | .shfavRtH t o1 o2 => Sys2Proof.Machine.execShfavRtH t o1 o2 s
  | .shfavRtS t o1 o2 => Sys2Proof.Machine.execShfavRtS t o1 o2 s
  | .shfavRtD t o1 o2 => Sys2Proof.Machine.execShfavRtD t o1 o2 s
  | .rotLfQ t o1 o2 => Sys2Proof.Machine.execRotLfQ t o1 o2 s
  | .rotLfH t o1 o2 => Sys2Proof.Machine.execRotLfH t o1 o2 s
  | .rotLfS t o1 o2 => Sys2Proof.Machine.execRotLfS t o1 o2 s
  | .rotLfD t o1 o2 => Sys2Proof.Machine.execRotLfD t o1 o2 s
  | .rotRtQ t o1 o2 => Sys2Proof.Machine.execRotRtQ t o1 o2 s
  | .rotRtH t o1 o2 => Sys2Proof.Machine.execRotRtH t o1 o2 s
  | .rotRtS t o1 o2 => Sys2Proof.Machine.execRotRtS t o1 o2 s
  | .rotRtD t o1 o2 => Sys2Proof.Machine.execRotRtD t o1 o2 s
  | .rotvLfQ t o1 o2 => Sys2Proof.Machine.execRotvLfQ t o1 o2 s
  | .rotvLfH t o1 o2 => Sys2Proof.Machine.execRotvLfH t o1 o2 s
  | .rotvLfS t o1 o2 => Sys2Proof.Machine.execRotvLfS t o1 o2 s
  | .rotvLfD t o1 o2 => Sys2Proof.Machine.execRotvLfD t o1 o2 s
  | .rotvRtQ t o1 o2 => Sys2Proof.Machine.execRotvRtQ t o1 o2 s
  | .rotvRtH t o1 o2 => Sys2Proof.Machine.execRotvRtH t o1 o2 s
  | .rotvRtS t o1 o2 => Sys2Proof.Machine.execRotvRtS t o1 o2 s
  | .rotvRtD t o1 o2 => Sys2Proof.Machine.execRotvRtD t o1 o2 s
  | .skpGtrQ skp o1 o2 => Sys2Proof.Machine.execSkpGtrQ skp o1 o2 s
  | .skpGtrH skp o1 o2 => Sys2Proof.Machine.execSkpGtrH skp o1 o2 s
  | .skpGtrS skp o1 o2 => Sys2Proof.Machine.execSkpGtrS skp o1 o2 s
  | .skpGtrD skp o1 o2 => Sys2Proof.Machine.execSkpGtrD skp o1 o2 s
  | .skpEqlQ skp o1 o2 => Sys2Proof.Machine.execSkpEqlQ skp o1 o2 s
  | .skpEqlH skp o1 o2 => Sys2Proof.Machine.execSkpEqlH skp o1 o2 s
  | .skpEqlS skp o1 o2 => Sys2Proof.Machine.execSkpEqlS skp o1 o2 s
  | .skpEqlD skp o1 o2 => Sys2Proof.Machine.execSkpEqlD skp o1 o2 s
  | .skpGeqQ skp o1 o2 => Sys2Proof.Machine.execSkpGeqQ skp o1 o2 s
  | .skpGeqH skp o1 o2 => Sys2Proof.Machine.execSkpGeqH skp o1 o2 s
  | .skpGeqS skp o1 o2 => Sys2Proof.Machine.execSkpGeqS skp o1 o2 s
  | .skpGeqD skp o1 o2 => Sys2Proof.Machine.execSkpGeqD skp o1 o2 s
  | .skpLssQ skp o1 o2 => Sys2Proof.Machine.execSkpLssQ skp o1 o2 s
  | .skpLssH skp o1 o2 => Sys2Proof.Machine.execSkpLssH skp o1 o2 s
  | .skpLssS skp o1 o2 => Sys2Proof.Machine.execSkpLssS skp o1 o2 s
  | .skpLssD skp o1 o2 => Sys2Proof.Machine.execSkpLssD skp o1 o2 s
  | .skpNeqQ skp o1 o2 => Sys2Proof.Machine.execSkpNeqQ skp o1 o2 s
  | .skpNeqH skp o1 o2 => Sys2Proof.Machine.execSkpNeqH skp o1 o2 s
  | .skpNeqS skp o1 o2 => Sys2Proof.Machine.execSkpNeqS skp o1 o2 s
  | .skpNeqD skp o1 o2 => Sys2Proof.Machine.execSkpNeqD skp o1 o2 s
  | .skpLeqQ skp o1 o2 => Sys2Proof.Machine.execSkpLeqQ skp o1 o2 s
  | .skpLeqH skp o1 o2 => Sys2Proof.Machine.execSkpLeqH skp o1 o2 s
  | .skpLeqS skp o1 o2 => Sys2Proof.Machine.execSkpLeqS skp o1 o2 s
  | .skpLeqD skp o1 o2 => Sys2Proof.Machine.execSkpLeqD skp o1 o2 s
  | .skpNonQ skp o1 o2 => Sys2Proof.Machine.execSkpNonQ skp o1 o2 s
  | .skpNonH skp o1 o2 => Sys2Proof.Machine.execSkpNonH skp o1 o2 s
  | .skpNonS skp o1 o2 => Sys2Proof.Machine.execSkpNonS skp o1 o2 s
  | .skpNonD skp o1 o2 => Sys2Proof.Machine.execSkpNonD skp o1 o2 s
  | .skpAllQ skp o1 o2 => Sys2Proof.Machine.execSkpAllQ skp o1 o2 s
  | .skpAllH skp o1 o2 => Sys2Proof.Machine.execSkpAllH skp o1 o2 s
  | .skpAllS skp o1 o2 => Sys2Proof.Machine.execSkpAllS skp o1 o2 s
  | .skpAllD skp o1 o2 => Sys2Proof.Machine.execSkpAllD skp o1 o2 s
  | .skpNalQ skp o1 o2 => Sys2Proof.Machine.execSkpNalQ skp o1 o2 s
  | .skpNalH skp o1 o2 => Sys2Proof.Machine.execSkpNalH skp o1 o2 s
  | .skpNalS skp o1 o2 => Sys2Proof.Machine.execSkpNalS skp o1 o2 s
  | .skpNalD skp o1 o2 => Sys2Proof.Machine.execSkpNalD skp o1 o2 s
  | .skpAnyQ skp o1 o2 => Sys2Proof.Machine.execSkpAnyQ skp o1 o2 s
  | .skpAnyH skp o1 o2 => Sys2Proof.Machine.execSkpAnyH skp o1 o2 s
  | .skpAnyS skp o1 o2 => Sys2Proof.Machine.execSkpAnyS skp o1 o2 s
  | .skpAnyD skp o1 o2 => Sys2Proof.Machine.execSkpAnyD skp o1 o2 s
  | .iskpGtr skp o1 o2 => Sys2Proof.Machine.execIskpGtr skp o1 o2 s
  | .iskpEql skp o1 o2 => Sys2Proof.Machine.execIskpEql skp o1 o2 s
  | .iskpGeq skp o1 o2 => Sys2Proof.Machine.execIskpGeq skp o1 o2 s
  | .iskpLss skp o1 o2 => Sys2Proof.Machine.execIskpLss skp o1 o2 s
  | .iskpNeq skp o1 o2 => Sys2Proof.Machine.execIskpNeq skp o1 o2 s
  | .iskpLeq skp o1 o2 => Sys2Proof.Machine.execIskpLeq skp o1 o2 s
  | .dskpGtr skp o1 o2 => Sys2Proof.Machine.execDskpGtr skp o1 o2 s
  | .dskpEql skp o1 o2 => Sys2Proof.Machine.execDskpEql skp o1 o2 s
  | .dskpGeq skp o1 o2 => Sys2Proof.Machine.execDskpGeq skp o1 o2 s
  | .dskpLss skp o1 o2 => Sys2Proof.Machine.execDskpLss skp o1 o2 s
  | .dskpNeq skp o1 o2 => Sys2Proof.Machine.execDskpNeq skp o1 o2 s
  | .dskpLeq skp o1 o2 => Sys2Proof.Machine.execDskpLeq skp o1 o2 s
  | .jmpGtr o1 j => Sys2Proof.Machine.execJmpGtr o1 j s
  | .jmpEql o1 j => Sys2Proof.Machine.execJmpEql o1 j s
  | .jmpGeq o1 j => Sys2Proof.Machine.execJmpGeq o1 j s
  | .jmpLss o1 j => Sys2Proof.Machine.execJmpLss o1 j s
  | .jmpNeq o1 j => Sys2Proof.Machine.execJmpNeq o1 j s
  | .jmpLeq o1 j => Sys2Proof.Machine.execJmpLeq o1 j s
  | .jmpzGtrQ o1 j => Sys2Proof.Machine.execJmpzGtrQ o1 j s
  | .jmpzGtrH o1 j => Sys2Proof.Machine.execJmpzGtrH o1 j s
  | .jmpzGtrS o1 j => Sys2Proof.Machine.execJmpzGtrS o1 j s
  | .jmpzGtrD o1 j => Sys2Proof.Machine.execJmpzGtrD o1 j s
  | .jmpzEqlQ o1 j => Sys2Proof.Machine.execJmpzEqlQ o1 j s
  | .jmpzEqlH o1 j => Sys2Proof.Machine.execJmpzEqlH o1 j s
  | .jmpzEqlS o1 j => Sys2Proof.Machine.execJmpzEqlS o1 j s
  | .jmpzEqlD o1 j => Sys2Proof.Machine.execJmpzEqlD o1 j s
  | .jmpzGeqQ o1 j => Sys2Proof.Machine.execJmpzGeqQ o1 j s
  | .jmpzGeqH o1 j => Sys2Proof.Machine.execJmpzGeqH o1 j s
  | .jmpzGeqS o1 j => Sys2Proof.Machine.execJmpzGeqS o1 j s
  | .jmpzGeqD o1 j => Sys2Proof.Machine.execJmpzGeqD o1 j s
  | .jmpzLssQ o1 j => Sys2Proof.Machine.execJmpzLssQ o1 j s
  | .jmpzLssH o1 j => Sys2Proof.Machine.execJmpzLssH o1 j s
  | .jmpzLssS o1 j => Sys2Proof.Machine.execJmpzLssS o1 j s
  | .jmpzLssD o1 j => Sys2Proof.Machine.execJmpzLssD o1 j s
  | .jmpzNeqQ o1 j => Sys2Proof.Machine.execJmpzNeqQ o1 j s
  | .jmpzNeqH o1 j => Sys2Proof.Machine.execJmpzNeqH o1 j s
  | .jmpzNeqS o1 j => Sys2Proof.Machine.execJmpzNeqS o1 j s
  | .jmpzNeqD o1 j => Sys2Proof.Machine.execJmpzNeqD o1 j s
  | .jmpzLeqQ o1 j => Sys2Proof.Machine.execJmpzLeqQ o1 j s
  | .jmpzLeqH o1 j => Sys2Proof.Machine.execJmpzLeqH o1 j s
  | .jmpzLeqS o1 j => Sys2Proof.Machine.execJmpzLeqS o1 j s
  | .jmpzLeqD o1 j => Sys2Proof.Machine.execJmpzLeqD o1 j s
  | .jmpa o1 j => Sys2Proof.Machine.execJmpa o1 j s
  | .ijmpGtr o1 j => Sys2Proof.Machine.execIjmpGtr o1 j s
  | .ijmpEql o1 j => Sys2Proof.Machine.execIjmpEql o1 j s
  | .ijmpGeq o1 j => Sys2Proof.Machine.execIjmpGeq o1 j s
  | .ijmpLss o1 j => Sys2Proof.Machine.execIjmpLss o1 j s
  | .ijmpNeq o1 j => Sys2Proof.Machine.execIjmpNeq o1 j s
  | .ijmpLeq o1 j => Sys2Proof.Machine.execIjmpLeq o1 j s
  | .ijmpzGtr o1 j => Sys2Proof.Machine.execIjmpzGtr o1 j s
  | .ijmpzEql o1 j => Sys2Proof.Machine.execIjmpzEql o1 j s
  | .ijmpzGeq o1 j => Sys2Proof.Machine.execIjmpzGeq o1 j s
  | .ijmpzLss o1 j => Sys2Proof.Machine.execIjmpzLss o1 j s
  | .ijmpzNeq o1 j => Sys2Proof.Machine.execIjmpzNeq o1 j s
  | .ijmpzLeq o1 j => Sys2Proof.Machine.execIjmpzLeq o1 j s
  | .ijmpa o1 j => Sys2Proof.Machine.execIjmpa o1 j s
  | .djmpGtr o1 j => Sys2Proof.Machine.execDjmpGtr o1 j s
  | .djmpEql o1 j => Sys2Proof.Machine.execDjmpEql o1 j s
  | .djmpGeq o1 j => Sys2Proof.Machine.execDjmpGeq o1 j s
  | .djmpLss o1 j => Sys2Proof.Machine.execDjmpLss o1 j s
  | .djmpNeq o1 j => Sys2Proof.Machine.execDjmpNeq o1 j s
  | .djmpLeq o1 j => Sys2Proof.Machine.execDjmpLeq o1 j s
  | .djmpzGtr o1 j => Sys2Proof.Machine.execDjmpzGtr o1 j s
  | .djmpzEql o1 j => Sys2Proof.Machine.execDjmpzEql o1 j s
  | .djmpzGeq o1 j => Sys2Proof.Machine.execDjmpzGeq o1 j s
  | .djmpzLss o1 j => Sys2Proof.Machine.execDjmpzLss o1 j s
  | .djmpzNeq o1 j => Sys2Proof.Machine.execDjmpzNeq o1 j s
  | .djmpzLeq o1 j => Sys2Proof.Machine.execDjmpzLeq o1 j s
  | .djmpa o1 j => Sys2Proof.Machine.execDjmpa o1 j s
  | .bndtrpBQ o1 o2 => Sys2Proof.Machine.execBndtrpBQ o1 o2 s
  | .bndtrpBH o1 o2 => Sys2Proof.Machine.execBndtrpBH o1 o2 s
  | .bndtrpBS o1 o2 => Sys2Proof.Machine.execBndtrpBS o1 o2 s
  | .bndtrpBD o1 o2 => Sys2Proof.Machine.execBndtrpBD o1 o2 s
  | .bndtrpMinQ o1 o2 => Sys2Proof.Machine.execBndtrpMinQ o1 o2 s
  | .bndtrpMinH o1 o2 => Sys2Proof.Machine.execBndtrpMinH o1 o2 s
  | .bndtrpMinS o1 o2 => Sys2Proof.Machine.execBndtrpMinS o1 o2 s
  | .bndtrpMinD o1 o2 => Sys2Proof.Machine.execBndtrpMinD o1 o2 s
  | .bndtrpM1Q o1 o2 => Sys2Proof.Machine.execBndtrpM1Q o1 o2 s
  | .bndtrpM1H o1 o2 => Sys2Proof.Machine.execBndtrpM1H o1 o2 s
  | .bndtrpM1S o1 o2 => Sys2Proof.Machine.execBndtrpM1S o1 o2 s
  | .bndtrpM1D o1 o2 => Sys2Proof.Machine.execBndtrpM1D o1 o2 s
  | .bndtrp0Q o1 o2 => Sys2Proof.Machine.execBndtrp0Q o1 o2 s
  | .bndtrp0H o1 o2 => Sys2Proof.Machine.execBndtrp0H o1 o2 s
  | .bndtrp0S o1 o2 => Sys2Proof.Machine.execBndtrp0S o1 o2 s
  | .bndtrp0D o1 o2 => Sys2Proof.Machine.execBndtrp0D o1 o2 s
  | .bndtrp1Q o1 o2 => Sys2Proof.Machine.execBndtrp1Q o1 o2 s
  | .bndtrp1H o1 o2 => Sys2Proof.Machine.execBndtrp1H o1 o2 s
  | .bndtrp1S o1 o2 => Sys2Proof.Machine.execBndtrp1S o1 o2 s
  | .bndtrp1D o1 o2 => Sys2Proof.Machine.execBndtrp1D o1 o2 s
  | .jpatch disp => Sys2Proof.Machine.execJpatch disp s
  | .jsr o1 j => Sys2Proof.Machine.execJsr o1 j s
  | .jcr o1 o2 => Sys2Proof.Machine.execJcr o1 o2 s
  | .alloc1 o1 o2 => Sys2Proof.Machine.execAlloc1 o1 o2 s
  | .alloc2 o1 o2 => Sys2Proof.Machine.execAlloc2 o1 o2 s
  | .alloc3 o1 o2 => Sys2Proof.Machine.execAlloc3 o1 o2 s
  | .alloc4 o1 o2 => Sys2Proof.Machine.execAlloc4 o1 o2 s
  | .alloc5 o1 o2 => Sys2Proof.Machine.execAlloc5 o1 o2 s
  | .alloc6 o1 o2 => Sys2Proof.Machine.execAlloc6 o1 o2 s
  | .alloc7 o1 o2 => Sys2Proof.Machine.execAlloc7 o1 o2 s
  | .alloc8 o1 o2 => Sys2Proof.Machine.execAlloc8 o1 o2 s
  | .alloc9 o1 o2 => Sys2Proof.Machine.execAlloc9 o1 o2 s
  | .alloc10 o1 o2 => Sys2Proof.Machine.execAlloc10 o1 o2 s
  | .alloc11 o1 o2 => Sys2Proof.Machine.execAlloc11 o1 o2 s
  | .alloc12 o1 o2 => Sys2Proof.Machine.execAlloc12 o1 o2 s
  | .alloc13 o1 o2 => Sys2Proof.Machine.execAlloc13 o1 o2 s
  | .alloc14 o1 o2 => Sys2Proof.Machine.execAlloc14 o1 o2 s
  | .alloc15 o1 o2 => Sys2Proof.Machine.execAlloc15 o1 o2 s
  | .alloc16 o1 o2 => Sys2Proof.Machine.execAlloc16 o1 o2 s
  | .alloc17 o1 o2 => Sys2Proof.Machine.execAlloc17 o1 o2 s
  | .alloc18 o1 o2 => Sys2Proof.Machine.execAlloc18 o1 o2 s
  | .alloc19 o1 o2 => Sys2Proof.Machine.execAlloc19 o1 o2 s
  | .alloc20 o1 o2 => Sys2Proof.Machine.execAlloc20 o1 o2 s
  | .alloc21 o1 o2 => Sys2Proof.Machine.execAlloc21 o1 o2 s
  | .alloc22 o1 o2 => Sys2Proof.Machine.execAlloc22 o1 o2 s
  | .alloc23 o1 o2 => Sys2Proof.Machine.execAlloc23 o1 o2 s
  | .alloc24 o1 o2 => Sys2Proof.Machine.execAlloc24 o1 o2 s
  | .alloc25 o1 o2 => Sys2Proof.Machine.execAlloc25 o1 o2 s
  | .alloc26 o1 o2 => Sys2Proof.Machine.execAlloc26 o1 o2 s
  | .alloc27 o1 o2 => Sys2Proof.Machine.execAlloc27 o1 o2 s
  | .alloc28 o1 o2 => Sys2Proof.Machine.execAlloc28 o1 o2 s
  | .alloc29 o1 o2 => Sys2Proof.Machine.execAlloc29 o1 o2 s
  | .alloc30 o1 o2 => Sys2Proof.Machine.execAlloc30 o1 o2 s
  | .alloc31 o1 o2 => Sys2Proof.Machine.execAlloc31 o1 o2 s
  | .alloc32 o1 o2 => Sys2Proof.Machine.execAlloc32 o1 o2 s
  | .retsr o1 o2 => Sys2Proof.Machine.execRetsr o1 o2 s
  | .ret o1 o2 => Sys2Proof.Machine.execRet o1 o2 s
  | .retus o1 o2 => Sys2Proof.Machine.execRetus o1 o2 s
  | .retfs o1 o2 => Sys2Proof.Machine.execRetfs o1 o2 s
  | .trpslf0 o1 o2 => Sys2Proof.Machine.execTrpslf0 o1 o2 s
  | .trpslf1 o1 o2 => Sys2Proof.Machine.execTrpslf1 o1 o2 s
  | .trpslf2 o1 o2 => Sys2Proof.Machine.execTrpslf2 o1 o2 s
  | .trpslf3 o1 o2 => Sys2Proof.Machine.execTrpslf3 o1 o2 s
  | .trpslf4 o1 o2 => Sys2Proof.Machine.execTrpslf4 o1 o2 s
  | .trpslf5 o1 o2 => Sys2Proof.Machine.execTrpslf5 o1 o2 s
  | .trpslf6 o1 o2 => Sys2Proof.Machine.execTrpslf6 o1 o2 s
  | .trpslf7 o1 o2 => Sys2Proof.Machine.execTrpslf7 o1 o2 s
  | .trpslf8 o1 o2 => Sys2Proof.Machine.execTrpslf8 o1 o2 s
  | .trpslf9 o1 o2 => Sys2Proof.Machine.execTrpslf9 o1 o2 s
  | .trpslf10 o1 o2 => Sys2Proof.Machine.execTrpslf10 o1 o2 s
  | .trpslf11 o1 o2 => Sys2Proof.Machine.execTrpslf11 o1 o2 s
  | .trpslf12 o1 o2 => Sys2Proof.Machine.execTrpslf12 o1 o2 s
  | .trpslf13 o1 o2 => Sys2Proof.Machine.execTrpslf13 o1 o2 s
  | .trpslf14 o1 o2 => Sys2Proof.Machine.execTrpslf14 o1 o2 s
  | .trpslf15 o1 o2 => Sys2Proof.Machine.execTrpslf15 o1 o2 s
  | .trpslf16 o1 o2 => Sys2Proof.Machine.execTrpslf16 o1 o2 s
  | .trpslf17 o1 o2 => Sys2Proof.Machine.execTrpslf17 o1 o2 s
  | .trpslf18 o1 o2 => Sys2Proof.Machine.execTrpslf18 o1 o2 s
  | .trpslf19 o1 o2 => Sys2Proof.Machine.execTrpslf19 o1 o2 s
  | .trpslf20 o1 o2 => Sys2Proof.Machine.execTrpslf20 o1 o2 s
  | .trpslf21 o1 o2 => Sys2Proof.Machine.execTrpslf21 o1 o2 s
  | .trpslf22 o1 o2 => Sys2Proof.Machine.execTrpslf22 o1 o2 s
  | .trpslf23 o1 o2 => Sys2Proof.Machine.execTrpslf23 o1 o2 s
  | .trpslf24 o1 o2 => Sys2Proof.Machine.execTrpslf24 o1 o2 s
  | .trpslf25 o1 o2 => Sys2Proof.Machine.execTrpslf25 o1 o2 s
  | .trpslf26 o1 o2 => Sys2Proof.Machine.execTrpslf26 o1 o2 s
  | .trpslf27 o1 o2 => Sys2Proof.Machine.execTrpslf27 o1 o2 s
  | .trpslf28 o1 o2 => Sys2Proof.Machine.execTrpslf28 o1 o2 s
  | .trpslf29 o1 o2 => Sys2Proof.Machine.execTrpslf29 o1 o2 s
  | .trpslf30 o1 o2 => Sys2Proof.Machine.execTrpslf30 o1 o2 s
  | .trpslf31 o1 o2 => Sys2Proof.Machine.execTrpslf31 o1 o2 s
  | .trpslf32 o1 o2 => Sys2Proof.Machine.execTrpslf32 o1 o2 s
  | .trpslf33 o1 o2 => Sys2Proof.Machine.execTrpslf33 o1 o2 s
  | .trpslf34 o1 o2 => Sys2Proof.Machine.execTrpslf34 o1 o2 s
  | .trpslf35 o1 o2 => Sys2Proof.Machine.execTrpslf35 o1 o2 s
  | .trpslf36 o1 o2 => Sys2Proof.Machine.execTrpslf36 o1 o2 s
  | .trpslf37 o1 o2 => Sys2Proof.Machine.execTrpslf37 o1 o2 s
  | .trpslf38 o1 o2 => Sys2Proof.Machine.execTrpslf38 o1 o2 s
  | .trpslf39 o1 o2 => Sys2Proof.Machine.execTrpslf39 o1 o2 s
  | .trpslf40 o1 o2 => Sys2Proof.Machine.execTrpslf40 o1 o2 s
  | .trpslf41 o1 o2 => Sys2Proof.Machine.execTrpslf41 o1 o2 s
  | .trpslf42 o1 o2 => Sys2Proof.Machine.execTrpslf42 o1 o2 s
  | .trpslf43 o1 o2 => Sys2Proof.Machine.execTrpslf43 o1 o2 s
  | .trpslf44 o1 o2 => Sys2Proof.Machine.execTrpslf44 o1 o2 s
  | .trpslf45 o1 o2 => Sys2Proof.Machine.execTrpslf45 o1 o2 s
  | .trpslf46 o1 o2 => Sys2Proof.Machine.execTrpslf46 o1 o2 s
  | .trpslf47 o1 o2 => Sys2Proof.Machine.execTrpslf47 o1 o2 s
  | .trpslf48 o1 o2 => Sys2Proof.Machine.execTrpslf48 o1 o2 s
  | .trpslf49 o1 o2 => Sys2Proof.Machine.execTrpslf49 o1 o2 s
  | .trpslf50 o1 o2 => Sys2Proof.Machine.execTrpslf50 o1 o2 s
  | .trpslf51 o1 o2 => Sys2Proof.Machine.execTrpslf51 o1 o2 s
  | .trpslf52 o1 o2 => Sys2Proof.Machine.execTrpslf52 o1 o2 s
  | .trpslf53 o1 o2 => Sys2Proof.Machine.execTrpslf53 o1 o2 s
  | .trpslf54 o1 o2 => Sys2Proof.Machine.execTrpslf54 o1 o2 s
  | .trpslf55 o1 o2 => Sys2Proof.Machine.execTrpslf55 o1 o2 s
  | .trpslf56 o1 o2 => Sys2Proof.Machine.execTrpslf56 o1 o2 s
  | .trpslf57 o1 o2 => Sys2Proof.Machine.execTrpslf57 o1 o2 s
  | .trpslf58 o1 o2 => Sys2Proof.Machine.execTrpslf58 o1 o2 s
  | .trpslf59 o1 o2 => Sys2Proof.Machine.execTrpslf59 o1 o2 s
  | .trpslf60 o1 o2 => Sys2Proof.Machine.execTrpslf60 o1 o2 s
  | .trpslf61 o1 o2 => Sys2Proof.Machine.execTrpslf61 o1 o2 s
  | .trpslf62 o1 o2 => Sys2Proof.Machine.execTrpslf62 o1 o2 s
  | .trpslf63 o1 o2 => Sys2Proof.Machine.execTrpslf63 o1 o2 s
  | .trpexe0 o1 o2 => Sys2Proof.Machine.execTrpexe0 o1 o2 s
  | .trpexe1 o1 o2 => Sys2Proof.Machine.execTrpexe1 o1 o2 s
  | .trpexe2 o1 o2 => Sys2Proof.Machine.execTrpexe2 o1 o2 s
  | .trpexe3 o1 o2 => Sys2Proof.Machine.execTrpexe3 o1 o2 s
  | .trpexe4 o1 o2 => Sys2Proof.Machine.execTrpexe4 o1 o2 s
  | .trpexe5 o1 o2 => Sys2Proof.Machine.execTrpexe5 o1 o2 s
  | .trpexe6 o1 o2 => Sys2Proof.Machine.execTrpexe6 o1 o2 s
  | .trpexe7 o1 o2 => Sys2Proof.Machine.execTrpexe7 o1 o2 s
  | .trpexe8 o1 o2 => Sys2Proof.Machine.execTrpexe8 o1 o2 s
  | .trpexe9 o1 o2 => Sys2Proof.Machine.execTrpexe9 o1 o2 s
  | .trpexe10 o1 o2 => Sys2Proof.Machine.execTrpexe10 o1 o2 s
  | .trpexe11 o1 o2 => Sys2Proof.Machine.execTrpexe11 o1 o2 s
  | .trpexe12 o1 o2 => Sys2Proof.Machine.execTrpexe12 o1 o2 s
  | .trpexe13 o1 o2 => Sys2Proof.Machine.execTrpexe13 o1 o2 s
  | .trpexe14 o1 o2 => Sys2Proof.Machine.execTrpexe14 o1 o2 s
  | .trpexe15 o1 o2 => Sys2Proof.Machine.execTrpexe15 o1 o2 s
  | .trpexe16 o1 o2 => Sys2Proof.Machine.execTrpexe16 o1 o2 s
  | .trpexe17 o1 o2 => Sys2Proof.Machine.execTrpexe17 o1 o2 s
  | .trpexe18 o1 o2 => Sys2Proof.Machine.execTrpexe18 o1 o2 s
  | .trpexe19 o1 o2 => Sys2Proof.Machine.execTrpexe19 o1 o2 s
  | .trpexe20 o1 o2 => Sys2Proof.Machine.execTrpexe20 o1 o2 s
  | .trpexe21 o1 o2 => Sys2Proof.Machine.execTrpexe21 o1 o2 s
  | .trpexe22 o1 o2 => Sys2Proof.Machine.execTrpexe22 o1 o2 s
  | .trpexe23 o1 o2 => Sys2Proof.Machine.execTrpexe23 o1 o2 s
  | .trpexe24 o1 o2 => Sys2Proof.Machine.execTrpexe24 o1 o2 s
  | .trpexe25 o1 o2 => Sys2Proof.Machine.execTrpexe25 o1 o2 s
  | .trpexe26 o1 o2 => Sys2Proof.Machine.execTrpexe26 o1 o2 s
  | .trpexe27 o1 o2 => Sys2Proof.Machine.execTrpexe27 o1 o2 s
  | .trpexe28 o1 o2 => Sys2Proof.Machine.execTrpexe28 o1 o2 s
  | .trpexe29 o1 o2 => Sys2Proof.Machine.execTrpexe29 o1 o2 s
  | .trpexe30 o1 o2 => Sys2Proof.Machine.execTrpexe30 o1 o2 s
  | .trpexe31 o1 o2 => Sys2Proof.Machine.execTrpexe31 o1 o2 s
  | .trpexe32 o1 o2 => Sys2Proof.Machine.execTrpexe32 o1 o2 s
  | .trpexe33 o1 o2 => Sys2Proof.Machine.execTrpexe33 o1 o2 s
  | .trpexe34 o1 o2 => Sys2Proof.Machine.execTrpexe34 o1 o2 s
  | .trpexe35 o1 o2 => Sys2Proof.Machine.execTrpexe35 o1 o2 s
  | .trpexe36 o1 o2 => Sys2Proof.Machine.execTrpexe36 o1 o2 s
  | .trpexe37 o1 o2 => Sys2Proof.Machine.execTrpexe37 o1 o2 s
  | .trpexe38 o1 o2 => Sys2Proof.Machine.execTrpexe38 o1 o2 s
  | .trpexe39 o1 o2 => Sys2Proof.Machine.execTrpexe39 o1 o2 s
  | .trpexe40 o1 o2 => Sys2Proof.Machine.execTrpexe40 o1 o2 s
  | .trpexe41 o1 o2 => Sys2Proof.Machine.execTrpexe41 o1 o2 s
  | .trpexe42 o1 o2 => Sys2Proof.Machine.execTrpexe42 o1 o2 s
  | .trpexe43 o1 o2 => Sys2Proof.Machine.execTrpexe43 o1 o2 s
  | .trpexe44 o1 o2 => Sys2Proof.Machine.execTrpexe44 o1 o2 s
  | .trpexe45 o1 o2 => Sys2Proof.Machine.execTrpexe45 o1 o2 s
  | .trpexe46 o1 o2 => Sys2Proof.Machine.execTrpexe46 o1 o2 s
  | .trpexe47 o1 o2 => Sys2Proof.Machine.execTrpexe47 o1 o2 s
  | .trpexe48 o1 o2 => Sys2Proof.Machine.execTrpexe48 o1 o2 s
  | .trpexe49 o1 o2 => Sys2Proof.Machine.execTrpexe49 o1 o2 s
  | .trpexe50 o1 o2 => Sys2Proof.Machine.execTrpexe50 o1 o2 s
  | .trpexe51 o1 o2 => Sys2Proof.Machine.execTrpexe51 o1 o2 s
  | .trpexe52 o1 o2 => Sys2Proof.Machine.execTrpexe52 o1 o2 s
  | .trpexe53 o1 o2 => Sys2Proof.Machine.execTrpexe53 o1 o2 s
  | .trpexe54 o1 o2 => Sys2Proof.Machine.execTrpexe54 o1 o2 s
  | .trpexe55 o1 o2 => Sys2Proof.Machine.execTrpexe55 o1 o2 s
  | .trpexe56 o1 o2 => Sys2Proof.Machine.execTrpexe56 o1 o2 s
  | .trpexe57 o1 o2 => Sys2Proof.Machine.execTrpexe57 o1 o2 s
  | .trpexe58 o1 o2 => Sys2Proof.Machine.execTrpexe58 o1 o2 s
  | .trpexe59 o1 o2 => Sys2Proof.Machine.execTrpexe59 o1 o2 s
  | .trpexe60 o1 o2 => Sys2Proof.Machine.execTrpexe60 o1 o2 s
  | .trpexe61 o1 o2 => Sys2Proof.Machine.execTrpexe61 o1 o2 s
  | .trpexe62 o1 o2 => Sys2Proof.Machine.execTrpexe62 o1 o2 s
  | .trpexe63 o1 o2 => Sys2Proof.Machine.execTrpexe63 o1 o2 s
  | .adjspUp o1 o2 => Sys2Proof.Machine.execAdjspUp o1 o2 s
  | .adjspDn o1 o2 => Sys2Proof.Machine.execAdjspDn o1 o2 s
  | .pushUpQ o1 o2 => Sys2Proof.Machine.execPushUpQ o1 o2 s
  | .pushUpH o1 o2 => Sys2Proof.Machine.execPushUpH o1 o2 s
  | .pushUpS o1 o2 => Sys2Proof.Machine.execPushUpS o1 o2 s
  | .pushUpD o1 o2 => Sys2Proof.Machine.execPushUpD o1 o2 s
  | .pushDnQ o1 o2 => Sys2Proof.Machine.execPushDnQ o1 o2 s
  | .pushDnH o1 o2 => Sys2Proof.Machine.execPushDnH o1 o2 s
  | .pushDnS o1 o2 => Sys2Proof.Machine.execPushDnS o1 o2 s
  | .pushDnD o1 o2 => Sys2Proof.Machine.execPushDnD o1 o2 s
  | .popUpQ o1 o2 => Sys2Proof.Machine.execPopUpQ o1 o2 s
  | .popUpH o1 o2 => Sys2Proof.Machine.execPopUpH o1 o2 s
  | .popUpS o1 o2 => Sys2Proof.Machine.execPopUpS o1 o2 s
  | .popUpD o1 o2 => Sys2Proof.Machine.execPopUpD o1 o2 s
  | .popDnQ o1 o2 => Sys2Proof.Machine.execPopDnQ o1 o2 s
  | .popDnH o1 o2 => Sys2Proof.Machine.execPopDnH o1 o2 s
  | .popDnS o1 o2 => Sys2Proof.Machine.execPopDnS o1 o2 s
  | .popDnD o1 o2 => Sys2Proof.Machine.execPopDnD o1 o2 s
  | .lbytS o1 o2 => Sys2Proof.Machine.execLbytS o1 o2 s
  | .lbytD o1 o2 => Sys2Proof.Machine.execLbytD o1 o2 s
  | .libytS t o1 o2 => Sys2Proof.Machine.execLibytS t o1 o2 s
  | .libytD t o1 o2 => Sys2Proof.Machine.execLibytD t o1 o2 s
  | .lsbytS o1 o2 => Sys2Proof.Machine.execLsbytS o1 o2 s
  | .lsbytD o1 o2 => Sys2Proof.Machine.execLsbytD o1 o2 s
  | .lisbytS t o1 o2 => Sys2Proof.Machine.execLisbytS t o1 o2 s
  | .lisbytD t o1 o2 => Sys2Proof.Machine.execLisbytD t o1 o2 s
  | .dbytS o1 o2 => Sys2Proof.Machine.execDbytS o1 o2 s
  | .dbytD o1 o2 => Sys2Proof.Machine.execDbytD o1 o2 s
  | .dibytS t o1 o2 => Sys2Proof.Machine.execDibytS t o1 o2 s
  | .dibytD t o1 o2 => Sys2Proof.Machine.execDibytD t o1 o2 s
  | .adjbpS t o1 o2 => Sys2Proof.Machine.execAdjbpS t o1 o2 s
  | .adjbpD t o1 o2 => Sys2Proof.Machine.execAdjbpD t o1 o2 s
  | .bitrvQ t o1 o2 => Sys2Proof.Machine.execBitrvQ t o1 o2 s
  | .bitrvH t o1 o2 => Sys2Proof.Machine.execBitrvH t o1 o2 s
  | .bitrvS t o1 o2 => Sys2Proof.Machine.execBitrvS t o1 o2 s
  | .bitrvD t o1 o2 => Sys2Proof.Machine.execBitrvD t o1 o2 s
  | .bitrvvQ t o1 o2 => Sys2Proof.Machine.execBitrvvQ t o1 o2 s
  | .bitrvvH t o1 o2 => Sys2Proof.Machine.execBitrvvH t o1 o2 s
  | .bitrvvS t o1 o2 => Sys2Proof.Machine.execBitrvvS t o1 o2 s
  | .bitrvvD t o1 o2 => Sys2Proof.Machine.execBitrvvD t o1 o2 s
  | .bitexQ t o1 o2 => Sys2Proof.Machine.execBitexQ t o1 o2 s
  | .bitexH t o1 o2 => Sys2Proof.Machine.execBitexH t o1 o2 s
  | .bitexS t o1 o2 => Sys2Proof.Machine.execBitexS t o1 o2 s
  | .bitexD t o1 o2 => Sys2Proof.Machine.execBitexD t o1 o2 s
  | .bitexvQ t o1 o2 => Sys2Proof.Machine.execBitexvQ t o1 o2 s
  | .bitexvH t o1 o2 => Sys2Proof.Machine.execBitexvH t o1 o2 s
  | .bitexvS t o1 o2 => Sys2Proof.Machine.execBitexvS t o1 o2 s
  | .bitexvD t o1 o2 => Sys2Proof.Machine.execBitexvD t o1 o2 s
  | .bitcntQ o1 o2 => Sys2Proof.Machine.execBitcntQ o1 o2 s
  | .bitcntH o1 o2 => Sys2Proof.Machine.execBitcntH o1 o2 s
  | .bitcntS o1 o2 => Sys2Proof.Machine.execBitcntS o1 o2 s
  | .bitcntD o1 o2 => Sys2Proof.Machine.execBitcntD o1 o2 s
  | .bitfstQ o1 o2 => Sys2Proof.Machine.execBitfstQ o1 o2 s
  | .bitfstH o1 o2 => Sys2Proof.Machine.execBitfstH o1 o2 s
  | .bitfstS o1 o2 => Sys2Proof.Machine.execBitfstS o1 o2 s
  | .bitfstD o1 o2 => Sys2Proof.Machine.execBitfstD o1 o2 s
  | .strcmpRta o1 o2 => Sys2Proof.Machine.execStrcmpRta o1 o2 s
  | .strcmpRtb o1 o2 => Sys2Proof.Machine.execStrcmpRtb o1 o2 s
  | .blkmovRta o1 o2 => Sys2Proof.Machine.execBlkmovRta o1 o2 s
  | .blkmovRtb o1 o2 => Sys2Proof.Machine.execBlkmovRtb o1 o2 s
  | .blkiniRtaQ o1 o2 => Sys2Proof.Machine.execBlkiniRtaQ o1 o2 s
  | .blkiniRtaH o1 o2 => Sys2Proof.Machine.execBlkiniRtaH o1 o2 s
  | .blkiniRtaS o1 o2 => Sys2Proof.Machine.execBlkiniRtaS o1 o2 s
  | .blkiniRtaD o1 o2 => Sys2Proof.Machine.execBlkiniRtaD o1 o2 s
  | .blkiniRtbQ o1 o2 => Sys2Proof.Machine.execBlkiniRtbQ o1 o2 s
  | .blkiniRtbH o1 o2 => Sys2Proof.Machine.execBlkiniRtbH o1 o2 s
  | .blkiniRtbS o1 o2 => Sys2Proof.Machine.execBlkiniRtbS o1 o2 s
  | .blkiniRtbD o1 o2 => Sys2Proof.Machine.execBlkiniRtbD o1 o2 s
  | .blkidRta o1 o2 => Sys2Proof.Machine.execBlkidRta o1 o2 s
  | .blkidRtb o1 o2 => Sys2Proof.Machine.execBlkidRtb o1 o2 s
  | .blkdiRta o1 o2 => Sys2Proof.Machine.execBlkdiRta o1 o2 s
  | .blkdiRtb o1 o2 => Sys2Proof.Machine.execBlkdiRtb o1 o2 s
  | .rus o1 o2 => Sys2Proof.Machine.execRus o1 o2 s
  | .jusclrNon o1 j => Sys2Proof.Machine.execJusclrNon o1 j s
  | .jusclrAll o1 j => Sys2Proof.Machine.execJusclrAll o1 j s
  | .jusclrNal o1 j => Sys2Proof.Machine.execJusclrNal o1 j s
  | .jusclrAny o1 j => Sys2Proof.Machine.execJusclrAny o1 j s
  | .jusNon o1 j => Sys2Proof.Machine.execJusNon o1 j s
  | .jusAll o1 j => Sys2Proof.Machine.execJusAll o1 j s
  | .jusNal o1 j => Sys2Proof.Machine.execJusNal o1 j s
  | .jusAny o1 j => Sys2Proof.Machine.execJusAny o1 j s
  | .wusjmp o1 j => Sys2Proof.Machine.execWusjmp o1 j s
  | .setus o1 o2 => Sys2Proof.Machine.execSetus o1 o2 s
  | .clrus o1 o2 => Sys2Proof.Machine.execClrus o1 o2 s
  | .rspid o1 o2 => Sys2Proof.Machine.execRspid o1 o2 s
  | .wspid o1 o2 => Sys2Proof.Machine.execWspid o1 o2 s
  | .rrndmd o1 o2 => Sys2Proof.Machine.execRrndmd o1 o2 s
  | .wrndmd o1 o2 => Sys2Proof.Machine.execWrndmd o1 o2 s
  | .rps o1 o2 => Sys2Proof.Machine.execRps o1 o2 s
  | .wfsjmp o1 j => Sys2Proof.Machine.execWfsjmp o1 j s
  | .rcfile o1 o2 => Sys2Proof.Machine.execRcfile o1 o2 s
  | .wcfile o1 o2 => Sys2Proof.Machine.execWcfile o1 o2 s
  | .rpfile o1 o2 => Sys2Proof.Machine.execRpfile o1 o2 s
  | .wpfile o1 o2 => Sys2Proof.Machine.execWpfile o1 o2 s
  | .rpid o1 o2 => Sys2Proof.Machine.execRpid o1 o2 s
  | .swpicRtaV o1 o2 => Sys2Proof.Machine.execSwpicRtaV o1 o2 s
  | .swpicRtaP o1 o2 => Sys2Proof.Machine.execSwpicRtaP o1 o2 s
  | .swpicRtbV o1 o2 => Sys2Proof.Machine.execSwpicRtbV o1 o2 s
  | .swpicRtbP o1 o2 => Sys2Proof.Machine.execSwpicRtbP o1 o2 s
  | .swpdcRtaVU o1 o2 => Sys2Proof.Machine.execSwpdcRtaVU o1 o2 s
  | .swpdcRtaVUk o1 o2 => Sys2Proof.Machine.execSwpdcRtaVUk o1 o2 s
  | .swpdcRtaPU o1 o2 => Sys2Proof.Machine.execSwpdcRtaPU o1 o2 s
  | .swpdcRtaPUk o1 o2 => Sys2Proof.Machine.execSwpdcRtaPUk o1 o2 s
  | .swpdcRtbVU o1 o2 => Sys2Proof.Machine.execSwpdcRtbVU o1 o2 s
  | .swpdcRtbVUk o1 o2 => Sys2Proof.Machine.execSwpdcRtbVUk o1 o2 s
  | .swpdcRtbPU o1 o2 => Sys2Proof.Machine.execSwpdcRtbPU o1 o2 s
  | .swpdcRtbPUk o1 o2 => Sys2Proof.Machine.execSwpdcRtbPUk o1 o2 s
  | .swpimE o1 o2 => Sys2Proof.Machine.execSwpimE o1 o2 s
  | .swpimU o1 o2 => Sys2Proof.Machine.execSwpimU o1 o2 s
  | .swpdmE o1 o2 => Sys2Proof.Machine.execSwpdmE o1 o2 s
  | .swpdmU o1 o2 => Sys2Proof.Machine.execSwpdmU o1 o2 s
  | .wupjmp o1 j => Sys2Proof.Machine.execWupjmp o1 j s
  | .wepjmp o1 j => Sys2Proof.Machine.execWepjmp o1 j s
  | .rien o1 o2 => Sys2Proof.Machine.execRien o1 o2 s
  | .wien o1 o2 => Sys2Proof.Machine.execWien o1 o2 s
  | .sien o1 o2 => Sys2Proof.Machine.execSien o1 o2 s
  | .cien o1 o2 => Sys2Proof.Machine.execCien o1 o2 s
  | .ripnd o1 o2 => Sys2Proof.Machine.execRipnd o1 o2 s
  | .wipnd o1 o2 => Sys2Proof.Machine.execWipnd o1 o2 s
  | .sipnd o1 o2 => Sys2Proof.Machine.execSipnd o1 o2 s
  | .cipnd o1 o2 => Sys2Proof.Machine.execCipnd o1 o2 s
  | .ripar o1 o2 => Sys2Proof.Machine.execRipar o1 o2 s
  | .wipar o1 o2 => Sys2Proof.Machine.execWipar o1 o2 s
  | .blkiorRtaB o1 o2 => Sys2Proof.Machine.execBlkiorRtaB o1 o2 s
  | .blkiorRtaQ o1 o2 => Sys2Proof.Machine.execBlkiorRtaQ o1 o2 s
  | .blkiorRtaH o1 o2 => Sys2Proof.Machine.execBlkiorRtaH o1 o2 s
  | .blkiorRtaS o1 o2 => Sys2Proof.Machine.execBlkiorRtaS o1 o2 s
  | .blkiorRtbB o1 o2 => Sys2Proof.Machine.execBlkiorRtbB o1 o2 s
  | .blkiorRtbQ o1 o2 => Sys2Proof.Machine.execBlkiorRtbQ o1 o2 s
  | .blkiorRtbH o1 o2 => Sys2Proof.Machine.execBlkiorRtbH o1 o2 s
  | .blkiorRtbS o1 o2 => Sys2Proof.Machine.execBlkiorRtbS o1 o2 s
  | .blkiowRtaB o1 o2 => Sys2Proof.Machine.execBlkiowRtaB o1 o2 s
  | .blkiowRtaQ o1 o2 => Sys2Proof.Machine.execBlkiowRtaQ o1 o2 s
  | .blkiowRtaH o1 o2 => Sys2Proof.Machine.execBlkiowRtaH o1 o2 s
  | .blkiowRtaS o1 o2 => Sys2Proof.Machine.execBlkiowRtaS o1 o2 s
  | .blkiowRtbB o1 o2 => Sys2Proof.Machine.execBlkiowRtbB o1 o2 s
  | .blkiowRtbQ o1 o2 => Sys2Proof.Machine.execBlkiowRtbQ o1 o2 s
  | .blkiowRtbH o1 o2 => Sys2Proof.Machine.execBlkiowRtbH o1 o2 s
  | .blkiowRtbS o1 o2 => Sys2Proof.Machine.execBlkiowRtbS o1 o2 s
  | .intiop o1 o2 => Sys2Proof.Machine.execIntiop o1 o2 s
  | .rctr o1 o2 => Sys2Proof.Machine.execRctr o1 o2 s
  | .wctr o1 o2 => Sys2Proof.Machine.execWctr o1 o2 s
  | .rectr o1 o2 => Sys2Proof.Machine.execRectr o1 o2 s
  | .wectr o1 o2 => Sys2Proof.Machine.execWectr o1 o2 s
  | .nop o1 o2 => Sys2Proof.Machine.execNop o1 o2 s
  | .xct o1 o2 => Sys2Proof.Machine.execXct o1 o2 s
  | .rmw t o1 o2 => Sys2Proof.Machine.execRmw t o1 o2 s
  | .wait o1 o2 => Sys2Proof.Machine.execWait o1 o2 s
  | .halt o1 j => Sys2Proof.Machine.execHalt o1 j s

end Sys2Proof.Machine
end

