-- ==== Sys2Proof/Machine/Fetch.lean ====
section
/-! DEFINITION. Fetching an instruction with its look-ahead (R251, R252), where the fetch finds it, the interrupt and
trace stages of a step (R871), and the events from outside the processor (R833 to R836, R866): the parts that `step`
puts together. -/

namespace Sys2Proof.Machine

/-- The first word of the instruction at the PC and its two look-ahead words (R251); an instruction within two
single-words of the top of the address space is fatal 3 (R252).
DESIGN CHOICE (log 31): R255 step 1 and R942 do not order R251 and R252, so where a word of such an instruction faults as
well, that fatal 3 comes before any fetch is the model's choice. -/
def State.fetch3 (s : State) : M (SW × SW × SW) := do
  fatalIf (decide (2 ^ 30 - 8 ≤ s.pc.toNat)) .registerBoundary
  let w0 ← s.instrFetch s.pc
  let w1 ← s.instrFetch (vaAdd s.pc 4)
  let w2 ← s.instrFetch (vaAdd s.pc 8)
  .ok (w0, w1, w2)

/-- Stage 2: `TRACE_PEND` is sampled and reset (R875). -/
def State.stage2 (s : State) : State := s.setPs (Ps.setTracePend s.ps false)

/-- Why the model refuses to take a step from a state that is not halted: another instruction set (D14), or a
`USER_STATUS` that no instruction can load (X9 of 93_implementation_defined.md). -/
def State.outOfDomain (s : State) : Option Refusal :=
  if Ps.emulation s.ps != 0 then some .emulation
  else if !Us.legal s.us then some .illegalUserStatus
  else none

/-- Store a single-word where an instruction fetch at `va` finds it; a fetch that faults finds nothing. -/
def State.storeCode (s : State) (va : VAddr) (w : SW) : State :=
  match s.translate (Ps.crntMode s.ps) va with
  | .ok (pa, _) => s.putS pa w
  | .error _ => s

/-- Store the three words of a fetch at the PC. -/
def State.storeFetch (s : State) (w : SW × SW × SW) : State :=
  ((s.storeCode s.pc w.1).storeCode (vaAdd s.pc 4) w.2.1).storeCode (vaAdd s.pc 8) w.2.2

/-! ### Events from outside the processor (between steps, R871) -/

/-- `DeviceInterrupt(i, j, parm)` (R834): an IOP sets a pending bit and stores the interrupt parameter. -/
def State.deviceInterrupt (s : State) (i : Fin 8) (j : BitVec 5) (parm : SW) : State :=
  let v : BitVec 8 := BitVec.ofNat 3 i.val ++ j
  { s with
    intPend := s.intPend.set i (setBit s.intPend[i] j.toNat true)
    intParm := s.intParm.set v.toNat parm v.isLt }

/-- An IOP writes bits 4..35 of a buffer word; bits 0..3 are unchanged (R836). -/
def State.iopWrite (s : State) (buf : Fin Config.nIobuf) (word : Fin Config.iobufSize) (v : BitVec 32) : State :=
  let k := Config.iobufSize * buf.val + word.val
  { s with iobuf := Cells.set k (setField (Cells.get k s.iobuf) 4 v) s.iobuf }

/-- `Continue` (R866): the operator restarts a halted processor.
DEDUCED (log 23): this covers the halt of a double fault, as R932 has it and against the row X1 of
93_implementation_defined.md, and `DOUBLE_FAULT` stays set. -/
def State.continue (s : State) : State :=
  match s.run with
  | .halted => s.setRun .running
  | _ => s

end Sys2Proof.Machine
end

