-- ==== Sys2Proof/Machine/Step.lean ====
section
/-! DEFINITION. One step of the processor: the instruction-execution sequence (R871). -/

namespace Sys2Proof.Machine

/-- Stages 3 to 7: fetch with look-ahead, decode, and run the instruction at the PC. -/
noncomputable def runAtPc (s : State) : Host.Outcome State Fault Refusal :=
  match s.fetch3 with
  | .error e => s.stage4.takeExc e
  | .ok (w0, w1, w2) =>
    match decodeWords w0 w1 w2 with
    | .error _ => s.stage4.enterFatal .illegalInstruction
    | .ok i => exec i s

/-- One step (R871): a halted processor does nothing; an acceptable interrupt is taken; a waiting processor goes on
waiting; a pending trace trap is taken; else the instruction at the PC runs. -/
noncomputable def step (s : State) : Host.Outcome State Fault Refusal :=
  if s.run = .halted then .next s
  else
    match s.outOfDomain with
    | some r => .refused r
    | none =>
      match s.pendingInterrupt with
      | some (i, j) => s.acceptInterrupt i j
      | none =>
        if s.run = .waiting then .next s
        else if Ps.tracePend s.ps then s.stage2.enterHard HardVec.trace.index 0
        else runAtPc s.stage2

/-- The state with the instruction of bits `w` (bit 0 the least significant bit of the first word, zeros from `nbits`
on) stored where the next step fetches it: at the PC and in the two words after it. -/
def State.withFetchWord (s : State) (nbits w : Nat) : State := s.storeFetch (tableWords nbits w)

end Sys2Proof.Machine
end

