-- ==== Sys2Proof/Rules.lean ====
section
/-! DEFINITION. What the rules of the spec give as the results of the computing instructions, written from the rules and apart from
the computations of the machine: the statements compare the two. Floating-point values are rationals here. -/

namespace Sys2Proof.Machine

/-- What the rules give: a value, or the soft trap that the instruction raises instead (R944). -/
inductive Answer (α : Type) where
  | value (a : α)
  | trap (k : SoftVec)
  deriving DecidableEq, Repr

/-- An answer that leaves `USER_STATUS` alone. -/
def Answer.plain {α : Type} (us : SW) (a : α) : Answer (α × SW) := .value (a, us)

/-! ### Integers (40_integer.md) -/

/-- The overflow step (R303): `f` gets the new `USER_STATUS`. -/
def Rule.overflow {α : Type} (us : SW) (ov : Bool) (f : SW → α) : Answer α :=
  if ov = true ∧ Us.intOvflMode us = false then .trap .intOvfl else .value (f (Us.setIntOvfl us ov))

/-- `X1 + X2 + X3` of Table 5-1 (R305): the sum modulo `2^n`, `INT_OVFL` when the exact signed sum does not fit (R306), `CARRY`
when the unsigned sum reaches `2^n` (R304). -/
def Rule.sum {n : Nat} (us : SW) (x1 x2 : BitVec n) (x3 : Bool) : Answer (BitVec n × SW) :=
  let v : Int := x1.toInt + x2.toInt + x3.toNat
  Rule.overflow us (!fits n v) fun us1 =>
    (BitVec.ofInt n v, Us.setCarry us1 (decide (2 ^ n ≤ x1.toNat + x2.toNat + x3.toNat)))

/-- An exact integer delivered in `n` bits with `INT_OVFL` (R306); `CARRY` is unchanged. -/
def Rule.int (us : SW) (n : Nat) (v : Int) : Answer (BitVec n × SW) :=
  Rule.overflow us (!fits n v) fun us1 => (BitVec.ofInt n v, us1)

/-- `ABS` (R361), `CARRY` by the row `(0, ~OP2, 1)` of Table 5-1. -/
def Rule.abs {n : Nat} (us : SW) (y : BitVec n) : Answer (BitVec n × SW) :=
  Rule.overflow us (!fits n |y.toInt|) fun us1 =>
    (BitVec.ofInt n |y.toInt|, Us.setCarry us1 (decide (2 ^ n ≤ (~~~y).toNat + 1)))

/-- `quo(a, b)` (R322): the quotient of the magnitudes with the product of the signs. -/
def Rule.quo (a b : Int) : Int := a.sign * b.sign * ((a.natAbs / b.natAbs : Nat) : Int)
/-- `rem(a, b)` (R322). -/
def Rule.rem (a b : Int) : Int := a - b * Rule.quo a b
/-- `mod(a, b)` (R322). -/
def Rule.mod (a b : Int) : Int := a - b * ⌊(a : ℚ) / b⌋

/-- The zero-divide step (R308, R309): `zero` is what a zero divisor stores, `f` gets the new `USER_STATUS`. -/
def Rule.zeroDivide {α : Type} (us : SW) (b : Int) (zero : SW → α) (f : SW → Answer α) : Answer α :=
  if b = 0 then
    if Us.intZDivMode us = true then .value (zero (Us.setIntZDiv us true)) else .trap .intZDiv
  else f (Us.setIntZDiv us false)

/-- A quotient (R323). -/
def Rule.divQuo (us : SW) (n : Nat) (a b : Int) : Answer (BitVec n × SW) :=
  Rule.zeroDivide us b (fun us1 => (0, Us.setIntOvfl us1 false)) fun us1 => Rule.int us1 n (Rule.quo a b)

/-- A remainder or modulus `r` (R323): `INT_OVFL` is unchanged. -/
def Rule.divRem (r : Int → Int → Int) (us : SW) (n : Nat) (a b : Int) : Answer (BitVec n × SW) :=
  Rule.zeroDivide us b (fun us1 => (0, us1)) fun us1 => .value (BitVec.ofInt n (r a b), us1)

/-- Quotient and remainder (R323). -/
def Rule.divBoth (us : SW) (n : Nat) (a b : Int) : Answer (BitVec n × BitVec n × SW) :=
  Rule.zeroDivide us b (fun us1 => (0, 0, Us.setIntOvfl us1 false)) fun us1 =>
    Rule.overflow us1 (!fits n (Rule.quo a b)) fun us2 => (BitVec.ofInt n (Rule.quo a b), BitVec.ofInt n (Rule.rem a b), us2)

/-- Unsigned quotient and remainder (R374, R375). -/
def Rule.udiv {n m : Nat} (us : SW) (x : BitVec m) (y : BitVec n) : Answer (BitVec n × BitVec n × SW) :=
  Rule.zeroDivide us y.toNat (fun us1 => (0, 0, Us.setIntOvfl us1 false)) fun us1 =>
    Rule.overflow us1 (decide (2 ^ n ≤ x.toNat / y.toNat)) fun us2 =>
      (BitVec.ofNat n (x.toNat / y.toNat), BitVec.ofNat n (x.toNat % y.toNat), us2)

/-- `Quo2(x, k)` (R328): the exact quotient or product by a power of two. -/
def Rule.quo2 (us : SW) (n : Nat) (x k : Int) : Answer (BitVec n × SW) :=
  Rule.int us n (if 0 ≤ k then Rule.quo x (2 ^ k.toNat) else x * 2 ^ (-k).toNat)

/-- `UMULT` (R370): overflow by its equivalent form, the unsigned product at least `2^(n-1)` and neither operand one. -/
def Rule.umult {n : Nat} (us : SW) (x y : BitVec n) : Answer (BitVec n × SW) :=
  Rule.overflow us (decide (2 ^ (n - 1) ≤ x.toNat * y.toNat ∧ x.toNat ≠ 1 ∧ y.toNat ≠ 1)) fun us1 =>
    (BitVec.ofNat n (x.toNat * y.toNat), us1)

/-! ### Floating-point numbers (41_float.md) -/

/-- `PosVal(w)` (R401). -/
def Rule.posVal (p : Prec) (w : BitVec p.bits) : ℚ :=
  ((2 ^ mantBits p + w.toNat % 2 ^ mantBits p : Nat) : ℚ) *
    (2 : ℚ) ^ (((w.toNat / 2 ^ mantBits p : Nat) : ℤ) - excess p - mantBits p - 1)

/-- `Val(w)` of an ordinary word (R401, R402). -/
def Rule.val (p : Prec) (w : BitVec p.bits) : ℚ := if w.msb then -Rule.posVal p (-w) else Rule.posVal p w

/-- The value of the machine's exact number. -/
def Exact.toRat (a : Exact) : ℚ := (a.num : ℚ) / a.den * (2 : ℚ) ^ a.exp

/-- The choice of `Round` (R411): is the point above delivered, `k` being the point below and `f` the fraction above it? -/
def Rule.roundsUp (rm : BitVec 5) (k : ℤ) (f : ℚ) (neg : Bool) : Bool :=
  let up := bitAt rm 2 ^^ (bitAt rm 3 && decide (k % 2 = 1)) ^^ (bitAt rm 4 && neg)
  if f = 0 then false
  else if bitAt rm 1 = false then up
  else if f < 1 / 2 then false
  else if 1 / 2 < f then true
  else up

/-- `RoundInt(R, rm)` (R411). -/
def Rule.roundInt (rm : BitVec 5) (r : ℚ) : ℤ :=
  if Rule.roundsUp rm ⌊r⌋ (r - ⌊r⌋) (decide (r < 0)) then ⌊r⌋ + 1 else ⌊r⌋

/-- `Round(R, m, rm)` (R411); `Int.log 2 |R| + 1` is the `E` with `2^(E-1) <= |R| < 2^E`. -/
def Rule.round (m : Nat) (rm : BitVec 5) (r : ℚ) : ℚ :=
  let ulp : ℚ := (2 : ℚ) ^ (Int.log 2 |r| - m)
  let k := ⌊r / ulp⌋
  (if Rule.roundsUp rm k (r / ulp - k) (decide (r < 0)) then (k : ℚ) + 1 else k) * ulp

/-- `Enc(r, p)` (R406). -/
def Rule.enc (p : Prec) (r : ℚ) : Encoded p.bits :=
  let e : ℤ := Int.log 2 |r| + 1
  let m : ℕ := ⌊|r| / (2 : ℚ) ^ (e - mantBits p - 1)⌋.toNat
  let be : ℤ := e + excess p
  let mag := BitVec.ofNat p.bits ((be % 2 ^ expBits p).toNat * 2 ^ mantBits p + m % 2 ^ mantBits p)
  ⟨if 0 < r then mag else -mag,
    decide (2 ^ expBits p - 1 < be) || decide (mag = BitVec.intMax p.bits),
    decide (be < 0) || decide (be = 0 ∧ m - 2 ^ mantBits p ≤ 1)⟩

/-- `DeliverSym` (R419). -/
def Rule.deliverSym (us : SW) (wn : Bool) (n : Nat) (c : FClass) : Answer (BitVec n × SW) :=
  match c with
  | .nan => if Us.fltNanMode us = 0 then .trap .fltNan else .value (symWord n c, setFltFlags us wn c)
  | .ovf | .movf => if Us.fltOvflMode us = 0 then .trap .fltOvfl else .value (symWord n c, setFltFlags us wn c)
  | .unf | .munf => if Us.fltUnflMode us = 0 then .trap .fltUnfl else .value (symWord n c, setFltFlags us wn c)
  | .zero | .neg | .pos => .value (symWord n c, setFltFlags us wn c)

/-- `DeliverNum` (R419) of the exact rational `r`. -/
def Rule.deliverNum (us : SW) (wn : Bool) (p : Prec) (r : ℚ) : Answer (BitVec p.bits × SW) :=
  if r = 0 then Rule.deliverSym us wn p.bits .zero
  else
    let rr := Rule.round (mantBits p) (Us.rndMode us) r
    let x := Rule.enc p rr
    if x.ovf then
      if Us.fltOvflMode us = 0 then .trap .fltOvfl
      else
        .value (if Us.fltOvflMode us = 1 then symWord p.bits (if 0 < rr then .ovf else .movf) else x.word,
          setFltFlags us wn .ovf)
    else if x.unf then
      if Us.fltUnflMode us = 0 then .trap .fltUnfl
      else
        .value (if Us.fltUnflMode us = 1 then symWord p.bits (if 0 < rr then .unf else .munf) else x.word,
          setFltFlags us wn .unf)
    else .value (x.word, setFltFlags us wn .zero)

/-- The order of the rows and columns of the propagation tables: MOVF, -Y, MUNF, 0, UNF, Y, OVF, NAN. -/
def Rule.column : FClass → Nat
  | .movf => 0
  | .neg => 1
  | .munf => 2
  | .zero => 3
  | .unf => 4
  | .pos => 5
  | .ovf => 6
  | .nan => 7

/-- A symbol as an entry of a table. -/
abbrev FEntry.MOVF : FEntry := .sym .movf
/-- A symbol as an entry of a table. -/
abbrev FEntry.MUNF : FEntry := .sym .munf
/-- A symbol as an entry of a table. -/
abbrev FEntry.ZERO : FEntry := .sym .zero
/-- A symbol as an entry of a table. -/
abbrev FEntry.UNF : FEntry := .sym .unf
/-- A symbol as an entry of a table. -/
abbrev FEntry.OVF : FEntry := .sym .ovf
/-- A symbol as an entry of a table. -/
abbrev FEntry.NAN : FEntry := .sym .nan

open FEntry in
/-- The table of A + B as printed (R421). -/
def Rule.addTable : List (List FEntry) := [
  [MOVF, MOVF, MOVF, MOVF, MOVF, MOVF, NAN, NAN],
  [MOVF, expr, left, left, left, expr, OVF, NAN],
  [MOVF, right, MUNF, MUNF, NAN, right, OVF, NAN],
  [MOVF, right, MUNF, ZERO, UNF, right, OVF, NAN],
  [MOVF, right, NAN, UNF, UNF, right, OVF, NAN],
  [MOVF, expr, left, left, left, expr, OVF, NAN],
  [NAN, OVF, OVF, OVF, OVF, OVF, OVF, NAN],
  [NAN, NAN, NAN, NAN, NAN, NAN, NAN, NAN]]

open FEntry in
/-- The table of A * B as printed (R422). -/
def Rule.mulTable : List (List FEntry) := [
  [OVF, OVF, NAN, ZERO, NAN, MOVF, MOVF, NAN],
  [OVF, expr, UNF, ZERO, MUNF, expr, MOVF, NAN],
  [NAN, UNF, UNF, ZERO, MUNF, MUNF, NAN, NAN],
  [ZERO, ZERO, ZERO, ZERO, ZERO, ZERO, ZERO, NAN],
  [NAN, MUNF, MUNF, ZERO, UNF, UNF, NAN, NAN],
  [MOVF, expr, MUNF, ZERO, UNF, expr, OVF, NAN],
  [MOVF, MOVF, NAN, ZERO, NAN, OVF, OVF, NAN],
  [NAN, NAN, NAN, NAN, NAN, NAN, NAN, NAN]]

open FEntry in
/-- The table of A / B as printed (R423). -/
def Rule.divTable : List (List FEntry) := [
  [NAN, OVF, OVF, NAN, MOVF, MOVF, NAN, NAN],
  [UNF, expr, OVF, NAN, MOVF, expr, MUNF, NAN],
  [UNF, UNF, NAN, NAN, NAN, MUNF, MUNF, NAN],
  [ZERO, ZERO, ZERO, ZERO, ZERO, ZERO, ZERO, NAN],
  [MUNF, MUNF, NAN, NAN, NAN, UNF, UNF, NAN],
  [MUNF, expr, MOVF, NAN, OVF, expr, UNF, NAN],
  [NAN, MOVF, MOVF, NAN, OVF, OVF, NAN, NAN],
  [NAN, NAN, NAN, NAN, NAN, NAN, NAN, NAN]]

/-- The entry of a table for two classes. -/
def Rule.lookup (t : List (List FEntry)) (a b : FClass) : FEntry :=
  ((t[Rule.column a]?.getD [])[Rule.column b]?).getD .NAN

/-- `FBin(add)` (R427). -/
def Rule.fadd (p : Prec) (us : SW) (x y : BitVec p.bits) : Answer (BitVec p.bits × SW) :=
  match Rule.lookup Rule.addTable (fclass x) (fclass y) with
  | .sym c => Rule.deliverSym us true p.bits c
  | .left => .value (x, setFltFlags us true .zero)
  | .right => .value (y, setFltFlags us true .zero)
  | .expr => Rule.deliverNum us true p (Rule.val p x + Rule.val p y)

/-- `FBin(mul)` (R427), delivered at precision `pd`. -/
def Rule.fmul (pd p : Prec) (us : SW) (x y : BitVec p.bits) : Answer (BitVec pd.bits × SW) :=
  match Rule.lookup Rule.mulTable (fclass x) (fclass y) with
  | .sym c => Rule.deliverSym us true pd.bits c
  | _ => Rule.deliverNum us true pd (Rule.val p x * Rule.val p y)

/-- `FBin(div)` (R427) of a word of precision `pa` by one of precision `pb`, delivered at precision `pd`. -/
def Rule.fdiv (pd pa pb : Prec) (us : SW) (x : BitVec pa.bits) (y : BitVec pb.bits) : Answer (BitVec pd.bits × SW) :=
  match Rule.lookup Rule.divTable (fclass x) (fclass y) with
  | .sym c => Rule.deliverSym us true pd.bits c
  | _ => Rule.deliverNum us true pd (Rule.val pa x / Rule.val pb y)

/-- `FNegWord` (R431, R452): the word of the opposite sign, NAN staying NAN. -/
def Rule.fnegWord {n : Nat} (w : BitVec n) : BitVec n := BitVec.ofInt n (-w.toInt)

/-- A word of `FNEG`, `FABS`, `FMIN` or `FMAX` (R452 to R456): a symbol is delivered as one, an ordinary word as it is. -/
def Rule.deliverWord {n : Nat} (us : SW) (w : BitVec n) : Answer (BitVec n × SW) :=
  match fclass w with
  | .pos | .neg => .value (w, setFltFlags us true .zero)
  | c => Rule.deliverSym us true n c

/-- `FSC` (R442): S1 * 2^S2. -/
def Rule.fsc (p : Prec) (us : SW) (x : BitVec p.bits) (k : SW) : Answer (BitVec p.bits × SW) :=
  match fclass x with
  | .pos | .neg => Rule.deliverNum us true p (Rule.val p x * (2 : ℚ) ^ k.toInt)
  | c => Rule.deliverSym us true p.bits c

/-- `FTRANS` (R450). -/
def Rule.ftrans (pd p : Prec) (us : SW) (y : BitVec p.bits) : Answer (BitVec pd.bits × SW) :=
  match fclass y with
  | .pos | .neg => Rule.deliverNum us true pd (Rule.val p y)
  | c => Rule.deliverSym us true pd.bits c

/-- `FIX` with rounding mode `rm` (R446). -/
def Rule.fix (rm : BitVec 5) (n : Nat) (p : Prec) (us : SW) (y : BitVec p.bits) : Answer (BitVec n × SW) :=
  match fclass y with
  | .zero => Rule.int us n 0
  | .pos | .neg => Rule.int us n (Rule.roundInt rm (Rule.val p y))
  | _ => if Us.fltNanMode us = 0 then .trap .fltNan else .value (BitVec.intMin n, Us.setIntOvfl us false)

/-- `FMIN` and `FMAX` (R455, R456): `pick` chooses one of the words. -/
def Rule.fpick {n : Nat} (pick : BitVec n → BitVec n → BitVec n) (us : SW) (x y : BitVec n) : Answer (BitVec n × SW) :=
  if fclass x = .nan ∨ fclass y = .nan then Rule.deliverSym us true n .nan else Rule.deliverWord us (pick x y)

/-- The smaller of two signed words (R364). -/
def Rule.min {n : Nat} (x y : BitVec n) : BitVec n := BitVec.ofInt n (Min.min x.toInt y.toInt)
/-- The larger of two signed words (R365). -/
def Rule.max {n : Nat} (x y : BitVec n) : BitVec n := BitVec.ofInt n (Max.max x.toInt y.toInt)

/-! ### Shifts (43_shift_rotate.md) -/

/-- `k` (R530): the signed distance to the left. -/
def Rule.distance (d : ShiftDir) (cnt : SW) : Int := if d = .lf then cnt.toInt else -cnt.toInt

/-- `shift(x, k)` (R531). -/
def Rule.shift {n : Nat} (x : BitVec n) (k : Int) : BitVec n :=
  if 0 ≤ k then BitVec.ofNat n (x.toNat * 2 ^ k.toNat) else BitVec.ofNat n (x.toNat / 2 ^ (-k).toNat)

/-- `rot(x, k)` (R532). -/
def Rule.rot {n : Nat} (x : BitVec n) (k : Int) : BitVec n := x.rotateLeft (k % n).toNat

/-- `AShift(x, k)` delivered with the overflow step (R541, R542). -/
def Rule.ashift {n : Nat} (us : SW) (x : BitVec n) (k : Int) : Answer (BitVec n × SW) :=
  let exact : Int := if 0 ≤ k then x.toInt * 2 ^ k.toNat else x.toInt / 2 ^ (-k).toNat
  Rule.overflow us (!fits n exact) fun us1 =>
    (if fits n exact then BitVec.ofInt n exact else setBit (BitVec.ofInt n exact) 0 (bitAt x 0), us1)

/-- The half of the double-width shift that is stored (R538). -/
def Rule.dshift {n : Nat} (d : ShiftDir) (hi lo : BitVec n) (cnt : SW) : BitVec n :=
  let w := Rule.shift (hi ++ lo) (Rule.distance d cnt)
  if d = .lf then field w 0 n else field w n n

/-! ### Conditions (R561) -/

/-- The relation of an arithmetic condition between two integers. -/
def Rule.acond (c : ACond) (a b : Int) : Bool :=
  match c with
  | .gtr => decide (b < a)
  | .eql => decide (a = b)
  | .geq => decide (b ≤ a)
  | .lss => decide (a < b)
  | .neq => decide (a ≠ b)
  | .leq => decide (a ≤ b)

/-- The relation of a logical condition, bit by bit: none, all, not all or any of the bits that the mask selects are ones. -/
def Rule.lcond {n : Nat} (c : LCond) (a m : BitVec n) : Bool :=
  match c with
  | .non => decide (∀ i < n, bitAt m i = true → bitAt a i = false)
  | .all => decide (∀ i < n, bitAt m i = true → bitAt a i = true)
  | .nal => decide (∃ i < n, bitAt m i = true ∧ bitAt a i = false)
  | .any => decide (∃ i < n, bitAt m i = true ∧ bitAt a i = true)

/-- A flag (R490): all ones for true, zero for false. -/
def Rule.flag (b : Bool) : SW := BitVec.ofInt 36 (if b then -1 else 0)

/-! ### Bytes and bits (46_stack_byte_bit.md) -/

/-- Bit `i` of the result of `BITRV` (R700, R702): the low-order `k` bits in reverse order. -/
def Rule.reversed {n : Nat} (x : BitVec n) (k : Nat) (r : BitVec n) : Prop :=
  ∀ i < n, r.getLsbD i = (decide (i < k) && x.getLsbD (k - 1 - i))

/-- The bits of `x` that `m` selects, most significant first. -/
def Rule.selected {n : Nat} (x m : BitVec n) : List Bool :=
  ((List.range n).filter fun i => bitAt m i).map fun i => bitAt x i

/-- The number whose binary digits are given, most significant first. -/
def Rule.ofBits (bs : List Bool) : Nat := bs.foldl (fun a b => 2 * a + b.toNat) 0

/-- The field of `len` bits from bit `pos` on, as a number (R682). -/
def Rule.byteOf {n : Nat} (w : BitVec n) (pos len : Nat) : Nat := w.toNat / 2 ^ (n - pos - len) % 2 ^ len

/-- `LoadS` (R682): the field as a signed number. -/
def Rule.signedByte {n : Nat} (w : BitVec n) (pos len : Nat) : BitVec n :=
  BitVec.ofInt n (BitVec.ofNat len (Rule.byteOf w pos len)).toInt

/-- `Deposit` (R682): the bits before the field, the low-order bits of `b`, the bits after the field. -/
def Rule.deposit {n : Nat} (w : BitVec n) (pos len : Nat) (b : BitVec n) : BitVec n :=
  BitVec.ofNat n (w.toNat / 2 ^ (n - pos) * 2 ^ (n - pos) + b.toNat % 2 ^ len * 2 ^ (n - pos - len) +
    w.toNat % 2 ^ (n - pos - len))

/-- `ADJBP` (R694) of a byte pointer whose bytes have a length `len` other than zero, moved by `cnt` bytes: bytes lie at
positions `f`, `f + len`, ... of every word, `f` being the position modulo the length. -/
def Rule.adjust (p : Prec) (bp : DW) (pos len : Nat) (cnt : Int) : DW :=
  let f := pos % len
  let per : Nat := (p.bits - f) / len
  let j : Int := (((pos - f) / len : Nat) : Int) + cnt
  let addr : Int := (((bp.toNat / 2 ^ 36) % 2 ^ 30 : Nat) + p.qws * (j / per)) % 2 ^ 30
  BitVec.ofNat 72 (bp.toNat / 2 ^ 66 * 2 ^ 66 + addr.toNat * 2 ^ 36 + (f + (j % per).toNat * len) * 2 ^ 18 + len)

/-! ### Operands, blocks and buffers -/

/-- The address `k` single-words from the PC (R209, R210, R211). -/
def Rule.target (pc : VAddr) (k : Int) : VAddr := BitVec.ofInt 30 (pc.toNat + 4 * k)

/-- `AddrWord` (R244): bit 0 for the previous context, five zeros, the address. -/
def Rule.addrWord (l : Loc) : SW := BitVec.ofNat 36 ((if l.ctx = .prev then 2 ^ 35 else 0) + l.va.toNat)

/-- A word of the `n` low-order bits of an address, modulo 2^30, with zeros above (R51). -/
def Rule.addr36 (a : Int) : SW := BitVec.ofInt 36 (a % 2 ^ 30)

/-- The words of a save area of which some are undefined (R28): each of these is the next free value, `n` being the number of the first;
with the words, the number of the free value after them (log 1). -/
def Rule.filled (n : Nat) : List (Option SW) → List SW × Nat
  | [] => ([], n)
  | some w :: t => (w :: (Rule.filled n t).1, (Rule.filled n t).2)
  | none :: t => (Config.freeValue 36 n :: (Rule.filled (n + 1) t).1, (Rule.filled (n + 1) t).2)

/-- The value of an immediate at a width of `n` bits (R228). -/
def Rule.imm (k : ConstKind) (w : SW) (n : Nat) : BitVec n :=
  match k with
  | .sx => BitVec.ofInt n w.toInt
  | .zx => BitVec.ofNat n w.toNat
  | .lj => if n = 72 then BitVec.ofNat n (w.toNat * 2 ^ 36) else BitVec.ofNat n w.toNat

/-- The result of `STRCMP` from position `i` on (R726): the number of the first differing quarter-word, counted from one,
with bit 0 set when the first string is the smaller; zero when there is none. -/
def Rule.compare : List QW → List QW → Nat → SW
  | a :: as, b :: bs, i =>
    if a = b then Rule.compare as bs (i + 1)
    else BitVec.ofNat 36 ((if a.toInt < b.toInt then 2 ^ 35 else 0) + (i + 1))
  | _, _, _ => 0

/-- The `n` low-order binary digits of a number, most significant first. -/
def Rule.digits (n k : Nat) : List Bool := (List.range n).map fun i => k.testBit (n - 1 - i)

/-- The memory elements in buffer words (R838): consecutive fields of the bits 4..35 of the words. -/
def Rule.ioElements (t : IoKind) (n : Nat) (ws : List SW) : List (BitVec t.prec.bits) :=
  let bits := ws.flatMap fun w => Rule.digits 32 w.toNat
  (List.range n).map fun i => BitVec.ofNat t.prec.bits (Rule.ofBits ((bits.drop (i * t.bits)).take t.bits))

/-- The buffer words of memory elements (R838): the low-order bits of the elements in bits 4..35 of consecutive words, the last
word filled with zeros. -/
def Rule.ioWords (t : IoKind) (vs : List (BitVec t.prec.bits)) : List SW :=
  let bits := vs.flatMap fun v => Rule.digits t.bits v.toNat
  (List.range ((vs.length * t.bits + 31) / 32)).map fun j =>
    let c := (bits.drop (32 * j)).take 32
    BitVec.ofNat 36 (Rule.ofBits (c ++ List.replicate (32 - c.length) false))

end Sys2Proof.Machine
end

