-- ==== Sys2Proof/Safety.lean ====
section
/-! DEFINITION. What counts as a legal state and as a safe run, in the terms the statements use. -/

namespace Sys2Proof.Machine

/-- Bits 32..35 of every interrupt register are zero (R76, R77). -/
def State.intClean (s : State) : Bool :=
  (List.finRange 8).all fun i => field s.intPend[i] 32 4 == 0 && field s.intEnb[i] 32 4 == 0

/-- The invariant of the machine: memory and the I/O buffers keep their canonical form, the PC is a multiple of 4 (R47),
`USER_STATUS` is legal (R71), `INSTRUCTION_STATE` is zero (R86), the unused bits of the interrupt registers are zero
(R76, R77), and the low two bits of the segment registers are zero (R74). -/
structure State.Inv (s : State) : Prop where
  mem : Memory.wf s.mem = true
  iobuf : IoBuffers.wf s.iobuf = true
  pc : field s.pc 28 2 = 0
  us : Us.legal s.us = true
  instructionState : s.instructionState = 0
  intClean : s.intClean = true
  segments : field s.execStp 32 2 = 0 ∧ field s.execStl 32 2 = 0 ∧ field s.userStp 32 2 = 0 ∧ field s.userStl 32 2 = 0

/-- A run of `k` steps that ends neither in a fault nor in a refusal. -/
def State.safeFor (s : State) (k : Nat) : Prop := ∃ s', core.run k s = .next s'

/-! ### What an instruction leaves unchanged -/

/-- Is the place register `n` of file `f`? -/
def Place.isReg (f : FileNum) (n : RegNum) : Place → Bool
  | .reg g a => g == f && field a 0 5 == n
  | .phys _ => false

/-- Is `a` one of the `k` quarter-words from the place on? -/
def Place.covers (k : Nat) (a : PAddr) : Place → Bool
  | .reg _ _ => false
  | .phys pa => (List.range k).any fun j => a == paAdd pa j

/-- Does a store of precision `p` in the span change register `n` of file `f`? -/
def Span.touchesReg (sp : Span) (p : Prec) (f : FileNum) (n : RegNum) : Bool :=
  match p with
  | .d => sp.fst.isReg f n || sp.snd.isReg f n
  | _ => sp.fst.isReg f n

/-- Does a store of precision `p` in the span change the quarter-word at physical address `a`? -/
def Span.touchesByte (sp : Span) (p : Prec) (a : PAddr) : Bool :=
  match p with
  | .q => sp.fst.covers 1 a
  | .h => sp.fst.covers 2 a
  | .s => sp.fst.covers 4 a
  | .d => sp.fst.covers 4 a || sp.snd.covers 4 a

/-- The storage of register `n` of the current file. -/
def State.regSpan (s : State) (n : RegNum) : Span := ⟨.reg s.file (n ++ 0#2), .reg s.file (n ++ 0#2)⟩

/-- The frame of an instruction that runs from `s` to `t`: beside `PC`, `USER_STATUS`, `TRACE_ENB_OLD` and the stores listed
with their precisions, `t` is `base`, which is `s` but for the special registers the instruction writes. Of
`PROC_STATUS` only `TRACE_PEND` changes, as stage 6 says (R871). -/
structure Leaves (s base t : State) (stored : List (Prec × Span)) : Prop where
  regs : ∀ f n, (∀ x ∈ stored, x.2.touchesReg x.1 f n = false) → t.getReg f n = base.getReg f n
  bytes : ∀ a, (∀ x ∈ stored, x.2.touchesByte x.1 a = false) → t.physQ a = base.physQ a
  rest : { t with rf := base.rf, mem := base.mem, pc := base.pc, us := base.us, ps := base.ps,
                  traceEnbOld := base.traceEnbOld } = base
  ps : t.ps = Ps.setTracePend base.ps (Ps.tracePend base.ps || Ps.traceEnb s.ps)

/-- The address after the instruction at the PC (R49). -/
def State.after (s : State) (i : Instr) : VAddr := vaAdd s.pc (4 * i.length)

/-- The instruction completes from `s` in the state `t`, with the frame of `Leaves`. -/
def Completes (s : State) (i : Instr) (base t : State) (stored : List (Prec × Span)) : Prop :=
  exec i s = .next t ∧ Leaves s base t stored

/-- The state after an instruction that makes the stores `f`, leaves `us` in `USER_STATUS` and goes on at `pc`: stages 4
and 6 around its body (R871). -/
def State.done (s : State) (f : State → State) (us : SW) (pc : VAddr) : State :=
  (((f s.stage4).setUs us).setPc pc).stage6

/-- The state in which an instruction at `s` enters its soft trap: stages 4 and 6 have been performed (R944). -/
def State.beforeSoft (s : State) : State := s.stage4.stage6

/-- The first word of the instruction and the address after it, for a save area (R906). -/
def State.env (s : State) (i : Instr) : Env := ⟨i.firstWord, s.after i⟩

/-! ### Shapes of statements -/

/-- A three-address instruction gives the answer `res` of the rules: for every T and every pair of descriptors whose operands can
be evaluated, written and read, it completes with the value of the answer or enters the soft trap of the answer. -/
def Top3Gives (pd p1 p2 : Prec) (mk : TMode → OD → OD → Instr)
    (res : SW → BitVec p1.bits → BitVec p2.bits → Answer (BitVec pd.bits × SW)) : Prop :=
  ∀ (t : TMode) (o1 o2 : OD) (s : State) (a : TopArgs) (d : Span) (x : BitVec p1.bits) (y : BitVec p2.bits),
    Memory.wf s.mem = true → Us.legal s.us = true → s.evalTop t o1 o2 = .ok a → s.checkWrite a.dest pd = .ok d →
    s.readOp a.s1 p1 = .ok x → s.readOp a.s2 p2 = .ok y →
    match res s.us x y with
    | .value (v, us) =>
      Completes s (mk t o1 o2) s (s.done (fun u => u.writeSpan pd d v) us (s.after (mk t o1 o2))) [(pd, d)]
    | .trap k => exec (mk t o1 o2) s = s.beforeSoft.enterSoft k (softTop (s.env (mk t o1 o2)) a p1 p2 x y)

/-- As `Top3Gives`, for an instruction that stores a second result in NEXT(DEST), after the first. -/
def Top3NextGives (pd p1 p2 : Prec) (mk : TMode → OD → OD → Instr)
    (res : SW → BitVec p1.bits → BitVec p2.bits → Answer (BitVec pd.bits × BitVec pd.bits × SW)) : Prop :=
  ∀ (t : TMode) (o1 o2 : OD) (s : State) (a : TopArgs) (l : Loc) (d e : Span) (x : BitVec p1.bits) (y : BitVec p2.bits),
    Memory.wf s.mem = true → Us.legal s.us = true → s.evalTop t o1 o2 = .ok a → a.dest = .loc l →
    s.checkWriteLoc l pd = .ok d → s.checkWriteLoc (l.next pd) pd = .ok e →
    s.readOp a.s1 p1 = .ok x → s.readOp a.s2 p2 = .ok y →
    match res s.us x y with
    | .value (v, w, us) =>
      Completes s (mk t o1 o2) s
        (s.done (fun u => (u.writeSpan pd d v).writeSpan pd e w) us (s.after (mk t o1 o2))) [(pd, d), (pd, e)]
    | .trap k => exec (mk t o1 o2) s = s.beforeSoft.enterSoft k (softTop (s.env (mk t o1 o2)) a p1 p2 x y)

/-- A two-address instruction gives the answer `res` of the rules: for every pair of descriptors whose operands can be
evaluated, written and read, it completes with the value of the answer or enters the soft trap of the answer. -/
def Xop2Gives (p1 p2 : Prec) (mk : OD → OD → Instr)
    (res : SW → BitVec p2.bits → Answer (BitVec p1.bits × SW)) : Prop :=
  ∀ (o1 o2 : OD) (s : State) (x1 x2 : Operand) (d : Span) (y : BitVec p2.bits),
    Memory.wf s.mem = true → Us.legal s.us = true → s.evalOD o1 = .ok x1 → s.evalOD o2 = .ok x2 →
    s.checkWrite x1 p1 = .ok d → s.readOp x2 p2 = .ok y →
    match res s.us y with
    | .value (v, us) =>
      Completes s (mk o1 o2) s (s.done (fun u => u.writeSpan p1 d v) us (s.after (mk o1 o2))) [(p1, d)]
    | .trap k => exec (mk o1 o2) s = s.beforeSoft.enterSoft k (softUnary (s.env (mk o1 o2)) x1 p2 y)

/-- A jump or skip instruction that stores nothing: it completes at `pc` with `USER_STATUS` unchanged. -/
def JumpsTo (s : State) (i : Instr) (pc : VAddr) : Prop := Completes s i s (s.done id s.us pc) []

/-- A statement for the four precisions of a family. -/
def AllPrec {α : Type} (P : Prec → α → Prop) (q h s d : α) : Prop := P .q q ∧ P .h h ∧ P .s s ∧ P .d d

/-- A statement for the three precisions of a floating-point family. -/
def FltPrec {α : Type} (P : Prec → α → Prop) (h s d : α) : Prop := P .h h ∧ P .s s ∧ P .d d

/-- A statement for the three precisions of a family with a long operand: the precision and the double one. -/
def LongPrec {α : Type} (P : Prec → Prec → α → Prop) (q h s : α) : Prop := P .q .h q ∧ P .h .s h ∧ P .s .d s

/-- An instruction that raises the fatal hard trap `n`: it is entered from the state after stage 4 (R871). -/
def TrapsFatal (s : State) (i : Instr) (n : Fatal) : Prop := exec i s = s.stage4.enterFatal n

end Sys2Proof.Machine
end

