-- ==== Sys2Proof/Statements.lean ====
section
/-! DEFINITION. The shapes of the statements about instructions: each says of one instruction, or of the instructions of one
shape, when it completes, with what stores, and what it leaves unchanged. -/

namespace Sys2Proof.Machine

/-- An instruction that raises a recoverable hard trap with a parameter (R934): entered from the state after stage 4. -/
def TrapsHard (s : State) (i : Instr) (v : HardVec) (parm : SW) : Prop := exec i s = s.stage4.enterHard v.index parm

/-- An instruction that enters a soft trap with the operand words given (R944). -/
def TrapsSoft (s : State) (i : Instr) (k : SoftVec) (info : SoftInfo) : Prop := exec i s = s.beforeSoft.enterSoft k info

/-- An unused operand descriptor (R218). -/
abbrev noOD : OD := .short (.reg 0)

/-- A register-direct sequence of `n` quarter-words does not pass register 31 (R253). -/
def Loc.within (l : Loc) (n : Nat) : Prop := l.rd = true → l.va.toNat + n ≤ 128

/-! ### Moves (42_move_flag_boolean.md) -/

/-- `MOV` (R472). -/
def MovGives (p1 p2 : Prec) (mk : OD → OD → Instr) : Prop :=
  Xop2Gives p1 p2 mk fun us y => .plain us (BitVec.ofNat p1.bits y.toNat)

/-- `MOVMQ` and `MOVMS` of `n` words of precision `p` (R474, R475): the words read before any is stored, or free values when the
regions share storage; an immediate is fatal 13. -/
def MovesMany (p : Prec) (n : Nat) (mk : OD → OD → Instr) : Prop :=
  ∀ (o1 o2 : OD) (s : State) (l1 l2 : Loc) (dst src : List Span),
    Memory.wf s.mem = true → s.evalOD o1 = .ok (.loc l1) → s.evalOD o2 = .ok (.loc l2) →
    l1.within (p.qws * n) → l2.within (p.qws * n) →
    s.locateRun .write l1.ctx p n l1.va = .ok dst → s.locateRun .read l2.ctx p n l2.va = .ok src →
    if ∃ a ∈ dst, ∃ b ∈ src, a.fst = b.fst then
      Completes s (mk o1 o2) { s with freeCount := s.freeCount + n }
        (s.done (fun u => State.writeRun { u with freeCount := u.freeCount + n } p dst
          ((List.range n).map fun k => Config.freeValue p.bits (s.freeCount + k))) s.us (s.after (mk o1 o2)))
        (dst.map fun sp => (p, sp))
    else
      Completes s (mk o1 o2) s
        (s.done (fun u => u.writeRun p dst (src.map (s.readSpan p))) s.us (s.after (mk o1 o2)))
        (dst.map fun sp => (p, sp))

/-- `EXCH` (R477): both operands are read, then OP2 is stored, then OP1. -/
def Exchanges (p : Prec) (mk : OD → OD → Instr) : Prop :=
  ∀ (o1 o2 : OD) (s : State) (x1 x2 : Operand) (d1 d2 : Span) (a b : BitVec p.bits),
    Memory.wf s.mem = true → s.evalOD o1 = .ok x1 → s.evalOD o2 = .ok x2 →
    s.checkWrite x1 p = .ok d1 → s.checkWrite x2 p = .ok d2 → s.readOp x1 p = .ok a → s.readOp x2 p = .ok b →
    Completes s (mk o1 o2) s
      (s.done (fun u => (u.writeSpan p d2 a).writeSpan p d1 b) s.us (s.after (mk o1 o2))) [(p, d2), (p, d1)]

/-- `SLR.n` (R479): register `n` gets OP2, then OP1 gets the old register. -/
def SavesAndLoads (n : RegNum) (mk : OD → OD → Instr) : Prop :=
  ∀ (o1 o2 : OD) (s : State) (x1 x2 : Operand) (d : Span) (v : SW),
    Memory.wf s.mem = true → s.evalOD o1 = .ok x1 → s.evalOD o2 = .ok x2 → s.checkWrite x1 .s = .ok d →
    s.readOp x2 .s = .ok v →
    Completes s (mk o1 o2) s
      (s.done (fun u => (u.putReg n v).writeSpan .s d (s.reg n)) s.us (s.after (mk o1 o2)))
      [(.s, s.regSpan n), (.s, d)]

/-- `SLRADR.n` (R480): as `SLR.n` with the address of OP2; an immediate OP2 is fatal 13. -/
def SavesAndLoadsAddress (n : RegNum) (mk : OD → OD → Instr) : Prop :=
  ∀ (o1 o2 : OD) (s : State) (x1 x2 : Operand), Memory.wf s.mem = true → s.evalOD o1 = .ok x1 → s.evalOD o2 = .ok x2 →
    match x2 with
    | .imm _ _ => TrapsFatal s (mk o1 o2) .immediate
    | .loc l => ∀ d, s.checkWrite x1 .s = .ok d →
      Completes s (mk o1 o2) s
        (s.done (fun u => (u.putReg n (Rule.addrWord l)).writeSpan .s d (s.reg n)) s.us (s.after (mk o1 o2)))
        [(.s, s.regSpan n), (.s, d)]

/-! ### Flags, shifts -/

/-- `CMPSF` (R492). -/
def CmpsfGives (c : ACond) (p : Prec) (mk : TMode → OD → OD → Instr) : Prop :=
  Top3Gives .s p p mk fun us x y => .plain us (Rule.flag (Rule.acond c x.toInt y.toInt))

/-- `BNDSF` with the lower bound `lo` (R494). -/
def BndsfGives (lo : Prec → Int) (p : Prec) (mk : TMode → OD → OD → Instr) : Prop :=
  Top3Gives .s p p mk fun us x y => .plain us (Rule.flag (decide (lo p ≤ y.toInt ∧ y.toInt ≤ x.toInt)))

/-- `BNDSF.B` (R494): the bounds are S1 and NEXT(S1); an immediate S1 is fatal 13. -/
def BndsfBetween (p : Prec) (mk : TMode → OD → OD → Instr) : Prop :=
  ∀ (t : TMode) (o1 o2 : OD) (s : State) (a : TopArgs), Memory.wf s.mem = true → s.evalTop t o1 o2 = .ok a →
    match a.s1 with
    | .imm _ _ => TrapsFatal s (mk t o1 o2) .immediate
    | .loc l => ∀ (d : Span) (lo v hi : BitVec p.bits), s.checkWrite a.dest .s = .ok d → s.readLoc l p = .ok lo →
      s.readOp a.s2 p = .ok v → s.readLoc (l.next p) p = .ok hi →
      Completes s (mk t o1 o2) s
        (s.done (fun u => u.writeSpan .s d (Rule.flag (decide (lo.toInt ≤ v.toInt ∧ v.toInt ≤ hi.toInt)))) s.us
          (s.after (mk t o1 o2))) [(.s, d)]

/-- A logical instruction of three addresses: the result has the bits `f` of the operands' bits. -/
def BitwiseGives (f : Bool → Bool → Bool) (p : Prec) (mk : TMode → OD → OD → Instr) : Prop :=
  Top3Gives p p p mk fun us x y => .plain us (BitVec.ofFnLE fun i => f (x.getLsbD i) (y.getLsbD i))

/-- `SHF` and `ROT` (R534, R546): `f` of S1 and the signed distance to the left, S2. -/
def ShiftsBy (f : (n : Nat) → BitVec n → Int → BitVec n) (d : ShiftDir) (p : Prec) (mk : TMode → OD → OD → Instr) :
    Prop :=
  Top3Gives p p .s mk fun us x k => .plain us (f p.bits x (Rule.distance d k))

/-- `SHFV` and `ROTV` (R535, R547): the count is S1. -/
def ShiftsByReverse (f : (n : Nat) → BitVec n → Int → BitVec n) (d : ShiftDir) (p : Prec)
    (mk : TMode → OD → OD → Instr) : Prop :=
  Top3Gives p .s p mk fun us k x => .plain us (f p.bits x (Rule.distance d k))

/-- `SHFA` (R542). -/
def ArithmeticShiftsBy (d : ShiftDir) (p : Prec) (mk : TMode → OD → OD → Instr) : Prop :=
  Top3Gives p p .s mk fun us x k => Rule.ashift us x (Rule.distance d k)

/-- `SHFAV` (R543): the count is S1. -/
def ArithmeticShiftsByReverse (d : ShiftDir) (p : Prec) (mk : TMode → OD → OD → Instr) : Prop :=
  Top3Gives p .s p mk fun us k x => Rule.ashift us x (Rule.distance d k)

/-- `DSHF` and `DSHFV` (R537 to R539): the pair is `v`, the count `c`; an immediate pair is the constant at twice the width. -/
def DoubleShiftGives (d : ShiftDir) (rev : Bool) (p : Prec) (mk : TMode → OD → OD → Instr) : Prop :=
  ∀ (t : TMode) (o1 o2 : OD) (s : State) (a : TopArgs) (dst : Span) (cnt : SW),
    Memory.wf s.mem = true → s.evalTop t o1 o2 = .ok a → s.checkWrite a.dest p = .ok dst →
    s.readOp (if rev then a.s1 else a.s2) .s = .ok cnt →
    match (if rev then a.s2 else a.s1) with
    | .imm k w =>
      Completes s (mk t o1 o2) s
        (s.done (fun u => u.writeSpan p dst (Rule.dshift d
            (BitVec.ofNat p.bits ((Rule.imm k w (2 * p.bits)).toNat / 2 ^ p.bits))
            (BitVec.ofNat p.bits (Rule.imm k w (2 * p.bits)).toNat) cnt)) s.us (s.after (mk t o1 o2))) [(p, dst)]
    | .loc l => ∀ hi lo : BitVec p.bits, s.readLoc l p = .ok hi → s.readLoc (l.next p) p = .ok lo →
      Completes s (mk t o1 o2) s
        (s.done (fun u => u.writeSpan p dst (Rule.dshift d hi lo cnt)) s.us (s.after (mk t o1 o2))) [(p, dst)]

/-! ### Skips and jumps (44_skip_jump.md) -/

/-- `SKP` (R570): the skip goes `skp` single-words from the instruction. A destination in the registers is fatal 12, taken or
not (R567). -/
def SkipGives (p : Prec) (rel : BitVec p.bits → BitVec p.bits → Bool) (mk : BitVec 4 → OD → OD → Instr) : Prop :=
  ∀ (skp : BitVec 4) (o1 o2 : OD) (s : State) (x1 x2 : Operand), s.evalOD o1 = .ok x1 → s.evalOD o2 = .ok x2 →
    if (Rule.target s.pc skp.toInt).toNat < 128 then TrapsFatal s (mk skp o1 o2) .jumpToRegisters
    else ∀ a b : BitVec p.bits, s.readOp x1 p = .ok a → s.readOp x2 p = .ok b →
      JumpsTo s (mk skp o1 o2) (if rel a b then Rule.target s.pc skp.toInt else s.after (mk skp o1 o2))

/-- `ISKP` and `DSKP` (R572, R573), `by1` being 1 or -1: the comparison is of the new value with OP2 as read before the store;
`CARRY` is unchanged; an overflow that traps stores nothing (R563). -/
def CountSkipGives (by1 : Int) (c : ACond) (mk : BitVec 4 → OD → OD → Instr) : Prop :=
  ∀ (skp : BitVec 4) (o1 o2 : OD) (s : State) (x1 x2 : Operand) (w : Span) (a b : SW),
    Memory.wf s.mem = true → s.evalOD o1 = .ok x1 → s.evalOD o2 = .ok x2 →
    128 ≤ (Rule.target s.pc skp.toInt).toNat → s.checkWrite x1 .s = .ok w →
    s.readOp x1 .s = .ok a → s.readOp x2 .s = .ok b →
    match Rule.int s.us 36 (a.toInt + by1) with
    | .value (r, us) =>
      Completes s (mk skp o1 o2) s
        (s.done (fun u => u.writeSpan .s w r) us
          (if Rule.acond c r.toInt b.toInt then Rule.target s.pc skp.toInt else s.after (mk skp o1 o2))) [(.s, w)]
    | .trap k =>
      TrapsSoft s (mk skp o1 o2) k
        ⟨x1.softDest, .ofValue .s a, .ofValue .s b, (mk skp o1 o2).firstWord, s.after (mk skp o1 o2)⟩

/-- `JMP` (R576): OP1 against NEXT(OP1). -/
def JumpGives (c : ACond) (mk : OD → JDest → Instr) : Prop :=
  ∀ (o1 : OD) (j : JDest) (s : State) (l : Loc) (d : VAddr) (a b : SW),
    s.evalOD o1 = .ok (.loc l) → s.jumpDest j = .ok d → s.readLoc l .s = .ok a → s.readLoc (l.next .s) .s = .ok b →
    JumpsTo s (mk o1 j) (if Rule.acond c a.toInt b.toInt then d else s.after (mk o1 j))

/-- `JMPZ` (R577): OP1 against zero. -/
def JumpZeroGives (c : ACond) (p : Prec) (mk : OD → JDest → Instr) : Prop :=
  ∀ (o1 : OD) (j : JDest) (s : State) (x : Operand) (d : VAddr) (a : BitVec p.bits),
    s.evalOD o1 = .ok x → s.jumpDest j = .ok d → s.readOp x p = .ok a →
    JumpsTo s (mk o1 j) (if Rule.acond c a.toInt 0 then d else s.after (mk o1 j))

/-- `IJMP` and `DJMP` (R582, R586): the new OP1 against NEXT(OP1), read before the store. -/
def CountJumpNextGives (by1 : Int) (c : ACond) (mk : OD → JDest → Instr) : Prop :=
  ∀ (o1 : OD) (j : JDest) (s : State) (l : Loc) (d : VAddr) (w : Span) (a b : SW),
    Memory.wf s.mem = true → s.evalOD o1 = .ok (.loc l) → s.jumpDest j = .ok d → s.checkWriteLoc l .s = .ok w →
    s.readLoc l .s = .ok a → s.readLoc (l.next .s) .s = .ok b →
    match Rule.int s.us 36 (a.toInt + by1) with
    | .value (r, us) =>
      Completes s (mk o1 j) s
        (s.done (fun u => u.writeSpan .s w r) us (if Rule.acond c r.toInt b.toInt then d else s.after (mk o1 j)))
        [(.s, w)]
    | .trap k =>
      TrapsSoft s (mk o1 j) k
        ⟨some (Rule.addrWord l), .ofValue .s a, .absent, (mk o1 j).firstWord, s.after (mk o1 j)⟩

/-- `IJMPZ`, `IJMPA`, `DJMPZ`, `DJMPA` (R583, R584, R587, R588): `cond` of the new OP1. -/
def CountJumpGives (by1 : Int) (cond : Int → Bool) (mk : OD → JDest → Instr) : Prop :=
  ∀ (o1 : OD) (j : JDest) (s : State) (l : Loc) (d : VAddr) (w : Span) (a : SW),
    Memory.wf s.mem = true → s.evalOD o1 = .ok (.loc l) → s.jumpDest j = .ok d → s.checkWriteLoc l .s = .ok w →
    s.readLoc l .s = .ok a →
    match Rule.int s.us 36 (a.toInt + by1) with
    | .value (r, us) =>
      Completes s (mk o1 j) s
        (s.done (fun u => u.writeSpan .s w r) us (if cond r.toInt then d else s.after (mk o1 j))) [(.s, w)]
    | .trap k =>
      TrapsSoft s (mk o1 j) k
        ⟨some (Rule.addrWord l), .ofValue .s a, .absent, (mk o1 j).firstWord, s.after (mk o1 j)⟩

/-- `BNDTRP` with the lower bound `lo` (R592): nothing but the trap outside the bounds. -/
def BoundTrapGives (lo : Prec → Int) (p : Prec) (mk : OD → OD → Instr) : Prop :=
  ∀ (o1 o2 : OD) (s : State) (x1 x2 : Operand) (hi v : BitVec p.bits),
    s.evalOD o1 = .ok x1 → s.evalOD o2 = .ok x2 → s.readOp x1 p = .ok hi → s.readOp x2 p = .ok v →
    if lo p ≤ v.toInt ∧ v.toInt ≤ hi.toInt then JumpsTo s (mk o1 o2) (s.after (mk o1 o2))
    else TrapsSoft s (mk o1 o2) .bndChk
      ⟨none, .ofValue p hi, .ofValue p v, (mk o1 o2).firstWord, s.after (mk o1 o2)⟩

/-- `BNDTRP.B` (R592): the bounds are OP1 and NEXT(OP1). -/
def BoundTrapBetween (p : Prec) (mk : OD → OD → Instr) : Prop :=
  ∀ (o1 o2 : OD) (s : State) (l : Loc) (x2 : Operand) (lo v hi : BitVec p.bits),
    s.evalOD o1 = .ok (.loc l) → s.evalOD o2 = .ok x2 → s.readLoc l p = .ok lo → s.readOp x2 p = .ok v →
    s.readLoc (l.next p) p = .ok hi →
    if lo.toInt ≤ v.toInt ∧ v.toInt ≤ hi.toInt then JumpsTo s (mk o1 o2) (s.after (mk o1 o2))
    else TrapsSoft s (mk o1 o2) .bndChk
      ⟨none, .ofValue p lo, .ofValue p v, (mk o1 o2).firstWord, s.after (mk o1 o2)⟩

/-! ### Routine linkage (45_routine_linkage.md) -/

/-- `ALLOC.n` (R628): the words copied to the stack are those read before any store, or free values when the regions share
storage; `SP` gets `SP + OP2`, and growth past `SL` is `STK_OVFL_VEC` with nothing changed. -/
def AllocGives (n : Nat) (mk : OD → OD → Instr) : Prop :=
  ∀ (o1 o2 : OD) (s : State) (l : Loc) (x2 : Operand) (b : SW),
    Memory.wf s.mem = true → s.evalOD o1 = .ok (.loc l) → s.evalOD o2 = .ok x2 → l.within (4 * n) →
    s.readOp x2 .s = .ok b →
    if s.sl.toInt < (s.sp + b).toInt then TrapsHard s (mk o1 o2) .stkOvfl (s.sp + b)
    else ∀ dst src, s.locateRun .write .cur .s n (addrOfWord s.sp) = .ok dst →
      s.locateRun .read l.ctx .s n l.va = .ok src →
      if ∃ x ∈ dst, ∃ y ∈ src, x.fst = y.fst then
        Completes s (mk o1 o2) { s with freeCount := s.freeCount + n }
          (s.done (fun u => (State.writeRun { u with freeCount := u.freeCount + n } .s dst
            ((List.range n).map fun k => Config.freeValue 36 (s.freeCount + k))).putReg (Us.spId s.us) (s.sp + b))
            s.us (s.after (mk o1 o2)))
          (dst.map (fun sp => (Prec.s, sp)) ++ [(.s, s.regSpan (Us.spId s.us))])
      else
        Completes s (mk o1 o2) s
          (s.done (fun u => (u.writeRun .s dst (src.map (s.readSpan .s))).putReg (Us.spId s.us) (s.sp + b)) s.us
            (s.after (mk o1 o2)))
          (dst.map (fun sp => (Prec.s, sp)) ++ [(.s, s.regSpan (Us.spId s.us))])

/-- `TRPSLF.n` (R650): the vector at `4000 + 10 n` of the current space; the save area of six words goes on the current stack and
no status word changes. -/
def TrapsToSelf (n : Nat) (mk : OD → OD → Instr) : Prop :=
  ∀ (o1 o2 : OD) (s : State) (h d : SW) (p q : SoftWords) (sps : List Span),
    Memory.wf s.mem = true → s.memRead .cur (BitVec.ofNat 30 (0o4000 + 8 * n)) .s = .ok h →
    s.memRead .cur (BitVec.ofNat 30 (0o4004 + 8 * n)) .s = .ok d → field d 0 18 = 0 →
    s.trapParm (field d 27 9) o1 false = .ok p → s.trapParm (field d 18 9) o2 false = .ok q →
    field h 34 2 = 0 → 128 ≤ (addrOfWord h).toNat → (s.sp + 24).toInt ≤ s.sl.toInt →
    s.locateRun .write .cur .s 6 (addrOfWord s.sp) = .ok sps →
    ∃ (ws : List SW) (k : Nat), ws.length = 6 ∧
      s.fillUndefined [p.1, p.2, q.1, q.2, some (pcWord s.pc), some (pcWord (s.after (mk o1 o2)))] =
        (ws, { s with freeCount := s.freeCount + k }) ∧
      Completes s (mk o1 o2) { s with freeCount := s.freeCount + k }
        (s.done (fun u => (State.writeRun { u with freeCount := u.freeCount + k } .s sps ws).putReg (Us.spId s.us)
          (s.sp + 24)) s.us (addrOfWord h))
        (sps.map (fun sp => (Prec.s, sp)) ++ [(.s, s.regSpan (Us.spId s.us))])

/-- `TRPEXE.n` (R652): the vector at `10000 + 20 n` of the executive space; both status words are loaded, `PROC_STATUS` by partial
load, and the save area of eight words goes on the stack they name. That the words of the vector stand as in R652 and R887, against D4, is
deduced (log 30). -/
def TrapsToExecutive (n : Nat) (mk : OD → OD → Instr) : Prop :=
  ∀ (o1 o2 : OD) (s v : State) (h d us ps : SW) (p q : SoftWords) (sps : List Span),
    v = (s.setUs us).setPs (Ps.partialLoad s.ps ps) →
    s.vecRead (BitVec.ofNat 30 (0o10000 + 16 * n)) = .ok h → s.vecRead (BitVec.ofNat 30 (0o10004 + 16 * n)) = .ok d →
    s.vecRead (BitVec.ofNat 30 (0o10010 + 16 * n)) = .ok us → s.vecRead (BitVec.ofNat 30 (0o10014 + 16 * n)) = .ok ps →
    field d 0 18 = 0 → s.trapParm (field d 27 9) o1 true = .ok p → s.trapParm (field d 18 9) o2 true = .ok q →
    field h 34 2 = 0 → 128 ≤ (addrOfWord h).toNat → Us.legal us = true →
    (v.sp + 32).toInt ≤ v.sl.toInt → v.locateRun .write .cur .s 8 (addrOfWord v.sp) = .ok sps →
    ∃ (ws : List SW) (k : Nat), ws.length = 8 ∧
      s.fillUndefined
          [p.1, p.2, q.1, q.2, some (pcWord s.pc), some s.us, some s.ps, some (pcWord (s.after (mk o1 o2)))] =
        (ws, { s with freeCount := s.freeCount + k }) ∧
      exec (mk o1 o2) s = .next (State.stage6 (State.setRun (State.setPc (State.putReg (State.writeRun
        { v with freeCount := s.freeCount + k, traceEnbOld := Ps.traceEnb s.ps } .s sps ws) (Us.spId us) (v.sp + 32))
        (addrOfWord h)) .running))

/-! ### Stacks (46_stack_byte_bit.md) -/

/-- The pointer and limit of a stack: an upward stack holds the pointer first (R660). -/
def Loc.pointer (l : Loc) : StackDir → Loc
  | .up => l
  | .dn => l.next .s
/-- The limit of a stack (R660). -/
def Loc.limit (l : Loc) : StackDir → Loc
  | .up => l.next .s
  | .dn => l

/-- Does a pointer pass the limit (R661)? -/
def Rule.overflows (d : StackDir) (new limit : SW) : Prop :=
  match d with
  | .up => limit.toInt < new.toInt
  | .dn => new.toInt < limit.toInt

/-- The pointer moved by `k` in the direction the stack grows (R660). -/
def Rule.grown (d : StackDir) (ptr k : SW) : SW :=
  match d with
  | .up => ptr + k
  | .dn => ptr - k

/-- `ADJSP` (R666). -/
def AdjustsStack (d : StackDir) (mk : OD → OD → Instr) : Prop :=
  ∀ (o1 o2 : OD) (s : State) (l : Loc) (x2 : Operand) (w : Span) (ptr limit k : SW),
    Memory.wf s.mem = true → s.evalOD o1 = .ok (.loc l) → s.evalOD o2 = .ok x2 →
    s.checkWriteLoc (l.pointer d) .s = .ok w → s.readLoc (l.pointer d) .s = .ok ptr →
    s.readLoc (l.limit d) .s = .ok limit → s.readOp x2 .s = .ok k →
    (Rule.overflows d (Rule.grown d ptr k) limit → TrapsHard s (mk o1 o2) .stkOvfl (Rule.grown d ptr k)) ∧
    (¬ Rule.overflows d (Rule.grown d ptr k) limit →
      Completes s (mk o1 o2) s
        (s.done (fun u => u.writeSpan .s w (Rule.grown d ptr k)) s.us (s.after (mk o1 o2))) [(.s, w)])

/-- `PUSH` (R668): the item is stored where the pointer points (upward: before it grows), then the pointer. -/
def PushesItem (d : StackDir) (p : Prec) (mk : OD → OD → Instr) : Prop :=
  ∀ (o1 o2 : OD) (s : State) (l : Loc) (x2 : Operand) (v : BitVec p.bits) (ptr limit new : SW),
    Memory.wf s.mem = true → s.evalOD o1 = .ok (.loc l) → s.evalOD o2 = .ok x2 → s.readOp x2 p = .ok v →
    s.readLoc (l.pointer d) .s = .ok ptr → s.readLoc (l.limit d) .s = .ok limit →
    new = Rule.grown d ptr (BitVec.ofNat 36 p.qws) →
    (Rule.overflows d new limit → TrapsHard s (mk o1 o2) .stkOvfl new) ∧
    (¬ Rule.overflows d new limit → ∀ w i, s.checkWriteLoc (l.pointer d) .s = .ok w →
      s.checkWriteLoc ⟨l.ctx, addrOfWord (if d = .up then ptr else new), false⟩ p = .ok i →
      Completes s (mk o1 o2) s
        (s.done (fun u => (u.writeSpan p i v).writeSpan .s w new) s.us (s.after (mk o1 o2))) [(p, i), (.s, w)])

/-- `POP` (R670): OP2 gets the item, then the pointer is stored; there is no check of the limit. -/
def PopsItem (d : StackDir) (p : Prec) (mk : OD → OD → Instr) : Prop :=
  ∀ (o1 o2 : OD) (s : State) (l : Loc) (x2 : Operand) (o w : Span) (v : BitVec p.bits) (ptr new : SW),
    Memory.wf s.mem = true → s.evalOD o1 = .ok (.loc l) → s.evalOD o2 = .ok x2 → l.within 8 →
    s.checkWrite x2 p = .ok o → s.readLoc (l.pointer d) .s = .ok ptr →
    new = (match d with | .up => ptr - BitVec.ofNat 36 p.qws | .dn => ptr + BitVec.ofNat 36 p.qws) →
    s.readLoc ⟨l.ctx, addrOfWord (if d = .up then new else ptr), false⟩ p = .ok v →
    s.checkWriteLoc (l.pointer d) .s = .ok w →
    Completes s (mk o1 o2) s
      (s.done (fun u => (u.writeSpan p o v).writeSpan .s w new) s.us (s.after (mk o1 o2))) [(p, o), (.s, w)]

/-! ### Bytes and bits -/

/-- The position in a byte selector (R680). -/
def Rule.pos (sel : SW) : Nat := sel.toNat / 2 ^ 18
/-- The length in a byte selector (R680). -/
def Rule.len (sel : SW) : Nat := sel.toNat % 2 ^ 18

/-- `LBYT` and `LSBYT` (R686, R688): `f` of the containing word, the position and the length. -/
def LoadsByte (p : Prec) (f : BitVec p.bits → Nat → Nat → BitVec p.bits) (mk : OD → OD → Instr) : Prop :=
  ∀ (o1 o2 : OD) (s : State) (x1 x2 : Operand) (d : Span) (bp : DW),
    Memory.wf s.mem = true → s.evalOD o1 = .ok x1 → s.evalOD o2 = .ok x2 → s.checkWrite x1 p = .ok d →
    s.readOp x2 .d = .ok bp →
    if p.bits < Rule.pos (field bp 36 36) + Rule.len (field bp 36 36) then TrapsFatal s (mk o1 o2) .bytePointer
    else ∀ (l : Loc) (w : BitVec p.bits), s.iapLoc x2.ctx (field bp 0 36) = .ok l → s.readLoc l p = .ok w →
      Completes s (mk o1 o2) s
        (s.done (fun u => u.writeSpan p d (f w (Rule.pos (field bp 36 36)) (Rule.len (field bp 36 36)))) s.us
          (s.after (mk o1 o2))) [(p, d)]

/-- `LIBYT` and `LISBYT` (R687, R689): S2 is the selector. -/
def LoadsImmediateByte (p : Prec) (f : BitVec p.bits → Nat → Nat → BitVec p.bits) (mk : TMode → OD → OD → Instr) : Prop :=
  ∀ (t : TMode) (o1 o2 : OD) (s : State) (a : TopArgs) (d : Span) (x : BitVec p.bits) (sel : SW),
    Memory.wf s.mem = true → s.evalTop t o1 o2 = .ok a → s.checkWrite a.dest p = .ok d → s.readOp a.s1 p = .ok x →
    s.readOp a.s2 .s = .ok sel →
    if p.bits < Rule.pos sel + Rule.len sel then TrapsFatal s (mk t o1 o2) .bytePointer
    else Completes s (mk t o1 o2) s
      (s.done (fun u => u.writeSpan p d (f x (Rule.pos sel) (Rule.len sel))) s.us (s.after (mk t o1 o2))) [(p, d)]

/-- `DBYT` (R691). -/
def DepositsByte (p : Prec) (mk : OD → OD → Instr) : Prop :=
  ∀ (o1 o2 : OD) (s : State) (x1 x2 : Operand) (bp : DW) (v : BitVec p.bits),
    Memory.wf s.mem = true → s.evalOD o1 = .ok x1 → s.evalOD o2 = .ok x2 → s.readOp x1 .d = .ok bp →
    s.readOp x2 p = .ok v →
    if p.bits < Rule.pos (field bp 36 36) + Rule.len (field bp 36 36) then TrapsFatal s (mk o1 o2) .bytePointer
    else ∀ (l : Loc) (d : Span) (w : BitVec p.bits), s.iapLoc x1.ctx (field bp 0 36) = .ok l →
      s.checkWriteLoc l p = .ok d → s.readLoc l p = .ok w →
      Completes s (mk o1 o2) s
        (s.done (fun u => u.writeSpan p d
          (Rule.deposit w (Rule.pos (field bp 36 36)) (Rule.len (field bp 36 36)) v)) s.us (s.after (mk o1 o2)))
        [(p, d)]

/-- `DIBYT` (R692): DEST is read and written. -/
def DepositsImmediateByte (p : Prec) (mk : TMode → OD → OD → Instr) : Prop :=
  ∀ (t : TMode) (o1 o2 : OD) (s : State) (a : TopArgs) (d : Span) (x w : BitVec p.bits) (sel : SW),
    Memory.wf s.mem = true → s.evalTop t o1 o2 = .ok a → s.checkWrite a.dest p = .ok d → s.readOp a.s1 p = .ok x →
    s.readOp a.s2 .s = .ok sel → s.readOp a.dest p = .ok w →
    if p.bits < Rule.pos sel + Rule.len sel then TrapsFatal s (mk t o1 o2) .bytePointer
    else Completes s (mk t o1 o2) s
      (s.done (fun u => u.writeSpan p d (Rule.deposit w (Rule.pos sel) (Rule.len sel) x)) s.us
        (s.after (mk t o1 o2))) [(p, d)]

/-- `ADJBP` (R694). -/
def AdjustsPointer (p : Prec) (mk : TMode → OD → OD → Instr) : Prop :=
  ∀ (t : TMode) (o1 o2 : OD) (s : State) (a : TopArgs) (d : Span) (bp : DW) (cnt : SW) (pos len : Nat),
    Memory.wf s.mem = true → s.evalTop t o1 o2 = .ok a → s.checkWrite a.dest .d = .ok d → s.readOp a.s1 .d = .ok bp →
    s.readOp a.s2 .s = .ok cnt → pos = Rule.pos (field bp 36 36) → len = Rule.len (field bp 36 36) →
    if p.bits < pos + len then TrapsFatal s (mk t o1 o2) .bytePointer
    else Completes s (mk t o1 o2) s
      (s.done (fun u => u.writeSpan .d d (if len = 0 ∨ cnt = 0 then bp else Rule.adjust p bp pos len cnt.toInt)) s.us
        (s.after (mk t o1 o2))) [(.d, d)]

/-- `BITRV` and `BITRVV` (R702, R703), `rev` telling that the count is S1: a count outside `0 .. bits` is a fatal trap. -/
def ReversesBits (rev : Bool) (p : Prec) (mk : TMode → OD → OD → Instr) : Prop :=
  ∀ (t : TMode) (o1 o2 : OD) (s : State) (a : TopArgs) (d : Span) (x : BitVec p.bits) (cnt : SW),
    Memory.wf s.mem = true → s.evalTop t o1 o2 = .ok a → s.checkWrite a.dest p = .ok d →
    s.readOp (if rev then a.s2 else a.s1) p = .ok x → s.readOp (if rev then a.s1 else a.s2) .s = .ok cnt →
    if cnt.toInt < 0 ∨ p.bits < cnt.toInt then TrapsFatal s (mk t o1 o2) .other
    else ∃ r, Rule.reversed x cnt.toInt.toNat r ∧
      Completes s (mk t o1 o2) s (s.done (fun u => u.writeSpan p d r) s.us (s.after (mk t o1 o2))) [(p, d)]

/-! ### Blocks (47_block_status.md) -/

/-- The number of quarter-words of a block (R721, R722). -/
def State.blockLength (s : State) (cnt : RegNum) : Nat := (s.reg cnt).toInt.toNat

/-- `STRCMP` (R726): the result goes to the count register. -/
def ComparesBlocks (cnt : RegNum) (mk : OD → OD → Instr) : Prop :=
  ∀ (o1 o2 : OD) (s : State) (x1 x2 : Operand) (as bs : List QW),
    Memory.wf s.mem = true → s.evalOD o1 = .ok x1 → s.evalOD o2 = .ok x2 →
    s.sourceBlock .read x1 (s.blockLength cnt) = .ok as → s.sourceBlock .read x2 (s.blockLength cnt) = .ok bs →
    Completes s (mk o1 o2) s
      (s.done (fun u => u.putReg cnt (Rule.compare as bs 0)) s.us (s.after (mk o1 o2))) [(.s, s.regSpan cnt)]

/-- `BLKMOV`, `BLKID`, `BLKDI` (R730, R736, R738): as if the source were copied first, with the access checks given. -/
def MovesBlock (src dst : Access) (cnt : RegNum) (mk : OD → OD → Instr) : Prop :=
  ∀ (o1 o2 : OD) (s : State) (l : Loc) (x2 : Operand) (vs : List QW) (ds : List Span),
    Memory.wf s.mem = true → s.evalOD o1 = .ok (.loc l) → s.evalOD o2 = .ok x2 → l.within (s.blockLength cnt) →
    s.sourceBlock src x2 (s.blockLength cnt) = .ok vs →
    s.locateRun dst l.ctx .q (s.blockLength cnt) l.va = .ok ds →
    Completes s (mk o1 o2) s (s.done (fun u => u.writeRun .q ds vs) s.us (s.after (mk o1 o2)))
      (ds.map fun sp => (Prec.q, sp))

/-- `BLKINI` (R733): a count or an address that does not suit the precision is fatal 15. -/
def FillsBlock (cnt : RegNum) (p : Prec) (mk : OD → OD → Instr) : Prop :=
  ∀ (o1 o2 : OD) (s : State) (l : Loc) (x2 : Operand) (n : Nat),
    Memory.wf s.mem = true → s.evalOD o1 = .ok (.loc l) → s.evalOD o2 = .ok x2 → n = s.blockLength cnt →
    if n % p.qws ≠ 0 ∨ l.va.toNat % min p.qws 4 ≠ 0 then TrapsFatal s (mk o1 o2) .blockAlignment
    else ∀ (v : BitVec p.bits) (ds : List Span), s.readOp x2 p = .ok v → l.within n →
      s.locateRun .write l.ctx p (n / p.qws) l.va = .ok ds →
      Completes s (mk o1 o2) s
        (s.done (fun u => u.writeRun p ds (List.replicate (n / p.qws) v)) s.us (s.after (mk o1 o2)))
        (ds.map fun sp => (p, sp))

/-! ### Status, interrupt and counter registers -/

/-- The instruction may run: it is not privileged, or the processor is in executive mode. -/
def State.mayRun (s : State) (priv : Bool) : Prop := priv = true → Ps.crntMode s.ps = true

/-- An instruction that stores a word of the state in OP1. -/
def StoresWord (priv : Bool) (f : State → SW) (mk : OD → OD → Instr) : Prop :=
  ∀ (o1 : OD) (s : State) (x : Operand) (d : Span),
    Memory.wf s.mem = true → s.mayRun priv → s.evalOD o1 = .ok x → s.checkWrite x .s = .ok d →
    Completes s (mk o1 noOD) s (s.done (fun u => u.writeSpan .s d (f s)) s.us (s.after (mk o1 noOD))) [(.s, d)]

/-- An instruction that loads a new `USER_STATUS` made from the old one and OP1, if it is legal; else a fatal trap with nothing
changed (R751). -/
def LoadsUserStatus (f : SW → SW → SW) (mk : OD → OD → Instr) : Prop :=
  ∀ (o1 : OD) (s : State) (x : Operand) (v : SW), s.evalOD o1 = .ok x → s.readOp x .s = .ok v →
    if Us.legal (f s.us v) = true then
      Completes s (mk o1 noOD) s (s.done id (f s.us v) (s.after (mk o1 noOD))) []
    else TrapsFatal s (mk o1 noOD) .other

/-- `WCFILE` and `WPFILE` (R778, R780): a number outside `0 .. 15` makes the field a free value. -/
def LoadsFile (set : SW → FileNum → SW) (mk : OD → OD → Instr) : Prop :=
  ∀ (o1 : OD) (s : State) (x : Operand) (v : SW), Ps.crntMode s.ps = true → s.evalOD o1 = .ok x →
    s.readOp x .s = .ok v →
    if v.toNat < 16 then
      Completes s (mk o1 noOD) (s.setPs (set s.ps (BitVec.ofNat 4 v.toNat)))
        (s.done (fun u => u.setPs (set s.ps (BitVec.ofNat 4 v.toNat))) s.us (s.after (mk o1 noOD))) []
    else
      Completes s (mk o1 noOD) (s.drawn.setPs (set s.ps (Config.freeValue 4 s.freeCount)))
        (s.done (fun u => u.drawn.setPs (set s.ps (Config.freeValue 4 s.freeCount))) s.us (s.after (mk o1 noOD))) []

/-- The test of `JUS` and `JUSCLR`: `USER_STATUS` is tested under the mask OP1 (R753). -/
def JumpsOnStatus (c : LCond) (mk : OD → JDest → Instr) : Prop :=
  ∀ (o1 : OD) (j : JDest) (s : State) (x : Operand) (d : VAddr) (m : SW),
    s.evalOD o1 = .ok x → s.jumpDest j = .ok d → s.readOp x .s = .ok m →
    JumpsTo s (mk o1 j) (if Rule.lcond c s.us m then d else s.after (mk o1 j))

/-- `JUSCLR` (R754): the bits are cleared, jump or no jump, and the test is of the old value. -/
def JumpsAndClears (c : LCond) (mk : OD → JDest → Instr) : Prop :=
  ∀ (o1 : OD) (j : JDest) (s : State) (x : Operand) (d : VAddr) (m : SW),
    s.evalOD o1 = .ok x → s.jumpDest j = .ok d → s.readOp x .s = .ok m →
    if Us.legal (s.us &&& ~~~m) = true then
      Completes s (mk o1 j) s
        (s.done id (s.us &&& ~~~m) (if Rule.lcond c s.us m then d else s.after (mk o1 j))) []
    else TrapsFatal s (mk o1 j) .other

/-- An instruction that stores in OP1 the part of the state that OP2 numbers, of `n` parts; another number is a fatal trap
(R812, R848). -/
def StoresPart (priv : Bool) (pd : Prec) (n : Nat) (get : State → Fin n → BitVec pd.bits) (mk : OD → OD → Instr) :
    Prop :=
  ∀ (o1 o2 : OD) (s : State) (x1 x2 : Operand) (d : Span) (k : SW),
    Memory.wf s.mem = true → s.mayRun priv → s.evalOD o1 = .ok x1 → s.evalOD o2 = .ok x2 →
    s.checkWrite x1 pd = .ok d → s.readOp x2 .s = .ok k →
    if h : k.toNat < n then
      Completes s (mk o1 o2) s (s.done (fun u => u.writeSpan pd d (get s ⟨k.toNat, h⟩)) s.us (s.after (mk o1 o2)))
        [(pd, d)]
    else TrapsFatal s (mk o1 o2) .other

/-- An instruction that changes, by OP2, the part of the state that OP1 numbers, of `n` parts; another number, or a value that
`ok` refuses, is a fatal trap. -/
def LoadsPart (priv : Bool) (p : Prec) (n : Nat) (ok : BitVec p.bits → Bool)
    (put : Fin n → BitVec p.bits → State → State) (mk : OD → OD → Instr) : Prop :=
  ∀ (o1 o2 : OD) (s : State) (x1 x2 : Operand) (k : SW) (v : BitVec p.bits),
    s.mayRun priv → s.evalOD o1 = .ok x1 → s.evalOD o2 = .ok x2 → s.readOp x1 .s = .ok k → s.readOp x2 p = .ok v →
    if h : k.toNat < n then
      if ok v = true then
        Completes s (mk o1 o2) (put ⟨k.toNat, h⟩ v s) (s.done (put ⟨k.toNat, h⟩ v) s.us (s.after (mk o1 o2))) []
      else TrapsFatal s (mk o1 o2) .other
    else TrapsFatal s (mk o1 o2) .other

/-! ### Sweeps, segment registers, input and output -/

/-- `SWPIC` and `SWPDC` (R792): the checks are all of the effect. -/
def SweepsCache (priv : Bool) (cnt : RegNum) (mk : OD → OD → Instr) : Prop :=
  ∀ (o1 : OD) (s : State) (l : Loc), s.mayRun priv → s.evalOD o1 = .ok (.loc l) →
    (s.blockLength cnt % 4 ≠ 0 → TrapsFatal s (mk o1 noOD) .blockAlignment) ∧
    (s.blockLength cnt % 4 = 0 → l.within (s.blockLength cnt) →
      JumpsTo s (mk o1 noOD) (s.after (mk o1 noOD)))

/-- `SWPIM` and `SWPDM` (R800, R802): OP1 is read, and nothing changes. -/
def SweepsMap (mk : OD → OD → Instr) : Prop :=
  ∀ (o1 : OD) (s : State) (x : Operand) (v : SW), Ps.crntMode s.ps = true → s.evalOD o1 = .ok x →
    s.readOp x .s = .ok v → JumpsTo s (mk o1 noOD) (s.after (mk o1 noOD))

/-- `WUPJMP` and `WEPJMP` (R804): the low-order 34 bits of OP1 and NEXT(OP1); a value that is no multiple of four is fatal 2. -/
def LoadsSegment (put : PAddr → PAddr → State → State) (mk : OD → JDest → Instr) : Prop :=
  ∀ (o1 : OD) (j : JDest) (s : State) (l : Loc) (d : VAddr) (p q : SW),
    Ps.crntMode s.ps = true → s.evalOD o1 = .ok (.loc l) → s.jumpDest j = .ok d → s.readLoc l .s = .ok p →
    s.readLoc (l.next .s) .s = .ok q →
    if p.toNat % 4 = 0 ∧ q.toNat % 4 = 0 then
      Completes s (mk o1 j) (put (BitVec.ofNat 34 p.toNat) (BitVec.ofNat 34 q.toNat) s)
        (s.done (put (BitVec.ofNat 34 p.toNat) (BitVec.ofNat 34 q.toNat)) s.us d) []
    else TrapsFatal s (mk o1 j) .notAligned

/-- `BLKIOR` (R840): every buffer word is read and every check made before memory is written; the buffers are unchanged. -/
def ReadsBuffer (cnt : RegNum) (t : IoKind) (mk : OD → OD → Instr) : Prop :=
  ∀ (o1 o2 : OD) (s : State) (l1 l2 : Loc) (n : Nat),
    Memory.wf s.mem = true → s.evalOD o1 = .ok (.loc l1) → s.evalOD o2 = .ok (.loc l2) → n = s.blockLength cnt →
    if n % t.prec.qws ≠ 0 ∨ (n ≠ 0 ∧ l1.va.toNat % t.prec.qws ≠ 0) then TrapsFatal s (mk o1 o2) .blockAlignment
    else ∀ (ks : List Nat) (ds : List Span), l1.within n →
      s.ioBufRun l2.ctx ((n / t.prec.qws * t.bits + 31) / 32) l2.va = .ok ks →
      s.locateRun .write l1.ctx t.prec (n / t.prec.qws) l1.va = .ok ds →
      Completes s (mk o1 o2) s
        (s.done (fun u => u.writeRun t.prec ds
          (Rule.ioElements t (n / t.prec.qws) (ks.map fun k => Cells.get k s.iobuf))) s.us (s.after (mk o1 o2)))
        (ds.map fun sp => (t.prec, sp))

/-- `BLKIOW` (R842) from a memory block: whole buffer words are written, the first first. -/
def WritesBuffer (cnt : RegNum) (t : IoKind) (mk : OD → OD → Instr) : Prop :=
  ∀ (o1 o2 : OD) (s : State) (l1 : Loc) (x2 : Operand) (n : Nat),
    s.evalOD o1 = .ok (.loc l1) → s.evalOD o2 = .ok x2 → n = s.blockLength cnt →
    if n % t.prec.qws ≠ 0 then TrapsFatal s (mk o1 o2) .blockAlignment
    else ∀ (ks : List Nat) (vs : List (BitVec t.prec.bits)),
      s.ioSource t x2 n = .ok vs →
      s.ioBufRun l1.ctx ((n / t.prec.qws * t.bits + 31) / 32) l1.va = .ok ks →
      Completes s (mk o1 o2) { s with iobuf := s.iobuf.store ks (Rule.ioWords t vs) }
        (s.done (fun u => { u with iobuf := u.iobuf.store ks (Rule.ioWords t vs) }) s.us (s.after (mk o1 o2))) []

/-! ### Families with a number in the mnemonic -/

/-- `SLR.0` to `SLR.31`. -/
noncomputable def slrs : List (OD → OD → Instr) := [
  .slr0, .slr1, .slr2, .slr3, .slr4, .slr5, .slr6, .slr7, .slr8, .slr9,
  .slr10, .slr11, .slr12, .slr13, .slr14, .slr15, .slr16, .slr17, .slr18, .slr19,
  .slr20, .slr21, .slr22, .slr23, .slr24, .slr25, .slr26, .slr27, .slr28, .slr29,
  .slr30, .slr31]

/-- `SLRADR.0` to `SLRADR.31`. -/
noncomputable def slradrs : List (OD → OD → Instr) := [
  .slradr0, .slradr1, .slradr2, .slradr3, .slradr4, .slradr5, .slradr6, .slradr7, .slradr8, .slradr9,
  .slradr10, .slradr11, .slradr12, .slradr13, .slradr14, .slradr15, .slradr16, .slradr17, .slradr18, .slradr19,
  .slradr20, .slradr21, .slradr22, .slradr23, .slradr24, .slradr25, .slradr26, .slradr27, .slradr28, .slradr29,
  .slradr30, .slradr31]

/-- `MOVMQ.2` to `MOVMQ.32`. -/
noncomputable def movmqs : List (OD → OD → Instr) := [
  .movmq2, .movmq3, .movmq4, .movmq5, .movmq6, .movmq7, .movmq8, .movmq9, .movmq10, .movmq11,
  .movmq12, .movmq13, .movmq14, .movmq15, .movmq16, .movmq17, .movmq18, .movmq19, .movmq20, .movmq21,
  .movmq22, .movmq23, .movmq24, .movmq25, .movmq26, .movmq27, .movmq28, .movmq29, .movmq30, .movmq31,
  .movmq32]

/-- `MOVMS.2` to `MOVMS.32`. -/
noncomputable def movmss : List (OD → OD → Instr) := [
  .movms2, .movms3, .movms4, .movms5, .movms6, .movms7, .movms8, .movms9, .movms10, .movms11,
  .movms12, .movms13, .movms14, .movms15, .movms16, .movms17, .movms18, .movms19, .movms20, .movms21,
  .movms22, .movms23, .movms24, .movms25, .movms26, .movms27, .movms28, .movms29, .movms30, .movms31,
  .movms32]

/-- `ALLOC.1` to `ALLOC.32`. -/
noncomputable def allocs : List (OD → OD → Instr) := [
  .alloc1, .alloc2, .alloc3, .alloc4, .alloc5, .alloc6, .alloc7, .alloc8, .alloc9, .alloc10,
  .alloc11, .alloc12, .alloc13, .alloc14, .alloc15, .alloc16, .alloc17, .alloc18, .alloc19, .alloc20,
  .alloc21, .alloc22, .alloc23, .alloc24, .alloc25, .alloc26, .alloc27, .alloc28, .alloc29, .alloc30,
  .alloc31, .alloc32]

/-- `TRPSLF.0` to `TRPSLF.63`. -/
noncomputable def trpslfs : List (OD → OD → Instr) := [
  .trpslf0, .trpslf1, .trpslf2, .trpslf3, .trpslf4, .trpslf5, .trpslf6, .trpslf7, .trpslf8, .trpslf9,
  .trpslf10, .trpslf11, .trpslf12, .trpslf13, .trpslf14, .trpslf15, .trpslf16, .trpslf17, .trpslf18, .trpslf19,
  .trpslf20, .trpslf21, .trpslf22, .trpslf23, .trpslf24, .trpslf25, .trpslf26, .trpslf27, .trpslf28, .trpslf29,
  .trpslf30, .trpslf31, .trpslf32, .trpslf33, .trpslf34, .trpslf35, .trpslf36, .trpslf37, .trpslf38, .trpslf39,
  .trpslf40, .trpslf41, .trpslf42, .trpslf43, .trpslf44, .trpslf45, .trpslf46, .trpslf47, .trpslf48, .trpslf49,
  .trpslf50, .trpslf51, .trpslf52, .trpslf53, .trpslf54, .trpslf55, .trpslf56, .trpslf57, .trpslf58, .trpslf59,
  .trpslf60, .trpslf61, .trpslf62, .trpslf63]

/-- `TRPEXE.0` to `TRPEXE.63`. -/
noncomputable def trpexes : List (OD → OD → Instr) := [
  .trpexe0, .trpexe1, .trpexe2, .trpexe3, .trpexe4, .trpexe5, .trpexe6, .trpexe7, .trpexe8, .trpexe9,
  .trpexe10, .trpexe11, .trpexe12, .trpexe13, .trpexe14, .trpexe15, .trpexe16, .trpexe17, .trpexe18, .trpexe19,
  .trpexe20, .trpexe21, .trpexe22, .trpexe23, .trpexe24, .trpexe25, .trpexe26, .trpexe27, .trpexe28, .trpexe29,
  .trpexe30, .trpexe31, .trpexe32, .trpexe33, .trpexe34, .trpexe35, .trpexe36, .trpexe37, .trpexe38, .trpexe39,
  .trpexe40, .trpexe41, .trpexe42, .trpexe43, .trpexe44, .trpexe45, .trpexe46, .trpexe47, .trpexe48, .trpexe49,
  .trpexe50, .trpexe51, .trpexe52, .trpexe53, .trpexe54, .trpexe55, .trpexe56, .trpexe57, .trpexe58, .trpexe59,
  .trpexe60, .trpexe61, .trpexe62, .trpexe63]

end Sys2Proof.Machine
end

