-- ==== Sys2Proof/Certificates/Slice0/Obligations.lean ====
section
/-! DEFINITION. The statements about this model: each says what one or more numbered rules of the spec say of the machine. -/

open Sys2Proof Sys2Proof.Machine

/-! ### Encoding -/

/-- Words written out from the encodings of the spec decode to the instructions they stand for (R200 to R227, and the words printed
with R310, R312, R354, R472, R754, R578, R596, R573, R430, R752, R692).
Where they bear on it, the spec's own decisions hold: D2, D3, D9 (92_eei_decisions.md). -/
def Obligations.WrittenWordsDecode : Prop :=
  decodeWords 0o400241024102 0o777 0o333 = .ok (.addQ .t10 (.longConst .zx 0o333) (.longConst .zx 0o777)) ∧
  decodeWords 0o401100050106 0 0 = .ok (.addS .t01 (.short (.reg 5)) (.short (.const 6))) ∧
  decodeWords 0o401300040101 0 0 = .ok (.addS .t11 (.short (.reg 4)) (.short (.const 1))) ∧
  decodeWords 0o405201770101 0 0 = .ok (.subS .t10 (.short (.const 0o77)) (.short (.const 1))) ∧
  decodeWords 0o010200040004 0 0 = .ok (.incS (.short (.reg 4)) (.short (.reg 4))) ∧
  decodeWords 0o030100101000 0 0 = .ok (.movSS (.short (.reg 8)) (.short (.indexed 8 0))) ∧
  decodeWords 0o156741020005 0o200000000 0 = .ok (.jusclrAll (.longConst .zx 0o200000000) (.rel 5)) ∧
  decodeWords 0o147400004100 0o10000 0 = .ok (.jmpa (.short (.reg 0)) (.gen (.based0 (.fixedBased false false 0 false 0o10000)))) ∧
  decodeWords 0o147500007773 0 0 = .ok (.jmpa (.short (.reg 0)) (.rel 0o7773)) ∧
  decodeWords 0o000177777777 0 0 = .ok (.jpatch 0o77777777) ∧
  decodeWords 0o336200040177 0 0 = .ok (.dskpEql 2 (.short (.reg 4)) (.short (.const 0o77))) ∧
  decodeWords 0o476000040004 0 0 = .ok (.faddS .t00 (.short (.reg 4)) (.short (.reg 4))) ∧
  decodeWords 0o107200040000 0 0 = .ok (.rus (.short (.reg 4)) (.short (.reg 0))) ∧
  decodeWords 0o631601004102 0o1000011 0 = .ok (.dibytS .t10 (.short (.const 0)) (.longConst .zx 0o1000011))

/-- Decoding the words of a well-formed instruction gives it back, with every field at every value, and the bytes after it: no
bit of an encoding is dropped (R200, R203, R205).
Where they bear on it, the spec's own decisions hold: D2 (92_eei_decisions.md). -/
def Obligations.DecodeOfEncode : Prop :=
  ∀ (i : Instr) (rest : List QW), i.wellFormed = true → 12 ≤ 4 * i.length + rest.length →
    decode ((encode i).flatMap wordBytes ++ rest) = .ok (i, rest)

/-- Whatever three words decode to is well-formed and is encoded by exactly those of the words that belong to it (R203, R204). -/
def Obligations.EncodeOfDecode : Prop :=
  ∀ (w0 w1 w2 : SW) (i : Instr), decodeWords w0 w1 w2 = .ok i →
    i.wellFormed = true ∧ 1 ≤ i.length ∧ i.length ≤ 3 ∧ encode i = [w0, w1, w2].take i.length

/-- An opcode holds an instruction exactly in the ranges of the opcode map (R268), and a word with any other raises the fatal hard
trap 6 when it is executed (R272).
The index of `FATAL_VEC` (R888, D6) is a parameter of the model at its default (log 8).
Where they bear on it, the spec's own decisions hold: D1 (92_eei_decisions.md). -/
def Obligations.ReservedOpcodesTrap : Prop :=
  ∀ (w0 w1 w2 : SW),
    let c := (field w0 0 12).toNat
    ((∃ i, decodeWords w0 w1 w2 = .ok i) ↔
      c = 1 ∨ (0o100 ≤ c ∧ c ≤ 0o1170) ∨ (0o1400 ≤ c ∧ c ≤ 0o1615) ∨ (0o2000 ≤ c ∧ c ≤ 0o3477) ∨
        (0o4000 ≤ c ∧ c ≤ 0o6437)) ∧
    ((∀ i, decodeWords w0 w1 w2 ≠ .ok i) → ∀ s : State, s.run = .running → s.outOfDomain = none →
      s.pendingInterrupt = none → Ps.tracePend s.ps = false → s.stage2.fetch3 = .ok (w0, w1, w2) →
      step s = s.stage2.stage4.enterHard 1 6)

/-! ### The step -/

/-- When the words at the PC decode to an instruction and neither an interrupt nor a trace trap comes first, the step is that
instruction executed from the state whose `TRACE_PEND` has been reset (R871). Where the addresses PC, PC + 4 and PC + 8 translate in the
space of `CRNT_MODE` to backed addresses on pages with `INSTRUCTIONS` = 1, or under absolute addressing, the words are the
physical single-words at the translated addresses (R147, R152, R251).
Where they bear on it, the spec's own decisions hold: D12, D16, D30, D33 (92_eei_decisions.md). -/
def Obligations.StepRunsTheDecodedInstruction : Prop :=
  ∀ s : State, s.run = .running → Ps.emulation s.ps = 0 → Us.legal s.us = true →
    (∀ k : Fin 8, k.val < (Ps.prio s.ps).toNat → field (s.intPend[k] &&& s.intEnb[k]) 0 32 = 0) →
    Ps.tracePend s.ps = false →
    (∀ (w0 w1 w2 : SW) (i : Instr), s.stage2.fetch3 = .ok (w0, w1, w2) → decodeWords w0 w1 w2 = .ok i →
      step s = exec i s.stage2) ∧
    (128 ≤ s.pc.toNat → s.pc.toNat < 2 ^ 30 - 8 → ∀ (pa : Fin 3 → PAddr) (acc : Fin 3 → Option (BitVec 6)),
      (∀ k : Fin 3, s.translate (bitAt s.ps 16) (BitVec.ofNat 30 (s.pc.toNat + 4 * k.val)) = .ok (pa k, acc k) ∧
        (acc k = none ∨ ∃ a, acc k = some a ∧ bitAt a 0 = true) ∧ s.backed (pa k) = true) →
      s.stage2.fetch3 = .ok (s.physS (pa 0), s.physS (pa 1), s.physS (pa 2)) ∧
      (∀ i, decodeWords (s.physS (pa 0)) (s.physS (pa 1)) (s.physS (pa 2)) = .ok i → step s = exec i s.stage2))

/-- What a step does before an instruction: a halted processor does nothing until `Continue`, a waiting one nothing but take an
interrupt, and with `TRACE_PEND` set and no interrupt a running one resets the bit and enters the trace trap (R93, R864, R866, R871,
R875).
That `Continue` restarts a processor halted by a double fault as well, with `DOUBLE_FAULT` kept, is the model's choice: it deduces
it from R932 against the row X1 of 93_implementation_defined.md, which has only `Reset` leave that state (log 23).
The index of `TRACE_VEC` (R888, D6) is a parameter of the model at its default (log 8).
Where they bear on it, the spec's own decisions hold: D16, D22, D30 (92_eei_decisions.md). -/
def Obligations.StagesBeforeTheInstruction : Prop :=
  (∀ s : State, s.run = .halted → step s = .next s ∧ s.continue = { s with run := .running }) ∧
  (∀ s : State, s.run ≠ .halted → s.continue = s) ∧
  (∀ s : State, Ps.emulation s.ps = 0 → Us.legal s.us = true →
    (∀ k : Fin 8, k.val < (Ps.prio s.ps).toNat → field (s.intPend[k] &&& s.intEnb[k]) 0 32 = 0) →
    (s.run = .waiting → step s = .next s) ∧
    (s.run = .running → Ps.tracePend s.ps = true → step s = (s.setPs (setBit s.ps 15 false)).enterHard 2 0))

/-- The interrupt accepted is the smallest bit of the smallest level with a pending enabled request, if that level is below `PRIO`; its
save area goes on the stack that the vector's status words name, and only its pending bit is cleared (R920, R921, R922, R924).
The vector's address and layout (R889, D4) are a parameter of the model at its default (log 8).
Where they bear on it, the spec's own decisions hold: D56 (92_eei_decisions.md). -/
def Obligations.InterruptIsAccepted : Prop :=
  ∀ (s v : State) (i : Fin 8) (j : Nat) (h us ps : SW) (sps : List Span),
    s.run ≠ .halted → Ps.emulation s.ps = 0 → Us.legal s.us = true →
    i.val < (Ps.prio s.ps).toNat → j < 32 → bitAt (s.intPend[i] &&& s.intEnb[i]) j = true →
    (∀ k : Fin 8, k < i → field (s.intPend[k] &&& s.intEnb[k]) 0 32 = 0) →
    (∀ k, k < j → bitAt (s.intPend[i] &&& s.intEnb[i]) k = false) →
    s.vecRead (BitVec.ofNat 30 (0o20000 + 12 * (32 * i.val + j))) = .ok h →
    s.vecRead (BitVec.ofNat 30 (0o20004 + 12 * (32 * i.val + j))) = .ok us →
    s.vecRead (BitVec.ofNat 30 (0o20010 + 12 * (32 * i.val + j))) = .ok ps →
    field h 34 2 = 0 → 128 ≤ (addrOfWord h).toNat → Us.legal us = true →
    v = (s.setUs us).setPs (Ps.partialLoad s.ps ps) → (v.sp + 20).toInt ≤ v.sl.toInt →
    v.locateRun .write .cur .s 5 (addrOfWord v.sp) = .ok sps →
    let t := (v.writeRun .s sps [s.intParm[32 * i.val + j]?.getD 0, s.instructionState, s.us, s.ps, pcWord s.pc]).putReg
      (Us.spId us) (v.sp + 20)
    step s = .next { t with pc := addrOfWord h, run := .running, intPend := s.intPend.set i (setBit s.intPend[i] j false) }

/-- What stops the fetch of an instruction: a PC within two single-words of the top of the address space (R252), a PC in the
registers (R133), and behind the first of the three words that cannot be fetched (R251) a translation fault (R144, R934), a page
without `INSTRUCTIONS` = 1 (R147), each entered as a hard trap of the instruction at the PC, or an address without memory, which
is the model's fault (R120, log 4).
That fatal 3 comes before what would stop the fetch of a word of the same instruction is the model's choice: R255 and R942 do not
order R252 and R251 (log 31).
The indices of the vectors (R888, D6) are a parameter of the model at its default (log 8).
Where they bear on it, the spec's own decisions hold: D12, D28, D29, D33 (92_eei_decisions.md). -/
def Obligations.FetchFaultsAreTaken : Prop :=
  ∀ s : State, s.run = .running → Ps.emulation s.ps = 0 → Us.legal s.us = true →
    (∀ k : Fin 8, k.val < (Ps.prio s.ps).toNat → field (s.intPend[k] &&& s.intEnb[k]) 0 32 = 0) →
    Ps.tracePend s.ps = false →
    (2 ^ 30 - 8 ≤ s.pc.toNat → step s = s.stage2.stage4.enterHard 1 3) ∧
    (s.pc.toNat < 128 → step s = s.stage2.stage4.enterHard 1 12) ∧
    (128 ≤ s.pc.toNat → s.pc.toNat < 2 ^ 30 - 8 → ∀ (k : Fin 3) (va : VAddr) (parm : SW),
      va = BitVec.ofNat 30 (s.pc.toNat + 4 * k.val) → parm = BitVec.ofBool (Ps.crntMode s.ps) ++ 0#5 ++ va →
      (∀ m : Fin 3, m < k → ∃ w, s.instrFetch (BitVec.ofNat 30 (s.pc.toNat + 4 * m.val)) = .ok w) →
      match s.translate (Ps.crntMode s.ps) va with
      | .error (.fault f) => step s = .fault f
      | .error e => e = .hard .pgFault parm ∧ step s = s.stage2.stage4.enterHard 4 parm
      | .ok (pa, acc) =>
        if acc.any (fun a => !bitAt a 0) = true then step s = s.stage2.stage4.enterHard 5 parm
        else s.backed pa = false → step s = .fault (.noPhysicalMemory pa))

/-! ### Exceptions -/

/-- Hard-trap entry (R902, R904, R58): the status words come from the vector, `PROC_STATUS` by partial load, the six words of the save
area go on the stack those name, both PC words being the PC, and control goes to the handler.
The vector's address and layout (R888, D4, D6) are a parameter of the model at its default (log 8).
Where they bear on it, the spec's own decisions hold: D5, D55, D56 (92_eei_decisions.md). -/
def Obligations.HardTrapEntry : Prop :=
  ∀ (s v : State) (k : Nat) (first h us ps : SW) (sps : List Span), k < 170 →
    s.vecRead (BitVec.ofNat 30 (0o14000 + 12 * k)) = .ok h → s.vecRead (BitVec.ofNat 30 (0o14004 + 12 * k)) = .ok us →
    s.vecRead (BitVec.ofNat 30 (0o14010 + 12 * k)) = .ok ps → field h 34 2 = 0 → 128 ≤ (addrOfWord h).toNat →
    Us.legal us = true →
    v = { s with us := us, ps := setBit (setField ps 4 (field s.ps 0 4)) 17 (bitAt s.ps 16) } →
    (v.sp + 24).toInt ≤ v.sl.toInt → v.locateRun .write .cur .s 6 (addrOfWord v.sp) = .ok sps →
    let t := (v.writeRun .s sps [first, pcWord s.pc, s.instructionState, s.us, s.ps, pcWord s.pc]).putReg
      (Us.spId us) (v.sp + 24)
    s.enterHard k first = .next { t with pc := addrOfWord h, run := .running }

/-- A hard trap whose initiation fails on its new status word or its handler address is taken through `NESTED_VEC` with the address of
the failing vector (R930); if that initiation fails as well, the processor halts and nothing else changes (R932).
The addresses `14000 + 14 k` (octal) of the vectors, `NESTED_VEC` being number 0, and their layout (R888, D4, D6) are a parameter of the
model at its default (log 8).
Where they bear on it, the spec's own decisions hold: D56 (92_eei_decisions.md). -/
def Obligations.NestedTrapAndDoubleFault : Prop :=
  ∀ (s : State) (k : Nat) (first h us ps : SW), k < 170 →
    s.vecRead (BitVec.ofNat 30 (0o14000 + 12 * k)) = .ok h → s.vecRead (BitVec.ofNat 30 (0o14004 + 12 * k)) = .ok us →
    s.vecRead (BitVec.ofNat 30 (0o14010 + 12 * k)) = .ok ps →
    field h 34 2 ≠ 0 ∨ (addrOfWord h).toNat < 128 ∨ Us.legal us = false →
    s.enterHard k first = s.nested (BitVec.ofNat 30 (0o14000 + 12 * k)) ∧
    (k = 0 → s.nested (BitVec.ofNat 30 0o14000) = .next { s with run := .halted, doubleFault := true }) ∧
    (∀ (h0 us0 ps0 : SW) (v : State) (sps : List Span) (va : VAddr),
      s.vecRead 0o14000 = .ok h0 → s.vecRead 0o14004 = .ok us0 → s.vecRead 0o14010 = .ok ps0 →
      field h0 34 2 = 0 → 128 ≤ (addrOfWord h0).toNat → Us.legal us0 = true →
      v = { s with us := us0, ps := setBit (setField ps0 4 (field s.ps 0 4)) 17 (bitAt s.ps 16) } →
      (v.sp + 24).toInt ≤ v.sl.toInt → v.locateRun .write .cur .s 6 (addrOfWord v.sp) = .ok sps →
      let t := (v.writeRun .s sps [pcWord va, pcWord s.pc, s.instructionState, s.us, s.ps, pcWord s.pc]).putReg
        (Us.spId us0) (v.sp + 24)
      s.nested va = .next { t with pc := addrOfWord h0, run := .running })

/-- Soft-trap entry (R906, R907, R908, R900): the vector in the current space gives the handler and a new `USER_STATUS`; twelve words go
on the stack it names, each that is undefined being the next free value, and `PROC_STATUS` is unchanged. A vector that cannot be
used is the fatal hard trap 1 (R931). The operand words of a three-address instruction are the address of DEST, when it has one, and the
values of S1 and S2 laid out as in Table 5-8 (R647); of an instruction that computes OP1 from OP2, S1 is absent.
The vector's address and layout (R886, D4, D6) are a parameter of the model at its default (log 8); the free values are log 1.
Where they bear on it, the spec's own decisions hold: D5, D56, D58 (92_eei_decisions.md). -/
def Obligations.SoftTrapEntry : Prop :=
  (∀ (s v : State) (k : SoftVec) (dest a0 a1 b0 b1 : Option SW) (w0 h us : SW) (next : VAddr) (sps : List Span),
    s.memRead .cur (BitVec.ofNat 30 (0o6000 + 12 * k.index)) .s = .ok h →
    s.memRead .cur (BitVec.ofNat 30 (0o6004 + 12 * k.index)) .s = .ok us →
    (field h 34 2 ≠ 0 ∨ (addrOfWord h).toNat < 128 ∨ Us.legal us = false →
      s.enterSoft k ⟨dest, (a0, a1), (b0, b1), w0, next⟩ = s.enterHard 1 1) ∧
    (field h 34 2 = 0 → 128 ≤ (addrOfWord h).toNat → Us.legal us = true →
      let ws := Rule.filled s.freeCount [dest, none, none, a0, a1, b0, b1, some w0, some (pcWord s.pc), some s.instructionState,
        some (match k with
          | .fltOvfl => setBit s.us 6 false
          | .fltUnfl => setBit s.us 7 false
          | .fltNan => setBit s.us 8 false
          | .intOvfl => setBit s.us 9 false
          | .intZDiv => setBit s.us 10 false
          | .bndChk => s.us), some (pcWord next)]
      v = { s with us := us, freeCount := ws.2 } → (v.sp + 48).toInt ≤ v.sl.toInt →
      v.locateRun .write .cur .s 12 (addrOfWord v.sp) = .ok sps →
      s.enterSoft k ⟨dest, (a0, a1), (b0, b1), w0, next⟩ =
        .next { (v.writeRun .s sps ws.1).putReg (Us.spId us) (v.sp + 48) with pc := addrOfWord h })) ∧
  (let address : Operand → Option SW := fun
      | .imm _ _ => none
      | .loc l => some (Rule.addrWord l)
    let value : (p : Prec) → BitVec p.bits → Option SW × Option SW := fun p v =>
      match p with
      | .q => (some (BitVec.ofNat 36 (v.toNat * 2 ^ 27)), none)
      | .h => (some (BitVec.ofNat 36 (v.toNat * 2 ^ 18)), none)
      | .s => (some (BitVec.ofNat 36 v.toNat), none)
      | .d => (some (BitVec.ofNat 36 (v.toNat / 2 ^ 36)), some (BitVec.ofNat 36 (v.toNat % 2 ^ 36)))
    ∀ (s : State) (i : Instr) (a : TopArgs) (x1 : Operand) (p1 p2 : Prec) (x : BitVec p1.bits) (y : BitVec p2.bits),
      let next := BitVec.ofNat 30 (s.pc.toNat + 4 * i.length)
      SoftWords.ofValue p1 x = value p1 x ∧
      softTop (s.env i) a p1 p2 x y = ⟨address a.dest, value p1 x, value p2 y, i.firstWord, next⟩ ∧
      softUnary (s.env i) x1 p2 y = ⟨address x1, (none, none), value p2 y, i.firstWord, next⟩)

/-- Words pushed on the implicit stack under absolute addressing lie in memory in order, the first at the lowest address, most
significant quarter-word first; the stack pointer has advanced by four per word; every other byte and register is unchanged (R610,
R613, R125).
Where they bear on it, the spec's own decisions hold: D30 (92_eei_decisions.md). -/
def Obligations.PushedWordsLieInOrder : Prop :=
  ∀ (s t : State) (ws : List SW), Memory.wf s.mem = true → (if Ps.crntMode s.ps then s.execStp else s.userStp).toNat < 128 →
    128 ≤ (addrOfWord s.sp).toNat → (addrOfWord s.sp).toNat + 4 * ws.length ≤ 2 ^ 30 → s.pushWords ws = .ok t →
    (∀ i w, ws[i]? = some w → ∀ b < 4, t.physQ (BitVec.ofNat 34 ((addrOfWord s.sp).toNat + 4 * i + b)) = field w (9 * b) 9) ∧
    (∀ a : PAddr, a.toNat < (addrOfWord s.sp).toNat ∨ (addrOfWord s.sp).toNat + 4 * ws.length ≤ a.toNat →
      t.physQ a = s.physQ a) ∧
    t.getReg s.file (Us.spId s.us) = s.sp + BitVec.ofNat 36 (4 * ws.length) ∧
    (∀ f n, (f, n) ≠ (s.file, Us.spId s.us) → t.getReg f n = s.getReg f n) ∧
    { t with rf := s.rf, mem := s.mem } = s

/-- In user mode every privileged instruction raises `EXEC_ONLY_VEC` with its first word, whatever its operands (R940). -/
def Obligations.PrivilegedInstructionsTrap : Prop :=
  ∀ (o1 o2 : OD) (j : JDest) (s : State), Ps.crntMode s.ps = false →
    ∀ i ∈ [Instr.movphy o1 o2, .retfs o1 o2, .rps o1 o2, .wfsjmp o1 j, .rcfile o1 o2, .wcfile o1 o2, .rpfile o1 o2,
      .wpfile o1 o2, .rpid o1 o2, .swpicRtaP o1 o2, .swpicRtbP o1 o2, .swpdcRtaPU o1 o2, .swpdcRtaPUk o1 o2,
      .swpdcRtbPU o1 o2, .swpdcRtbPUk o1 o2, .swpimE o1 o2, .swpimU o1 o2, .swpdmE o1 o2, .swpdmU o1 o2,
      .wupjmp o1 j, .wepjmp o1 j, .rien o1 o2, .wien o1 o2, .wctr o1 o2, .rectr o1 o2, .wectr o1 o2, .wait o1 o2,
      .halt o1 j],
      TrapsHard s i .execOnly i.firstWord

/-- A non-zero unused descriptor is the fatal hard trap 8, before any operand is evaluated; a privileged instruction reports it only
in executive mode (R218, R255).
Where they bear on it, the spec's own decisions hold: D30 (92_eei_decisions.md). -/
def Obligations.UnusedDescriptorsTrap : Prop :=
  ∀ (o1 o2 : OD) (j : JDest) (s : State),
    (o2 ≠ noOD → ∀ i ∈ [Instr.rus o1 o2, .setus o1 o2, .clrus o1 o2, .rspid o1 o2, .wspid o1 o2, .rrndmd o1 o2,
      .wrndmd o1 o2, .swpicRtaV o1 o2, .swpicRtbV o1 o2, .swpdcRtaVU o1 o2, .swpdcRtaVUk o1 o2, .swpdcRtbVU o1 o2,
      .swpdcRtbVUk o1 o2, .intiop o1 o2, .xct o1 o2], TrapsFatal s i .unusedOd) ∧
    (o2 ≠ noOD → Ps.crntMode s.ps = true → ∀ i ∈ [Instr.rps o1 o2, .rcfile o1 o2, .wcfile o1 o2, .rpfile o1 o2,
      .wpfile o1 o2, .rpid o1 o2, .swpicRtaP o1 o2, .swpicRtbP o1 o2, .swpdcRtaPU o1 o2, .swpdcRtaPUk o1 o2,
      .swpdcRtbPU o1 o2, .swpdcRtbPUk o1 o2, .swpimE o1 o2, .swpimU o1 o2, .swpdmE o1 o2, .swpdmU o1 o2, .wait o1 o2],
      TrapsFatal s i .unusedOd) ∧
    (o1 ≠ noOD → TrapsFatal s (.jmpa o1 j) .unusedOd ∧
      (Ps.crntMode s.ps = true → TrapsFatal s (.halt o1 j) .unusedOd ∧ TrapsFatal s (.wait o1 o2) .unusedOd))

/-! ### Invariants -/

/-- Every step keeps the invariant: canonical memory and buffers, an aligned PC, a legal `USER_STATUS`, a zero `INSTRUCTION_STATE`, zero
bits 32 to 35 of the interrupt registers, aligned segment registers (R47, R71, R74, R76, R77, R86).
Where they bear on it, the spec's own decisions hold: D16, D27 (92_eei_decisions.md). -/
def Obligations.EveryStepKeepsInv : Prop := ∀ s t : State, s.Inv → step s = .next t → t.Inv

/-- The state after reset meets the invariant. -/
def Obligations.ResetMeetsInv : Prop := State.reset.Inv

/-- What the spec says of the state after reset (R95), the fields it leaves unspecified aside.
Where they bear on it, the spec's own decisions hold: D7 (92_eei_decisions.md). -/
def Obligations.ResetValues : Prop :=
  State.reset.pc = 0o26000 ∧ Ps.crntFile State.reset.ps = 1 ∧ Ps.prevFile State.reset.ps = 1 ∧
  Ps.useShadowPrev State.reset.ps = false ∧ Ps.prio State.reset.ps = 0 ∧ Ps.emulation State.reset.ps = 0 ∧
  Ps.traceEnb State.reset.ps = false ∧ Ps.tracePend State.reset.ps = false ∧ Ps.crntMode State.reset.ps = true ∧
  Ps.prevMode State.reset.ps = true ∧ field State.reset.ps 18 18 = 0 ∧
  Us.spId State.reset.us = 30 ∧ field State.reset.us 5 6 = 0 ∧ Us.fltOvflMode State.reset.us = 1 ∧
  Us.fltUnflMode State.reset.us = 1 ∧ Us.fltNanMode State.reset.us = 1 ∧ Us.intOvflMode State.reset.us = true ∧
  Us.intZDivMode State.reset.us = true ∧ Us.rndMode State.reset.us = 0 ∧ field State.reset.us 24 12 = 0 ∧
  State.reset.execStp = 0 ∧ State.reset.execStl = 0 ∧ State.reset.userStp = 0 ∧ State.reset.userStl = 0 ∧
  (∀ i : Fin 8, State.reset.intPend[i] = 0 ∧ State.reset.intEnb[i] = 0) ∧ State.reset.instructionState = 0 ∧
  State.reset.run = .running

/-- Whatever a step in user mode does, it leaves the segment registers, the counter enables and the processor number alone (R75, R82,
R83): the instructions that write them are illegal there and no exception entry writes them.
Where they bear on it, the spec's own decisions hold: D10, D11, D26 (92_eei_decisions.md). -/
def Obligations.UserStepKeepsPrivilegedRegisters : Prop :=
  ∀ s t : State, Ps.crntMode s.ps = false → step s = .next t →
    t.execStp = s.execStp ∧ t.execStl = s.execStl ∧ t.userStp = s.userStp ∧ t.userStl = s.userStl ∧
    t.ctrEnb = s.ctrEnb ∧ t.procId = s.procId ∧ t.physMem = s.physMem ∧ (t.run = .waiting → s.run = .waiting)

/-- User mode is left only through an executive vector: when a step from user mode ends in executive mode, the PC is a handler address
read from a vector of the executive space, the previous mode is user and the previous file is the file that was current (R58,
R895, R941).
The addresses of the vector blocks are R190's. -/
def Obligations.UserModeIsLeftThroughVectors : Prop :=
  ∀ s t : State, Ps.crntMode s.ps = false → step s = .next t → Ps.crntMode t.ps = true →
    Ps.prevMode t.ps = false ∧ Ps.prevFile t.ps = Ps.crntFile s.ps ∧
    ∃ (va : VAddr) (h : SW), 0o10000 ≤ va.toNat ∧ va.toNat < 0o26000 ∧ s.vecRead va = .ok h ∧ t.pc = addrOfWord h

/-! ### Memory and operands -/

/-- What is stored at a virtual address is read back there at the same precision (R125, R150, R151), for a double-word unless both of its
halves are the same storage; and the parts of a word are at rising addresses from its most significant end, in registers and in
memory.
Where they bear on it, the spec's own decisions hold: D30 (92_eei_decisions.md). -/
def Obligations.StorageReadsBack : Prop :=
  (∀ (s : State) (acc : Access) (ctx : Ctx) (va : VAddr) (p : Prec) (sp : Span) (v : BitVec p.bits),
    Memory.wf s.mem = true → s.locate acc ctx va p = .ok sp → (p = .d → sp.fst ≠ sp.snd) →
    (s.writeSpan p sp v).readSpan p sp = v) ∧
  (∀ (s : State) (acc : Access) (ctx : Ctx) (va : VAddr) (sp : Span), s.locate acc ctx va .s = .ok sp →
    (∀ (k : Nat) (q : Span), k < 4 → s.locate acc ctx (vaAdd va k) .q = .ok q →
      s.readSpan .q q = field (s.readSpan .s sp) (9 * k) 9) ∧
    (∀ (k : Nat) (h : Span), k = 0 ∨ k = 2 → s.locate acc ctx (vaAdd va k) .h = .ok h →
      s.readSpan .h h = field (s.readSpan .s sp) (9 * k) 18))

/-- Which fault one access reports, when several apply (R154): alignment, then a user's use of the previous context, then, for each
piece, translation, the access mode by the bits of the page's ACCESS field (R146, R147), and memory behind the address, whose absence
is the model's fault (log 4). A reference with none of these names the registers, or the storage at the translated
address, a double-word two single-words resolved each on its own (R150); a read gives what is stored there.
Where they bear on it, the spec's own decisions hold: D12, D31 (92_eei_decisions.md). -/
def Obligations.AccessFaultsInOrder : Prop :=
  ∀ (s : State) (acc : Access) (ctx : Ctx) (va : VAddr) (p : Prec),
    let space : Bool := if ctx = .cur then bitAt s.ps 16 else bitAt s.ps 17
    let file : FileNum := if ctx = .cur then field s.ps 0 4 else field s.ps 4 4
    let permitted : BitVec 6 → Bool := fun a =>
      match acc with
      | .fetch => bitAt a 0
      | .read => bitAt a 1 && !bitAt a 4
      | .write => bitAt a 1 && (bitAt a 3 || bitAt a 5)
      | .codeRead => bitAt a 0
      | .codeWrite => bitAt a 0 && (bitAt a 3 || bitAt a 5)
      | .io => !bitAt a 0 && !bitAt a 1
    let piece : VAddr → Except Exc Place := fun a =>
      if a.toNat < 128 ∧ (ctx = .cur ∨ bitAt s.ps 8 = false) then .ok (.reg file (BitVec.ofNat 7 a.toNat))
      else
        match s.translate space a with
        | .error e => .error e
        | .ok (pa, bits) =>
          if bits.any (fun b => !permitted b) = true then .error (.hard .addressMd (BitVec.ofBool space ++ 0#5 ++ a))
          else if s.backed pa = true then .ok (.phys pa)
          else .error (.fault (.noPhysicalMemory pa))
    (s.locate acc ctx va p =
      if (p = .h ∧ va.toNat % 2 ≠ 0) ∨ ((p = .s ∨ p = .d) ∧ va.toNat % 4 ≠ 0) then .error (.fatal .notAligned)
      else if ctx = .prev ∧ bitAt s.ps 16 = false then .error (.hard .userP (pcWord va))
      else
        match piece va, piece (BitVec.ofNat 30 (va.toNat + 4)) with
        | .error e, _ => .error e
        | .ok x, .error e => if p = .d then .error e else .ok ⟨x, x⟩
        | .ok x, .ok y => .ok ⟨x, if p = .d then y else x⟩) ∧
    (s.memRead ctx va p =
      match s.locate .read ctx va p with
      | .error e => .error e
      | .ok sp => .ok (s.readSpan p sp)) ∧
    (∀ pa : PAddr, s.readQ (.phys pa) = Memory.read s.mem pa.toNat ∧
      s.readH (.phys pa) = s.readQ (.phys pa) ++ s.readQ (.phys (pa + 1)) ∧
      s.readS (.phys pa) = s.readH (.phys pa) ++ s.readH (.phys (pa + 2)))

/-- Translation (R141, R142, R143, R144): the identity under absolute addressing, else the segment and page tables in physical memory;
an entry beyond the limit or without `VALID` is a page fault. Memory is backed at the entries.
Where they bear on it, the spec's own decisions hold: D29 (92_eei_decisions.md). -/
def Obligations.TranslationWalksTheTables : Prop :=
  ∀ (s : State) (space : Bool) (va : VAddr) (stp stl a : PAddr) (ste pte : SW),
    stp = (if space then s.execStp else s.userStp) → stl = (if space then s.execStl else s.userStl) →
    a = BitVec.ofNat 34 (stp.toNat + 4 * (va.toNat / 2 ^ 20)) → ste = s.physS a →
    pte = s.physS (BitVec.ofNat 34 (ste.toNat % 2 ^ 23 * 2 ^ 11 + va.toNat / 2 ^ 11 % 2 ^ 9 * 4)) →
    (∀ b : PAddr, s.backed b = true) →
    s.translate space va =
      (if stp.toNat < 128 then .ok (BitVec.ofNat 34 va.toNat, none)
      else if stl.toNat ≤ a.toNat ∨ ste.toNat < 2 ^ 35 ∨ pte.toNat < 2 ^ 35 then
        .error (.hard .pgFault (BitVec.ofBool space ++ 0#5 ++ va))
      else .ok (BitVec.ofNat 34 (pte.toNat % 2 ^ 23 * 2 ^ 11 + va.toNat % 2 ^ 11),
        some (BitVec.ofNat 6 (pte.toNat / 2 ^ 23))))

/-- Addresses 0 to 127 name the registers of the current file in the current context, and of the previous file in the previous
context unless `USE_SHADOW_PREV` is set (R44, R128, R131): the register's bits are read, whatever the segment tables hold. -/
def Obligations.LowAddressesAreRegisters : Prop :=
  ∀ (s : State) (n : RegNum),
    s.memRead .cur (BitVec.ofNat 30 (4 * n.toNat)) .s = .ok (s.getReg (field s.ps 0 4) n) ∧
    (∀ k : Fin 4, s.memRead .cur (BitVec.ofNat 30 (4 * n.toNat + k.val)) .q =
      .ok (field (s.getReg (field s.ps 0 4) n) (9 * k.val) 9)) ∧
    (∀ k : Fin 2, s.memRead .cur (BitVec.ofNat 30 (4 * n.toNat + 2 * k.val)) .h =
      .ok (field (s.getReg (field s.ps 0 4) n) (18 * k.val) 18)) ∧
    (n ≠ 31 → s.memRead .cur (BitVec.ofNat 30 (4 * n.toNat)) .d =
      .ok (s.getReg (field s.ps 0 4) n ++ s.getReg (field s.ps 0 4) (n + 1))) ∧
    (Ps.crntMode s.ps = true → bitAt s.ps 8 = false →
      s.memRead .prev (BitVec.ofNat 30 (4 * n.toNat)) .s = .ok (s.getReg (field s.ps 4 4) n)) ∧
    (Ps.crntMode s.ps = true → bitAt s.ps 8 = true → (if bitAt s.ps 17 then s.execStp else s.userStp).toNat < 128 →
      (∀ b : PAddr, s.backed b = true) →
      s.memRead .prev (BitVec.ofNat 30 (4 * n.toNat)) .s = .ok (s.physS (BitVec.ofNat 34 (4 * n.toNat))))

/-- The short operands (R221, R231). -/
def Obligations.ShortOperands : Prop :=
  ∀ (s : State),
    (∀ r : RegNum, s.evalOD (.short (.reg r)) = .ok (.loc ⟨.cur, BitVec.ofNat 30 (4 * r.toNat), true⟩)) ∧
    (∀ f : BitVec 5, s.evalOD (.short (.regOut f)) = .error (.fatal .registerNumber)) ∧
    (∀ f : BitVec 6, s.evalOD (.short (.const f)) = .ok (.imm .sx (BitVec.ofInt 36 f.toInt))) ∧
    (∀ f : BitVec 6, s.evalOD (.short (.mode2 f)) = .error (.fatal .mode2)) ∧
    (∀ f : BitVec 6, s.evalOD (.short (.indexed 3 f)) = .ok (.loc ⟨.cur, Rule.target s.pc f.toInt, false⟩)) ∧
    (∀ (b : RegNum) (f : BitVec 6), b ≠ 3 → s.evalOD (.short (.indexed b f)) =
      .ok (.loc ⟨.cur, BitVec.ofInt 30 ((s.getReg s.file b).toNat + 4 * f.toInt), false⟩))

/-- Long constants, and based operands without indirection (R227, R229, R230, R231, R238): base plus the index scaled by S, modulo
2^30, in the previous context with the P-bit, which a user may not use.
Where they bear on it, the spec's own decisions hold: D32 (92_eei_decisions.md). -/
def Obligations.BasedOperands : Prop :=
  ∀ (s : State) (w : SW) (p sp : Bool) (sc : BitVec 2) (a : VAddr) (r : RegNum) (d : BitVec 25) (so : Short) (ix : SW),
    let reg : RegNum → SW := fun n => if n = 3 then pcWord s.pc else s.getReg s.file n
    let based : Int → Except Exc Operand := fun b =>
      if p = true ∧ Ps.crntMode s.ps = false then .error (.hard .userP (pcWord (BitVec.ofInt 30 b)))
      else .ok (.loc ⟨if p then .prev else .cur, BitVec.ofInt 30 b, false⟩)
    (∀ k, s.evalOD (.longConst k w) = .ok (.imm k w)) ∧
    (∀ f, s.evalOD (.illegalF f w) = .error (.fatal .illegalF)) ∧
    s.evalOD (.indexedConst r w) = .ok (.imm .sx (w + reg r)) ∧
    s.evalOD (.based0 (.fixedBased p false sc sp a)) = based a.toNat ∧
    s.evalOD (.based0 (.variableBased p false sc sp r d)) = based ((reg r).toNat + d.toInt) ∧
    (∀ n, so = .reg n → ix = reg n →
      s.evalOD (.based so (.fixedBased p false sc sp a)) = based (a.toNat + ix.toNat * 2 ^ sc.toNat) ∧
      s.evalOD (.based so (.variableBased p false sc sp r d)) =
        based ((reg r).toNat + d.toInt + ix.toNat * 2 ^ sc.toNat)) ∧
    (∀ l, s.evalOD (.short so) = .ok (.loc l) → l.rd = false → s.memRead .cur l.va .s = .ok ix →
      s.evalOD (.based so (.fixedBased p false sc sp a)) = based (a.toNat + ix.toNat * 2 ^ sc.toNat) ∧
      s.evalOD (.based so (.variableBased p false sc sp r d)) =
        based ((reg r).toNat + d.toInt + ix.toNat * 2 ^ sc.toNat))

/-- Indirect addressing (R230, R235, R236, R238, R239), with a fixed-based or variable-based word, indexed by a register or a
single-word of memory or not at all: the pointer at the address of the word, its index register and its address are taken in the
space where the pointer lies; its P-bit changes the space once, and a second change is fatal 4. The P-bit of the word itself is
for the executive only.
Where they bear on it, the spec's own decisions hold: D32 (92_eei_decisions.md). -/
def Obligations.IndirectOperands : Prop :=
  ∀ (s : State) (p sp : Bool) (sc : BitVec 2) (a addr : VAddr) (r : RegNum) (d : BitVec 25) (so : Short) (so' : SW) (od : OD),
    let reg : RegNum → SW := fun n => if n = 3 then pcWord s.pc else s.getReg s.file n
    let fw : ExtWord := .fixedBased p true sc sp a
    let vw : ExtWord := .variableBased p true sc sp r d
    (od = .based0 fw ∧ addr = a) ∨ (od = .based0 vw ∧ addr = BitVec.ofInt 30 ((reg r).toNat + d.toInt)) ∨
      (((∃ n, so = .reg n ∧ so' = reg n) ∨
          ∃ l, s.evalOD (.short so) = .ok (.loc l) ∧ l.rd = false ∧ s.memRead .cur l.va .s = .ok so') ∧
        ((od = .based so fw ∧ addr = BitVec.ofInt 30 (a.toNat + so'.toNat * 2 ^ sc.toNat)) ∨
          (od = .based so vw ∧
            addr = BitVec.ofInt 30 ((reg r).toNat + d.toInt + so'.toNat * 2 ^ sc.toNat)))) →
    if p = true ∧ Ps.crntMode s.ps = false then s.evalOD od = .error (.hard .userP (pcWord addr))
    else ∀ (ctx : Ctx) (iap ix : SW), ctx = (if p then .prev else .cur) → s.memRead ctx addr .s = .ok iap →
      (if field iap 1 5 = 0 then ix = 0
        else if field iap 1 5 = 3 then ix = pcWord s.pc
        else s.memRead ctx (BitVec.ofNat 30 (4 * (field iap 1 5).toNat)) .s = .ok ix) →
      s.evalOD od =
        (if bitAt iap 0 = false then .ok (.loc ⟨ctx, BitVec.ofNat 30 (ix.toNat + iap.toNat), false⟩)
        else if p = true then .error (.fatal .pBit)
        else if Ps.crntMode s.ps = false then
          .error (.hard .userP (pcWord (BitVec.ofNat 30 (ix.toNat + iap.toNat))))
        else .ok (.loc ⟨.prev, BitVec.ofNat 30 (ix.toNat + iap.toNat), false⟩))

/-- Immediates at every precision, and what an immediate or a register-direct operand may not be used for (R228, R241, R242, R245,
R253); and what DEST, S1 and S2 of a three-address instruction are for each T, RTA being register 4 and RTB register 6 (R207), the
descriptors evaluated in order (R214).
Where they bear on it, the spec's own decisions hold: D9 (92_eei_decisions.md). -/
def Obligations.OperandAccess : Prop :=
  (∀ (s : State) (p : Prec) (k : ConstKind) (w : SW) (l : Loc),
    s.readOp (.imm k w) p = .ok (Rule.imm k w p.bits) ∧
    s.checkWrite (.imm k w) p = .error (.fatal .immediate) ∧
    (l.rd = true → 128 < l.va.toNat + p.qws →
      s.readOp (.loc l) p = .error (.fatal .registerBoundary) ∧
      s.checkWrite (.loc l) p = .error (.fatal .registerBoundary)) ∧
    (l.rd = false ∨ l.va.toNat + p.qws ≤ 128 →
      s.readOp (.loc l) p = s.memRead l.ctx l.va p ∧ s.checkWrite (.loc l) p = s.locate .write l.ctx l.va p) ∧
    l.next p = ⟨l.ctx, BitVec.ofNat 30 (l.va.toNat + p.qws), l.rd⟩) ∧
  (∀ (s : State) (t : TMode) (o1 o2 : OD),
    let rta : Operand := .loc ⟨.cur, BitVec.ofNat 30 (4 * 4), true⟩
    let rtb : Operand := .loc ⟨.cur, BitVec.ofNat 30 (4 * 6), true⟩
    s.evalTop t o1 o2 =
      match s.evalOD o1, s.evalOD o2 with
      | .error e, _ => .error e
      | .ok _, .error e => .error e
      | .ok x1, .ok x2 =>
        .ok (match t with
          | .t00 => { dest := x1, s1 := x1, s2 := x2 }
          | .t01 => { dest := x1, s1 := rta, s2 := x2 }
          | .t10 => { dest := rta, s1 := x1, s2 := x2 }
          | .t11 => { dest := rtb, s1 := x1, s2 := x2 }))

/-- Jump destinations (R210, R562, R566): relative to the PC, or the address of an operand that is neither an immediate (fatal 13), nor
in the previous context (fatal 4), nor misaligned (fatal 2), nor in the registers (fatal 12).
Where they bear on it, the spec's own decisions hold: D42 (92_eei_decisions.md). -/
def Obligations.JumpDestinations : Prop :=
  ∀ (s : State) (j : BitVec 12) (od : OD) (x : Operand),
    (s.jumpDest (.rel j) =
      if (Rule.target s.pc j.toInt).toNat < 128 then .error (.fatal .jumpToRegisters)
      else .ok (Rule.target s.pc j.toInt)) ∧
    (s.evalOD od = .ok x → s.jumpDest (.gen od) =
      match x with
      | .imm _ _ => .error (.fatal .immediate)
      | .loc l =>
        if l.ctx = .prev then .error (.fatal .pBit)
        else if l.va.toNat % 4 ≠ 0 then .error (.fatal .notAligned)
        else if l.va.toNat < 128 then .error (.fatal .jumpToRegisters)
        else .ok l.va)

/-! ### Integers (40_integer.md) -/

/-- The sums and differences with `CARRY` and `INT_OVFL`, by Table 5-1 (R302, R303, R305, R310 to R315). -/
def Obligations.IntegerSums : Prop :=
  AllPrec (fun p mk => Top3Gives p p p mk fun us x y => Rule.sum us x y false) .addQ .addH .addS .addD ∧
  AllPrec (fun p mk => Top3Gives p p p mk fun us x y => Rule.sum us x y (Us.carry us)) .addcQ .addcH .addcS .addcD ∧
  AllPrec (fun p mk => Top3Gives p p p mk fun us x y => Rule.sum us x (~~~y) true) .subQ .subH .subS .subD ∧
  AllPrec (fun p mk => Top3Gives p p p mk fun us x y => Rule.sum us (~~~x) y true) .subvQ .subvH .subvS .subvD ∧
  AllPrec (fun p mk => Top3Gives p p p mk fun us x y => Rule.sum us x (~~~y) (Us.carry us))
    .subcQ .subcH .subcS .subcD ∧
  AllPrec (fun p mk => Top3Gives p p p mk fun us x y => Rule.sum us (~~~x) y (Us.carry us))
    .subcvQ .subcvH .subcvS .subcvD

/-- `INC`, `DEC`, `NEG`, `ABS` and the sixteen `TRANS` (R354, R355, R360, R361, R358). -/
def Obligations.IntegerUnaryOperations : Prop :=
  AllPrec (fun p mk => Xop2Gives p p mk fun us y => Rule.sum us 1 y false) .incQ .incH .incS .incD ∧
  AllPrec (fun p mk => Xop2Gives p p mk fun us y => Rule.sum us (-1) y false) .decQ .decH .decS .decD ∧
  AllPrec (fun p mk => Xop2Gives p p mk fun us y => Rule.sum us 0 (~~~y) true) .negQ .negH .negS .negD ∧
  AllPrec (fun p mk => Xop2Gives p p mk fun us y => Rule.abs us y) .absQ .absH .absS .absD ∧
  AllPrec (fun p mk => Xop2Gives .q p mk fun us y => Rule.int us 9 y.toInt) .transQQ .transQH .transQS .transQD ∧
  AllPrec (fun p mk => Xop2Gives .h p mk fun us y => Rule.int us 18 y.toInt) .transHQ .transHH .transHS .transHD ∧
  AllPrec (fun p mk => Xop2Gives .s p mk fun us y => Rule.int us 36 y.toInt) .transSQ .transSH .transSS .transSD ∧
  AllPrec (fun p mk => Xop2Gives .d p mk fun us y => Rule.int us 72 y.toInt) .transDQ .transDH .transDS .transDD

/-- Products, signed and unsigned, at one precision and at twice the precision, and the smaller and larger of two words (R320, R321,
R370, R371, R364, R365).
The overflow of `UMULT` is in the equivalent form that the spec itself derives in R370. -/
def Obligations.IntegerProducts : Prop :=
  AllPrec (fun p mk => Top3Gives p p p mk fun us x y => Rule.int us p.bits (x.toInt * y.toInt))
    .multQ .multH .multS .multD ∧
  LongPrec (fun p l mk => Top3Gives l p p mk fun us x y => .plain us (BitVec.ofInt l.bits (x.toInt * y.toInt)))
    .multlQ .multlH .multlS ∧
  AllPrec (fun p mk => Top3Gives p p p mk fun us x y => Rule.umult us x y) .umultQ .umultH .umultS .umultD ∧
  LongPrec (fun p l mk => Top3Gives l p p mk fun us x y => .plain us (BitVec.ofNat l.bits (x.toNat * y.toNat)))
    .umultlQ .umultlH .umultlS ∧
  AllPrec (fun p mk => Top3Gives p p p mk fun us x y => .plain us (Rule.min x y)) .minQ .minH .minS .minD ∧
  AllPrec (fun p mk => Top3Gives p p p mk fun us x y => .plain us (Rule.max x y)) .maxQ .maxH .maxS .maxD

/-- Quotients, remainders and moduli, forward and reverse, plain and with a long dividend, with the zero-divide step (R308, R309, R322,
R323, R324 to R327, R336 to R345).
Where they bear on it, the spec's own decisions hold: D34 (92_eei_decisions.md). -/
def Obligations.QuotientsAndRemainders : Prop :=
  AllPrec (fun p mk => Top3Gives p p p mk fun us x y => Rule.divQuo us p.bits x.toInt y.toInt)
    .quoQ .quoH .quoS .quoD ∧
  AllPrec (fun p mk => Top3Gives p p p mk fun us x y => Rule.divQuo us p.bits y.toInt x.toInt)
    .quovQ .quovH .quovS .quovD ∧
  LongPrec (fun p l mk => Top3Gives p l p mk fun us x y => Rule.divQuo us p.bits x.toInt y.toInt)
    .quolQ .quolH .quolS ∧
  LongPrec (fun p l mk => Top3Gives p p l mk fun us x y => Rule.divQuo us p.bits y.toInt x.toInt)
    .quolvQ .quolvH .quolvS ∧
  AllPrec (fun p mk => Top3Gives p p p mk fun us x y => Rule.divRem Rule.rem us p.bits x.toInt y.toInt)
    .remQ .remH .remS .remD ∧
  AllPrec (fun p mk => Top3Gives p p p mk fun us x y => Rule.divRem Rule.rem us p.bits y.toInt x.toInt)
    .remvQ .remvH .remvS .remvD ∧
  LongPrec (fun p l mk => Top3Gives p l p mk fun us x y => Rule.divRem Rule.rem us p.bits x.toInt y.toInt)
    .remlQ .remlH .remlS ∧
  LongPrec (fun p l mk => Top3Gives p p l mk fun us x y => Rule.divRem Rule.rem us p.bits y.toInt x.toInt)
    .remlvQ .remlvH .remlvS ∧
  AllPrec (fun p mk => Top3Gives p p p mk fun us x y => Rule.divRem Rule.mod us p.bits x.toInt y.toInt)
    .modQ .modH .modS .modD ∧
  AllPrec (fun p mk => Top3Gives p p p mk fun us x y => Rule.divRem Rule.mod us p.bits y.toInt x.toInt)
    .modvQ .modvH .modvS .modvD ∧
  LongPrec (fun p l mk => Top3Gives p l p mk fun us x y => Rule.divRem Rule.mod us p.bits x.toInt y.toInt)
    .modlQ .modlH .modlS ∧
  LongPrec (fun p l mk => Top3Gives p p l mk fun us x y => Rule.divRem Rule.mod us p.bits y.toInt x.toInt)
    .modlvQ .modlvH .modlvS

/-- Divisions that store a quotient in DEST and a remainder in NEXT(DEST), signed and unsigned (R348 to R351, R374, R375).
Where they bear on it, the spec's own decisions hold: D35 (92_eei_decisions.md). -/
def Obligations.Divisions : Prop :=
  AllPrec (fun p mk => Top3NextGives p p p mk fun us x y => Rule.divBoth us p.bits x.toInt y.toInt)
    .divQ .divH .divS .divD ∧
  AllPrec (fun p mk => Top3NextGives p p p mk fun us x y => Rule.divBoth us p.bits y.toInt x.toInt)
    .divvQ .divvH .divvS .divvD ∧
  LongPrec (fun p l mk => Top3NextGives p l p mk fun us x y => Rule.divBoth us p.bits x.toInt y.toInt)
    .divlQ .divlH .divlS ∧
  LongPrec (fun p l mk => Top3NextGives p p l mk fun us x y => Rule.divBoth us p.bits y.toInt x.toInt)
    .divlvQ .divlvH .divlvS ∧
  AllPrec (fun p mk => Top3NextGives p p p mk fun us x y => Rule.udiv us x y) .udivQ .udivH .udivS .udivD ∧
  LongPrec (fun p l mk => Top3NextGives p l p mk fun us x y => Rule.udiv us x y) .udivlQ .udivlH .udivlS

/-- Quotients by powers of two, for every exponent however large (R328, R330 to R333). -/
def Obligations.QuotientsByPowersOfTwo : Prop :=
  AllPrec (fun p mk => Top3Gives p p p mk fun us x k => Rule.quo2 us p.bits x.toInt k.toInt)
    .quo2Q .quo2H .quo2S .quo2D ∧
  AllPrec (fun p mk => Top3Gives p p p mk fun us k x => Rule.quo2 us p.bits x.toInt k.toInt)
    .quo2vQ .quo2vH .quo2vS .quo2vD ∧
  LongPrec (fun p l mk => Top3Gives p l p mk fun us x k => Rule.quo2 us p.bits x.toInt k.toInt)
    .quo2lQ .quo2lH .quo2lS ∧
  LongPrec (fun p l mk => Top3Gives p p l mk fun us k x => Rule.quo2 us p.bits x.toInt k.toInt)
    .quo2lvQ .quo2lvH .quo2lvS

/-! ### Floating-point numbers (41_float.md) -/

/-- Floating-point sums and differences: the exact rational sum, rounded and delivered, or the entry of the printed table (R401 to R406,
R411, R419, R421, R427, R430 to R432).
Encoding looks for the boundary patterns in the word with the wrapped exponent (R406: log 15).
Where they bear on it, the spec's own decisions hold: D17, D36 (92_eei_decisions.md). -/
def Obligations.FloatSums : Prop :=
  FltPrec (fun p mk => Top3Gives p p p mk fun us x y => Rule.fadd p us x y) .faddH .faddS .faddD ∧
  FltPrec (fun p mk => Top3Gives p p p mk fun us x y => Rule.fadd p us x (Rule.fnegWord y)) .fsubH .fsubS .fsubD ∧
  FltPrec (fun p mk => Top3Gives p p p mk fun us x y => Rule.fadd p us y (Rule.fnegWord x)) .fsubvH .fsubvS .fsubvD

/-- Floating-point products and quotients at one precision and with a long result or dividend (R422, R423, R434, R435, R437 to
R440).
The numbers, rounding and delivery are those of R401 to R406, R411, R419 and R427; encoding looks for the boundary patterns (D36) in the
word with the wrapped exponent (R406: log 15). -/
def Obligations.FloatProductsAndQuotients : Prop :=
  FltPrec (fun p mk => Top3Gives p p p mk fun us x y => Rule.fmul p p us x y) .fmultH .fmultS .fmultD ∧
  Top3Gives .s .h .h .fmultlH (Rule.fmul .s .h) ∧ Top3Gives .d .s .s .fmultlS (Rule.fmul .d .s) ∧
  FltPrec (fun p mk => Top3Gives p p p mk fun us x y => Rule.fdiv p p p us x y) .fdivH .fdivS .fdivD ∧
  FltPrec (fun p mk => Top3Gives p p p mk fun us x y => Rule.fdiv p p p us y x) .fdivvH .fdivvS .fdivvD ∧
  Top3Gives .h .s .h .fdivlH (Rule.fdiv .h .s .h) ∧ Top3Gives .s .d .s .fdivlS (Rule.fdiv .s .d .s) ∧
  Top3Gives .h .h .s .fdivlvH (fun us x y => Rule.fdiv .h .s .h us y x) ∧
  Top3Gives .s .s .d .fdivlvS (fun us x y => Rule.fdiv .s .d .s us y x)

/-- Scaling by a power of two, changes of precision, conversion of integers, negation, magnitude, smaller and larger (R442, R443, R448,
R450, R452, R453, R455, R456).
The numbers, rounding and delivery are those of R401 to R406, R411, R419 and R426; encoding looks for the boundary patterns (D36) in the
word with the wrapped exponent (R406: log 15). -/
def Obligations.FloatScalesAndConversions : Prop :=
  FltPrec (fun p mk => Top3Gives p p .s mk fun us x k => Rule.fsc p us x k) .fscH .fscS .fscD ∧
  FltPrec (fun p mk => Top3Gives p .s p mk fun us k x => Rule.fsc p us x k) .fscvH .fscvS .fscvD ∧
  FltPrec (fun p mk => Xop2Gives .h p mk fun us y => Rule.ftrans .h p us y) .ftransHH .ftransHS .ftransHD ∧
  FltPrec (fun p mk => Xop2Gives .s p mk fun us y => Rule.ftrans .s p us y) .ftransSH .ftransSS .ftransSD ∧
  FltPrec (fun p mk => Xop2Gives .d p mk fun us y => Rule.ftrans .d p us y) .ftransDH .ftransDS .ftransDD ∧
  AllPrec (fun p mk => Xop2Gives .h p mk fun us y => Rule.deliverNum us false .h y.toInt)
    .floatHQ .floatHH .floatHS .floatHD ∧
  AllPrec (fun p mk => Xop2Gives .s p mk fun us y => Rule.deliverNum us false .s y.toInt)
    .floatSQ .floatSH .floatSS .floatSD ∧
  AllPrec (fun p mk => Xop2Gives .d p mk fun us y => Rule.deliverNum us false .d y.toInt)
    .floatDQ .floatDH .floatDS .floatDD ∧
  FltPrec (fun p mk => Xop2Gives p p mk fun us y => Rule.deliverWord us (Rule.fnegWord y)) .fnegH .fnegS .fnegD ∧
  FltPrec (fun p mk => Xop2Gives p p mk fun us y => Rule.deliverWord us (if y.toInt < 0 then Rule.fnegWord y else y))
    .fabsH .fabsS .fabsD ∧
  FltPrec (fun p mk => Top3Gives p p p mk fun us x y => Rule.fpick Rule.min us x y) .fminH .fminS .fminD ∧
  FltPrec (fun p mk => Top3Gives p p p mk fun us x y => Rule.fpick Rule.max us x y) .fmaxH .fmaxS .fmaxD

/-- `FIX` with each of its rounding modifiers: floor, ceiling, diminished magnitude, PL/1, and the mode in `USER_STATUS` (R413, R446).
Where they bear on it, the spec's own decisions hold: D37 (92_eei_decisions.md). -/
def Obligations.FloatsToIntegers : Prop :=
  (FltPrec (fun p mk => Xop2Gives .q p mk fun us y => Rule.fix 0 9 p us y) .fixFlQH .fixFlQS .fixFlQD ∧
    FltPrec (fun p mk => Xop2Gives .h p mk fun us y => Rule.fix 0 18 p us y) .fixFlHH .fixFlHS .fixFlHD ∧
    FltPrec (fun p mk => Xop2Gives .s p mk fun us y => Rule.fix 0 36 p us y) .fixFlSH .fixFlSS .fixFlSD ∧
    FltPrec (fun p mk => Xop2Gives .d p mk fun us y => Rule.fix 0 72 p us y) .fixFlDH .fixFlDS .fixFlDD) ∧
  (FltPrec (fun p mk => Xop2Gives .q p mk fun us y => Rule.fix 4 9 p us y) .fixClQH .fixClQS .fixClQD ∧
    FltPrec (fun p mk => Xop2Gives .h p mk fun us y => Rule.fix 4 18 p us y) .fixClHH .fixClHS .fixClHD ∧
    FltPrec (fun p mk => Xop2Gives .s p mk fun us y => Rule.fix 4 36 p us y) .fixClSH .fixClSS .fixClSD ∧
    FltPrec (fun p mk => Xop2Gives .d p mk fun us y => Rule.fix 4 72 p us y) .fixClDH .fixClDS .fixClDD) ∧
  (FltPrec (fun p mk => Xop2Gives .q p mk fun us y => Rule.fix 1 9 p us y) .fixDmQH .fixDmQS .fixDmQD ∧
    FltPrec (fun p mk => Xop2Gives .h p mk fun us y => Rule.fix 1 18 p us y) .fixDmHH .fixDmHS .fixDmHD ∧
    FltPrec (fun p mk => Xop2Gives .s p mk fun us y => Rule.fix 1 36 p us y) .fixDmSH .fixDmSS .fixDmSD ∧
    FltPrec (fun p mk => Xop2Gives .d p mk fun us y => Rule.fix 1 72 p us y) .fixDmDH .fixDmDS .fixDmDD) ∧
  (FltPrec (fun p mk => Xop2Gives .q p mk fun us y => Rule.fix 0o14 9 p us y) .fixHpQH .fixHpQS .fixHpQD ∧
    FltPrec (fun p mk => Xop2Gives .h p mk fun us y => Rule.fix 0o14 18 p us y) .fixHpHH .fixHpHS .fixHpHD ∧
    FltPrec (fun p mk => Xop2Gives .s p mk fun us y => Rule.fix 0o14 36 p us y) .fixHpSH .fixHpSS .fixHpSD ∧
    FltPrec (fun p mk => Xop2Gives .d p mk fun us y => Rule.fix 0o14 72 p us y) .fixHpDH .fixHpDS .fixHpDD) ∧
  (FltPrec (fun p mk => Xop2Gives .q p mk fun us y => Rule.fix (Us.rndMode us) 9 p us y) .fixUsQH .fixUsQS .fixUsQD ∧
    FltPrec (fun p mk => Xop2Gives .h p mk fun us y => Rule.fix (Us.rndMode us) 18 p us y)
      .fixUsHH .fixUsHS .fixUsHD ∧
    FltPrec (fun p mk => Xop2Gives .s p mk fun us y => Rule.fix (Us.rndMode us) 36 p us y)
      .fixUsSH .fixUsSS .fixUsSD ∧
    FltPrec (fun p mk => Xop2Gives .d p mk fun us y => Rule.fix (Us.rndMode us) 72 p us y)
      .fixUsDH .fixUsDS .fixUsDD)

/-! ### Moves, flags, booleans (42_move_flag_boolean.md) -/

/-- The sixteen `MOV` (R472), `MOVADR` (R484), and `MOVPHY` (R486), which translates every address, registers included, and checks no
access.
Where they bear on it, the spec's own decisions hold: D40 (92_eei_decisions.md). -/
def Obligations.SingleMoves : Prop :=
  AllPrec (fun p mk => MovGives .q p mk) .movQQ .movQH .movQS .movQD ∧
  AllPrec (fun p mk => MovGives .h p mk) .movHQ .movHH .movHS .movHD ∧
  AllPrec (fun p mk => MovGives .s p mk) .movSQ .movSH .movSS .movSD ∧
  AllPrec (fun p mk => MovGives .d p mk) .movDQ .movDH .movDS .movDD ∧
  (∀ (o1 o2 : OD) (s : State) (x1 x2 : Operand), Memory.wf s.mem = true → s.evalOD o1 = .ok x1 → s.evalOD o2 = .ok x2 →
    match x2 with
    | .imm _ _ => TrapsFatal s (.movadr o1 o2) .immediate
    | .loc l => ∀ d, s.checkWrite x1 .s = .ok d →
      Completes s (.movadr o1 o2) s
        (s.done (fun u => u.writeSpan .s d (Rule.addrWord l)) s.us (s.after (.movadr o1 o2))) [(.s, d)]) ∧
  (∀ (o1 o2 : OD) (s : State) (x1 x2 : Operand), Memory.wf s.mem = true → Ps.crntMode s.ps = true →
    s.evalOD o1 = .ok x1 → s.evalOD o2 = .ok x2 →
    match x2 with
    | .imm _ _ => TrapsFatal s (.movphy o1 o2) .immediate
    | .loc l => ∀ d pa acc, s.checkWrite x1 .s = .ok d → s.translate (s.space l.ctx) l.va = .ok (pa, acc) →
      Completes s (.movphy o1 o2) s
        (s.done (fun u => u.writeSpan .s d (BitVec.ofNat 36 pa.toNat)) s.us (s.after (.movphy o1 o2))) [(.s, d)])

/-- Moves of many words, exchanges, and the exchanges of a numbered register (R474, R475, R477, R479, R480). Words moved between regions
that share storage are free values.
Where they bear on it, the spec's own decisions hold: D20, D30, D39 (92_eei_decisions.md). -/
def Obligations.MultipleMoves : Prop :=
  (∀ (k : Nat) (mk : OD → OD → Instr), movmqs[k]? = some mk → MovesMany .q (k + 2) mk) ∧
  MovesMany .q 64 .movmq64 ∧ MovesMany .q 128 .movmq128 ∧
  (∀ (k : Nat) (mk : OD → OD → Instr), movmss[k]? = some mk → MovesMany .s (k + 2) mk) ∧
  AllPrec Exchanges .exchQ .exchH .exchS .exchD ∧
  (∀ (k : Nat) (mk : OD → OD → Instr), slrs[k]? = some mk → SavesAndLoads (BitVec.ofNat 5 k) mk) ∧
  (∀ (k : Nat) (mk : OD → OD → Instr), slradrs[k]? = some mk → SavesAndLoadsAddress (BitVec.ofNat 5 k) mk)

/-- Comparisons and bounds checks that store a flag of all ones or all zeros (R490, R492, R494). -/
def Obligations.FlagResults : Prop :=
  AllPrec (CmpsfGives .gtr) .cmpsfGtrQ .cmpsfGtrH .cmpsfGtrS .cmpsfGtrD ∧
  AllPrec (CmpsfGives .eql) .cmpsfEqlQ .cmpsfEqlH .cmpsfEqlS .cmpsfEqlD ∧
  AllPrec (CmpsfGives .geq) .cmpsfGeqQ .cmpsfGeqH .cmpsfGeqS .cmpsfGeqD ∧
  AllPrec (CmpsfGives .lss) .cmpsfLssQ .cmpsfLssH .cmpsfLssS .cmpsfLssD ∧
  AllPrec (CmpsfGives .neq) .cmpsfNeqQ .cmpsfNeqH .cmpsfNeqS .cmpsfNeqD ∧
  AllPrec (CmpsfGives .leq) .cmpsfLeqQ .cmpsfLeqH .cmpsfLeqS .cmpsfLeqD ∧
  AllPrec BndsfBetween .bndsfBQ .bndsfBH .bndsfBS .bndsfBD ∧
  AllPrec (BndsfGives fun p => -2 ^ (p.bits - 1)) .bndsfMinQ .bndsfMinH .bndsfMinS .bndsfMinD ∧
  AllPrec (BndsfGives fun _ => -1) .bndsfM1Q .bndsfM1H .bndsfM1S .bndsfM1D ∧
  AllPrec (BndsfGives fun _ => 0) .bndsf0Q .bndsf0H .bndsf0S .bndsf0D ∧
  AllPrec (BndsfGives fun _ => 1) .bndsf1Q .bndsf1H .bndsf1S .bndsf1D

/-- The logical instructions, bit by bit (R502, R504 to R513). -/
def Obligations.LogicalOperations : Prop :=
  AllPrec (fun p mk => Xop2Gives p p mk fun us y => .plain us (BitVec.ofFnLE fun i => !y.getLsbD i))
    .notQ .notH .notS .notD ∧
  AllPrec (BitwiseGives fun a b => a && b) .andQ .andH .andS .andD ∧
  AllPrec (BitwiseGives fun a b => a && !b) .andtcQ .andtcH .andtcS .andtcD ∧
  AllPrec (BitwiseGives fun a b => !a && b) .andctQ .andctH .andctS .andctD ∧
  AllPrec (BitwiseGives fun a b => a || b) .orQ .orH .orS .orD ∧
  AllPrec (BitwiseGives fun a b => a || !b) .ortcQ .ortcH .ortcS .ortcD ∧
  AllPrec (BitwiseGives fun a b => !a || b) .orctQ .orctH .orctS .orctD ∧
  AllPrec (BitwiseGives fun a b => !(a && b)) .nandQ .nandH .nandS .nandD ∧
  AllPrec (BitwiseGives fun a b => !(a || b)) .norQ .norH .norS .norD ∧
  AllPrec (BitwiseGives fun a b => a != b) .xorQ .xorH .xorS .xorD ∧
  AllPrec (BitwiseGives fun a b => a == b) .eqvQ .eqvH .eqvS .eqvD

/-! ### Shifts (43_shift_rotate.md) -/

/-- Shifts, rotates and arithmetic shifts by any count, in both directions and both operand orders, and the double-width shifts (R530 to
R547).
What counts past the width give is the spec's own inference (R531, R532, R541), negative counts of `DSHF` are its decision D41 (R538), and
the immediate pair of `DSHF` is C41 of 90_conflicts.md (R537). -/
def Obligations.ShiftsAndRotates : Prop :=
  (AllPrec (ShiftsBy (fun _ => Rule.shift) .lf) .shfLfQ .shfLfH .shfLfS .shfLfD ∧
    AllPrec (ShiftsBy (fun _ => Rule.shift) .rt) .shfRtQ .shfRtH .shfRtS .shfRtD) ∧
  (AllPrec (ShiftsByReverse (fun _ => Rule.shift) .lf) .shfvLfQ .shfvLfH .shfvLfS .shfvLfD ∧
    AllPrec (ShiftsByReverse (fun _ => Rule.shift) .rt) .shfvRtQ .shfvRtH .shfvRtS .shfvRtD) ∧
  (AllPrec (ShiftsBy (fun _ => Rule.rot) .lf) .rotLfQ .rotLfH .rotLfS .rotLfD ∧
    AllPrec (ShiftsBy (fun _ => Rule.rot) .rt) .rotRtQ .rotRtH .rotRtS .rotRtD) ∧
  (AllPrec (ShiftsByReverse (fun _ => Rule.rot) .lf) .rotvLfQ .rotvLfH .rotvLfS .rotvLfD ∧
    AllPrec (ShiftsByReverse (fun _ => Rule.rot) .rt) .rotvRtQ .rotvRtH .rotvRtS .rotvRtD) ∧
  (AllPrec (ArithmeticShiftsBy .lf) .shfaLfQ .shfaLfH .shfaLfS .shfaLfD ∧
    AllPrec (ArithmeticShiftsBy .rt) .shfaRtQ .shfaRtH .shfaRtS .shfaRtD) ∧
  (AllPrec (ArithmeticShiftsByReverse .lf) .shfavLfQ .shfavLfH .shfavLfS .shfavLfD ∧
    AllPrec (ArithmeticShiftsByReverse .rt) .shfavRtQ .shfavRtH .shfavRtS .shfavRtD) ∧
  (∀ mk ∈ [(ShiftDir.lf, false, Prec.q, Instr.dshfLfQ), (.lf, false, .h, .dshfLfH), (.lf, false, .s, .dshfLfS),
      (.rt, false, .q, .dshfRtQ), (.rt, false, .h, .dshfRtH), (.rt, false, .s, .dshfRtS),
      (.lf, true, .q, .dshfvLfQ), (.lf, true, .h, .dshfvLfH), (.lf, true, .s, .dshfvLfS),
      (.rt, true, .q, .dshfvRtQ), (.rt, true, .h, .dshfvRtH), (.rt, true, .s, .dshfvRtS)],
    DoubleShiftGives mk.1 mk.2.1 mk.2.2.1 mk.2.2.2)

/-! ### Skips and jumps (44_skip_jump.md) -/

/-- Skips on a relation, on selected bits, and after an increment or a decrement (R561, R563, R564, R567, R570, R572, R573).
Where they bear on it, the spec's own decisions hold: D42 (92_eei_decisions.md). -/
def Obligations.Skips : Prop :=
  AllPrec (fun p => SkipGives p fun a b => Rule.acond .gtr a.toInt b.toInt) .skpGtrQ .skpGtrH .skpGtrS .skpGtrD ∧
  AllPrec (fun p => SkipGives p fun a b => Rule.acond .eql a.toInt b.toInt) .skpEqlQ .skpEqlH .skpEqlS .skpEqlD ∧
  AllPrec (fun p => SkipGives p fun a b => Rule.acond .geq a.toInt b.toInt) .skpGeqQ .skpGeqH .skpGeqS .skpGeqD ∧
  AllPrec (fun p => SkipGives p fun a b => Rule.acond .lss a.toInt b.toInt) .skpLssQ .skpLssH .skpLssS .skpLssD ∧
  AllPrec (fun p => SkipGives p fun a b => Rule.acond .neq a.toInt b.toInt) .skpNeqQ .skpNeqH .skpNeqS .skpNeqD ∧
  AllPrec (fun p => SkipGives p fun a b => Rule.acond .leq a.toInt b.toInt) .skpLeqQ .skpLeqH .skpLeqS .skpLeqD ∧
  AllPrec (fun p => SkipGives p (Rule.lcond .non)) .skpNonQ .skpNonH .skpNonS .skpNonD ∧
  AllPrec (fun p => SkipGives p (Rule.lcond .all)) .skpAllQ .skpAllH .skpAllS .skpAllD ∧
  AllPrec (fun p => SkipGives p (Rule.lcond .nal)) .skpNalQ .skpNalH .skpNalS .skpNalD ∧
  AllPrec (fun p => SkipGives p (Rule.lcond .any)) .skpAnyQ .skpAnyH .skpAnyS .skpAnyD ∧
  (∀ x ∈ [(ACond.gtr, Instr.iskpGtr), (.eql, .iskpEql), (.geq, .iskpGeq), (.lss, .iskpLss), (.neq, .iskpNeq),
    (.leq, .iskpLeq)], CountSkipGives 1 x.1 x.2) ∧
  (∀ x ∈ [(ACond.gtr, Instr.dskpGtr), (.eql, .dskpEql), (.geq, .dskpGeq), (.lss, .dskpLss), (.neq, .dskpNeq),
    (.leq, .dskpLeq)], CountSkipGives (-1) x.1 x.2)

/-- Jumps on a relation, unconditional jumps, the patch jump, and the bounds trap (R576, R577, R578, R592, R596). -/
def Obligations.Jumps : Prop :=
  (∀ x ∈ [(ACond.gtr, Instr.jmpGtr), (.eql, .jmpEql), (.geq, .jmpGeq), (.lss, .jmpLss), (.neq, .jmpNeq),
    (.leq, .jmpLeq)], JumpGives x.1 x.2) ∧
  AllPrec (JumpZeroGives .gtr) .jmpzGtrQ .jmpzGtrH .jmpzGtrS .jmpzGtrD ∧
  AllPrec (JumpZeroGives .eql) .jmpzEqlQ .jmpzEqlH .jmpzEqlS .jmpzEqlD ∧
  AllPrec (JumpZeroGives .geq) .jmpzGeqQ .jmpzGeqH .jmpzGeqS .jmpzGeqD ∧
  AllPrec (JumpZeroGives .lss) .jmpzLssQ .jmpzLssH .jmpzLssS .jmpzLssD ∧
  AllPrec (JumpZeroGives .neq) .jmpzNeqQ .jmpzNeqH .jmpzNeqS .jmpzNeqD ∧
  AllPrec (JumpZeroGives .leq) .jmpzLeqQ .jmpzLeqH .jmpzLeqS .jmpzLeqD ∧
  (∀ (j : JDest) (s : State) (d : VAddr), s.jumpDest j = .ok d → JumpsTo s (.jmpa noOD j) d) ∧
  (∀ (k : BitVec 24) (s : State),
    if (Rule.target s.pc k.toInt).toNat < 128 then TrapsFatal s (.jpatch k) .jumpToRegisters
    else JumpsTo s (.jpatch k) (Rule.target s.pc k.toInt)) ∧
  AllPrec BoundTrapBetween .bndtrpBQ .bndtrpBH .bndtrpBS .bndtrpBD ∧
  AllPrec (BoundTrapGives fun p => -2 ^ (p.bits - 1)) .bndtrpMinQ .bndtrpMinH .bndtrpMinS .bndtrpMinD ∧
  AllPrec (BoundTrapGives fun _ => -1) .bndtrpM1Q .bndtrpM1H .bndtrpM1S .bndtrpM1D ∧
  AllPrec (BoundTrapGives fun _ => 0) .bndtrp0Q .bndtrp0H .bndtrp0S .bndtrp0D ∧
  AllPrec (BoundTrapGives fun _ => 1) .bndtrp1Q .bndtrp1H .bndtrp1S .bndtrp1D

/-- Jumps after an increment or a decrement (R563, R564, R582, R583, R584, R586, R587, R588). -/
def Obligations.CountingJumps : Prop :=
  (∀ x ∈ [(ACond.gtr, Instr.ijmpGtr), (.eql, .ijmpEql), (.geq, .ijmpGeq), (.lss, .ijmpLss), (.neq, .ijmpNeq),
    (.leq, .ijmpLeq)], CountJumpNextGives 1 x.1 x.2) ∧
  (∀ x ∈ [(ACond.gtr, Instr.djmpGtr), (.eql, .djmpEql), (.geq, .djmpGeq), (.lss, .djmpLss), (.neq, .djmpNeq),
    (.leq, .djmpLeq)], CountJumpNextGives (-1) x.1 x.2) ∧
  (∀ x ∈ [(ACond.gtr, Instr.ijmpzGtr), (.eql, .ijmpzEql), (.geq, .ijmpzGeq), (.lss, .ijmpzLss), (.neq, .ijmpzNeq),
    (.leq, .ijmpzLeq)], CountJumpGives 1 (fun r => Rule.acond x.1 r 0) x.2) ∧
  (∀ x ∈ [(ACond.gtr, Instr.djmpzGtr), (.eql, .djmpzEql), (.geq, .djmpzGeq), (.lss, .djmpzLss), (.neq, .djmpzNeq),
    (.leq, .djmpzLeq)], CountJumpGives (-1) (fun r => Rule.acond x.1 r 0) x.2) ∧
  CountJumpGives 1 (fun _ => true) .ijmpa ∧ CountJumpGives (-1) (fun _ => true) .djmpa

/-! ### Routine linkage (45_routine_linkage.md) -/

/-- Subroutine and coroutine jumps and stack allocation (R612, R613, R620, R624, R628): `JSR` pushes OP1 and the return word, or is the
stack-overflow trap with the new stack pointer as its parameter; `JCR` stores OP2, then NEXT(OP2), then OP1.
Where they bear on it, the spec's own decisions hold: D18, D20, D30, D39, D43 (92_eei_decisions.md). -/
def Obligations.Calls : Prop :=
  (∀ (o1 : OD) (j : JDest) (s : State) (x : Operand) (d : VAddr) (a : SW), Memory.wf s.mem = true →
    s.evalOD o1 = .ok x → s.jumpDest j = .ok d → s.readOp x .s = .ok a →
    if s.sl.toInt < (s.sp + 8).toInt then TrapsHard s (.jsr o1 j) .stkOvfl (s.sp + 8)
    else ∀ sps, s.locateRun .write .cur .s 2 (addrOfWord s.sp) = .ok sps →
      Completes s (.jsr o1 j) s
        (s.done (fun u => (u.writeRun .s sps [a, pcWord (s.after (.jsr o1 j))]).putReg (Us.spId s.us) (s.sp + 8)) s.us d)
        (sps.map (fun sp => (Prec.s, sp)) ++ [(.s, s.regSpan (Us.spId s.us))])) ∧
  (∀ (o1 o2 : OD) (s : State) (x : Operand) (l : Loc) (d1 d2 dn : Span) (a b t : SW), Memory.wf s.mem = true →
    s.evalOD o1 = .ok x → s.evalOD o2 = .ok (.loc l) → s.checkWrite x .s = .ok d1 → s.checkWriteLoc l .s = .ok d2 →
    s.checkWriteLoc (l.next .s) .s = .ok dn → s.readOp x .s = .ok a → s.readLoc l .s = .ok b →
    s.readLoc (l.next .s) .s = .ok t →
    if t.toNat % 4 ≠ 0 then TrapsFatal s (.jcr o1 o2) .notAligned
    else if (addrOfWord t).toNat < 128 then TrapsFatal s (.jcr o1 o2) .jumpToRegisters
    else Completes s (.jcr o1 o2) s
      (s.done (fun u => ((u.writeSpan .s d2 a).writeSpan .s dn (pcWord (s.after (.jcr o1 o2)))).writeSpan .s d1 b) s.us
        (addrOfWord t)) [(.s, d2), (.s, dn), (.s, d1)]) ∧
  (∀ (k : Nat) (mk : OD → OD → Instr), allocs[k]? = some mk → AllocGives (k + 1) mk)

/-- Returns (R614, R615, R632, R634, R636, R638, R640): the words below ADDRESS(OP2) are read in its context, the stack pointer of the old
status becomes the address below the words popped, then the status words, then the PC.
Where they bear on it, the spec's own decisions hold: D28, D42, D45 (92_eei_decisions.md). -/
def Obligations.Returns : Prop :=
  ∀ (o1 o2 : OD) (s : State) (x : Operand) (l : Loc) (w4 : SW), Memory.wf s.mem = true →
    s.evalOD o1 = .ok x → s.evalOD o2 = .ok (.loc l) → s.memRead l.ctx (l.va - 4) .s = .ok w4 →
    w4.toNat % 4 = 0 → 128 ≤ (addrOfWord w4).toNat →
    (∀ d v, s.checkWrite x .s = .ok d → s.memRead l.ctx (l.va - 8) .s = .ok v →
      Completes s (.retsr o1 o2) s
        (s.done (fun u => (u.putReg (Us.spId s.us) (Rule.addr36 (l.va.toNat - 8))).writeSpan .s d v) s.us (addrOfWord w4))
        [(.s, s.regSpan (Us.spId s.us)), (.s, d)]) ∧
    (∀ k, s.readOp x .s = .ok k →
      Completes s (.ret o1 o2) s
        (s.done (fun u => u.putReg (Us.spId s.us) (Rule.addr36 (l.va.toNat - 4 - 4 * k.toInt))) s.us (addrOfWord w4))
        [(.s, s.regSpan (Us.spId s.us))]) ∧
    (∀ k us, s.readOp x .s = .ok k → s.memRead l.ctx (l.va - 8) .s = .ok us →
      if Us.legal us = true then
        Completes s (.retus o1 o2) s
          (s.done (fun u => u.putReg (Us.spId s.us) (Rule.addr36 (l.va.toNat - 8 - 4 * k.toInt))) us (addrOfWord w4))
          [(.s, s.regSpan (Us.spId s.us))]
      else TrapsFatal s (.retus o1 o2) .other) ∧
    (∀ k us ps, Ps.crntMode s.ps = true → s.readOp x .s = .ok k → s.memRead l.ctx (l.va - 12) .s = .ok us →
      s.memRead l.ctx (l.va - 8) .s = .ok ps →
      if Us.legal us = true then
        Completes s (.retfs o1 o2) (s.setPs ps)
          (s.done (fun u => (u.putReg (Us.spId s.us) (Rule.addr36 (l.va.toNat - 12 - 4 * k.toInt))).setPs ps) us
            (addrOfWord w4)) [(.s, s.regSpan (Us.spId s.us))]
      else TrapsFatal s (.retfs o1 o2) .other)

/-- Programmed traps (R645, R648, R650, R652): what each trap mode delivers, and the traps to self and to the executive.
Trap mode 7 delivers a double-word (R646 to R648), which is the model's choice against V15 of 93_implementation_defined.md (log 29); the
descriptor of a `TRPEXE` vector is its second word (R652, R887), as the model deduces against D4 of 92_eei_decisions.md (log 30). The
vectors' addresses and layout (R885, R887, D4) are a parameter of the model at its default (log 8); the free values are log 1.
Where they bear on it, the spec's own decisions hold: D4, D5, D44 (92_eei_decisions.md). -/
def Obligations.ProgrammedTraps : Prop :=
  (∀ (s : State) (od : OD) (exe : Bool),
    s.trapParm 0 od exe = (if (encodeOD od).1 = 0 then .ok (none, none) else .error (.fatal .unusedOd)) ∧
    s.trapParm 1 od exe = .ok (some (BitVec.ofNat 36 (encodeOD od).1.toNat), none) ∧
    s.trapParm 2 od exe = .ok (some (BitVec.ofNat 36 (encodeOD od).1.toNat), (encodeOD od).2) ∧
    (∀ tm : BitVec 9, tm.toInt < 0 ∨ 7 < tm.toInt → s.trapParm tm od exe = .error (.fatal .trapDescriptor)) ∧
    (∀ x, s.evalOD od = .ok x →
      (s.trapParm 3 od exe =
        match x with
        | .imm _ _ => .error (.fatal .immediate)
        | .loc l => .ok (some (if exe then Rule.addrWord ⟨.prev, l.va, l.rd⟩ else Rule.addrWord l), none)) ∧
      (∀ v, s.readOp x .q = .ok v → s.trapParm 4 od exe = .ok (some (BitVec.ofNat 36 (v.toNat * 2 ^ 27)), none)) ∧
      (∀ v, s.readOp x .h = .ok v → s.trapParm 5 od exe = .ok (some (BitVec.ofNat 36 (v.toNat * 2 ^ 18)), none)) ∧
      (∀ v, s.readOp x .s = .ok v → s.trapParm 6 od exe = .ok (some v, none)) ∧
      (∀ v, s.readOp x .d = .ok v →
        s.trapParm 7 od exe = .ok (some (BitVec.ofNat 36 (v.toNat / 2 ^ 36)), some (BitVec.ofNat 36 v.toNat))))) ∧
  (∀ (k : Nat) (mk : OD → OD → Instr), trpslfs[k]? = some mk → TrapsToSelf k mk) ∧
  (∀ (k : Nat) (mk : OD → OD → Instr), trpexes[k]? = some mk → TrapsToExecutive k mk)

/-! ### Stacks, bytes and bits (46_stack_byte_bit.md) -/

/-- Explicit stacks in both directions (R660, R661, R666, R668, R670).
Where they bear on it, the spec's own decisions hold: D43, D47 (92_eei_decisions.md). -/
def Obligations.ExplicitStacks : Prop :=
  AdjustsStack .up .adjspUp ∧ AdjustsStack .dn .adjspDn ∧
  AllPrec (PushesItem .up) .pushUpQ .pushUpH .pushUpS .pushUpD ∧
  AllPrec (PushesItem .dn) .pushDnQ .pushDnH .pushDnS .pushDnD ∧
  AllPrec (PopsItem .up) .popUpQ .popUpH .popUpS .popUpD ∧
  AllPrec (PopsItem .dn) .popDnQ .popDnH .popDnS .popDnD

/-- Bytes of any position and length in a single-word or double-word (R680 to R682, R686 to R694).
Where they bear on it, the spec's own decisions hold: D47, D48 (92_eei_decisions.md). -/
def Obligations.Bytes : Prop :=
  (LoadsByte .s (fun w pos len => BitVec.ofNat 36 (Rule.byteOf w pos len)) .lbytS ∧
    LoadsByte .d (fun w pos len => BitVec.ofNat 72 (Rule.byteOf w pos len)) .lbytD) ∧
  (LoadsByte .s Rule.signedByte .lsbytS ∧ LoadsByte .d Rule.signedByte .lsbytD) ∧
  (LoadsImmediateByte .s (fun w pos len => BitVec.ofNat 36 (Rule.byteOf w pos len)) .libytS ∧
    LoadsImmediateByte .d (fun w pos len => BitVec.ofNat 72 (Rule.byteOf w pos len)) .libytD) ∧
  (LoadsImmediateByte .s Rule.signedByte .lisbytS ∧ LoadsImmediateByte .d Rule.signedByte .lisbytD) ∧
  (DepositsByte .s .dbytS ∧ DepositsByte .d .dbytD) ∧
  (DepositsImmediateByte .s .dibytS ∧ DepositsImmediateByte .d .dibytD) ∧
  (AdjustsPointer .s .adjbpS ∧ AdjustsPointer .d .adjbpD)

/-- Bit reversal, extraction, counting and search (R700, R702, R703, R705, R706, R708, R709).
The number of the fatal trap for a count out of range is log 7.
Where they bear on it, the spec's own decisions hold: D46 (92_eei_decisions.md). -/
def Obligations.BitOperations : Prop :=
  AllPrec (ReversesBits false) .bitrvQ .bitrvH .bitrvS .bitrvD ∧
  AllPrec (ReversesBits true) .bitrvvQ .bitrvvH .bitrvvS .bitrvvD ∧
  AllPrec (fun p mk => Top3Gives p p p mk fun us x m =>
    .plain us (BitVec.ofNat p.bits (Rule.ofBits (Rule.selected x m)))) .bitexQ .bitexH .bitexS .bitexD ∧
  AllPrec (fun p mk => Top3Gives p p p mk fun us m x =>
    .plain us (BitVec.ofNat p.bits (Rule.ofBits (Rule.selected x m)))) .bitexvQ .bitexvH .bitexvS .bitexvD ∧
  AllPrec (fun p mk => Xop2Gives .s p mk fun us y =>
    .plain us (BitVec.ofNat 36 ((List.range p.bits).countP fun i => y.toNat.testBit i)))
    .bitcntQ .bitcntH .bitcntS .bitcntD ∧
  AllPrec (fun p mk => Xop2Gives .s p mk fun us y =>
    .plain us (BitVec.ofInt 36 (if y = 0 then -1 else (p.bits : Int) - 1 - Nat.log 2 y.toNat)))
    .bitfstQ .bitfstH .bitfstS .bitfstD

/-! ### Blocks and status words (47_block_status.md) -/

/-- Blocks of quarter-words (R721, R722, R726, R730, R733, R736, R738).
Where they bear on it, the spec's own decisions hold: D16, D49 (92_eei_decisions.md). -/
def Obligations.Blocks : Prop :=
  (ComparesBlocks 4 .strcmpRta ∧ ComparesBlocks 6 .strcmpRtb) ∧
  (MovesBlock .read .write 4 .blkmovRta ∧ MovesBlock .read .write 6 .blkmovRtb) ∧
  (MovesBlock .codeRead .write 4 .blkidRta ∧ MovesBlock .codeRead .write 6 .blkidRtb) ∧
  (MovesBlock .read .codeWrite 4 .blkdiRta ∧ MovesBlock .read .codeWrite 6 .blkdiRtb) ∧
  AllPrec (FillsBlock 4) .blkiniRtaQ .blkiniRtaH .blkiniRtaS .blkiniRtaD ∧
  AllPrec (FillsBlock 6) .blkiniRtbQ .blkiniRtbH .blkiniRtbS .blkiniRtbD

/-- The instructions on `USER_STATUS` (R751 to R759, R762 to R766): a value that is not legal is never loaded; a number outside 0 to 31
gives a free value.
The free values are log 1; that the draw of a `WSPID` that traps on its free value counts is log 22; the number of the fatal trap is log 7.
Where they bear on it, the spec's own decisions hold: D46, D50 (92_eei_decisions.md). -/
def Obligations.UserStatusInstructions : Prop :=
  StoresWord false (fun s => s.us) .rus ∧
  StoresWord false (fun s => BitVec.ofNat 36 (Us.spId s.us).toNat) .rspid ∧
  StoresWord false (fun s => BitVec.ofNat 36 (Us.rndMode s.us).toNat) .rrndmd ∧
  LoadsUserStatus (fun us v => us ||| v) .setus ∧ LoadsUserStatus (fun us v => us &&& ~~~v) .clrus ∧
  (∀ (o1 : OD) (s : State) (x : Operand) (v : SW), s.evalOD o1 = .ok x → s.readOp x .s = .ok v →
    if v.toNat < 32 then
      (if v = 3 ∨ v = 31 then TrapsFatal s (.wspid o1 noOD) .other
        else Completes s (.wspid o1 noOD) s
          (s.done id (setField s.us 0 (BitVec.ofNat 5 v.toNat)) (s.after (.wspid o1 noOD))) []) ∧
      Completes s (.wrndmd o1 noOD) s
        (s.done id (setField s.us 19 (BitVec.ofNat 5 v.toNat)) (s.after (.wrndmd o1 noOD))) []
    else
      (if Config.freeValue 5 s.freeCount = 3 ∨ Config.freeValue 5 s.freeCount = 31 then
          exec (.wspid o1 noOD) s = s.stage4.drawn.enterFatal .other
        else Completes s (.wspid o1 noOD) s.drawn
          (s.done State.drawn (setField s.us 0 (Config.freeValue 5 s.freeCount)) (s.after (.wspid o1 noOD))) []) ∧
      Completes s (.wrndmd o1 noOD) s.drawn
        (s.done State.drawn (setField s.us 19 (Config.freeValue 5 s.freeCount)) (s.after (.wrndmd o1 noOD))) []) ∧
  (∀ x ∈ [(LCond.non, Instr.jusNon), (.all, .jusAll), (.nal, .jusNal), (.any, .jusAny)], JumpsOnStatus x.1 x.2) ∧
  (∀ x ∈ [(LCond.non, Instr.jusclrNon), (.all, .jusclrAll), (.nal, .jusclrNal), (.any, .jusclrAny)],
    JumpsAndClears x.1 x.2) ∧
  (∀ (o1 : OD) (j : JDest) (s : State) (x : Operand) (d : VAddr) (v : SW),
    s.evalOD o1 = .ok x → s.jumpDest j = .ok d → s.readOp x .s = .ok v →
    if Us.legal v = true then Completes s (.wusjmp o1 j) s (s.done id v d) [] else TrapsFatal s (.wusjmp o1 j) .other)

/-- The executive's instructions on `PROC_STATUS` and the processor number (R770, R774, R777 to R782): what they write in `PROC_STATUS`
is whole, or the one file field.
The free values are log 1; the number of the fatal trap is log 7.
Where they bear on it, the spec's own decisions hold: D11, D25, D50 (92_eei_decisions.md). -/
def Obligations.ProcessorStatusInstructions : Prop :=
  StoresWord true (fun s => s.ps) .rps ∧ StoresWord true (fun s => s.procId) .rpid ∧
  StoresWord true (fun s => BitVec.ofNat 36 (Ps.crntFile s.ps).toNat) .rcfile ∧
  StoresWord true (fun s => BitVec.ofNat 36 (Ps.prevFile s.ps).toNat) .rpfile ∧
  LoadsFile (fun w f => setField w 0 f) .wcfile ∧ LoadsFile (fun w f => setField w 4 f) .wpfile ∧
  (∀ (o1 : OD) (j : JDest) (s : State) (l : Loc) (d : VAddr) (us ps : SW), Ps.crntMode s.ps = true →
    s.evalOD o1 = .ok (.loc l) → s.jumpDest j = .ok d → s.readLoc l .s = .ok us → s.readLoc (l.next .s) .s = .ok ps →
    if Us.legal us = true then
      Completes s (.wfsjmp o1 j) (s.setPs ps) (s.done (fun u => u.setPs ps) us d) []
    else TrapsFatal s (.wfsjmp o1 j) .other)

/-! ### Caches, maps, interrupts, input and output (48_cache_intr_io_misc.md) -/

/-- The sweeps, which change nothing in a processor without caches, and the writes of the segment registers (R792, R800, R802, R804, R806,
R808).
Where they bear on it, the spec's own decisions hold: D26, D51 (92_eei_decisions.md). -/
def Obligations.SweepsAndSegments : Prop :=
  (∀ mk ∈ [Instr.swpicRtaV, .swpdcRtaVU, .swpdcRtaVUk], SweepsCache false 4 mk) ∧
  (∀ mk ∈ [Instr.swpicRtaP, .swpdcRtaPU, .swpdcRtaPUk], SweepsCache true 4 mk) ∧
  (∀ mk ∈ [Instr.swpicRtbV, .swpdcRtbVU, .swpdcRtbVUk], SweepsCache false 6 mk) ∧
  (∀ mk ∈ [Instr.swpicRtbP, .swpdcRtbPU, .swpdcRtbPUk], SweepsCache true 6 mk) ∧
  (∀ mk ∈ [Instr.swpimE, .swpimU, .swpdmE, .swpdmU], SweepsMap mk) ∧
  LoadsSegment (fun p l s => { s with userStp := p, userStl := l }) .wupjmp ∧
  LoadsSegment (fun p l s => { s with execStp := p, execStl := l }) .wepjmp

/-- The interrupt registers and the counters (R76 to R82, R812 to R827, R848 to R853). Counter 0 is read after a positive advance by a free
value (log 9).
Where they bear on it, the spec's own decisions hold: D10, D27, D46, D54 (92_eei_decisions.md). -/
def Obligations.InterruptRegistersAndCounters : Prop :=
  StoresPart true .s 8 (fun s i => s.intEnb[i]) .rien ∧ StoresPart false .s 8 (fun s i => s.intPend[i]) .ripnd ∧
  StoresPart false .s 256 (fun s i => s.intParm[i]) .ripar ∧
  LoadsPart true .s 8 (fun v => v.toNat % 16 == 0) (fun i v s => { s with intEnb := s.intEnb.set i v }) .wien ∧
  LoadsPart false .s 8 (fun v => v.toNat % 16 == 0) (fun i v s => { s with intPend := s.intPend.set i v }) .wipnd ∧
  LoadsPart false .s 8 (fun _ => true)
    (fun i v s => { s with intEnb := s.intEnb.set i (s.intEnb[i] ||| (v &&& 0o777777777760)) }) .sien ∧
  LoadsPart false .s 8 (fun _ => true)
    (fun i v s => { s with intEnb := s.intEnb.set i (s.intEnb[i] &&& ~~~v) }) .cien ∧
  LoadsPart false .s 8 (fun _ => true)
    (fun i v s => { s with intPend := s.intPend.set i (s.intPend[i] ||| (v &&& 0o777777777760)) }) .sipnd ∧
  LoadsPart false .s 8 (fun _ => true)
    (fun i v s => { s with intPend := s.intPend.set i (s.intPend[i] &&& ~~~v) }) .cipnd ∧
  LoadsPart false .s 256 (fun _ => true) (fun i v s => { s with intParm := s.intParm.set i v }) .wipar ∧
  StoresPart true .d 1 (fun s i => s.ctrEnb[i]) .rectr ∧
  LoadsPart true .d 1 (fun _ => true) (fun i v s => { s with ctr := s.ctr.set i v }) .wctr ∧
  LoadsPart true .d 1 (fun _ => true) (fun i v s => { s with ctrEnb := s.ctrEnb.set i v }) .wectr ∧
  (∀ (o1 o2 : OD) (s : State) (x1 x2 : Operand) (d : Span) (k : SW) (c : DW),
    Memory.wf s.mem = true → s.evalOD o1 = .ok x1 → s.evalOD o2 = .ok x2 →
    s.checkWrite x1 .d = .ok d → s.readOp x2 .s = .ok k →
    c = s.ctr[0] + 1 + BitVec.ofNat 72 (Config.cycleAdvance s.freeCount) →
    if k = 0 then
      Completes s (.rctr o1 o2) { s with ctr := s.ctr.set 0 c, freeCount := s.freeCount + 1 }
        (s.done (fun u => State.writeSpan { u with ctr := u.ctr.set 0 c, freeCount := u.freeCount + 1 } .d d c) s.us
          (s.after (.rctr o1 o2))) [(.d, d)]
    else TrapsFatal s (.rctr o1 o2) .other)

/-- Input and output (R830, R832, R838, R840, R842, R844): which buffer word an address names, the two block transfers, and the interrupt
of an I/O processor.
Where they bear on it, the spec's own decisions hold: D21, D52 (92_eei_decisions.md). -/
def Obligations.InputAndOutput : Prop :=
  (∀ (s : State) (ctx : Ctx) (va : VAddr) (pa : PAddr) (a : Option (BitVec 6)),
    (ctx = .prev → Ps.crntMode s.ps = true) → s.translate (s.space ctx) va = .ok (pa, a) →
    s.ioBufLoc ctx va =
      if ∃ b, a = some b ∧ (bitAt b 0 = true ∨ bitAt b 1 = true) then
        .error (.hard .addressMd (BitVec.ofBool (s.space ctx) ++ 0#5 ++ va))
      else if 2 ^ 27 ≤ pa.toNat ∨ 8 ≤ pa.toNat / 2 ^ 18 ∨ 2048 ≤ pa.toNat % 2 ^ 18 then .error (.fatal .iobufRange)
      else .ok (2048 * (pa.toNat / 2 ^ 18) + pa.toNat % 2 ^ 18)) ∧
  (∀ x ∈ [(IoKind.b, Instr.blkiorRtaB), (.q, .blkiorRtaQ), (.h, .blkiorRtaH), (.s, .blkiorRtaS)],
    ReadsBuffer 4 x.1 x.2) ∧
  (∀ x ∈ [(IoKind.b, Instr.blkiorRtbB), (.q, .blkiorRtbQ), (.h, .blkiorRtbH), (.s, .blkiorRtbS)],
    ReadsBuffer 6 x.1 x.2) ∧
  (∀ x ∈ [(IoKind.b, Instr.blkiowRtaB), (.q, .blkiowRtaQ), (.h, .blkiowRtaH), (.s, .blkiowRtaS)],
    WritesBuffer 4 x.1 x.2) ∧
  (∀ x ∈ [(IoKind.b, Instr.blkiowRtbB), (.q, .blkiowRtbQ), (.h, .blkiowRtbH), (.s, .blkiowRtbS)],
    WritesBuffer 6 x.1 x.2) ∧
  (∀ (o1 : OD) (s : State) (l : Loc) (k : Nat), s.evalOD o1 = .ok (.loc l) → s.ioBufLoc l.ctx l.va = .ok k →
    Completes s (.intiop o1 noOD) { s with iopOut := s.iopOut ++ [BitVec.ofNat 9 (k / 2048)] }
      (s.done (fun u => { u with iopOut := u.iopOut ++ [BitVec.ofNat 9 (k / 2048)] }) s.us
        (s.after (.intiop o1 noOD))) [])

/-- `NOP`, `RMW`, `WAIT` and `HALT` (R856, R860, R864, R866).
Where they bear on it, the spec's own decisions hold: D22 (92_eei_decisions.md). -/
def Obligations.MiscellaneousInstructions : Prop :=
  (∀ (o1 o2 : OD) (s : State) (x1 x2 : Operand), s.evalOD o1 = .ok x1 → s.evalOD o2 = .ok x2 →
    JumpsTo s (.nop o1 o2) (s.after (.nop o1 o2))) ∧
  (∀ (t : TMode) (o1 o2 : OD) (s : State) (a : TopArgs) (w2 wd : Span) (x old : SW), Memory.wf s.mem = true →
    s.evalTop t o1 o2 = .ok a → s.readOp a.s1 .s = .ok x → s.checkWrite a.s2 .s = .ok w2 →
    s.checkWrite a.dest .s = .ok wd → s.readOp a.s2 .s = .ok old →
    Completes s (.rmw t o1 o2) s
      (s.done (fun u => (u.writeSpan .s w2 x).writeSpan .s wd old) s.us (s.after (.rmw t o1 o2)))
      [(.s, w2), (.s, wd)]) ∧
  (∀ s : State, Ps.crntMode s.ps = true →
    Completes s (.wait noOD noOD) { s with run := .waiting }
      (s.done (fun u => { u with run := .waiting }) s.us (vaAdd s.pc 4)) []) ∧
  (∀ (j : JDest) (s : State) (d : VAddr), Ps.crntMode s.ps = true → s.jumpDest j = .ok d →
    Completes s (.halt noOD j) { s with run := .halted } (s.done (fun u => { u with run := .halted }) s.us d) [])

/-- `XCT` (R862, R863): the three words from OP1 on are read as data, and the instruction they hold runs with the PC and the next address
of the `XCT`: a `NOP` completes at that address, and an instruction of equal length does what it does at the PC itself. Words that hold no instruction are fatal 6,
an immediate is fatal 13, the previous context fatal 4; an `XCT` that executes itself changes nothing.
Where they bear on it, the spec's own decisions hold: D53 (92_eei_decisions.md). -/
def Obligations.ExecuteInstruction : Prop :=
  ∀ (o1 : OD) (s : State) (x : Operand), s.evalOD o1 = .ok x →
    match x with
    | .imm _ _ => TrapsFatal s (.xct o1 noOD) .immediate
    | .loc l =>
      if l.ctx = .prev then TrapsFatal s (.xct o1 noOD) .pBit
      else ∀ w0 w1 w2, s.readLoc l .s = .ok w0 → s.readLoc (l.next .s) .s = .ok w1 →
        s.readLoc ((l.next .s).next .s) .s = .ok w2 →
        match decodeWords w0 w1 w2 with
        | .error _ => TrapsFatal s (.xct o1 noOD) .illegalInstruction
        | .ok i =>
          (i = .xct o1 noOD → exec (.xct o1 noOD) s = .next s) ∧
          (∀ p q x1 x2, i = .nop p q → s.evalOD p = .ok x1 → s.evalOD q = .ok x2 →
            JumpsTo s (.xct o1 noOD) (s.after (.xct o1 noOD))) ∧
          ((∀ p q, i ≠ .xct p q) →
            (exec (.xct o1 noOD) s =
              runInstr i.form (fun _ u => perform bodyXct i.form ⟨w0, s.after (.xct o1 noOD)⟩ u) s) ∧
            (i.length = (Instr.xct o1 noOD).length → exec (.xct o1 noOD) s = exec i s))
end

