-- ==== Sys2Proof/Laws/Exec.lean ====
section
/-! SUPPORT. What `exec` runs: for every instruction, its body from `perform` in the frame of `runInstr`; and how the
outcome of the body shows in the outcome of the instruction. -/

namespace Sys2Proof.Machine

/-! ### The frame of an instruction -/

/-- An instruction whose body completes. -/
theorem runInstr_ok {f : Form} {b : Body} {s s2 : State} (h : b (s.envOf f) s.stage4 = .ok s2) :
    runInstr f b s = .next s2.stage6 := by
  simp only [runInstr, h]

/-- An instruction whose body raises an exception: the exception is taken from the state after stage 4. -/
theorem runInstr_exc {f : Form} {b : Body} {s : State} {e : Exc} (h : b (s.envOf f) s.stage4 = .error e)
    (he : e ≠ .stuck) : runInstr f b s = s.stage4.takeExc e := by
  cases e <;> first | exact absurd rfl he | simp only [runInstr, h]

/-- An `XCT` chain that is too long changes nothing. -/
theorem runInstr_stuck {f : Form} {b : Body} {s : State} (h : b (s.envOf f) s.stage4 = .error .stuck) :
    runInstr f b s = .next s := by
  simp only [runInstr, h]

/-- Everything an instruction can do: its body completes, it raises an exception, or it is a stuck `XCT`. -/
theorem runInstr_cases {f : Form} {b : Body} {s t : State} (h : runInstr f b s = .next t) :
    (∃ s2, b (s.envOf f) s.stage4 = .ok s2 ∧ t = s2.stage6) ∨
    (∃ e, b (s.envOf f) s.stage4 = .error e ∧ e ≠ .stuck ∧ s.stage4.takeExc e = .next t) ∨ t = s := by
  cases hb : b (s.envOf f) s.stage4 with
  | ok s2 =>
    rw [runInstr_ok hb] at h
    exact .inl ⟨s2, rfl, by cases h; rfl⟩
  | error e =>
    by_cases he : e = .stuck
    · subst he
      rw [runInstr_stuck hb] at h
      exact .inr (.inr (by cases h; rfl))
    · rw [runInstr_exc hb he] at h
      exact .inr (.inl ⟨e, rfl, he, h⟩)

/-! ### Every instruction runs its entry of the body tables -/

/-- The instruction runs its body from the tables of `perform`. -/
def RunsBody (i : Instr) : Prop := ∀ s, exec i s = runInstr i.form (perform bodyXct i.form) s

theorem runsBody_addQ (t : TMode) (o1 o2 : OD) : RunsBody (.addQ t o1 o2) := fun _ => rfl
theorem runsBody_addH (t : TMode) (o1 o2 : OD) : RunsBody (.addH t o1 o2) := fun _ => rfl
theorem runsBody_addS (t : TMode) (o1 o2 : OD) : RunsBody (.addS t o1 o2) := fun _ => rfl
theorem runsBody_addD (t : TMode) (o1 o2 : OD) : RunsBody (.addD t o1 o2) := fun _ => rfl
theorem runsBody_addcQ (t : TMode) (o1 o2 : OD) : RunsBody (.addcQ t o1 o2) := fun _ => rfl
theorem runsBody_addcH (t : TMode) (o1 o2 : OD) : RunsBody (.addcH t o1 o2) := fun _ => rfl
theorem runsBody_addcS (t : TMode) (o1 o2 : OD) : RunsBody (.addcS t o1 o2) := fun _ => rfl
theorem runsBody_addcD (t : TMode) (o1 o2 : OD) : RunsBody (.addcD t o1 o2) := fun _ => rfl
theorem runsBody_subQ (t : TMode) (o1 o2 : OD) : RunsBody (.subQ t o1 o2) := fun _ => rfl
theorem runsBody_subH (t : TMode) (o1 o2 : OD) : RunsBody (.subH t o1 o2) := fun _ => rfl
theorem runsBody_subS (t : TMode) (o1 o2 : OD) : RunsBody (.subS t o1 o2) := fun _ => rfl
theorem runsBody_subD (t : TMode) (o1 o2 : OD) : RunsBody (.subD t o1 o2) := fun _ => rfl
theorem runsBody_subvQ (t : TMode) (o1 o2 : OD) : RunsBody (.subvQ t o1 o2) := fun _ => rfl
theorem runsBody_subvH (t : TMode) (o1 o2 : OD) : RunsBody (.subvH t o1 o2) := fun _ => rfl
theorem runsBody_subvS (t : TMode) (o1 o2 : OD) : RunsBody (.subvS t o1 o2) := fun _ => rfl
theorem runsBody_subvD (t : TMode) (o1 o2 : OD) : RunsBody (.subvD t o1 o2) := fun _ => rfl
theorem runsBody_subcQ (t : TMode) (o1 o2 : OD) : RunsBody (.subcQ t o1 o2) := fun _ => rfl
theorem runsBody_subcH (t : TMode) (o1 o2 : OD) : RunsBody (.subcH t o1 o2) := fun _ => rfl
theorem runsBody_subcS (t : TMode) (o1 o2 : OD) : RunsBody (.subcS t o1 o2) := fun _ => rfl
theorem runsBody_subcD (t : TMode) (o1 o2 : OD) : RunsBody (.subcD t o1 o2) := fun _ => rfl
theorem runsBody_subcvQ (t : TMode) (o1 o2 : OD) : RunsBody (.subcvQ t o1 o2) := fun _ => rfl
theorem runsBody_subcvH (t : TMode) (o1 o2 : OD) : RunsBody (.subcvH t o1 o2) := fun _ => rfl
theorem runsBody_subcvS (t : TMode) (o1 o2 : OD) : RunsBody (.subcvS t o1 o2) := fun _ => rfl
theorem runsBody_subcvD (t : TMode) (o1 o2 : OD) : RunsBody (.subcvD t o1 o2) := fun _ => rfl
theorem runsBody_multQ (t : TMode) (o1 o2 : OD) : RunsBody (.multQ t o1 o2) := fun _ => rfl
theorem runsBody_multH (t : TMode) (o1 o2 : OD) : RunsBody (.multH t o1 o2) := fun _ => rfl
theorem runsBody_multS (t : TMode) (o1 o2 : OD) : RunsBody (.multS t o1 o2) := fun _ => rfl
theorem runsBody_multD (t : TMode) (o1 o2 : OD) : RunsBody (.multD t o1 o2) := fun _ => rfl
theorem runsBody_multlQ (t : TMode) (o1 o2 : OD) : RunsBody (.multlQ t o1 o2) := fun _ => rfl
theorem runsBody_multlH (t : TMode) (o1 o2 : OD) : RunsBody (.multlH t o1 o2) := fun _ => rfl
theorem runsBody_multlS (t : TMode) (o1 o2 : OD) : RunsBody (.multlS t o1 o2) := fun _ => rfl
theorem runsBody_quoQ (t : TMode) (o1 o2 : OD) : RunsBody (.quoQ t o1 o2) := fun _ => rfl
theorem runsBody_quoH (t : TMode) (o1 o2 : OD) : RunsBody (.quoH t o1 o2) := fun _ => rfl
theorem runsBody_quoS (t : TMode) (o1 o2 : OD) : RunsBody (.quoS t o1 o2) := fun _ => rfl
theorem runsBody_quoD (t : TMode) (o1 o2 : OD) : RunsBody (.quoD t o1 o2) := fun _ => rfl
theorem runsBody_quovQ (t : TMode) (o1 o2 : OD) : RunsBody (.quovQ t o1 o2) := fun _ => rfl
theorem runsBody_quovH (t : TMode) (o1 o2 : OD) : RunsBody (.quovH t o1 o2) := fun _ => rfl
theorem runsBody_quovS (t : TMode) (o1 o2 : OD) : RunsBody (.quovS t o1 o2) := fun _ => rfl
theorem runsBody_quovD (t : TMode) (o1 o2 : OD) : RunsBody (.quovD t o1 o2) := fun _ => rfl
theorem runsBody_quolQ (t : TMode) (o1 o2 : OD) : RunsBody (.quolQ t o1 o2) := fun _ => rfl
theorem runsBody_quolH (t : TMode) (o1 o2 : OD) : RunsBody (.quolH t o1 o2) := fun _ => rfl
theorem runsBody_quolS (t : TMode) (o1 o2 : OD) : RunsBody (.quolS t o1 o2) := fun _ => rfl
theorem runsBody_quolvQ (t : TMode) (o1 o2 : OD) : RunsBody (.quolvQ t o1 o2) := fun _ => rfl
theorem runsBody_quolvH (t : TMode) (o1 o2 : OD) : RunsBody (.quolvH t o1 o2) := fun _ => rfl
theorem runsBody_quolvS (t : TMode) (o1 o2 : OD) : RunsBody (.quolvS t o1 o2) := fun _ => rfl
theorem runsBody_quo2Q (t : TMode) (o1 o2 : OD) : RunsBody (.quo2Q t o1 o2) := fun _ => rfl
theorem runsBody_quo2H (t : TMode) (o1 o2 : OD) : RunsBody (.quo2H t o1 o2) := fun _ => rfl
theorem runsBody_quo2S (t : TMode) (o1 o2 : OD) : RunsBody (.quo2S t o1 o2) := fun _ => rfl
theorem runsBody_quo2D (t : TMode) (o1 o2 : OD) : RunsBody (.quo2D t o1 o2) := fun _ => rfl
theorem runsBody_quo2vQ (t : TMode) (o1 o2 : OD) : RunsBody (.quo2vQ t o1 o2) := fun _ => rfl
theorem runsBody_quo2vH (t : TMode) (o1 o2 : OD) : RunsBody (.quo2vH t o1 o2) := fun _ => rfl
theorem runsBody_quo2vS (t : TMode) (o1 o2 : OD) : RunsBody (.quo2vS t o1 o2) := fun _ => rfl
theorem runsBody_quo2vD (t : TMode) (o1 o2 : OD) : RunsBody (.quo2vD t o1 o2) := fun _ => rfl
theorem runsBody_quo2lQ (t : TMode) (o1 o2 : OD) : RunsBody (.quo2lQ t o1 o2) := fun _ => rfl
theorem runsBody_quo2lH (t : TMode) (o1 o2 : OD) : RunsBody (.quo2lH t o1 o2) := fun _ => rfl
theorem runsBody_quo2lS (t : TMode) (o1 o2 : OD) : RunsBody (.quo2lS t o1 o2) := fun _ => rfl
theorem runsBody_quo2lvQ (t : TMode) (o1 o2 : OD) : RunsBody (.quo2lvQ t o1 o2) := fun _ => rfl
theorem runsBody_quo2lvH (t : TMode) (o1 o2 : OD) : RunsBody (.quo2lvH t o1 o2) := fun _ => rfl
theorem runsBody_quo2lvS (t : TMode) (o1 o2 : OD) : RunsBody (.quo2lvS t o1 o2) := fun _ => rfl
theorem runsBody_remQ (t : TMode) (o1 o2 : OD) : RunsBody (.remQ t o1 o2) := fun _ => rfl
theorem runsBody_remH (t : TMode) (o1 o2 : OD) : RunsBody (.remH t o1 o2) := fun _ => rfl
theorem runsBody_remS (t : TMode) (o1 o2 : OD) : RunsBody (.remS t o1 o2) := fun _ => rfl
theorem runsBody_remD (t : TMode) (o1 o2 : OD) : RunsBody (.remD t o1 o2) := fun _ => rfl
theorem runsBody_remvQ (t : TMode) (o1 o2 : OD) : RunsBody (.remvQ t o1 o2) := fun _ => rfl
theorem runsBody_remvH (t : TMode) (o1 o2 : OD) : RunsBody (.remvH t o1 o2) := fun _ => rfl
theorem runsBody_remvS (t : TMode) (o1 o2 : OD) : RunsBody (.remvS t o1 o2) := fun _ => rfl
theorem runsBody_remvD (t : TMode) (o1 o2 : OD) : RunsBody (.remvD t o1 o2) := fun _ => rfl
theorem runsBody_remlQ (t : TMode) (o1 o2 : OD) : RunsBody (.remlQ t o1 o2) := fun _ => rfl
theorem runsBody_remlH (t : TMode) (o1 o2 : OD) : RunsBody (.remlH t o1 o2) := fun _ => rfl
theorem runsBody_remlS (t : TMode) (o1 o2 : OD) : RunsBody (.remlS t o1 o2) := fun _ => rfl
theorem runsBody_remlvQ (t : TMode) (o1 o2 : OD) : RunsBody (.remlvQ t o1 o2) := fun _ => rfl
theorem runsBody_remlvH (t : TMode) (o1 o2 : OD) : RunsBody (.remlvH t o1 o2) := fun _ => rfl
theorem runsBody_remlvS (t : TMode) (o1 o2 : OD) : RunsBody (.remlvS t o1 o2) := fun _ => rfl
theorem runsBody_modQ (t : TMode) (o1 o2 : OD) : RunsBody (.modQ t o1 o2) := fun _ => rfl
theorem runsBody_modH (t : TMode) (o1 o2 : OD) : RunsBody (.modH t o1 o2) := fun _ => rfl
theorem runsBody_modS (t : TMode) (o1 o2 : OD) : RunsBody (.modS t o1 o2) := fun _ => rfl
theorem runsBody_modD (t : TMode) (o1 o2 : OD) : RunsBody (.modD t o1 o2) := fun _ => rfl
theorem runsBody_modvQ (t : TMode) (o1 o2 : OD) : RunsBody (.modvQ t o1 o2) := fun _ => rfl
theorem runsBody_modvH (t : TMode) (o1 o2 : OD) : RunsBody (.modvH t o1 o2) := fun _ => rfl
theorem runsBody_modvS (t : TMode) (o1 o2 : OD) : RunsBody (.modvS t o1 o2) := fun _ => rfl
theorem runsBody_modvD (t : TMode) (o1 o2 : OD) : RunsBody (.modvD t o1 o2) := fun _ => rfl
theorem runsBody_modlQ (t : TMode) (o1 o2 : OD) : RunsBody (.modlQ t o1 o2) := fun _ => rfl
theorem runsBody_modlH (t : TMode) (o1 o2 : OD) : RunsBody (.modlH t o1 o2) := fun _ => rfl
theorem runsBody_modlS (t : TMode) (o1 o2 : OD) : RunsBody (.modlS t o1 o2) := fun _ => rfl
theorem runsBody_modlvQ (t : TMode) (o1 o2 : OD) : RunsBody (.modlvQ t o1 o2) := fun _ => rfl
theorem runsBody_modlvH (t : TMode) (o1 o2 : OD) : RunsBody (.modlvH t o1 o2) := fun _ => rfl
theorem runsBody_modlvS (t : TMode) (o1 o2 : OD) : RunsBody (.modlvS t o1 o2) := fun _ => rfl
theorem runsBody_divQ (t : TMode) (o1 o2 : OD) : RunsBody (.divQ t o1 o2) := fun _ => rfl
theorem runsBody_divH (t : TMode) (o1 o2 : OD) : RunsBody (.divH t o1 o2) := fun _ => rfl
theorem runsBody_divS (t : TMode) (o1 o2 : OD) : RunsBody (.divS t o1 o2) := fun _ => rfl
theorem runsBody_divD (t : TMode) (o1 o2 : OD) : RunsBody (.divD t o1 o2) := fun _ => rfl
theorem runsBody_divvQ (t : TMode) (o1 o2 : OD) : RunsBody (.divvQ t o1 o2) := fun _ => rfl
theorem runsBody_divvH (t : TMode) (o1 o2 : OD) : RunsBody (.divvH t o1 o2) := fun _ => rfl
theorem runsBody_divvS (t : TMode) (o1 o2 : OD) : RunsBody (.divvS t o1 o2) := fun _ => rfl
theorem runsBody_divvD (t : TMode) (o1 o2 : OD) : RunsBody (.divvD t o1 o2) := fun _ => rfl
theorem runsBody_divlQ (t : TMode) (o1 o2 : OD) : RunsBody (.divlQ t o1 o2) := fun _ => rfl
theorem runsBody_divlH (t : TMode) (o1 o2 : OD) : RunsBody (.divlH t o1 o2) := fun _ => rfl
theorem runsBody_divlS (t : TMode) (o1 o2 : OD) : RunsBody (.divlS t o1 o2) := fun _ => rfl
theorem runsBody_divlvQ (t : TMode) (o1 o2 : OD) : RunsBody (.divlvQ t o1 o2) := fun _ => rfl
theorem runsBody_divlvH (t : TMode) (o1 o2 : OD) : RunsBody (.divlvH t o1 o2) := fun _ => rfl
theorem runsBody_divlvS (t : TMode) (o1 o2 : OD) : RunsBody (.divlvS t o1 o2) := fun _ => rfl
theorem runsBody_incQ (o1 o2 : OD) : RunsBody (.incQ o1 o2) := fun _ => rfl
theorem runsBody_incH (o1 o2 : OD) : RunsBody (.incH o1 o2) := fun _ => rfl
theorem runsBody_incS (o1 o2 : OD) : RunsBody (.incS o1 o2) := fun _ => rfl
theorem runsBody_incD (o1 o2 : OD) : RunsBody (.incD o1 o2) := fun _ => rfl
theorem runsBody_decQ (o1 o2 : OD) : RunsBody (.decQ o1 o2) := fun _ => rfl
theorem runsBody_decH (o1 o2 : OD) : RunsBody (.decH o1 o2) := fun _ => rfl
theorem runsBody_decS (o1 o2 : OD) : RunsBody (.decS o1 o2) := fun _ => rfl
theorem runsBody_decD (o1 o2 : OD) : RunsBody (.decD o1 o2) := fun _ => rfl
theorem runsBody_transQQ (o1 o2 : OD) : RunsBody (.transQQ o1 o2) := fun _ => rfl
theorem runsBody_transQH (o1 o2 : OD) : RunsBody (.transQH o1 o2) := fun _ => rfl
theorem runsBody_transQS (o1 o2 : OD) : RunsBody (.transQS o1 o2) := fun _ => rfl
theorem runsBody_transQD (o1 o2 : OD) : RunsBody (.transQD o1 o2) := fun _ => rfl
theorem runsBody_transHQ (o1 o2 : OD) : RunsBody (.transHQ o1 o2) := fun _ => rfl
theorem runsBody_transHH (o1 o2 : OD) : RunsBody (.transHH o1 o2) := fun _ => rfl
theorem runsBody_transHS (o1 o2 : OD) : RunsBody (.transHS o1 o2) := fun _ => rfl
theorem runsBody_transHD (o1 o2 : OD) : RunsBody (.transHD o1 o2) := fun _ => rfl
theorem runsBody_transSQ (o1 o2 : OD) : RunsBody (.transSQ o1 o2) := fun _ => rfl
theorem runsBody_transSH (o1 o2 : OD) : RunsBody (.transSH o1 o2) := fun _ => rfl
theorem runsBody_transSS (o1 o2 : OD) : RunsBody (.transSS o1 o2) := fun _ => rfl
theorem runsBody_transSD (o1 o2 : OD) : RunsBody (.transSD o1 o2) := fun _ => rfl
theorem runsBody_transDQ (o1 o2 : OD) : RunsBody (.transDQ o1 o2) := fun _ => rfl
theorem runsBody_transDH (o1 o2 : OD) : RunsBody (.transDH o1 o2) := fun _ => rfl
theorem runsBody_transDS (o1 o2 : OD) : RunsBody (.transDS o1 o2) := fun _ => rfl
theorem runsBody_transDD (o1 o2 : OD) : RunsBody (.transDD o1 o2) := fun _ => rfl
theorem runsBody_negQ (o1 o2 : OD) : RunsBody (.negQ o1 o2) := fun _ => rfl
theorem runsBody_negH (o1 o2 : OD) : RunsBody (.negH o1 o2) := fun _ => rfl
theorem runsBody_negS (o1 o2 : OD) : RunsBody (.negS o1 o2) := fun _ => rfl
theorem runsBody_negD (o1 o2 : OD) : RunsBody (.negD o1 o2) := fun _ => rfl
theorem runsBody_absQ (o1 o2 : OD) : RunsBody (.absQ o1 o2) := fun _ => rfl
theorem runsBody_absH (o1 o2 : OD) : RunsBody (.absH o1 o2) := fun _ => rfl
theorem runsBody_absS (o1 o2 : OD) : RunsBody (.absS o1 o2) := fun _ => rfl
theorem runsBody_absD (o1 o2 : OD) : RunsBody (.absD o1 o2) := fun _ => rfl
theorem runsBody_minQ (t : TMode) (o1 o2 : OD) : RunsBody (.minQ t o1 o2) := fun _ => rfl
theorem runsBody_minH (t : TMode) (o1 o2 : OD) : RunsBody (.minH t o1 o2) := fun _ => rfl
theorem runsBody_minS (t : TMode) (o1 o2 : OD) : RunsBody (.minS t o1 o2) := fun _ => rfl
theorem runsBody_minD (t : TMode) (o1 o2 : OD) : RunsBody (.minD t o1 o2) := fun _ => rfl
theorem runsBody_maxQ (t : TMode) (o1 o2 : OD) : RunsBody (.maxQ t o1 o2) := fun _ => rfl
theorem runsBody_maxH (t : TMode) (o1 o2 : OD) : RunsBody (.maxH t o1 o2) := fun _ => rfl
theorem runsBody_maxS (t : TMode) (o1 o2 : OD) : RunsBody (.maxS t o1 o2) := fun _ => rfl
theorem runsBody_maxD (t : TMode) (o1 o2 : OD) : RunsBody (.maxD t o1 o2) := fun _ => rfl
theorem runsBody_umultQ (t : TMode) (o1 o2 : OD) : RunsBody (.umultQ t o1 o2) := fun _ => rfl
theorem runsBody_umultH (t : TMode) (o1 o2 : OD) : RunsBody (.umultH t o1 o2) := fun _ => rfl
theorem runsBody_umultS (t : TMode) (o1 o2 : OD) : RunsBody (.umultS t o1 o2) := fun _ => rfl
theorem runsBody_umultD (t : TMode) (o1 o2 : OD) : RunsBody (.umultD t o1 o2) := fun _ => rfl
theorem runsBody_umultlQ (t : TMode) (o1 o2 : OD) : RunsBody (.umultlQ t o1 o2) := fun _ => rfl
theorem runsBody_umultlH (t : TMode) (o1 o2 : OD) : RunsBody (.umultlH t o1 o2) := fun _ => rfl
theorem runsBody_umultlS (t : TMode) (o1 o2 : OD) : RunsBody (.umultlS t o1 o2) := fun _ => rfl
theorem runsBody_udivQ (t : TMode) (o1 o2 : OD) : RunsBody (.udivQ t o1 o2) := fun _ => rfl
theorem runsBody_udivH (t : TMode) (o1 o2 : OD) : RunsBody (.udivH t o1 o2) := fun _ => rfl
theorem runsBody_udivS (t : TMode) (o1 o2 : OD) : RunsBody (.udivS t o1 o2) := fun _ => rfl
theorem runsBody_udivD (t : TMode) (o1 o2 : OD) : RunsBody (.udivD t o1 o2) := fun _ => rfl
theorem runsBody_udivlQ (t : TMode) (o1 o2 : OD) : RunsBody (.udivlQ t o1 o2) := fun _ => rfl
theorem runsBody_udivlH (t : TMode) (o1 o2 : OD) : RunsBody (.udivlH t o1 o2) := fun _ => rfl
theorem runsBody_udivlS (t : TMode) (o1 o2 : OD) : RunsBody (.udivlS t o1 o2) := fun _ => rfl
theorem runsBody_faddH (t : TMode) (o1 o2 : OD) : RunsBody (.faddH t o1 o2) := fun _ => rfl
theorem runsBody_faddS (t : TMode) (o1 o2 : OD) : RunsBody (.faddS t o1 o2) := fun _ => rfl
theorem runsBody_faddD (t : TMode) (o1 o2 : OD) : RunsBody (.faddD t o1 o2) := fun _ => rfl
theorem runsBody_fsubH (t : TMode) (o1 o2 : OD) : RunsBody (.fsubH t o1 o2) := fun _ => rfl
theorem runsBody_fsubS (t : TMode) (o1 o2 : OD) : RunsBody (.fsubS t o1 o2) := fun _ => rfl
theorem runsBody_fsubD (t : TMode) (o1 o2 : OD) : RunsBody (.fsubD t o1 o2) := fun _ => rfl
theorem runsBody_fsubvH (t : TMode) (o1 o2 : OD) : RunsBody (.fsubvH t o1 o2) := fun _ => rfl
theorem runsBody_fsubvS (t : TMode) (o1 o2 : OD) : RunsBody (.fsubvS t o1 o2) := fun _ => rfl
theorem runsBody_fsubvD (t : TMode) (o1 o2 : OD) : RunsBody (.fsubvD t o1 o2) := fun _ => rfl
theorem runsBody_fmultH (t : TMode) (o1 o2 : OD) : RunsBody (.fmultH t o1 o2) := fun _ => rfl
theorem runsBody_fmultS (t : TMode) (o1 o2 : OD) : RunsBody (.fmultS t o1 o2) := fun _ => rfl
theorem runsBody_fmultD (t : TMode) (o1 o2 : OD) : RunsBody (.fmultD t o1 o2) := fun _ => rfl
theorem runsBody_fmultlH (t : TMode) (o1 o2 : OD) : RunsBody (.fmultlH t o1 o2) := fun _ => rfl
theorem runsBody_fmultlS (t : TMode) (o1 o2 : OD) : RunsBody (.fmultlS t o1 o2) := fun _ => rfl
theorem runsBody_fdivH (t : TMode) (o1 o2 : OD) : RunsBody (.fdivH t o1 o2) := fun _ => rfl
theorem runsBody_fdivS (t : TMode) (o1 o2 : OD) : RunsBody (.fdivS t o1 o2) := fun _ => rfl
theorem runsBody_fdivD (t : TMode) (o1 o2 : OD) : RunsBody (.fdivD t o1 o2) := fun _ => rfl
theorem runsBody_fdivvH (t : TMode) (o1 o2 : OD) : RunsBody (.fdivvH t o1 o2) := fun _ => rfl
theorem runsBody_fdivvS (t : TMode) (o1 o2 : OD) : RunsBody (.fdivvS t o1 o2) := fun _ => rfl
theorem runsBody_fdivvD (t : TMode) (o1 o2 : OD) : RunsBody (.fdivvD t o1 o2) := fun _ => rfl
theorem runsBody_fdivlH (t : TMode) (o1 o2 : OD) : RunsBody (.fdivlH t o1 o2) := fun _ => rfl
theorem runsBody_fdivlS (t : TMode) (o1 o2 : OD) : RunsBody (.fdivlS t o1 o2) := fun _ => rfl
theorem runsBody_fdivlvH (t : TMode) (o1 o2 : OD) : RunsBody (.fdivlvH t o1 o2) := fun _ => rfl
theorem runsBody_fdivlvS (t : TMode) (o1 o2 : OD) : RunsBody (.fdivlvS t o1 o2) := fun _ => rfl
theorem runsBody_fscH (t : TMode) (o1 o2 : OD) : RunsBody (.fscH t o1 o2) := fun _ => rfl
theorem runsBody_fscS (t : TMode) (o1 o2 : OD) : RunsBody (.fscS t o1 o2) := fun _ => rfl
theorem runsBody_fscD (t : TMode) (o1 o2 : OD) : RunsBody (.fscD t o1 o2) := fun _ => rfl
theorem runsBody_fscvH (t : TMode) (o1 o2 : OD) : RunsBody (.fscvH t o1 o2) := fun _ => rfl
theorem runsBody_fscvS (t : TMode) (o1 o2 : OD) : RunsBody (.fscvS t o1 o2) := fun _ => rfl
theorem runsBody_fscvD (t : TMode) (o1 o2 : OD) : RunsBody (.fscvD t o1 o2) := fun _ => rfl
theorem runsBody_fixFlQH (o1 o2 : OD) : RunsBody (.fixFlQH o1 o2) := fun _ => rfl
theorem runsBody_fixFlQS (o1 o2 : OD) : RunsBody (.fixFlQS o1 o2) := fun _ => rfl
theorem runsBody_fixFlQD (o1 o2 : OD) : RunsBody (.fixFlQD o1 o2) := fun _ => rfl
theorem runsBody_fixFlHH (o1 o2 : OD) : RunsBody (.fixFlHH o1 o2) := fun _ => rfl
theorem runsBody_fixFlHS (o1 o2 : OD) : RunsBody (.fixFlHS o1 o2) := fun _ => rfl
theorem runsBody_fixFlHD (o1 o2 : OD) : RunsBody (.fixFlHD o1 o2) := fun _ => rfl
theorem runsBody_fixFlSH (o1 o2 : OD) : RunsBody (.fixFlSH o1 o2) := fun _ => rfl
theorem runsBody_fixFlSS (o1 o2 : OD) : RunsBody (.fixFlSS o1 o2) := fun _ => rfl
theorem runsBody_fixFlSD (o1 o2 : OD) : RunsBody (.fixFlSD o1 o2) := fun _ => rfl
theorem runsBody_fixFlDH (o1 o2 : OD) : RunsBody (.fixFlDH o1 o2) := fun _ => rfl
theorem runsBody_fixFlDS (o1 o2 : OD) : RunsBody (.fixFlDS o1 o2) := fun _ => rfl
theorem runsBody_fixFlDD (o1 o2 : OD) : RunsBody (.fixFlDD o1 o2) := fun _ => rfl
theorem runsBody_fixClQH (o1 o2 : OD) : RunsBody (.fixClQH o1 o2) := fun _ => rfl
theorem runsBody_fixClQS (o1 o2 : OD) : RunsBody (.fixClQS o1 o2) := fun _ => rfl
theorem runsBody_fixClQD (o1 o2 : OD) : RunsBody (.fixClQD o1 o2) := fun _ => rfl
theorem runsBody_fixClHH (o1 o2 : OD) : RunsBody (.fixClHH o1 o2) := fun _ => rfl
theorem runsBody_fixClHS (o1 o2 : OD) : RunsBody (.fixClHS o1 o2) := fun _ => rfl
theorem runsBody_fixClHD (o1 o2 : OD) : RunsBody (.fixClHD o1 o2) := fun _ => rfl
theorem runsBody_fixClSH (o1 o2 : OD) : RunsBody (.fixClSH o1 o2) := fun _ => rfl
theorem runsBody_fixClSS (o1 o2 : OD) : RunsBody (.fixClSS o1 o2) := fun _ => rfl
theorem runsBody_fixClSD (o1 o2 : OD) : RunsBody (.fixClSD o1 o2) := fun _ => rfl
theorem runsBody_fixClDH (o1 o2 : OD) : RunsBody (.fixClDH o1 o2) := fun _ => rfl
theorem runsBody_fixClDS (o1 o2 : OD) : RunsBody (.fixClDS o1 o2) := fun _ => rfl
theorem runsBody_fixClDD (o1 o2 : OD) : RunsBody (.fixClDD o1 o2) := fun _ => rfl
theorem runsBody_fixDmQH (o1 o2 : OD) : RunsBody (.fixDmQH o1 o2) := fun _ => rfl
theorem runsBody_fixDmQS (o1 o2 : OD) : RunsBody (.fixDmQS o1 o2) := fun _ => rfl
theorem runsBody_fixDmQD (o1 o2 : OD) : RunsBody (.fixDmQD o1 o2) := fun _ => rfl
theorem runsBody_fixDmHH (o1 o2 : OD) : RunsBody (.fixDmHH o1 o2) := fun _ => rfl
theorem runsBody_fixDmHS (o1 o2 : OD) : RunsBody (.fixDmHS o1 o2) := fun _ => rfl
theorem runsBody_fixDmHD (o1 o2 : OD) : RunsBody (.fixDmHD o1 o2) := fun _ => rfl
theorem runsBody_fixDmSH (o1 o2 : OD) : RunsBody (.fixDmSH o1 o2) := fun _ => rfl
theorem runsBody_fixDmSS (o1 o2 : OD) : RunsBody (.fixDmSS o1 o2) := fun _ => rfl
theorem runsBody_fixDmSD (o1 o2 : OD) : RunsBody (.fixDmSD o1 o2) := fun _ => rfl
theorem runsBody_fixDmDH (o1 o2 : OD) : RunsBody (.fixDmDH o1 o2) := fun _ => rfl
theorem runsBody_fixDmDS (o1 o2 : OD) : RunsBody (.fixDmDS o1 o2) := fun _ => rfl
theorem runsBody_fixDmDD (o1 o2 : OD) : RunsBody (.fixDmDD o1 o2) := fun _ => rfl
theorem runsBody_fixHpQH (o1 o2 : OD) : RunsBody (.fixHpQH o1 o2) := fun _ => rfl
theorem runsBody_fixHpQS (o1 o2 : OD) : RunsBody (.fixHpQS o1 o2) := fun _ => rfl
theorem runsBody_fixHpQD (o1 o2 : OD) : RunsBody (.fixHpQD o1 o2) := fun _ => rfl
theorem runsBody_fixHpHH (o1 o2 : OD) : RunsBody (.fixHpHH o1 o2) := fun _ => rfl
theorem runsBody_fixHpHS (o1 o2 : OD) : RunsBody (.fixHpHS o1 o2) := fun _ => rfl
theorem runsBody_fixHpHD (o1 o2 : OD) : RunsBody (.fixHpHD o1 o2) := fun _ => rfl
theorem runsBody_fixHpSH (o1 o2 : OD) : RunsBody (.fixHpSH o1 o2) := fun _ => rfl
theorem runsBody_fixHpSS (o1 o2 : OD) : RunsBody (.fixHpSS o1 o2) := fun _ => rfl
theorem runsBody_fixHpSD (o1 o2 : OD) : RunsBody (.fixHpSD o1 o2) := fun _ => rfl
theorem runsBody_fixHpDH (o1 o2 : OD) : RunsBody (.fixHpDH o1 o2) := fun _ => rfl
theorem runsBody_fixHpDS (o1 o2 : OD) : RunsBody (.fixHpDS o1 o2) := fun _ => rfl
theorem runsBody_fixHpDD (o1 o2 : OD) : RunsBody (.fixHpDD o1 o2) := fun _ => rfl
theorem runsBody_fixUsQH (o1 o2 : OD) : RunsBody (.fixUsQH o1 o2) := fun _ => rfl
theorem runsBody_fixUsQS (o1 o2 : OD) : RunsBody (.fixUsQS o1 o2) := fun _ => rfl
theorem runsBody_fixUsQD (o1 o2 : OD) : RunsBody (.fixUsQD o1 o2) := fun _ => rfl
theorem runsBody_fixUsHH (o1 o2 : OD) : RunsBody (.fixUsHH o1 o2) := fun _ => rfl
theorem runsBody_fixUsHS (o1 o2 : OD) : RunsBody (.fixUsHS o1 o2) := fun _ => rfl
theorem runsBody_fixUsHD (o1 o2 : OD) : RunsBody (.fixUsHD o1 o2) := fun _ => rfl
theorem runsBody_fixUsSH (o1 o2 : OD) : RunsBody (.fixUsSH o1 o2) := fun _ => rfl
theorem runsBody_fixUsSS (o1 o2 : OD) : RunsBody (.fixUsSS o1 o2) := fun _ => rfl
theorem runsBody_fixUsSD (o1 o2 : OD) : RunsBody (.fixUsSD o1 o2) := fun _ => rfl
theorem runsBody_fixUsDH (o1 o2 : OD) : RunsBody (.fixUsDH o1 o2) := fun _ => rfl
theorem runsBody_fixUsDS (o1 o2 : OD) : RunsBody (.fixUsDS o1 o2) := fun _ => rfl
theorem runsBody_fixUsDD (o1 o2 : OD) : RunsBody (.fixUsDD o1 o2) := fun _ => rfl
theorem runsBody_floatHQ (o1 o2 : OD) : RunsBody (.floatHQ o1 o2) := fun _ => rfl
theorem runsBody_floatHH (o1 o2 : OD) : RunsBody (.floatHH o1 o2) := fun _ => rfl
theorem runsBody_floatHS (o1 o2 : OD) : RunsBody (.floatHS o1 o2) := fun _ => rfl
theorem runsBody_floatHD (o1 o2 : OD) : RunsBody (.floatHD o1 o2) := fun _ => rfl
theorem runsBody_floatSQ (o1 o2 : OD) : RunsBody (.floatSQ o1 o2) := fun _ => rfl
theorem runsBody_floatSH (o1 o2 : OD) : RunsBody (.floatSH o1 o2) := fun _ => rfl
theorem runsBody_floatSS (o1 o2 : OD) : RunsBody (.floatSS o1 o2) := fun _ => rfl
theorem runsBody_floatSD (o1 o2 : OD) : RunsBody (.floatSD o1 o2) := fun _ => rfl
theorem runsBody_floatDQ (o1 o2 : OD) : RunsBody (.floatDQ o1 o2) := fun _ => rfl
theorem runsBody_floatDH (o1 o2 : OD) : RunsBody (.floatDH o1 o2) := fun _ => rfl
theorem runsBody_floatDS (o1 o2 : OD) : RunsBody (.floatDS o1 o2) := fun _ => rfl
theorem runsBody_floatDD (o1 o2 : OD) : RunsBody (.floatDD o1 o2) := fun _ => rfl
theorem runsBody_ftransHH (o1 o2 : OD) : RunsBody (.ftransHH o1 o2) := fun _ => rfl
theorem runsBody_ftransHS (o1 o2 : OD) : RunsBody (.ftransHS o1 o2) := fun _ => rfl
theorem runsBody_ftransHD (o1 o2 : OD) : RunsBody (.ftransHD o1 o2) := fun _ => rfl
theorem runsBody_ftransSH (o1 o2 : OD) : RunsBody (.ftransSH o1 o2) := fun _ => rfl
theorem runsBody_ftransSS (o1 o2 : OD) : RunsBody (.ftransSS o1 o2) := fun _ => rfl
theorem runsBody_ftransSD (o1 o2 : OD) : RunsBody (.ftransSD o1 o2) := fun _ => rfl
theorem runsBody_ftransDH (o1 o2 : OD) : RunsBody (.ftransDH o1 o2) := fun _ => rfl
theorem runsBody_ftransDS (o1 o2 : OD) : RunsBody (.ftransDS o1 o2) := fun _ => rfl
theorem runsBody_ftransDD (o1 o2 : OD) : RunsBody (.ftransDD o1 o2) := fun _ => rfl
theorem runsBody_fnegH (o1 o2 : OD) : RunsBody (.fnegH o1 o2) := fun _ => rfl
theorem runsBody_fnegS (o1 o2 : OD) : RunsBody (.fnegS o1 o2) := fun _ => rfl
theorem runsBody_fnegD (o1 o2 : OD) : RunsBody (.fnegD o1 o2) := fun _ => rfl
theorem runsBody_fabsH (o1 o2 : OD) : RunsBody (.fabsH o1 o2) := fun _ => rfl
theorem runsBody_fabsS (o1 o2 : OD) : RunsBody (.fabsS o1 o2) := fun _ => rfl
theorem runsBody_fabsD (o1 o2 : OD) : RunsBody (.fabsD o1 o2) := fun _ => rfl
theorem runsBody_fminH (t : TMode) (o1 o2 : OD) : RunsBody (.fminH t o1 o2) := fun _ => rfl
theorem runsBody_fminS (t : TMode) (o1 o2 : OD) : RunsBody (.fminS t o1 o2) := fun _ => rfl
theorem runsBody_fminD (t : TMode) (o1 o2 : OD) : RunsBody (.fminD t o1 o2) := fun _ => rfl
theorem runsBody_fmaxH (t : TMode) (o1 o2 : OD) : RunsBody (.fmaxH t o1 o2) := fun _ => rfl
theorem runsBody_fmaxS (t : TMode) (o1 o2 : OD) : RunsBody (.fmaxS t o1 o2) := fun _ => rfl
theorem runsBody_fmaxD (t : TMode) (o1 o2 : OD) : RunsBody (.fmaxD t o1 o2) := fun _ => rfl
theorem runsBody_movQQ (o1 o2 : OD) : RunsBody (.movQQ o1 o2) := fun _ => rfl
theorem runsBody_movQH (o1 o2 : OD) : RunsBody (.movQH o1 o2) := fun _ => rfl
theorem runsBody_movQS (o1 o2 : OD) : RunsBody (.movQS o1 o2) := fun _ => rfl
theorem runsBody_movQD (o1 o2 : OD) : RunsBody (.movQD o1 o2) := fun _ => rfl
theorem runsBody_movHQ (o1 o2 : OD) : RunsBody (.movHQ o1 o2) := fun _ => rfl
theorem runsBody_movHH (o1 o2 : OD) : RunsBody (.movHH o1 o2) := fun _ => rfl
theorem runsBody_movHS (o1 o2 : OD) : RunsBody (.movHS o1 o2) := fun _ => rfl
theorem runsBody_movHD (o1 o2 : OD) : RunsBody (.movHD o1 o2) := fun _ => rfl
theorem runsBody_movSQ (o1 o2 : OD) : RunsBody (.movSQ o1 o2) := fun _ => rfl
theorem runsBody_movSH (o1 o2 : OD) : RunsBody (.movSH o1 o2) := fun _ => rfl
theorem runsBody_movSS (o1 o2 : OD) : RunsBody (.movSS o1 o2) := fun _ => rfl
theorem runsBody_movSD (o1 o2 : OD) : RunsBody (.movSD o1 o2) := fun _ => rfl
theorem runsBody_movDQ (o1 o2 : OD) : RunsBody (.movDQ o1 o2) := fun _ => rfl
theorem runsBody_movDH (o1 o2 : OD) : RunsBody (.movDH o1 o2) := fun _ => rfl
theorem runsBody_movDS (o1 o2 : OD) : RunsBody (.movDS o1 o2) := fun _ => rfl
theorem runsBody_movDD (o1 o2 : OD) : RunsBody (.movDD o1 o2) := fun _ => rfl
theorem runsBody_movmq2 (o1 o2 : OD) : RunsBody (.movmq2 o1 o2) := fun _ => rfl
theorem runsBody_movmq3 (o1 o2 : OD) : RunsBody (.movmq3 o1 o2) := fun _ => rfl
theorem runsBody_movmq4 (o1 o2 : OD) : RunsBody (.movmq4 o1 o2) := fun _ => rfl
theorem runsBody_movmq5 (o1 o2 : OD) : RunsBody (.movmq5 o1 o2) := fun _ => rfl
theorem runsBody_movmq6 (o1 o2 : OD) : RunsBody (.movmq6 o1 o2) := fun _ => rfl
theorem runsBody_movmq7 (o1 o2 : OD) : RunsBody (.movmq7 o1 o2) := fun _ => rfl
theorem runsBody_movmq8 (o1 o2 : OD) : RunsBody (.movmq8 o1 o2) := fun _ => rfl
theorem runsBody_movmq9 (o1 o2 : OD) : RunsBody (.movmq9 o1 o2) := fun _ => rfl
theorem runsBody_movmq10 (o1 o2 : OD) : RunsBody (.movmq10 o1 o2) := fun _ => rfl
theorem runsBody_movmq11 (o1 o2 : OD) : RunsBody (.movmq11 o1 o2) := fun _ => rfl
theorem runsBody_movmq12 (o1 o2 : OD) : RunsBody (.movmq12 o1 o2) := fun _ => rfl
theorem runsBody_movmq13 (o1 o2 : OD) : RunsBody (.movmq13 o1 o2) := fun _ => rfl
theorem runsBody_movmq14 (o1 o2 : OD) : RunsBody (.movmq14 o1 o2) := fun _ => rfl
theorem runsBody_movmq15 (o1 o2 : OD) : RunsBody (.movmq15 o1 o2) := fun _ => rfl
theorem runsBody_movmq16 (o1 o2 : OD) : RunsBody (.movmq16 o1 o2) := fun _ => rfl
theorem runsBody_movmq17 (o1 o2 : OD) : RunsBody (.movmq17 o1 o2) := fun _ => rfl
theorem runsBody_movmq18 (o1 o2 : OD) : RunsBody (.movmq18 o1 o2) := fun _ => rfl
theorem runsBody_movmq19 (o1 o2 : OD) : RunsBody (.movmq19 o1 o2) := fun _ => rfl
theorem runsBody_movmq20 (o1 o2 : OD) : RunsBody (.movmq20 o1 o2) := fun _ => rfl
theorem runsBody_movmq21 (o1 o2 : OD) : RunsBody (.movmq21 o1 o2) := fun _ => rfl
theorem runsBody_movmq22 (o1 o2 : OD) : RunsBody (.movmq22 o1 o2) := fun _ => rfl
theorem runsBody_movmq23 (o1 o2 : OD) : RunsBody (.movmq23 o1 o2) := fun _ => rfl
theorem runsBody_movmq24 (o1 o2 : OD) : RunsBody (.movmq24 o1 o2) := fun _ => rfl
theorem runsBody_movmq25 (o1 o2 : OD) : RunsBody (.movmq25 o1 o2) := fun _ => rfl
theorem runsBody_movmq26 (o1 o2 : OD) : RunsBody (.movmq26 o1 o2) := fun _ => rfl
theorem runsBody_movmq27 (o1 o2 : OD) : RunsBody (.movmq27 o1 o2) := fun _ => rfl
theorem runsBody_movmq28 (o1 o2 : OD) : RunsBody (.movmq28 o1 o2) := fun _ => rfl
theorem runsBody_movmq29 (o1 o2 : OD) : RunsBody (.movmq29 o1 o2) := fun _ => rfl
theorem runsBody_movmq30 (o1 o2 : OD) : RunsBody (.movmq30 o1 o2) := fun _ => rfl
theorem runsBody_movmq31 (o1 o2 : OD) : RunsBody (.movmq31 o1 o2) := fun _ => rfl
theorem runsBody_movmq32 (o1 o2 : OD) : RunsBody (.movmq32 o1 o2) := fun _ => rfl
theorem runsBody_movmq64 (o1 o2 : OD) : RunsBody (.movmq64 o1 o2) := fun _ => rfl
theorem runsBody_movmq128 (o1 o2 : OD) : RunsBody (.movmq128 o1 o2) := fun _ => rfl
theorem runsBody_movms2 (o1 o2 : OD) : RunsBody (.movms2 o1 o2) := fun _ => rfl
theorem runsBody_movms3 (o1 o2 : OD) : RunsBody (.movms3 o1 o2) := fun _ => rfl
theorem runsBody_movms4 (o1 o2 : OD) : RunsBody (.movms4 o1 o2) := fun _ => rfl
theorem runsBody_movms5 (o1 o2 : OD) : RunsBody (.movms5 o1 o2) := fun _ => rfl
theorem runsBody_movms6 (o1 o2 : OD) : RunsBody (.movms6 o1 o2) := fun _ => rfl
theorem runsBody_movms7 (o1 o2 : OD) : RunsBody (.movms7 o1 o2) := fun _ => rfl
theorem runsBody_movms8 (o1 o2 : OD) : RunsBody (.movms8 o1 o2) := fun _ => rfl
theorem runsBody_movms9 (o1 o2 : OD) : RunsBody (.movms9 o1 o2) := fun _ => rfl
theorem runsBody_movms10 (o1 o2 : OD) : RunsBody (.movms10 o1 o2) := fun _ => rfl
theorem runsBody_movms11 (o1 o2 : OD) : RunsBody (.movms11 o1 o2) := fun _ => rfl
theorem runsBody_movms12 (o1 o2 : OD) : RunsBody (.movms12 o1 o2) := fun _ => rfl
theorem runsBody_movms13 (o1 o2 : OD) : RunsBody (.movms13 o1 o2) := fun _ => rfl
theorem runsBody_movms14 (o1 o2 : OD) : RunsBody (.movms14 o1 o2) := fun _ => rfl
theorem runsBody_movms15 (o1 o2 : OD) : RunsBody (.movms15 o1 o2) := fun _ => rfl
theorem runsBody_movms16 (o1 o2 : OD) : RunsBody (.movms16 o1 o2) := fun _ => rfl
theorem runsBody_movms17 (o1 o2 : OD) : RunsBody (.movms17 o1 o2) := fun _ => rfl
theorem runsBody_movms18 (o1 o2 : OD) : RunsBody (.movms18 o1 o2) := fun _ => rfl
theorem runsBody_movms19 (o1 o2 : OD) : RunsBody (.movms19 o1 o2) := fun _ => rfl
theorem runsBody_movms20 (o1 o2 : OD) : RunsBody (.movms20 o1 o2) := fun _ => rfl
theorem runsBody_movms21 (o1 o2 : OD) : RunsBody (.movms21 o1 o2) := fun _ => rfl
theorem runsBody_movms22 (o1 o2 : OD) : RunsBody (.movms22 o1 o2) := fun _ => rfl
theorem runsBody_movms23 (o1 o2 : OD) : RunsBody (.movms23 o1 o2) := fun _ => rfl
theorem runsBody_movms24 (o1 o2 : OD) : RunsBody (.movms24 o1 o2) := fun _ => rfl
theorem runsBody_movms25 (o1 o2 : OD) : RunsBody (.movms25 o1 o2) := fun _ => rfl
theorem runsBody_movms26 (o1 o2 : OD) : RunsBody (.movms26 o1 o2) := fun _ => rfl
theorem runsBody_movms27 (o1 o2 : OD) : RunsBody (.movms27 o1 o2) := fun _ => rfl
theorem runsBody_movms28 (o1 o2 : OD) : RunsBody (.movms28 o1 o2) := fun _ => rfl
theorem runsBody_movms29 (o1 o2 : OD) : RunsBody (.movms29 o1 o2) := fun _ => rfl
theorem runsBody_movms30 (o1 o2 : OD) : RunsBody (.movms30 o1 o2) := fun _ => rfl
theorem runsBody_movms31 (o1 o2 : OD) : RunsBody (.movms31 o1 o2) := fun _ => rfl
theorem runsBody_movms32 (o1 o2 : OD) : RunsBody (.movms32 o1 o2) := fun _ => rfl
theorem runsBody_exchQ (o1 o2 : OD) : RunsBody (.exchQ o1 o2) := fun _ => rfl
theorem runsBody_exchH (o1 o2 : OD) : RunsBody (.exchH o1 o2) := fun _ => rfl
theorem runsBody_exchS (o1 o2 : OD) : RunsBody (.exchS o1 o2) := fun _ => rfl
theorem runsBody_exchD (o1 o2 : OD) : RunsBody (.exchD o1 o2) := fun _ => rfl
theorem runsBody_slr0 (o1 o2 : OD) : RunsBody (.slr0 o1 o2) := fun _ => rfl
theorem runsBody_slr1 (o1 o2 : OD) : RunsBody (.slr1 o1 o2) := fun _ => rfl
theorem runsBody_slr2 (o1 o2 : OD) : RunsBody (.slr2 o1 o2) := fun _ => rfl
theorem runsBody_slr3 (o1 o2 : OD) : RunsBody (.slr3 o1 o2) := fun _ => rfl
theorem runsBody_slr4 (o1 o2 : OD) : RunsBody (.slr4 o1 o2) := fun _ => rfl
theorem runsBody_slr5 (o1 o2 : OD) : RunsBody (.slr5 o1 o2) := fun _ => rfl
theorem runsBody_slr6 (o1 o2 : OD) : RunsBody (.slr6 o1 o2) := fun _ => rfl
theorem runsBody_slr7 (o1 o2 : OD) : RunsBody (.slr7 o1 o2) := fun _ => rfl
theorem runsBody_slr8 (o1 o2 : OD) : RunsBody (.slr8 o1 o2) := fun _ => rfl
theorem runsBody_slr9 (o1 o2 : OD) : RunsBody (.slr9 o1 o2) := fun _ => rfl
theorem runsBody_slr10 (o1 o2 : OD) : RunsBody (.slr10 o1 o2) := fun _ => rfl
theorem runsBody_slr11 (o1 o2 : OD) : RunsBody (.slr11 o1 o2) := fun _ => rfl
theorem runsBody_slr12 (o1 o2 : OD) : RunsBody (.slr12 o1 o2) := fun _ => rfl
theorem runsBody_slr13 (o1 o2 : OD) : RunsBody (.slr13 o1 o2) := fun _ => rfl
theorem runsBody_slr14 (o1 o2 : OD) : RunsBody (.slr14 o1 o2) := fun _ => rfl
theorem runsBody_slr15 (o1 o2 : OD) : RunsBody (.slr15 o1 o2) := fun _ => rfl
theorem runsBody_slr16 (o1 o2 : OD) : RunsBody (.slr16 o1 o2) := fun _ => rfl
theorem runsBody_slr17 (o1 o2 : OD) : RunsBody (.slr17 o1 o2) := fun _ => rfl
theorem runsBody_slr18 (o1 o2 : OD) : RunsBody (.slr18 o1 o2) := fun _ => rfl
theorem runsBody_slr19 (o1 o2 : OD) : RunsBody (.slr19 o1 o2) := fun _ => rfl
theorem runsBody_slr20 (o1 o2 : OD) : RunsBody (.slr20 o1 o2) := fun _ => rfl
theorem runsBody_slr21 (o1 o2 : OD) : RunsBody (.slr21 o1 o2) := fun _ => rfl
theorem runsBody_slr22 (o1 o2 : OD) : RunsBody (.slr22 o1 o2) := fun _ => rfl
theorem runsBody_slr23 (o1 o2 : OD) : RunsBody (.slr23 o1 o2) := fun _ => rfl
theorem runsBody_slr24 (o1 o2 : OD) : RunsBody (.slr24 o1 o2) := fun _ => rfl
theorem runsBody_slr25 (o1 o2 : OD) : RunsBody (.slr25 o1 o2) := fun _ => rfl
theorem runsBody_slr26 (o1 o2 : OD) : RunsBody (.slr26 o1 o2) := fun _ => rfl
theorem runsBody_slr27 (o1 o2 : OD) : RunsBody (.slr27 o1 o2) := fun _ => rfl
theorem runsBody_slr28 (o1 o2 : OD) : RunsBody (.slr28 o1 o2) := fun _ => rfl
theorem runsBody_slr29 (o1 o2 : OD) : RunsBody (.slr29 o1 o2) := fun _ => rfl
theorem runsBody_slr30 (o1 o2 : OD) : RunsBody (.slr30 o1 o2) := fun _ => rfl
theorem runsBody_slr31 (o1 o2 : OD) : RunsBody (.slr31 o1 o2) := fun _ => rfl
theorem runsBody_slradr0 (o1 o2 : OD) : RunsBody (.slradr0 o1 o2) := fun _ => rfl
theorem runsBody_slradr1 (o1 o2 : OD) : RunsBody (.slradr1 o1 o2) := fun _ => rfl
theorem runsBody_slradr2 (o1 o2 : OD) : RunsBody (.slradr2 o1 o2) := fun _ => rfl
theorem runsBody_slradr3 (o1 o2 : OD) : RunsBody (.slradr3 o1 o2) := fun _ => rfl
theorem runsBody_slradr4 (o1 o2 : OD) : RunsBody (.slradr4 o1 o2) := fun _ => rfl
theorem runsBody_slradr5 (o1 o2 : OD) : RunsBody (.slradr5 o1 o2) := fun _ => rfl
theorem runsBody_slradr6 (o1 o2 : OD) : RunsBody (.slradr6 o1 o2) := fun _ => rfl
theorem runsBody_slradr7 (o1 o2 : OD) : RunsBody (.slradr7 o1 o2) := fun _ => rfl
theorem runsBody_slradr8 (o1 o2 : OD) : RunsBody (.slradr8 o1 o2) := fun _ => rfl
theorem runsBody_slradr9 (o1 o2 : OD) : RunsBody (.slradr9 o1 o2) := fun _ => rfl
theorem runsBody_slradr10 (o1 o2 : OD) : RunsBody (.slradr10 o1 o2) := fun _ => rfl
theorem runsBody_slradr11 (o1 o2 : OD) : RunsBody (.slradr11 o1 o2) := fun _ => rfl
theorem runsBody_slradr12 (o1 o2 : OD) : RunsBody (.slradr12 o1 o2) := fun _ => rfl
theorem runsBody_slradr13 (o1 o2 : OD) : RunsBody (.slradr13 o1 o2) := fun _ => rfl
theorem runsBody_slradr14 (o1 o2 : OD) : RunsBody (.slradr14 o1 o2) := fun _ => rfl
theorem runsBody_slradr15 (o1 o2 : OD) : RunsBody (.slradr15 o1 o2) := fun _ => rfl
theorem runsBody_slradr16 (o1 o2 : OD) : RunsBody (.slradr16 o1 o2) := fun _ => rfl
theorem runsBody_slradr17 (o1 o2 : OD) : RunsBody (.slradr17 o1 o2) := fun _ => rfl
theorem runsBody_slradr18 (o1 o2 : OD) : RunsBody (.slradr18 o1 o2) := fun _ => rfl
theorem runsBody_slradr19 (o1 o2 : OD) : RunsBody (.slradr19 o1 o2) := fun _ => rfl
theorem runsBody_slradr20 (o1 o2 : OD) : RunsBody (.slradr20 o1 o2) := fun _ => rfl
theorem runsBody_slradr21 (o1 o2 : OD) : RunsBody (.slradr21 o1 o2) := fun _ => rfl
theorem runsBody_slradr22 (o1 o2 : OD) : RunsBody (.slradr22 o1 o2) := fun _ => rfl
theorem runsBody_slradr23 (o1 o2 : OD) : RunsBody (.slradr23 o1 o2) := fun _ => rfl
theorem runsBody_slradr24 (o1 o2 : OD) : RunsBody (.slradr24 o1 o2) := fun _ => rfl
theorem runsBody_slradr25 (o1 o2 : OD) : RunsBody (.slradr25 o1 o2) := fun _ => rfl
theorem runsBody_slradr26 (o1 o2 : OD) : RunsBody (.slradr26 o1 o2) := fun _ => rfl
theorem runsBody_slradr27 (o1 o2 : OD) : RunsBody (.slradr27 o1 o2) := fun _ => rfl
theorem runsBody_slradr28 (o1 o2 : OD) : RunsBody (.slradr28 o1 o2) := fun _ => rfl
theorem runsBody_slradr29 (o1 o2 : OD) : RunsBody (.slradr29 o1 o2) := fun _ => rfl
theorem runsBody_slradr30 (o1 o2 : OD) : RunsBody (.slradr30 o1 o2) := fun _ => rfl
theorem runsBody_slradr31 (o1 o2 : OD) : RunsBody (.slradr31 o1 o2) := fun _ => rfl
theorem runsBody_movadr (o1 o2 : OD) : RunsBody (.movadr o1 o2) := fun _ => rfl
theorem runsBody_movphy (o1 o2 : OD) : RunsBody (.movphy o1 o2) := fun _ => rfl
theorem runsBody_cmpsfGtrQ (t : TMode) (o1 o2 : OD) : RunsBody (.cmpsfGtrQ t o1 o2) := fun _ => rfl
theorem runsBody_cmpsfGtrH (t : TMode) (o1 o2 : OD) : RunsBody (.cmpsfGtrH t o1 o2) := fun _ => rfl
theorem runsBody_cmpsfGtrS (t : TMode) (o1 o2 : OD) : RunsBody (.cmpsfGtrS t o1 o2) := fun _ => rfl
theorem runsBody_cmpsfGtrD (t : TMode) (o1 o2 : OD) : RunsBody (.cmpsfGtrD t o1 o2) := fun _ => rfl
theorem runsBody_cmpsfEqlQ (t : TMode) (o1 o2 : OD) : RunsBody (.cmpsfEqlQ t o1 o2) := fun _ => rfl
theorem runsBody_cmpsfEqlH (t : TMode) (o1 o2 : OD) : RunsBody (.cmpsfEqlH t o1 o2) := fun _ => rfl
theorem runsBody_cmpsfEqlS (t : TMode) (o1 o2 : OD) : RunsBody (.cmpsfEqlS t o1 o2) := fun _ => rfl
theorem runsBody_cmpsfEqlD (t : TMode) (o1 o2 : OD) : RunsBody (.cmpsfEqlD t o1 o2) := fun _ => rfl
theorem runsBody_cmpsfGeqQ (t : TMode) (o1 o2 : OD) : RunsBody (.cmpsfGeqQ t o1 o2) := fun _ => rfl
theorem runsBody_cmpsfGeqH (t : TMode) (o1 o2 : OD) : RunsBody (.cmpsfGeqH t o1 o2) := fun _ => rfl
theorem runsBody_cmpsfGeqS (t : TMode) (o1 o2 : OD) : RunsBody (.cmpsfGeqS t o1 o2) := fun _ => rfl
theorem runsBody_cmpsfGeqD (t : TMode) (o1 o2 : OD) : RunsBody (.cmpsfGeqD t o1 o2) := fun _ => rfl
theorem runsBody_cmpsfLssQ (t : TMode) (o1 o2 : OD) : RunsBody (.cmpsfLssQ t o1 o2) := fun _ => rfl
theorem runsBody_cmpsfLssH (t : TMode) (o1 o2 : OD) : RunsBody (.cmpsfLssH t o1 o2) := fun _ => rfl
theorem runsBody_cmpsfLssS (t : TMode) (o1 o2 : OD) : RunsBody (.cmpsfLssS t o1 o2) := fun _ => rfl
theorem runsBody_cmpsfLssD (t : TMode) (o1 o2 : OD) : RunsBody (.cmpsfLssD t o1 o2) := fun _ => rfl
theorem runsBody_cmpsfNeqQ (t : TMode) (o1 o2 : OD) : RunsBody (.cmpsfNeqQ t o1 o2) := fun _ => rfl
theorem runsBody_cmpsfNeqH (t : TMode) (o1 o2 : OD) : RunsBody (.cmpsfNeqH t o1 o2) := fun _ => rfl
theorem runsBody_cmpsfNeqS (t : TMode) (o1 o2 : OD) : RunsBody (.cmpsfNeqS t o1 o2) := fun _ => rfl
theorem runsBody_cmpsfNeqD (t : TMode) (o1 o2 : OD) : RunsBody (.cmpsfNeqD t o1 o2) := fun _ => rfl
theorem runsBody_cmpsfLeqQ (t : TMode) (o1 o2 : OD) : RunsBody (.cmpsfLeqQ t o1 o2) := fun _ => rfl
theorem runsBody_cmpsfLeqH (t : TMode) (o1 o2 : OD) : RunsBody (.cmpsfLeqH t o1 o2) := fun _ => rfl
theorem runsBody_cmpsfLeqS (t : TMode) (o1 o2 : OD) : RunsBody (.cmpsfLeqS t o1 o2) := fun _ => rfl
theorem runsBody_cmpsfLeqD (t : TMode) (o1 o2 : OD) : RunsBody (.cmpsfLeqD t o1 o2) := fun _ => rfl
theorem runsBody_bndsfBQ (t : TMode) (o1 o2 : OD) : RunsBody (.bndsfBQ t o1 o2) := fun _ => rfl
theorem runsBody_bndsfBH (t : TMode) (o1 o2 : OD) : RunsBody (.bndsfBH t o1 o2) := fun _ => rfl
theorem runsBody_bndsfBS (t : TMode) (o1 o2 : OD) : RunsBody (.bndsfBS t o1 o2) := fun _ => rfl
theorem runsBody_bndsfBD (t : TMode) (o1 o2 : OD) : RunsBody (.bndsfBD t o1 o2) := fun _ => rfl
theorem runsBody_bndsfMinQ (t : TMode) (o1 o2 : OD) : RunsBody (.bndsfMinQ t o1 o2) := fun _ => rfl
theorem runsBody_bndsfMinH (t : TMode) (o1 o2 : OD) : RunsBody (.bndsfMinH t o1 o2) := fun _ => rfl
theorem runsBody_bndsfMinS (t : TMode) (o1 o2 : OD) : RunsBody (.bndsfMinS t o1 o2) := fun _ => rfl
theorem runsBody_bndsfMinD (t : TMode) (o1 o2 : OD) : RunsBody (.bndsfMinD t o1 o2) := fun _ => rfl
theorem runsBody_bndsfM1Q (t : TMode) (o1 o2 : OD) : RunsBody (.bndsfM1Q t o1 o2) := fun _ => rfl
theorem runsBody_bndsfM1H (t : TMode) (o1 o2 : OD) : RunsBody (.bndsfM1H t o1 o2) := fun _ => rfl
theorem runsBody_bndsfM1S (t : TMode) (o1 o2 : OD) : RunsBody (.bndsfM1S t o1 o2) := fun _ => rfl
theorem runsBody_bndsfM1D (t : TMode) (o1 o2 : OD) : RunsBody (.bndsfM1D t o1 o2) := fun _ => rfl
theorem runsBody_bndsf0Q (t : TMode) (o1 o2 : OD) : RunsBody (.bndsf0Q t o1 o2) := fun _ => rfl
theorem runsBody_bndsf0H (t : TMode) (o1 o2 : OD) : RunsBody (.bndsf0H t o1 o2) := fun _ => rfl
theorem runsBody_bndsf0S (t : TMode) (o1 o2 : OD) : RunsBody (.bndsf0S t o1 o2) := fun _ => rfl
theorem runsBody_bndsf0D (t : TMode) (o1 o2 : OD) : RunsBody (.bndsf0D t o1 o2) := fun _ => rfl
theorem runsBody_bndsf1Q (t : TMode) (o1 o2 : OD) : RunsBody (.bndsf1Q t o1 o2) := fun _ => rfl
theorem runsBody_bndsf1H (t : TMode) (o1 o2 : OD) : RunsBody (.bndsf1H t o1 o2) := fun _ => rfl
theorem runsBody_bndsf1S (t : TMode) (o1 o2 : OD) : RunsBody (.bndsf1S t o1 o2) := fun _ => rfl
theorem runsBody_bndsf1D (t : TMode) (o1 o2 : OD) : RunsBody (.bndsf1D t o1 o2) := fun _ => rfl
theorem runsBody_notQ (o1 o2 : OD) : RunsBody (.notQ o1 o2) := fun _ => rfl
theorem runsBody_notH (o1 o2 : OD) : RunsBody (.notH o1 o2) := fun _ => rfl
theorem runsBody_notS (o1 o2 : OD) : RunsBody (.notS o1 o2) := fun _ => rfl
theorem runsBody_notD (o1 o2 : OD) : RunsBody (.notD o1 o2) := fun _ => rfl
theorem runsBody_andQ (t : TMode) (o1 o2 : OD) : RunsBody (.andQ t o1 o2) := fun _ => rfl
theorem runsBody_andH (t : TMode) (o1 o2 : OD) : RunsBody (.andH t o1 o2) := fun _ => rfl
theorem runsBody_andS (t : TMode) (o1 o2 : OD) : RunsBody (.andS t o1 o2) := fun _ => rfl
theorem runsBody_andD (t : TMode) (o1 o2 : OD) : RunsBody (.andD t o1 o2) := fun _ => rfl
theorem runsBody_andtcQ (t : TMode) (o1 o2 : OD) : RunsBody (.andtcQ t o1 o2) := fun _ => rfl
theorem runsBody_andtcH (t : TMode) (o1 o2 : OD) : RunsBody (.andtcH t o1 o2) := fun _ => rfl
theorem runsBody_andtcS (t : TMode) (o1 o2 : OD) : RunsBody (.andtcS t o1 o2) := fun _ => rfl
theorem runsBody_andtcD (t : TMode) (o1 o2 : OD) : RunsBody (.andtcD t o1 o2) := fun _ => rfl
theorem runsBody_andctQ (t : TMode) (o1 o2 : OD) : RunsBody (.andctQ t o1 o2) := fun _ => rfl
theorem runsBody_andctH (t : TMode) (o1 o2 : OD) : RunsBody (.andctH t o1 o2) := fun _ => rfl
theorem runsBody_andctS (t : TMode) (o1 o2 : OD) : RunsBody (.andctS t o1 o2) := fun _ => rfl
theorem runsBody_andctD (t : TMode) (o1 o2 : OD) : RunsBody (.andctD t o1 o2) := fun _ => rfl
theorem runsBody_orQ (t : TMode) (o1 o2 : OD) : RunsBody (.orQ t o1 o2) := fun _ => rfl
theorem runsBody_orH (t : TMode) (o1 o2 : OD) : RunsBody (.orH t o1 o2) := fun _ => rfl
theorem runsBody_orS (t : TMode) (o1 o2 : OD) : RunsBody (.orS t o1 o2) := fun _ => rfl
theorem runsBody_orD (t : TMode) (o1 o2 : OD) : RunsBody (.orD t o1 o2) := fun _ => rfl
theorem runsBody_ortcQ (t : TMode) (o1 o2 : OD) : RunsBody (.ortcQ t o1 o2) := fun _ => rfl
theorem runsBody_ortcH (t : TMode) (o1 o2 : OD) : RunsBody (.ortcH t o1 o2) := fun _ => rfl
theorem runsBody_ortcS (t : TMode) (o1 o2 : OD) : RunsBody (.ortcS t o1 o2) := fun _ => rfl
theorem runsBody_ortcD (t : TMode) (o1 o2 : OD) : RunsBody (.ortcD t o1 o2) := fun _ => rfl
theorem runsBody_orctQ (t : TMode) (o1 o2 : OD) : RunsBody (.orctQ t o1 o2) := fun _ => rfl
theorem runsBody_orctH (t : TMode) (o1 o2 : OD) : RunsBody (.orctH t o1 o2) := fun _ => rfl
theorem runsBody_orctS (t : TMode) (o1 o2 : OD) : RunsBody (.orctS t o1 o2) := fun _ => rfl
theorem runsBody_orctD (t : TMode) (o1 o2 : OD) : RunsBody (.orctD t o1 o2) := fun _ => rfl
theorem runsBody_nandQ (t : TMode) (o1 o2 : OD) : RunsBody (.nandQ t o1 o2) := fun _ => rfl
theorem runsBody_nandH (t : TMode) (o1 o2 : OD) : RunsBody (.nandH t o1 o2) := fun _ => rfl
theorem runsBody_nandS (t : TMode) (o1 o2 : OD) : RunsBody (.nandS t o1 o2) := fun _ => rfl
theorem runsBody_nandD (t : TMode) (o1 o2 : OD) : RunsBody (.nandD t o1 o2) := fun _ => rfl
theorem runsBody_norQ (t : TMode) (o1 o2 : OD) : RunsBody (.norQ t o1 o2) := fun _ => rfl
theorem runsBody_norH (t : TMode) (o1 o2 : OD) : RunsBody (.norH t o1 o2) := fun _ => rfl
theorem runsBody_norS (t : TMode) (o1 o2 : OD) : RunsBody (.norS t o1 o2) := fun _ => rfl
theorem runsBody_norD (t : TMode) (o1 o2 : OD) : RunsBody (.norD t o1 o2) := fun _ => rfl
theorem runsBody_xorQ (t : TMode) (o1 o2 : OD) : RunsBody (.xorQ t o1 o2) := fun _ => rfl
theorem runsBody_xorH (t : TMode) (o1 o2 : OD) : RunsBody (.xorH t o1 o2) := fun _ => rfl
theorem runsBody_xorS (t : TMode) (o1 o2 : OD) : RunsBody (.xorS t o1 o2) := fun _ => rfl
theorem runsBody_xorD (t : TMode) (o1 o2 : OD) : RunsBody (.xorD t o1 o2) := fun _ => rfl
theorem runsBody_eqvQ (t : TMode) (o1 o2 : OD) : RunsBody (.eqvQ t o1 o2) := fun _ => rfl
theorem runsBody_eqvH (t : TMode) (o1 o2 : OD) : RunsBody (.eqvH t o1 o2) := fun _ => rfl
theorem runsBody_eqvS (t : TMode) (o1 o2 : OD) : RunsBody (.eqvS t o1 o2) := fun _ => rfl
theorem runsBody_eqvD (t : TMode) (o1 o2 : OD) : RunsBody (.eqvD t o1 o2) := fun _ => rfl
theorem runsBody_shfLfQ (t : TMode) (o1 o2 : OD) : RunsBody (.shfLfQ t o1 o2) := fun _ => rfl
theorem runsBody_shfLfH (t : TMode) (o1 o2 : OD) : RunsBody (.shfLfH t o1 o2) := fun _ => rfl
theorem runsBody_shfLfS (t : TMode) (o1 o2 : OD) : RunsBody (.shfLfS t o1 o2) := fun _ => rfl
theorem runsBody_shfLfD (t : TMode) (o1 o2 : OD) : RunsBody (.shfLfD t o1 o2) := fun _ => rfl
theorem runsBody_shfRtQ (t : TMode) (o1 o2 : OD) : RunsBody (.shfRtQ t o1 o2) := fun _ => rfl
theorem runsBody_shfRtH (t : TMode) (o1 o2 : OD) : RunsBody (.shfRtH t o1 o2) := fun _ => rfl
theorem runsBody_shfRtS (t : TMode) (o1 o2 : OD) : RunsBody (.shfRtS t o1 o2) := fun _ => rfl
theorem runsBody_shfRtD (t : TMode) (o1 o2 : OD) : RunsBody (.shfRtD t o1 o2) := fun _ => rfl
theorem runsBody_shfvLfQ (t : TMode) (o1 o2 : OD) : RunsBody (.shfvLfQ t o1 o2) := fun _ => rfl
theorem runsBody_shfvLfH (t : TMode) (o1 o2 : OD) : RunsBody (.shfvLfH t o1 o2) := fun _ => rfl
theorem runsBody_shfvLfS (t : TMode) (o1 o2 : OD) : RunsBody (.shfvLfS t o1 o2) := fun _ => rfl
theorem runsBody_shfvLfD (t : TMode) (o1 o2 : OD) : RunsBody (.shfvLfD t o1 o2) := fun _ => rfl
theorem runsBody_shfvRtQ (t : TMode) (o1 o2 : OD) : RunsBody (.shfvRtQ t o1 o2) := fun _ => rfl
theorem runsBody_shfvRtH (t : TMode) (o1 o2 : OD) : RunsBody (.shfvRtH t o1 o2) := fun _ => rfl
theorem runsBody_shfvRtS (t : TMode) (o1 o2 : OD) : RunsBody (.shfvRtS t o1 o2) := fun _ => rfl
theorem runsBody_shfvRtD (t : TMode) (o1 o2 : OD) : RunsBody (.shfvRtD t o1 o2) := fun _ => rfl
theorem runsBody_dshfLfQ (t : TMode) (o1 o2 : OD) : RunsBody (.dshfLfQ t o1 o2) := fun _ => rfl
theorem runsBody_dshfLfH (t : TMode) (o1 o2 : OD) : RunsBody (.dshfLfH t o1 o2) := fun _ => rfl
theorem runsBody_dshfLfS (t : TMode) (o1 o2 : OD) : RunsBody (.dshfLfS t o1 o2) := fun _ => rfl
theorem runsBody_dshfRtQ (t : TMode) (o1 o2 : OD) : RunsBody (.dshfRtQ t o1 o2) := fun _ => rfl
theorem runsBody_dshfRtH (t : TMode) (o1 o2 : OD) : RunsBody (.dshfRtH t o1 o2) := fun _ => rfl
theorem runsBody_dshfRtS (t : TMode) (o1 o2 : OD) : RunsBody (.dshfRtS t o1 o2) := fun _ => rfl
theorem runsBody_dshfvLfQ (t : TMode) (o1 o2 : OD) : RunsBody (.dshfvLfQ t o1 o2) := fun _ => rfl
theorem runsBody_dshfvLfH (t : TMode) (o1 o2 : OD) : RunsBody (.dshfvLfH t o1 o2) := fun _ => rfl
theorem runsBody_dshfvLfS (t : TMode) (o1 o2 : OD) : RunsBody (.dshfvLfS t o1 o2) := fun _ => rfl
theorem runsBody_dshfvRtQ (t : TMode) (o1 o2 : OD) : RunsBody (.dshfvRtQ t o1 o2) := fun _ => rfl
theorem runsBody_dshfvRtH (t : TMode) (o1 o2 : OD) : RunsBody (.dshfvRtH t o1 o2) := fun _ => rfl
theorem runsBody_dshfvRtS (t : TMode) (o1 o2 : OD) : RunsBody (.dshfvRtS t o1 o2) := fun _ => rfl
theorem runsBody_shfaLfQ (t : TMode) (o1 o2 : OD) : RunsBody (.shfaLfQ t o1 o2) := fun _ => rfl
theorem runsBody_shfaLfH (t : TMode) (o1 o2 : OD) : RunsBody (.shfaLfH t o1 o2) := fun _ => rfl
theorem runsBody_shfaLfS (t : TMode) (o1 o2 : OD) : RunsBody (.shfaLfS t o1 o2) := fun _ => rfl
theorem runsBody_shfaLfD (t : TMode) (o1 o2 : OD) : RunsBody (.shfaLfD t o1 o2) := fun _ => rfl
theorem runsBody_shfaRtQ (t : TMode) (o1 o2 : OD) : RunsBody (.shfaRtQ t o1 o2) := fun _ => rfl
theorem runsBody_shfaRtH (t : TMode) (o1 o2 : OD) : RunsBody (.shfaRtH t o1 o2) := fun _ => rfl
theorem runsBody_shfaRtS (t : TMode) (o1 o2 : OD) : RunsBody (.shfaRtS t o1 o2) := fun _ => rfl
theorem runsBody_shfaRtD (t : TMode) (o1 o2 : OD) : RunsBody (.shfaRtD t o1 o2) := fun _ => rfl
theorem runsBody_shfavLfQ (t : TMode) (o1 o2 : OD) : RunsBody (.shfavLfQ t o1 o2) := fun _ => rfl
theorem runsBody_shfavLfH (t : TMode) (o1 o2 : OD) : RunsBody (.shfavLfH t o1 o2) := fun _ => rfl
theorem runsBody_shfavLfS (t : TMode) (o1 o2 : OD) : RunsBody (.shfavLfS t o1 o2) := fun _ => rfl
theorem runsBody_shfavLfD (t : TMode) (o1 o2 : OD) : RunsBody (.shfavLfD t o1 o2) := fun _ => rfl
theorem runsBody_shfavRtQ (t : TMode) (o1 o2 : OD) : RunsBody (.shfavRtQ t o1 o2) := fun _ => rfl
theorem runsBody_shfavRtH (t : TMode) (o1 o2 : OD) : RunsBody (.shfavRtH t o1 o2) := fun _ => rfl
theorem runsBody_shfavRtS (t : TMode) (o1 o2 : OD) : RunsBody (.shfavRtS t o1 o2) := fun _ => rfl
theorem runsBody_shfavRtD (t : TMode) (o1 o2 : OD) : RunsBody (.shfavRtD t o1 o2) := fun _ => rfl
theorem runsBody_rotLfQ (t : TMode) (o1 o2 : OD) : RunsBody (.rotLfQ t o1 o2) := fun _ => rfl
theorem runsBody_rotLfH (t : TMode) (o1 o2 : OD) : RunsBody (.rotLfH t o1 o2) := fun _ => rfl
theorem runsBody_rotLfS (t : TMode) (o1 o2 : OD) : RunsBody (.rotLfS t o1 o2) := fun _ => rfl
theorem runsBody_rotLfD (t : TMode) (o1 o2 : OD) : RunsBody (.rotLfD t o1 o2) := fun _ => rfl
theorem runsBody_rotRtQ (t : TMode) (o1 o2 : OD) : RunsBody (.rotRtQ t o1 o2) := fun _ => rfl
theorem runsBody_rotRtH (t : TMode) (o1 o2 : OD) : RunsBody (.rotRtH t o1 o2) := fun _ => rfl
theorem runsBody_rotRtS (t : TMode) (o1 o2 : OD) : RunsBody (.rotRtS t o1 o2) := fun _ => rfl
theorem runsBody_rotRtD (t : TMode) (o1 o2 : OD) : RunsBody (.rotRtD t o1 o2) := fun _ => rfl
theorem runsBody_rotvLfQ (t : TMode) (o1 o2 : OD) : RunsBody (.rotvLfQ t o1 o2) := fun _ => rfl
theorem runsBody_rotvLfH (t : TMode) (o1 o2 : OD) : RunsBody (.rotvLfH t o1 o2) := fun _ => rfl
theorem runsBody_rotvLfS (t : TMode) (o1 o2 : OD) : RunsBody (.rotvLfS t o1 o2) := fun _ => rfl
theorem runsBody_rotvLfD (t : TMode) (o1 o2 : OD) : RunsBody (.rotvLfD t o1 o2) := fun _ => rfl
theorem runsBody_rotvRtQ (t : TMode) (o1 o2 : OD) : RunsBody (.rotvRtQ t o1 o2) := fun _ => rfl
theorem runsBody_rotvRtH (t : TMode) (o1 o2 : OD) : RunsBody (.rotvRtH t o1 o2) := fun _ => rfl
theorem runsBody_rotvRtS (t : TMode) (o1 o2 : OD) : RunsBody (.rotvRtS t o1 o2) := fun _ => rfl
theorem runsBody_rotvRtD (t : TMode) (o1 o2 : OD) : RunsBody (.rotvRtD t o1 o2) := fun _ => rfl
theorem runsBody_skpGtrQ (skp : BitVec 4) (o1 o2 : OD) : RunsBody (.skpGtrQ skp o1 o2) := fun _ => rfl
theorem runsBody_skpGtrH (skp : BitVec 4) (o1 o2 : OD) : RunsBody (.skpGtrH skp o1 o2) := fun _ => rfl
theorem runsBody_skpGtrS (skp : BitVec 4) (o1 o2 : OD) : RunsBody (.skpGtrS skp o1 o2) := fun _ => rfl
theorem runsBody_skpGtrD (skp : BitVec 4) (o1 o2 : OD) : RunsBody (.skpGtrD skp o1 o2) := fun _ => rfl
theorem runsBody_skpEqlQ (skp : BitVec 4) (o1 o2 : OD) : RunsBody (.skpEqlQ skp o1 o2) := fun _ => rfl
theorem runsBody_skpEqlH (skp : BitVec 4) (o1 o2 : OD) : RunsBody (.skpEqlH skp o1 o2) := fun _ => rfl
theorem runsBody_skpEqlS (skp : BitVec 4) (o1 o2 : OD) : RunsBody (.skpEqlS skp o1 o2) := fun _ => rfl
theorem runsBody_skpEqlD (skp : BitVec 4) (o1 o2 : OD) : RunsBody (.skpEqlD skp o1 o2) := fun _ => rfl
theorem runsBody_skpGeqQ (skp : BitVec 4) (o1 o2 : OD) : RunsBody (.skpGeqQ skp o1 o2) := fun _ => rfl
theorem runsBody_skpGeqH (skp : BitVec 4) (o1 o2 : OD) : RunsBody (.skpGeqH skp o1 o2) := fun _ => rfl
theorem runsBody_skpGeqS (skp : BitVec 4) (o1 o2 : OD) : RunsBody (.skpGeqS skp o1 o2) := fun _ => rfl
theorem runsBody_skpGeqD (skp : BitVec 4) (o1 o2 : OD) : RunsBody (.skpGeqD skp o1 o2) := fun _ => rfl
theorem runsBody_skpLssQ (skp : BitVec 4) (o1 o2 : OD) : RunsBody (.skpLssQ skp o1 o2) := fun _ => rfl
theorem runsBody_skpLssH (skp : BitVec 4) (o1 o2 : OD) : RunsBody (.skpLssH skp o1 o2) := fun _ => rfl
theorem runsBody_skpLssS (skp : BitVec 4) (o1 o2 : OD) : RunsBody (.skpLssS skp o1 o2) := fun _ => rfl
theorem runsBody_skpLssD (skp : BitVec 4) (o1 o2 : OD) : RunsBody (.skpLssD skp o1 o2) := fun _ => rfl
theorem runsBody_skpNeqQ (skp : BitVec 4) (o1 o2 : OD) : RunsBody (.skpNeqQ skp o1 o2) := fun _ => rfl
theorem runsBody_skpNeqH (skp : BitVec 4) (o1 o2 : OD) : RunsBody (.skpNeqH skp o1 o2) := fun _ => rfl
theorem runsBody_skpNeqS (skp : BitVec 4) (o1 o2 : OD) : RunsBody (.skpNeqS skp o1 o2) := fun _ => rfl
theorem runsBody_skpNeqD (skp : BitVec 4) (o1 o2 : OD) : RunsBody (.skpNeqD skp o1 o2) := fun _ => rfl
theorem runsBody_skpLeqQ (skp : BitVec 4) (o1 o2 : OD) : RunsBody (.skpLeqQ skp o1 o2) := fun _ => rfl
theorem runsBody_skpLeqH (skp : BitVec 4) (o1 o2 : OD) : RunsBody (.skpLeqH skp o1 o2) := fun _ => rfl
theorem runsBody_skpLeqS (skp : BitVec 4) (o1 o2 : OD) : RunsBody (.skpLeqS skp o1 o2) := fun _ => rfl
theorem runsBody_skpLeqD (skp : BitVec 4) (o1 o2 : OD) : RunsBody (.skpLeqD skp o1 o2) := fun _ => rfl
theorem runsBody_skpNonQ (skp : BitVec 4) (o1 o2 : OD) : RunsBody (.skpNonQ skp o1 o2) := fun _ => rfl
theorem runsBody_skpNonH (skp : BitVec 4) (o1 o2 : OD) : RunsBody (.skpNonH skp o1 o2) := fun _ => rfl
theorem runsBody_skpNonS (skp : BitVec 4) (o1 o2 : OD) : RunsBody (.skpNonS skp o1 o2) := fun _ => rfl
theorem runsBody_skpNonD (skp : BitVec 4) (o1 o2 : OD) : RunsBody (.skpNonD skp o1 o2) := fun _ => rfl
theorem runsBody_skpAllQ (skp : BitVec 4) (o1 o2 : OD) : RunsBody (.skpAllQ skp o1 o2) := fun _ => rfl
theorem runsBody_skpAllH (skp : BitVec 4) (o1 o2 : OD) : RunsBody (.skpAllH skp o1 o2) := fun _ => rfl
theorem runsBody_skpAllS (skp : BitVec 4) (o1 o2 : OD) : RunsBody (.skpAllS skp o1 o2) := fun _ => rfl
theorem runsBody_skpAllD (skp : BitVec 4) (o1 o2 : OD) : RunsBody (.skpAllD skp o1 o2) := fun _ => rfl
theorem runsBody_skpNalQ (skp : BitVec 4) (o1 o2 : OD) : RunsBody (.skpNalQ skp o1 o2) := fun _ => rfl
theorem runsBody_skpNalH (skp : BitVec 4) (o1 o2 : OD) : RunsBody (.skpNalH skp o1 o2) := fun _ => rfl
theorem runsBody_skpNalS (skp : BitVec 4) (o1 o2 : OD) : RunsBody (.skpNalS skp o1 o2) := fun _ => rfl
theorem runsBody_skpNalD (skp : BitVec 4) (o1 o2 : OD) : RunsBody (.skpNalD skp o1 o2) := fun _ => rfl
theorem runsBody_skpAnyQ (skp : BitVec 4) (o1 o2 : OD) : RunsBody (.skpAnyQ skp o1 o2) := fun _ => rfl
theorem runsBody_skpAnyH (skp : BitVec 4) (o1 o2 : OD) : RunsBody (.skpAnyH skp o1 o2) := fun _ => rfl
theorem runsBody_skpAnyS (skp : BitVec 4) (o1 o2 : OD) : RunsBody (.skpAnyS skp o1 o2) := fun _ => rfl
theorem runsBody_skpAnyD (skp : BitVec 4) (o1 o2 : OD) : RunsBody (.skpAnyD skp o1 o2) := fun _ => rfl
theorem runsBody_iskpGtr (skp : BitVec 4) (o1 o2 : OD) : RunsBody (.iskpGtr skp o1 o2) := fun _ => rfl
theorem runsBody_iskpEql (skp : BitVec 4) (o1 o2 : OD) : RunsBody (.iskpEql skp o1 o2) := fun _ => rfl
theorem runsBody_iskpGeq (skp : BitVec 4) (o1 o2 : OD) : RunsBody (.iskpGeq skp o1 o2) := fun _ => rfl
theorem runsBody_iskpLss (skp : BitVec 4) (o1 o2 : OD) : RunsBody (.iskpLss skp o1 o2) := fun _ => rfl
theorem runsBody_iskpNeq (skp : BitVec 4) (o1 o2 : OD) : RunsBody (.iskpNeq skp o1 o2) := fun _ => rfl
theorem runsBody_iskpLeq (skp : BitVec 4) (o1 o2 : OD) : RunsBody (.iskpLeq skp o1 o2) := fun _ => rfl
theorem runsBody_dskpGtr (skp : BitVec 4) (o1 o2 : OD) : RunsBody (.dskpGtr skp o1 o2) := fun _ => rfl
theorem runsBody_dskpEql (skp : BitVec 4) (o1 o2 : OD) : RunsBody (.dskpEql skp o1 o2) := fun _ => rfl
theorem runsBody_dskpGeq (skp : BitVec 4) (o1 o2 : OD) : RunsBody (.dskpGeq skp o1 o2) := fun _ => rfl
theorem runsBody_dskpLss (skp : BitVec 4) (o1 o2 : OD) : RunsBody (.dskpLss skp o1 o2) := fun _ => rfl
theorem runsBody_dskpNeq (skp : BitVec 4) (o1 o2 : OD) : RunsBody (.dskpNeq skp o1 o2) := fun _ => rfl
theorem runsBody_dskpLeq (skp : BitVec 4) (o1 o2 : OD) : RunsBody (.dskpLeq skp o1 o2) := fun _ => rfl
theorem runsBody_jmpGtr (o1 : OD) (j : JDest) : RunsBody (.jmpGtr o1 j) := fun _ => rfl
theorem runsBody_jmpEql (o1 : OD) (j : JDest) : RunsBody (.jmpEql o1 j) := fun _ => rfl
theorem runsBody_jmpGeq (o1 : OD) (j : JDest) : RunsBody (.jmpGeq o1 j) := fun _ => rfl
theorem runsBody_jmpLss (o1 : OD) (j : JDest) : RunsBody (.jmpLss o1 j) := fun _ => rfl
theorem runsBody_jmpNeq (o1 : OD) (j : JDest) : RunsBody (.jmpNeq o1 j) := fun _ => rfl
theorem runsBody_jmpLeq (o1 : OD) (j : JDest) : RunsBody (.jmpLeq o1 j) := fun _ => rfl
theorem runsBody_jmpzGtrQ (o1 : OD) (j : JDest) : RunsBody (.jmpzGtrQ o1 j) := fun _ => rfl
theorem runsBody_jmpzGtrH (o1 : OD) (j : JDest) : RunsBody (.jmpzGtrH o1 j) := fun _ => rfl
theorem runsBody_jmpzGtrS (o1 : OD) (j : JDest) : RunsBody (.jmpzGtrS o1 j) := fun _ => rfl
theorem runsBody_jmpzGtrD (o1 : OD) (j : JDest) : RunsBody (.jmpzGtrD o1 j) := fun _ => rfl
theorem runsBody_jmpzEqlQ (o1 : OD) (j : JDest) : RunsBody (.jmpzEqlQ o1 j) := fun _ => rfl
theorem runsBody_jmpzEqlH (o1 : OD) (j : JDest) : RunsBody (.jmpzEqlH o1 j) := fun _ => rfl
theorem runsBody_jmpzEqlS (o1 : OD) (j : JDest) : RunsBody (.jmpzEqlS o1 j) := fun _ => rfl
theorem runsBody_jmpzEqlD (o1 : OD) (j : JDest) : RunsBody (.jmpzEqlD o1 j) := fun _ => rfl
theorem runsBody_jmpzGeqQ (o1 : OD) (j : JDest) : RunsBody (.jmpzGeqQ o1 j) := fun _ => rfl
theorem runsBody_jmpzGeqH (o1 : OD) (j : JDest) : RunsBody (.jmpzGeqH o1 j) := fun _ => rfl
theorem runsBody_jmpzGeqS (o1 : OD) (j : JDest) : RunsBody (.jmpzGeqS o1 j) := fun _ => rfl
theorem runsBody_jmpzGeqD (o1 : OD) (j : JDest) : RunsBody (.jmpzGeqD o1 j) := fun _ => rfl
theorem runsBody_jmpzLssQ (o1 : OD) (j : JDest) : RunsBody (.jmpzLssQ o1 j) := fun _ => rfl
theorem runsBody_jmpzLssH (o1 : OD) (j : JDest) : RunsBody (.jmpzLssH o1 j) := fun _ => rfl
theorem runsBody_jmpzLssS (o1 : OD) (j : JDest) : RunsBody (.jmpzLssS o1 j) := fun _ => rfl
theorem runsBody_jmpzLssD (o1 : OD) (j : JDest) : RunsBody (.jmpzLssD o1 j) := fun _ => rfl
theorem runsBody_jmpzNeqQ (o1 : OD) (j : JDest) : RunsBody (.jmpzNeqQ o1 j) := fun _ => rfl
theorem runsBody_jmpzNeqH (o1 : OD) (j : JDest) : RunsBody (.jmpzNeqH o1 j) := fun _ => rfl
theorem runsBody_jmpzNeqS (o1 : OD) (j : JDest) : RunsBody (.jmpzNeqS o1 j) := fun _ => rfl
theorem runsBody_jmpzNeqD (o1 : OD) (j : JDest) : RunsBody (.jmpzNeqD o1 j) := fun _ => rfl
theorem runsBody_jmpzLeqQ (o1 : OD) (j : JDest) : RunsBody (.jmpzLeqQ o1 j) := fun _ => rfl
theorem runsBody_jmpzLeqH (o1 : OD) (j : JDest) : RunsBody (.jmpzLeqH o1 j) := fun _ => rfl
theorem runsBody_jmpzLeqS (o1 : OD) (j : JDest) : RunsBody (.jmpzLeqS o1 j) := fun _ => rfl
theorem runsBody_jmpzLeqD (o1 : OD) (j : JDest) : RunsBody (.jmpzLeqD o1 j) := fun _ => rfl
theorem runsBody_jmpa (o1 : OD) (j : JDest) : RunsBody (.jmpa o1 j) := fun _ => rfl
theorem runsBody_ijmpGtr (o1 : OD) (j : JDest) : RunsBody (.ijmpGtr o1 j) := fun _ => rfl
theorem runsBody_ijmpEql (o1 : OD) (j : JDest) : RunsBody (.ijmpEql o1 j) := fun _ => rfl
theorem runsBody_ijmpGeq (o1 : OD) (j : JDest) : RunsBody (.ijmpGeq o1 j) := fun _ => rfl
theorem runsBody_ijmpLss (o1 : OD) (j : JDest) : RunsBody (.ijmpLss o1 j) := fun _ => rfl
theorem runsBody_ijmpNeq (o1 : OD) (j : JDest) : RunsBody (.ijmpNeq o1 j) := fun _ => rfl
theorem runsBody_ijmpLeq (o1 : OD) (j : JDest) : RunsBody (.ijmpLeq o1 j) := fun _ => rfl
theorem runsBody_ijmpzGtr (o1 : OD) (j : JDest) : RunsBody (.ijmpzGtr o1 j) := fun _ => rfl
theorem runsBody_ijmpzEql (o1 : OD) (j : JDest) : RunsBody (.ijmpzEql o1 j) := fun _ => rfl
theorem runsBody_ijmpzGeq (o1 : OD) (j : JDest) : RunsBody (.ijmpzGeq o1 j) := fun _ => rfl
theorem runsBody_ijmpzLss (o1 : OD) (j : JDest) : RunsBody (.ijmpzLss o1 j) := fun _ => rfl
theorem runsBody_ijmpzNeq (o1 : OD) (j : JDest) : RunsBody (.ijmpzNeq o1 j) := fun _ => rfl
theorem runsBody_ijmpzLeq (o1 : OD) (j : JDest) : RunsBody (.ijmpzLeq o1 j) := fun _ => rfl
theorem runsBody_ijmpa (o1 : OD) (j : JDest) : RunsBody (.ijmpa o1 j) := fun _ => rfl
theorem runsBody_djmpGtr (o1 : OD) (j : JDest) : RunsBody (.djmpGtr o1 j) := fun _ => rfl
theorem runsBody_djmpEql (o1 : OD) (j : JDest) : RunsBody (.djmpEql o1 j) := fun _ => rfl
theorem runsBody_djmpGeq (o1 : OD) (j : JDest) : RunsBody (.djmpGeq o1 j) := fun _ => rfl
theorem runsBody_djmpLss (o1 : OD) (j : JDest) : RunsBody (.djmpLss o1 j) := fun _ => rfl
theorem runsBody_djmpNeq (o1 : OD) (j : JDest) : RunsBody (.djmpNeq o1 j) := fun _ => rfl
theorem runsBody_djmpLeq (o1 : OD) (j : JDest) : RunsBody (.djmpLeq o1 j) := fun _ => rfl
theorem runsBody_djmpzGtr (o1 : OD) (j : JDest) : RunsBody (.djmpzGtr o1 j) := fun _ => rfl
theorem runsBody_djmpzEql (o1 : OD) (j : JDest) : RunsBody (.djmpzEql o1 j) := fun _ => rfl
theorem runsBody_djmpzGeq (o1 : OD) (j : JDest) : RunsBody (.djmpzGeq o1 j) := fun _ => rfl
theorem runsBody_djmpzLss (o1 : OD) (j : JDest) : RunsBody (.djmpzLss o1 j) := fun _ => rfl
theorem runsBody_djmpzNeq (o1 : OD) (j : JDest) : RunsBody (.djmpzNeq o1 j) := fun _ => rfl
theorem runsBody_djmpzLeq (o1 : OD) (j : JDest) : RunsBody (.djmpzLeq o1 j) := fun _ => rfl
theorem runsBody_djmpa (o1 : OD) (j : JDest) : RunsBody (.djmpa o1 j) := fun _ => rfl
theorem runsBody_bndtrpBQ (o1 o2 : OD) : RunsBody (.bndtrpBQ o1 o2) := fun _ => rfl
theorem runsBody_bndtrpBH (o1 o2 : OD) : RunsBody (.bndtrpBH o1 o2) := fun _ => rfl
theorem runsBody_bndtrpBS (o1 o2 : OD) : RunsBody (.bndtrpBS o1 o2) := fun _ => rfl
theorem runsBody_bndtrpBD (o1 o2 : OD) : RunsBody (.bndtrpBD o1 o2) := fun _ => rfl
theorem runsBody_bndtrpMinQ (o1 o2 : OD) : RunsBody (.bndtrpMinQ o1 o2) := fun _ => rfl
theorem runsBody_bndtrpMinH (o1 o2 : OD) : RunsBody (.bndtrpMinH o1 o2) := fun _ => rfl
theorem runsBody_bndtrpMinS (o1 o2 : OD) : RunsBody (.bndtrpMinS o1 o2) := fun _ => rfl
theorem runsBody_bndtrpMinD (o1 o2 : OD) : RunsBody (.bndtrpMinD o1 o2) := fun _ => rfl
theorem runsBody_bndtrpM1Q (o1 o2 : OD) : RunsBody (.bndtrpM1Q o1 o2) := fun _ => rfl
theorem runsBody_bndtrpM1H (o1 o2 : OD) : RunsBody (.bndtrpM1H o1 o2) := fun _ => rfl
theorem runsBody_bndtrpM1S (o1 o2 : OD) : RunsBody (.bndtrpM1S o1 o2) := fun _ => rfl
theorem runsBody_bndtrpM1D (o1 o2 : OD) : RunsBody (.bndtrpM1D o1 o2) := fun _ => rfl
theorem runsBody_bndtrp0Q (o1 o2 : OD) : RunsBody (.bndtrp0Q o1 o2) := fun _ => rfl
theorem runsBody_bndtrp0H (o1 o2 : OD) : RunsBody (.bndtrp0H o1 o2) := fun _ => rfl
theorem runsBody_bndtrp0S (o1 o2 : OD) : RunsBody (.bndtrp0S o1 o2) := fun _ => rfl
theorem runsBody_bndtrp0D (o1 o2 : OD) : RunsBody (.bndtrp0D o1 o2) := fun _ => rfl
theorem runsBody_bndtrp1Q (o1 o2 : OD) : RunsBody (.bndtrp1Q o1 o2) := fun _ => rfl
theorem runsBody_bndtrp1H (o1 o2 : OD) : RunsBody (.bndtrp1H o1 o2) := fun _ => rfl
theorem runsBody_bndtrp1S (o1 o2 : OD) : RunsBody (.bndtrp1S o1 o2) := fun _ => rfl
theorem runsBody_bndtrp1D (o1 o2 : OD) : RunsBody (.bndtrp1D o1 o2) := fun _ => rfl
theorem runsBody_jpatch (disp : BitVec 24) : RunsBody (.jpatch disp) := fun _ => rfl
theorem runsBody_jsr (o1 : OD) (j : JDest) : RunsBody (.jsr o1 j) := fun _ => rfl
theorem runsBody_jcr (o1 o2 : OD) : RunsBody (.jcr o1 o2) := fun _ => rfl
theorem runsBody_alloc1 (o1 o2 : OD) : RunsBody (.alloc1 o1 o2) := fun _ => rfl
theorem runsBody_alloc2 (o1 o2 : OD) : RunsBody (.alloc2 o1 o2) := fun _ => rfl
theorem runsBody_alloc3 (o1 o2 : OD) : RunsBody (.alloc3 o1 o2) := fun _ => rfl
theorem runsBody_alloc4 (o1 o2 : OD) : RunsBody (.alloc4 o1 o2) := fun _ => rfl
theorem runsBody_alloc5 (o1 o2 : OD) : RunsBody (.alloc5 o1 o2) := fun _ => rfl
theorem runsBody_alloc6 (o1 o2 : OD) : RunsBody (.alloc6 o1 o2) := fun _ => rfl
theorem runsBody_alloc7 (o1 o2 : OD) : RunsBody (.alloc7 o1 o2) := fun _ => rfl
theorem runsBody_alloc8 (o1 o2 : OD) : RunsBody (.alloc8 o1 o2) := fun _ => rfl
theorem runsBody_alloc9 (o1 o2 : OD) : RunsBody (.alloc9 o1 o2) := fun _ => rfl
theorem runsBody_alloc10 (o1 o2 : OD) : RunsBody (.alloc10 o1 o2) := fun _ => rfl
theorem runsBody_alloc11 (o1 o2 : OD) : RunsBody (.alloc11 o1 o2) := fun _ => rfl
theorem runsBody_alloc12 (o1 o2 : OD) : RunsBody (.alloc12 o1 o2) := fun _ => rfl
theorem runsBody_alloc13 (o1 o2 : OD) : RunsBody (.alloc13 o1 o2) := fun _ => rfl
theorem runsBody_alloc14 (o1 o2 : OD) : RunsBody (.alloc14 o1 o2) := fun _ => rfl
theorem runsBody_alloc15 (o1 o2 : OD) : RunsBody (.alloc15 o1 o2) := fun _ => rfl
theorem runsBody_alloc16 (o1 o2 : OD) : RunsBody (.alloc16 o1 o2) := fun _ => rfl
theorem runsBody_alloc17 (o1 o2 : OD) : RunsBody (.alloc17 o1 o2) := fun _ => rfl
theorem runsBody_alloc18 (o1 o2 : OD) : RunsBody (.alloc18 o1 o2) := fun _ => rfl
theorem runsBody_alloc19 (o1 o2 : OD) : RunsBody (.alloc19 o1 o2) := fun _ => rfl
theorem runsBody_alloc20 (o1 o2 : OD) : RunsBody (.alloc20 o1 o2) := fun _ => rfl
theorem runsBody_alloc21 (o1 o2 : OD) : RunsBody (.alloc21 o1 o2) := fun _ => rfl
theorem runsBody_alloc22 (o1 o2 : OD) : RunsBody (.alloc22 o1 o2) := fun _ => rfl
theorem runsBody_alloc23 (o1 o2 : OD) : RunsBody (.alloc23 o1 o2) := fun _ => rfl
theorem runsBody_alloc24 (o1 o2 : OD) : RunsBody (.alloc24 o1 o2) := fun _ => rfl
theorem runsBody_alloc25 (o1 o2 : OD) : RunsBody (.alloc25 o1 o2) := fun _ => rfl
theorem runsBody_alloc26 (o1 o2 : OD) : RunsBody (.alloc26 o1 o2) := fun _ => rfl
theorem runsBody_alloc27 (o1 o2 : OD) : RunsBody (.alloc27 o1 o2) := fun _ => rfl
theorem runsBody_alloc28 (o1 o2 : OD) : RunsBody (.alloc28 o1 o2) := fun _ => rfl
theorem runsBody_alloc29 (o1 o2 : OD) : RunsBody (.alloc29 o1 o2) := fun _ => rfl
theorem runsBody_alloc30 (o1 o2 : OD) : RunsBody (.alloc30 o1 o2) := fun _ => rfl
theorem runsBody_alloc31 (o1 o2 : OD) : RunsBody (.alloc31 o1 o2) := fun _ => rfl
theorem runsBody_alloc32 (o1 o2 : OD) : RunsBody (.alloc32 o1 o2) := fun _ => rfl
theorem runsBody_retsr (o1 o2 : OD) : RunsBody (.retsr o1 o2) := fun _ => rfl
theorem runsBody_ret (o1 o2 : OD) : RunsBody (.ret o1 o2) := fun _ => rfl
theorem runsBody_retus (o1 o2 : OD) : RunsBody (.retus o1 o2) := fun _ => rfl
theorem runsBody_retfs (o1 o2 : OD) : RunsBody (.retfs o1 o2) := fun _ => rfl
theorem runsBody_trpslf0 (o1 o2 : OD) : RunsBody (.trpslf0 o1 o2) := fun _ => rfl
theorem runsBody_trpslf1 (o1 o2 : OD) : RunsBody (.trpslf1 o1 o2) := fun _ => rfl
theorem runsBody_trpslf2 (o1 o2 : OD) : RunsBody (.trpslf2 o1 o2) := fun _ => rfl
theorem runsBody_trpslf3 (o1 o2 : OD) : RunsBody (.trpslf3 o1 o2) := fun _ => rfl
theorem runsBody_trpslf4 (o1 o2 : OD) : RunsBody (.trpslf4 o1 o2) := fun _ => rfl
theorem runsBody_trpslf5 (o1 o2 : OD) : RunsBody (.trpslf5 o1 o2) := fun _ => rfl
theorem runsBody_trpslf6 (o1 o2 : OD) : RunsBody (.trpslf6 o1 o2) := fun _ => rfl
theorem runsBody_trpslf7 (o1 o2 : OD) : RunsBody (.trpslf7 o1 o2) := fun _ => rfl
theorem runsBody_trpslf8 (o1 o2 : OD) : RunsBody (.trpslf8 o1 o2) := fun _ => rfl
theorem runsBody_trpslf9 (o1 o2 : OD) : RunsBody (.trpslf9 o1 o2) := fun _ => rfl
theorem runsBody_trpslf10 (o1 o2 : OD) : RunsBody (.trpslf10 o1 o2) := fun _ => rfl
theorem runsBody_trpslf11 (o1 o2 : OD) : RunsBody (.trpslf11 o1 o2) := fun _ => rfl
theorem runsBody_trpslf12 (o1 o2 : OD) : RunsBody (.trpslf12 o1 o2) := fun _ => rfl
theorem runsBody_trpslf13 (o1 o2 : OD) : RunsBody (.trpslf13 o1 o2) := fun _ => rfl
theorem runsBody_trpslf14 (o1 o2 : OD) : RunsBody (.trpslf14 o1 o2) := fun _ => rfl
theorem runsBody_trpslf15 (o1 o2 : OD) : RunsBody (.trpslf15 o1 o2) := fun _ => rfl
theorem runsBody_trpslf16 (o1 o2 : OD) : RunsBody (.trpslf16 o1 o2) := fun _ => rfl
theorem runsBody_trpslf17 (o1 o2 : OD) : RunsBody (.trpslf17 o1 o2) := fun _ => rfl
theorem runsBody_trpslf18 (o1 o2 : OD) : RunsBody (.trpslf18 o1 o2) := fun _ => rfl
theorem runsBody_trpslf19 (o1 o2 : OD) : RunsBody (.trpslf19 o1 o2) := fun _ => rfl
theorem runsBody_trpslf20 (o1 o2 : OD) : RunsBody (.trpslf20 o1 o2) := fun _ => rfl
theorem runsBody_trpslf21 (o1 o2 : OD) : RunsBody (.trpslf21 o1 o2) := fun _ => rfl
theorem runsBody_trpslf22 (o1 o2 : OD) : RunsBody (.trpslf22 o1 o2) := fun _ => rfl
theorem runsBody_trpslf23 (o1 o2 : OD) : RunsBody (.trpslf23 o1 o2) := fun _ => rfl
theorem runsBody_trpslf24 (o1 o2 : OD) : RunsBody (.trpslf24 o1 o2) := fun _ => rfl
theorem runsBody_trpslf25 (o1 o2 : OD) : RunsBody (.trpslf25 o1 o2) := fun _ => rfl
theorem runsBody_trpslf26 (o1 o2 : OD) : RunsBody (.trpslf26 o1 o2) := fun _ => rfl
theorem runsBody_trpslf27 (o1 o2 : OD) : RunsBody (.trpslf27 o1 o2) := fun _ => rfl
theorem runsBody_trpslf28 (o1 o2 : OD) : RunsBody (.trpslf28 o1 o2) := fun _ => rfl
theorem runsBody_trpslf29 (o1 o2 : OD) : RunsBody (.trpslf29 o1 o2) := fun _ => rfl
theorem runsBody_trpslf30 (o1 o2 : OD) : RunsBody (.trpslf30 o1 o2) := fun _ => rfl
theorem runsBody_trpslf31 (o1 o2 : OD) : RunsBody (.trpslf31 o1 o2) := fun _ => rfl
theorem runsBody_trpslf32 (o1 o2 : OD) : RunsBody (.trpslf32 o1 o2) := fun _ => rfl
theorem runsBody_trpslf33 (o1 o2 : OD) : RunsBody (.trpslf33 o1 o2) := fun _ => rfl
theorem runsBody_trpslf34 (o1 o2 : OD) : RunsBody (.trpslf34 o1 o2) := fun _ => rfl
theorem runsBody_trpslf35 (o1 o2 : OD) : RunsBody (.trpslf35 o1 o2) := fun _ => rfl
theorem runsBody_trpslf36 (o1 o2 : OD) : RunsBody (.trpslf36 o1 o2) := fun _ => rfl
theorem runsBody_trpslf37 (o1 o2 : OD) : RunsBody (.trpslf37 o1 o2) := fun _ => rfl
theorem runsBody_trpslf38 (o1 o2 : OD) : RunsBody (.trpslf38 o1 o2) := fun _ => rfl
theorem runsBody_trpslf39 (o1 o2 : OD) : RunsBody (.trpslf39 o1 o2) := fun _ => rfl
theorem runsBody_trpslf40 (o1 o2 : OD) : RunsBody (.trpslf40 o1 o2) := fun _ => rfl
theorem runsBody_trpslf41 (o1 o2 : OD) : RunsBody (.trpslf41 o1 o2) := fun _ => rfl
theorem runsBody_trpslf42 (o1 o2 : OD) : RunsBody (.trpslf42 o1 o2) := fun _ => rfl
theorem runsBody_trpslf43 (o1 o2 : OD) : RunsBody (.trpslf43 o1 o2) := fun _ => rfl
theorem runsBody_trpslf44 (o1 o2 : OD) : RunsBody (.trpslf44 o1 o2) := fun _ => rfl
theorem runsBody_trpslf45 (o1 o2 : OD) : RunsBody (.trpslf45 o1 o2) := fun _ => rfl
theorem runsBody_trpslf46 (o1 o2 : OD) : RunsBody (.trpslf46 o1 o2) := fun _ => rfl
theorem runsBody_trpslf47 (o1 o2 : OD) : RunsBody (.trpslf47 o1 o2) := fun _ => rfl
theorem runsBody_trpslf48 (o1 o2 : OD) : RunsBody (.trpslf48 o1 o2) := fun _ => rfl
theorem runsBody_trpslf49 (o1 o2 : OD) : RunsBody (.trpslf49 o1 o2) := fun _ => rfl
theorem runsBody_trpslf50 (o1 o2 : OD) : RunsBody (.trpslf50 o1 o2) := fun _ => rfl
theorem runsBody_trpslf51 (o1 o2 : OD) : RunsBody (.trpslf51 o1 o2) := fun _ => rfl
theorem runsBody_trpslf52 (o1 o2 : OD) : RunsBody (.trpslf52 o1 o2) := fun _ => rfl
theorem runsBody_trpslf53 (o1 o2 : OD) : RunsBody (.trpslf53 o1 o2) := fun _ => rfl
theorem runsBody_trpslf54 (o1 o2 : OD) : RunsBody (.trpslf54 o1 o2) := fun _ => rfl
theorem runsBody_trpslf55 (o1 o2 : OD) : RunsBody (.trpslf55 o1 o2) := fun _ => rfl
theorem runsBody_trpslf56 (o1 o2 : OD) : RunsBody (.trpslf56 o1 o2) := fun _ => rfl
theorem runsBody_trpslf57 (o1 o2 : OD) : RunsBody (.trpslf57 o1 o2) := fun _ => rfl
theorem runsBody_trpslf58 (o1 o2 : OD) : RunsBody (.trpslf58 o1 o2) := fun _ => rfl
theorem runsBody_trpslf59 (o1 o2 : OD) : RunsBody (.trpslf59 o1 o2) := fun _ => rfl
theorem runsBody_trpslf60 (o1 o2 : OD) : RunsBody (.trpslf60 o1 o2) := fun _ => rfl
theorem runsBody_trpslf61 (o1 o2 : OD) : RunsBody (.trpslf61 o1 o2) := fun _ => rfl
theorem runsBody_trpslf62 (o1 o2 : OD) : RunsBody (.trpslf62 o1 o2) := fun _ => rfl
theorem runsBody_trpslf63 (o1 o2 : OD) : RunsBody (.trpslf63 o1 o2) := fun _ => rfl
theorem runsBody_trpexe0 (o1 o2 : OD) : RunsBody (.trpexe0 o1 o2) := fun _ => rfl
theorem runsBody_trpexe1 (o1 o2 : OD) : RunsBody (.trpexe1 o1 o2) := fun _ => rfl
theorem runsBody_trpexe2 (o1 o2 : OD) : RunsBody (.trpexe2 o1 o2) := fun _ => rfl
theorem runsBody_trpexe3 (o1 o2 : OD) : RunsBody (.trpexe3 o1 o2) := fun _ => rfl
theorem runsBody_trpexe4 (o1 o2 : OD) : RunsBody (.trpexe4 o1 o2) := fun _ => rfl
theorem runsBody_trpexe5 (o1 o2 : OD) : RunsBody (.trpexe5 o1 o2) := fun _ => rfl
theorem runsBody_trpexe6 (o1 o2 : OD) : RunsBody (.trpexe6 o1 o2) := fun _ => rfl
theorem runsBody_trpexe7 (o1 o2 : OD) : RunsBody (.trpexe7 o1 o2) := fun _ => rfl
theorem runsBody_trpexe8 (o1 o2 : OD) : RunsBody (.trpexe8 o1 o2) := fun _ => rfl
theorem runsBody_trpexe9 (o1 o2 : OD) : RunsBody (.trpexe9 o1 o2) := fun _ => rfl
theorem runsBody_trpexe10 (o1 o2 : OD) : RunsBody (.trpexe10 o1 o2) := fun _ => rfl
theorem runsBody_trpexe11 (o1 o2 : OD) : RunsBody (.trpexe11 o1 o2) := fun _ => rfl
theorem runsBody_trpexe12 (o1 o2 : OD) : RunsBody (.trpexe12 o1 o2) := fun _ => rfl
theorem runsBody_trpexe13 (o1 o2 : OD) : RunsBody (.trpexe13 o1 o2) := fun _ => rfl
theorem runsBody_trpexe14 (o1 o2 : OD) : RunsBody (.trpexe14 o1 o2) := fun _ => rfl
theorem runsBody_trpexe15 (o1 o2 : OD) : RunsBody (.trpexe15 o1 o2) := fun _ => rfl
theorem runsBody_trpexe16 (o1 o2 : OD) : RunsBody (.trpexe16 o1 o2) := fun _ => rfl
theorem runsBody_trpexe17 (o1 o2 : OD) : RunsBody (.trpexe17 o1 o2) := fun _ => rfl
theorem runsBody_trpexe18 (o1 o2 : OD) : RunsBody (.trpexe18 o1 o2) := fun _ => rfl
theorem runsBody_trpexe19 (o1 o2 : OD) : RunsBody (.trpexe19 o1 o2) := fun _ => rfl
theorem runsBody_trpexe20 (o1 o2 : OD) : RunsBody (.trpexe20 o1 o2) := fun _ => rfl
theorem runsBody_trpexe21 (o1 o2 : OD) : RunsBody (.trpexe21 o1 o2) := fun _ => rfl
theorem runsBody_trpexe22 (o1 o2 : OD) : RunsBody (.trpexe22 o1 o2) := fun _ => rfl
theorem runsBody_trpexe23 (o1 o2 : OD) : RunsBody (.trpexe23 o1 o2) := fun _ => rfl
theorem runsBody_trpexe24 (o1 o2 : OD) : RunsBody (.trpexe24 o1 o2) := fun _ => rfl
theorem runsBody_trpexe25 (o1 o2 : OD) : RunsBody (.trpexe25 o1 o2) := fun _ => rfl
theorem runsBody_trpexe26 (o1 o2 : OD) : RunsBody (.trpexe26 o1 o2) := fun _ => rfl
theorem runsBody_trpexe27 (o1 o2 : OD) : RunsBody (.trpexe27 o1 o2) := fun _ => rfl
theorem runsBody_trpexe28 (o1 o2 : OD) : RunsBody (.trpexe28 o1 o2) := fun _ => rfl
theorem runsBody_trpexe29 (o1 o2 : OD) : RunsBody (.trpexe29 o1 o2) := fun _ => rfl
theorem runsBody_trpexe30 (o1 o2 : OD) : RunsBody (.trpexe30 o1 o2) := fun _ => rfl
theorem runsBody_trpexe31 (o1 o2 : OD) : RunsBody (.trpexe31 o1 o2) := fun _ => rfl
theorem runsBody_trpexe32 (o1 o2 : OD) : RunsBody (.trpexe32 o1 o2) := fun _ => rfl
theorem runsBody_trpexe33 (o1 o2 : OD) : RunsBody (.trpexe33 o1 o2) := fun _ => rfl
theorem runsBody_trpexe34 (o1 o2 : OD) : RunsBody (.trpexe34 o1 o2) := fun _ => rfl
theorem runsBody_trpexe35 (o1 o2 : OD) : RunsBody (.trpexe35 o1 o2) := fun _ => rfl
theorem runsBody_trpexe36 (o1 o2 : OD) : RunsBody (.trpexe36 o1 o2) := fun _ => rfl
theorem runsBody_trpexe37 (o1 o2 : OD) : RunsBody (.trpexe37 o1 o2) := fun _ => rfl
theorem runsBody_trpexe38 (o1 o2 : OD) : RunsBody (.trpexe38 o1 o2) := fun _ => rfl
theorem runsBody_trpexe39 (o1 o2 : OD) : RunsBody (.trpexe39 o1 o2) := fun _ => rfl
theorem runsBody_trpexe40 (o1 o2 : OD) : RunsBody (.trpexe40 o1 o2) := fun _ => rfl
theorem runsBody_trpexe41 (o1 o2 : OD) : RunsBody (.trpexe41 o1 o2) := fun _ => rfl
theorem runsBody_trpexe42 (o1 o2 : OD) : RunsBody (.trpexe42 o1 o2) := fun _ => rfl
theorem runsBody_trpexe43 (o1 o2 : OD) : RunsBody (.trpexe43 o1 o2) := fun _ => rfl
theorem runsBody_trpexe44 (o1 o2 : OD) : RunsBody (.trpexe44 o1 o2) := fun _ => rfl
theorem runsBody_trpexe45 (o1 o2 : OD) : RunsBody (.trpexe45 o1 o2) := fun _ => rfl
theorem runsBody_trpexe46 (o1 o2 : OD) : RunsBody (.trpexe46 o1 o2) := fun _ => rfl
theorem runsBody_trpexe47 (o1 o2 : OD) : RunsBody (.trpexe47 o1 o2) := fun _ => rfl
theorem runsBody_trpexe48 (o1 o2 : OD) : RunsBody (.trpexe48 o1 o2) := fun _ => rfl
theorem runsBody_trpexe49 (o1 o2 : OD) : RunsBody (.trpexe49 o1 o2) := fun _ => rfl
theorem runsBody_trpexe50 (o1 o2 : OD) : RunsBody (.trpexe50 o1 o2) := fun _ => rfl
theorem runsBody_trpexe51 (o1 o2 : OD) : RunsBody (.trpexe51 o1 o2) := fun _ => rfl
theorem runsBody_trpexe52 (o1 o2 : OD) : RunsBody (.trpexe52 o1 o2) := fun _ => rfl
theorem runsBody_trpexe53 (o1 o2 : OD) : RunsBody (.trpexe53 o1 o2) := fun _ => rfl
theorem runsBody_trpexe54 (o1 o2 : OD) : RunsBody (.trpexe54 o1 o2) := fun _ => rfl
theorem runsBody_trpexe55 (o1 o2 : OD) : RunsBody (.trpexe55 o1 o2) := fun _ => rfl
theorem runsBody_trpexe56 (o1 o2 : OD) : RunsBody (.trpexe56 o1 o2) := fun _ => rfl
theorem runsBody_trpexe57 (o1 o2 : OD) : RunsBody (.trpexe57 o1 o2) := fun _ => rfl
theorem runsBody_trpexe58 (o1 o2 : OD) : RunsBody (.trpexe58 o1 o2) := fun _ => rfl
theorem runsBody_trpexe59 (o1 o2 : OD) : RunsBody (.trpexe59 o1 o2) := fun _ => rfl
theorem runsBody_trpexe60 (o1 o2 : OD) : RunsBody (.trpexe60 o1 o2) := fun _ => rfl
theorem runsBody_trpexe61 (o1 o2 : OD) : RunsBody (.trpexe61 o1 o2) := fun _ => rfl
theorem runsBody_trpexe62 (o1 o2 : OD) : RunsBody (.trpexe62 o1 o2) := fun _ => rfl
theorem runsBody_trpexe63 (o1 o2 : OD) : RunsBody (.trpexe63 o1 o2) := fun _ => rfl
theorem runsBody_adjspUp (o1 o2 : OD) : RunsBody (.adjspUp o1 o2) := fun _ => rfl
theorem runsBody_adjspDn (o1 o2 : OD) : RunsBody (.adjspDn o1 o2) := fun _ => rfl
theorem runsBody_pushUpQ (o1 o2 : OD) : RunsBody (.pushUpQ o1 o2) := fun _ => rfl
theorem runsBody_pushUpH (o1 o2 : OD) : RunsBody (.pushUpH o1 o2) := fun _ => rfl
theorem runsBody_pushUpS (o1 o2 : OD) : RunsBody (.pushUpS o1 o2) := fun _ => rfl
theorem runsBody_pushUpD (o1 o2 : OD) : RunsBody (.pushUpD o1 o2) := fun _ => rfl
theorem runsBody_pushDnQ (o1 o2 : OD) : RunsBody (.pushDnQ o1 o2) := fun _ => rfl
theorem runsBody_pushDnH (o1 o2 : OD) : RunsBody (.pushDnH o1 o2) := fun _ => rfl
theorem runsBody_pushDnS (o1 o2 : OD) : RunsBody (.pushDnS o1 o2) := fun _ => rfl
theorem runsBody_pushDnD (o1 o2 : OD) : RunsBody (.pushDnD o1 o2) := fun _ => rfl
theorem runsBody_popUpQ (o1 o2 : OD) : RunsBody (.popUpQ o1 o2) := fun _ => rfl
theorem runsBody_popUpH (o1 o2 : OD) : RunsBody (.popUpH o1 o2) := fun _ => rfl
theorem runsBody_popUpS (o1 o2 : OD) : RunsBody (.popUpS o1 o2) := fun _ => rfl
theorem runsBody_popUpD (o1 o2 : OD) : RunsBody (.popUpD o1 o2) := fun _ => rfl
theorem runsBody_popDnQ (o1 o2 : OD) : RunsBody (.popDnQ o1 o2) := fun _ => rfl
theorem runsBody_popDnH (o1 o2 : OD) : RunsBody (.popDnH o1 o2) := fun _ => rfl
theorem runsBody_popDnS (o1 o2 : OD) : RunsBody (.popDnS o1 o2) := fun _ => rfl
theorem runsBody_popDnD (o1 o2 : OD) : RunsBody (.popDnD o1 o2) := fun _ => rfl
theorem runsBody_lbytS (o1 o2 : OD) : RunsBody (.lbytS o1 o2) := fun _ => rfl
theorem runsBody_lbytD (o1 o2 : OD) : RunsBody (.lbytD o1 o2) := fun _ => rfl
theorem runsBody_libytS (t : TMode) (o1 o2 : OD) : RunsBody (.libytS t o1 o2) := fun _ => rfl
theorem runsBody_libytD (t : TMode) (o1 o2 : OD) : RunsBody (.libytD t o1 o2) := fun _ => rfl
theorem runsBody_lsbytS (o1 o2 : OD) : RunsBody (.lsbytS o1 o2) := fun _ => rfl
theorem runsBody_lsbytD (o1 o2 : OD) : RunsBody (.lsbytD o1 o2) := fun _ => rfl
theorem runsBody_lisbytS (t : TMode) (o1 o2 : OD) : RunsBody (.lisbytS t o1 o2) := fun _ => rfl
theorem runsBody_lisbytD (t : TMode) (o1 o2 : OD) : RunsBody (.lisbytD t o1 o2) := fun _ => rfl
theorem runsBody_dbytS (o1 o2 : OD) : RunsBody (.dbytS o1 o2) := fun _ => rfl
theorem runsBody_dbytD (o1 o2 : OD) : RunsBody (.dbytD o1 o2) := fun _ => rfl
theorem runsBody_dibytS (t : TMode) (o1 o2 : OD) : RunsBody (.dibytS t o1 o2) := fun _ => rfl
theorem runsBody_dibytD (t : TMode) (o1 o2 : OD) : RunsBody (.dibytD t o1 o2) := fun _ => rfl
theorem runsBody_adjbpS (t : TMode) (o1 o2 : OD) : RunsBody (.adjbpS t o1 o2) := fun _ => rfl
theorem runsBody_adjbpD (t : TMode) (o1 o2 : OD) : RunsBody (.adjbpD t o1 o2) := fun _ => rfl
theorem runsBody_bitrvQ (t : TMode) (o1 o2 : OD) : RunsBody (.bitrvQ t o1 o2) := fun _ => rfl
theorem runsBody_bitrvH (t : TMode) (o1 o2 : OD) : RunsBody (.bitrvH t o1 o2) := fun _ => rfl
theorem runsBody_bitrvS (t : TMode) (o1 o2 : OD) : RunsBody (.bitrvS t o1 o2) := fun _ => rfl
theorem runsBody_bitrvD (t : TMode) (o1 o2 : OD) : RunsBody (.bitrvD t o1 o2) := fun _ => rfl
theorem runsBody_bitrvvQ (t : TMode) (o1 o2 : OD) : RunsBody (.bitrvvQ t o1 o2) := fun _ => rfl
theorem runsBody_bitrvvH (t : TMode) (o1 o2 : OD) : RunsBody (.bitrvvH t o1 o2) := fun _ => rfl
theorem runsBody_bitrvvS (t : TMode) (o1 o2 : OD) : RunsBody (.bitrvvS t o1 o2) := fun _ => rfl
theorem runsBody_bitrvvD (t : TMode) (o1 o2 : OD) : RunsBody (.bitrvvD t o1 o2) := fun _ => rfl
theorem runsBody_bitexQ (t : TMode) (o1 o2 : OD) : RunsBody (.bitexQ t o1 o2) := fun _ => rfl
theorem runsBody_bitexH (t : TMode) (o1 o2 : OD) : RunsBody (.bitexH t o1 o2) := fun _ => rfl
theorem runsBody_bitexS (t : TMode) (o1 o2 : OD) : RunsBody (.bitexS t o1 o2) := fun _ => rfl
theorem runsBody_bitexD (t : TMode) (o1 o2 : OD) : RunsBody (.bitexD t o1 o2) := fun _ => rfl
theorem runsBody_bitexvQ (t : TMode) (o1 o2 : OD) : RunsBody (.bitexvQ t o1 o2) := fun _ => rfl
theorem runsBody_bitexvH (t : TMode) (o1 o2 : OD) : RunsBody (.bitexvH t o1 o2) := fun _ => rfl
theorem runsBody_bitexvS (t : TMode) (o1 o2 : OD) : RunsBody (.bitexvS t o1 o2) := fun _ => rfl
theorem runsBody_bitexvD (t : TMode) (o1 o2 : OD) : RunsBody (.bitexvD t o1 o2) := fun _ => rfl
theorem runsBody_bitcntQ (o1 o2 : OD) : RunsBody (.bitcntQ o1 o2) := fun _ => rfl
theorem runsBody_bitcntH (o1 o2 : OD) : RunsBody (.bitcntH o1 o2) := fun _ => rfl
theorem runsBody_bitcntS (o1 o2 : OD) : RunsBody (.bitcntS o1 o2) := fun _ => rfl
theorem runsBody_bitcntD (o1 o2 : OD) : RunsBody (.bitcntD o1 o2) := fun _ => rfl
theorem runsBody_bitfstQ (o1 o2 : OD) : RunsBody (.bitfstQ o1 o2) := fun _ => rfl
theorem runsBody_bitfstH (o1 o2 : OD) : RunsBody (.bitfstH o1 o2) := fun _ => rfl
theorem runsBody_bitfstS (o1 o2 : OD) : RunsBody (.bitfstS o1 o2) := fun _ => rfl
theorem runsBody_bitfstD (o1 o2 : OD) : RunsBody (.bitfstD o1 o2) := fun _ => rfl
theorem runsBody_strcmpRta (o1 o2 : OD) : RunsBody (.strcmpRta o1 o2) := fun _ => rfl
theorem runsBody_strcmpRtb (o1 o2 : OD) : RunsBody (.strcmpRtb o1 o2) := fun _ => rfl
theorem runsBody_blkmovRta (o1 o2 : OD) : RunsBody (.blkmovRta o1 o2) := fun _ => rfl
theorem runsBody_blkmovRtb (o1 o2 : OD) : RunsBody (.blkmovRtb o1 o2) := fun _ => rfl
theorem runsBody_blkiniRtaQ (o1 o2 : OD) : RunsBody (.blkiniRtaQ o1 o2) := fun _ => rfl
theorem runsBody_blkiniRtaH (o1 o2 : OD) : RunsBody (.blkiniRtaH o1 o2) := fun _ => rfl
theorem runsBody_blkiniRtaS (o1 o2 : OD) : RunsBody (.blkiniRtaS o1 o2) := fun _ => rfl
theorem runsBody_blkiniRtaD (o1 o2 : OD) : RunsBody (.blkiniRtaD o1 o2) := fun _ => rfl
theorem runsBody_blkiniRtbQ (o1 o2 : OD) : RunsBody (.blkiniRtbQ o1 o2) := fun _ => rfl
theorem runsBody_blkiniRtbH (o1 o2 : OD) : RunsBody (.blkiniRtbH o1 o2) := fun _ => rfl
theorem runsBody_blkiniRtbS (o1 o2 : OD) : RunsBody (.blkiniRtbS o1 o2) := fun _ => rfl
theorem runsBody_blkiniRtbD (o1 o2 : OD) : RunsBody (.blkiniRtbD o1 o2) := fun _ => rfl
theorem runsBody_blkidRta (o1 o2 : OD) : RunsBody (.blkidRta o1 o2) := fun _ => rfl
theorem runsBody_blkidRtb (o1 o2 : OD) : RunsBody (.blkidRtb o1 o2) := fun _ => rfl
theorem runsBody_blkdiRta (o1 o2 : OD) : RunsBody (.blkdiRta o1 o2) := fun _ => rfl
theorem runsBody_blkdiRtb (o1 o2 : OD) : RunsBody (.blkdiRtb o1 o2) := fun _ => rfl
theorem runsBody_rus (o1 o2 : OD) : RunsBody (.rus o1 o2) := fun _ => rfl
theorem runsBody_jusclrNon (o1 : OD) (j : JDest) : RunsBody (.jusclrNon o1 j) := fun _ => rfl
theorem runsBody_jusclrAll (o1 : OD) (j : JDest) : RunsBody (.jusclrAll o1 j) := fun _ => rfl
theorem runsBody_jusclrNal (o1 : OD) (j : JDest) : RunsBody (.jusclrNal o1 j) := fun _ => rfl
theorem runsBody_jusclrAny (o1 : OD) (j : JDest) : RunsBody (.jusclrAny o1 j) := fun _ => rfl
theorem runsBody_jusNon (o1 : OD) (j : JDest) : RunsBody (.jusNon o1 j) := fun _ => rfl
theorem runsBody_jusAll (o1 : OD) (j : JDest) : RunsBody (.jusAll o1 j) := fun _ => rfl
theorem runsBody_jusNal (o1 : OD) (j : JDest) : RunsBody (.jusNal o1 j) := fun _ => rfl
theorem runsBody_jusAny (o1 : OD) (j : JDest) : RunsBody (.jusAny o1 j) := fun _ => rfl
theorem runsBody_wusjmp (o1 : OD) (j : JDest) : RunsBody (.wusjmp o1 j) := fun _ => rfl
theorem runsBody_setus (o1 o2 : OD) : RunsBody (.setus o1 o2) := fun _ => rfl
theorem runsBody_clrus (o1 o2 : OD) : RunsBody (.clrus o1 o2) := fun _ => rfl
theorem runsBody_rspid (o1 o2 : OD) : RunsBody (.rspid o1 o2) := fun _ => rfl
theorem runsBody_wspid (o1 o2 : OD) : RunsBody (.wspid o1 o2) := fun _ => rfl
theorem runsBody_rrndmd (o1 o2 : OD) : RunsBody (.rrndmd o1 o2) := fun _ => rfl
theorem runsBody_wrndmd (o1 o2 : OD) : RunsBody (.wrndmd o1 o2) := fun _ => rfl
theorem runsBody_rps (o1 o2 : OD) : RunsBody (.rps o1 o2) := fun _ => rfl
theorem runsBody_wfsjmp (o1 : OD) (j : JDest) : RunsBody (.wfsjmp o1 j) := fun _ => rfl
theorem runsBody_rcfile (o1 o2 : OD) : RunsBody (.rcfile o1 o2) := fun _ => rfl
theorem runsBody_wcfile (o1 o2 : OD) : RunsBody (.wcfile o1 o2) := fun _ => rfl
theorem runsBody_rpfile (o1 o2 : OD) : RunsBody (.rpfile o1 o2) := fun _ => rfl
theorem runsBody_wpfile (o1 o2 : OD) : RunsBody (.wpfile o1 o2) := fun _ => rfl
theorem runsBody_rpid (o1 o2 : OD) : RunsBody (.rpid o1 o2) := fun _ => rfl
theorem runsBody_swpicRtaV (o1 o2 : OD) : RunsBody (.swpicRtaV o1 o2) := fun _ => rfl
theorem runsBody_swpicRtaP (o1 o2 : OD) : RunsBody (.swpicRtaP o1 o2) := fun _ => rfl
theorem runsBody_swpicRtbV (o1 o2 : OD) : RunsBody (.swpicRtbV o1 o2) := fun _ => rfl
theorem runsBody_swpicRtbP (o1 o2 : OD) : RunsBody (.swpicRtbP o1 o2) := fun _ => rfl
theorem runsBody_swpdcRtaVU (o1 o2 : OD) : RunsBody (.swpdcRtaVU o1 o2) := fun _ => rfl
theorem runsBody_swpdcRtaVUk (o1 o2 : OD) : RunsBody (.swpdcRtaVUk o1 o2) := fun _ => rfl
theorem runsBody_swpdcRtaPU (o1 o2 : OD) : RunsBody (.swpdcRtaPU o1 o2) := fun _ => rfl
theorem runsBody_swpdcRtaPUk (o1 o2 : OD) : RunsBody (.swpdcRtaPUk o1 o2) := fun _ => rfl
theorem runsBody_swpdcRtbVU (o1 o2 : OD) : RunsBody (.swpdcRtbVU o1 o2) := fun _ => rfl
theorem runsBody_swpdcRtbVUk (o1 o2 : OD) : RunsBody (.swpdcRtbVUk o1 o2) := fun _ => rfl
theorem runsBody_swpdcRtbPU (o1 o2 : OD) : RunsBody (.swpdcRtbPU o1 o2) := fun _ => rfl
theorem runsBody_swpdcRtbPUk (o1 o2 : OD) : RunsBody (.swpdcRtbPUk o1 o2) := fun _ => rfl
theorem runsBody_swpimE (o1 o2 : OD) : RunsBody (.swpimE o1 o2) := fun _ => rfl
theorem runsBody_swpimU (o1 o2 : OD) : RunsBody (.swpimU o1 o2) := fun _ => rfl
theorem runsBody_swpdmE (o1 o2 : OD) : RunsBody (.swpdmE o1 o2) := fun _ => rfl
theorem runsBody_swpdmU (o1 o2 : OD) : RunsBody (.swpdmU o1 o2) := fun _ => rfl
theorem runsBody_wupjmp (o1 : OD) (j : JDest) : RunsBody (.wupjmp o1 j) := fun _ => rfl
theorem runsBody_wepjmp (o1 : OD) (j : JDest) : RunsBody (.wepjmp o1 j) := fun _ => rfl
theorem runsBody_rien (o1 o2 : OD) : RunsBody (.rien o1 o2) := fun _ => rfl
theorem runsBody_wien (o1 o2 : OD) : RunsBody (.wien o1 o2) := fun _ => rfl
theorem runsBody_sien (o1 o2 : OD) : RunsBody (.sien o1 o2) := fun _ => rfl
theorem runsBody_cien (o1 o2 : OD) : RunsBody (.cien o1 o2) := fun _ => rfl
theorem runsBody_ripnd (o1 o2 : OD) : RunsBody (.ripnd o1 o2) := fun _ => rfl
theorem runsBody_wipnd (o1 o2 : OD) : RunsBody (.wipnd o1 o2) := fun _ => rfl
theorem runsBody_sipnd (o1 o2 : OD) : RunsBody (.sipnd o1 o2) := fun _ => rfl
theorem runsBody_cipnd (o1 o2 : OD) : RunsBody (.cipnd o1 o2) := fun _ => rfl
theorem runsBody_ripar (o1 o2 : OD) : RunsBody (.ripar o1 o2) := fun _ => rfl
theorem runsBody_wipar (o1 o2 : OD) : RunsBody (.wipar o1 o2) := fun _ => rfl
theorem runsBody_blkiorRtaB (o1 o2 : OD) : RunsBody (.blkiorRtaB o1 o2) := fun _ => rfl
theorem runsBody_blkiorRtaQ (o1 o2 : OD) : RunsBody (.blkiorRtaQ o1 o2) := fun _ => rfl
theorem runsBody_blkiorRtaH (o1 o2 : OD) : RunsBody (.blkiorRtaH o1 o2) := fun _ => rfl
theorem runsBody_blkiorRtaS (o1 o2 : OD) : RunsBody (.blkiorRtaS o1 o2) := fun _ => rfl
theorem runsBody_blkiorRtbB (o1 o2 : OD) : RunsBody (.blkiorRtbB o1 o2) := fun _ => rfl
theorem runsBody_blkiorRtbQ (o1 o2 : OD) : RunsBody (.blkiorRtbQ o1 o2) := fun _ => rfl
theorem runsBody_blkiorRtbH (o1 o2 : OD) : RunsBody (.blkiorRtbH o1 o2) := fun _ => rfl
theorem runsBody_blkiorRtbS (o1 o2 : OD) : RunsBody (.blkiorRtbS o1 o2) := fun _ => rfl
theorem runsBody_blkiowRtaB (o1 o2 : OD) : RunsBody (.blkiowRtaB o1 o2) := fun _ => rfl
theorem runsBody_blkiowRtaQ (o1 o2 : OD) : RunsBody (.blkiowRtaQ o1 o2) := fun _ => rfl
theorem runsBody_blkiowRtaH (o1 o2 : OD) : RunsBody (.blkiowRtaH o1 o2) := fun _ => rfl
theorem runsBody_blkiowRtaS (o1 o2 : OD) : RunsBody (.blkiowRtaS o1 o2) := fun _ => rfl
theorem runsBody_blkiowRtbB (o1 o2 : OD) : RunsBody (.blkiowRtbB o1 o2) := fun _ => rfl
theorem runsBody_blkiowRtbQ (o1 o2 : OD) : RunsBody (.blkiowRtbQ o1 o2) := fun _ => rfl
theorem runsBody_blkiowRtbH (o1 o2 : OD) : RunsBody (.blkiowRtbH o1 o2) := fun _ => rfl
theorem runsBody_blkiowRtbS (o1 o2 : OD) : RunsBody (.blkiowRtbS o1 o2) := fun _ => rfl
theorem runsBody_intiop (o1 o2 : OD) : RunsBody (.intiop o1 o2) := fun _ => rfl
theorem runsBody_rctr (o1 o2 : OD) : RunsBody (.rctr o1 o2) := fun _ => rfl
theorem runsBody_wctr (o1 o2 : OD) : RunsBody (.wctr o1 o2) := fun _ => rfl
theorem runsBody_rectr (o1 o2 : OD) : RunsBody (.rectr o1 o2) := fun _ => rfl
theorem runsBody_wectr (o1 o2 : OD) : RunsBody (.wectr o1 o2) := fun _ => rfl
theorem runsBody_nop (o1 o2 : OD) : RunsBody (.nop o1 o2) := fun _ => rfl
theorem runsBody_xct (o1 o2 : OD) : RunsBody (.xct o1 o2) := fun _ => rfl
theorem runsBody_rmw (t : TMode) (o1 o2 : OD) : RunsBody (.rmw t o1 o2) := fun _ => rfl
theorem runsBody_wait (o1 o2 : OD) : RunsBody (.wait o1 o2) := fun _ => rfl
theorem runsBody_halt (o1 : OD) (j : JDest) : RunsBody (.halt o1 j) := fun _ => rfl

/-- Every instruction runs its body from the tables of `perform`. -/
theorem exec_eq (i : Instr) : RunsBody i :=
  Instr.casesOn (motive := RunsBody) i
    runsBody_addQ runsBody_addH runsBody_addS runsBody_addD runsBody_addcQ runsBody_addcH runsBody_addcS
    runsBody_addcD runsBody_subQ runsBody_subH runsBody_subS runsBody_subD runsBody_subvQ runsBody_subvH
    runsBody_subvS runsBody_subvD runsBody_subcQ runsBody_subcH runsBody_subcS runsBody_subcD runsBody_subcvQ
    runsBody_subcvH runsBody_subcvS runsBody_subcvD runsBody_multQ runsBody_multH runsBody_multS runsBody_multD
    runsBody_multlQ runsBody_multlH runsBody_multlS runsBody_quoQ runsBody_quoH runsBody_quoS runsBody_quoD
    runsBody_quovQ runsBody_quovH runsBody_quovS runsBody_quovD runsBody_quolQ runsBody_quolH runsBody_quolS
    runsBody_quolvQ runsBody_quolvH runsBody_quolvS runsBody_quo2Q runsBody_quo2H runsBody_quo2S runsBody_quo2D
    runsBody_quo2vQ runsBody_quo2vH runsBody_quo2vS runsBody_quo2vD runsBody_quo2lQ runsBody_quo2lH runsBody_quo2lS
    runsBody_quo2lvQ runsBody_quo2lvH runsBody_quo2lvS runsBody_remQ runsBody_remH runsBody_remS runsBody_remD
    runsBody_remvQ runsBody_remvH runsBody_remvS runsBody_remvD runsBody_remlQ runsBody_remlH runsBody_remlS
    runsBody_remlvQ runsBody_remlvH runsBody_remlvS runsBody_modQ runsBody_modH runsBody_modS runsBody_modD
    runsBody_modvQ runsBody_modvH runsBody_modvS runsBody_modvD runsBody_modlQ runsBody_modlH runsBody_modlS
    runsBody_modlvQ runsBody_modlvH runsBody_modlvS runsBody_divQ runsBody_divH runsBody_divS runsBody_divD
    runsBody_divvQ runsBody_divvH runsBody_divvS runsBody_divvD runsBody_divlQ runsBody_divlH runsBody_divlS
    runsBody_divlvQ runsBody_divlvH runsBody_divlvS runsBody_incQ runsBody_incH runsBody_incS runsBody_incD
    runsBody_decQ runsBody_decH runsBody_decS runsBody_decD runsBody_transQQ runsBody_transQH runsBody_transQS
    runsBody_transQD runsBody_transHQ runsBody_transHH runsBody_transHS runsBody_transHD runsBody_transSQ
    runsBody_transSH runsBody_transSS runsBody_transSD runsBody_transDQ runsBody_transDH runsBody_transDS
    runsBody_transDD runsBody_negQ runsBody_negH runsBody_negS runsBody_negD runsBody_absQ runsBody_absH runsBody_absS
    runsBody_absD runsBody_minQ runsBody_minH runsBody_minS runsBody_minD runsBody_maxQ runsBody_maxH runsBody_maxS
    runsBody_maxD runsBody_umultQ runsBody_umultH runsBody_umultS runsBody_umultD runsBody_umultlQ runsBody_umultlH
    runsBody_umultlS runsBody_udivQ runsBody_udivH runsBody_udivS runsBody_udivD runsBody_udivlQ runsBody_udivlH
    runsBody_udivlS runsBody_faddH runsBody_faddS runsBody_faddD runsBody_fsubH runsBody_fsubS runsBody_fsubD
    runsBody_fsubvH runsBody_fsubvS runsBody_fsubvD runsBody_fmultH runsBody_fmultS runsBody_fmultD runsBody_fmultlH
    runsBody_fmultlS runsBody_fdivH runsBody_fdivS runsBody_fdivD runsBody_fdivvH runsBody_fdivvS runsBody_fdivvD
    runsBody_fdivlH runsBody_fdivlS runsBody_fdivlvH runsBody_fdivlvS runsBody_fscH runsBody_fscS runsBody_fscD
    runsBody_fscvH runsBody_fscvS runsBody_fscvD runsBody_fixFlQH runsBody_fixFlQS runsBody_fixFlQD runsBody_fixFlHH
    runsBody_fixFlHS runsBody_fixFlHD runsBody_fixFlSH runsBody_fixFlSS runsBody_fixFlSD runsBody_fixFlDH
    runsBody_fixFlDS runsBody_fixFlDD runsBody_fixClQH runsBody_fixClQS runsBody_fixClQD runsBody_fixClHH
    runsBody_fixClHS runsBody_fixClHD runsBody_fixClSH runsBody_fixClSS runsBody_fixClSD runsBody_fixClDH
    runsBody_fixClDS runsBody_fixClDD runsBody_fixDmQH runsBody_fixDmQS runsBody_fixDmQD runsBody_fixDmHH
    runsBody_fixDmHS runsBody_fixDmHD runsBody_fixDmSH runsBody_fixDmSS runsBody_fixDmSD runsBody_fixDmDH
    runsBody_fixDmDS runsBody_fixDmDD runsBody_fixHpQH runsBody_fixHpQS runsBody_fixHpQD runsBody_fixHpHH
    runsBody_fixHpHS runsBody_fixHpHD runsBody_fixHpSH runsBody_fixHpSS runsBody_fixHpSD runsBody_fixHpDH
    runsBody_fixHpDS runsBody_fixHpDD runsBody_fixUsQH runsBody_fixUsQS runsBody_fixUsQD runsBody_fixUsHH
    runsBody_fixUsHS runsBody_fixUsHD runsBody_fixUsSH runsBody_fixUsSS runsBody_fixUsSD runsBody_fixUsDH
    runsBody_fixUsDS runsBody_fixUsDD runsBody_floatHQ runsBody_floatHH runsBody_floatHS runsBody_floatHD
    runsBody_floatSQ runsBody_floatSH runsBody_floatSS runsBody_floatSD runsBody_floatDQ runsBody_floatDH
    runsBody_floatDS runsBody_floatDD runsBody_ftransHH runsBody_ftransHS runsBody_ftransHD runsBody_ftransSH
    runsBody_ftransSS runsBody_ftransSD runsBody_ftransDH runsBody_ftransDS runsBody_ftransDD runsBody_fnegH
    runsBody_fnegS runsBody_fnegD runsBody_fabsH runsBody_fabsS runsBody_fabsD runsBody_fminH runsBody_fminS
    runsBody_fminD runsBody_fmaxH runsBody_fmaxS runsBody_fmaxD runsBody_movQQ runsBody_movQH runsBody_movQS
    runsBody_movQD runsBody_movHQ runsBody_movHH runsBody_movHS runsBody_movHD runsBody_movSQ runsBody_movSH
    runsBody_movSS runsBody_movSD runsBody_movDQ runsBody_movDH runsBody_movDS runsBody_movDD runsBody_movmq2
    runsBody_movmq3 runsBody_movmq4 runsBody_movmq5 runsBody_movmq6 runsBody_movmq7 runsBody_movmq8 runsBody_movmq9
    runsBody_movmq10 runsBody_movmq11 runsBody_movmq12 runsBody_movmq13 runsBody_movmq14 runsBody_movmq15
    runsBody_movmq16 runsBody_movmq17 runsBody_movmq18 runsBody_movmq19 runsBody_movmq20 runsBody_movmq21
    runsBody_movmq22 runsBody_movmq23 runsBody_movmq24 runsBody_movmq25 runsBody_movmq26 runsBody_movmq27
    runsBody_movmq28 runsBody_movmq29 runsBody_movmq30 runsBody_movmq31 runsBody_movmq32 runsBody_movmq64
    runsBody_movmq128 runsBody_movms2 runsBody_movms3 runsBody_movms4 runsBody_movms5 runsBody_movms6 runsBody_movms7
    runsBody_movms8 runsBody_movms9 runsBody_movms10 runsBody_movms11 runsBody_movms12 runsBody_movms13
    runsBody_movms14 runsBody_movms15 runsBody_movms16 runsBody_movms17 runsBody_movms18 runsBody_movms19
    runsBody_movms20 runsBody_movms21 runsBody_movms22 runsBody_movms23 runsBody_movms24 runsBody_movms25
    runsBody_movms26 runsBody_movms27 runsBody_movms28 runsBody_movms29 runsBody_movms30 runsBody_movms31
    runsBody_movms32 runsBody_exchQ runsBody_exchH runsBody_exchS runsBody_exchD runsBody_slr0 runsBody_slr1
    runsBody_slr2 runsBody_slr3 runsBody_slr4 runsBody_slr5 runsBody_slr6 runsBody_slr7 runsBody_slr8 runsBody_slr9
    runsBody_slr10 runsBody_slr11 runsBody_slr12 runsBody_slr13 runsBody_slr14 runsBody_slr15 runsBody_slr16
    runsBody_slr17 runsBody_slr18 runsBody_slr19 runsBody_slr20 runsBody_slr21 runsBody_slr22 runsBody_slr23
    runsBody_slr24 runsBody_slr25 runsBody_slr26 runsBody_slr27 runsBody_slr28 runsBody_slr29 runsBody_slr30
    runsBody_slr31 runsBody_slradr0 runsBody_slradr1 runsBody_slradr2 runsBody_slradr3 runsBody_slradr4
    runsBody_slradr5 runsBody_slradr6 runsBody_slradr7 runsBody_slradr8 runsBody_slradr9 runsBody_slradr10
    runsBody_slradr11 runsBody_slradr12 runsBody_slradr13 runsBody_slradr14 runsBody_slradr15 runsBody_slradr16
    runsBody_slradr17 runsBody_slradr18 runsBody_slradr19 runsBody_slradr20 runsBody_slradr21 runsBody_slradr22
    runsBody_slradr23 runsBody_slradr24 runsBody_slradr25 runsBody_slradr26 runsBody_slradr27 runsBody_slradr28
    runsBody_slradr29 runsBody_slradr30 runsBody_slradr31 runsBody_movadr runsBody_movphy runsBody_cmpsfGtrQ
    runsBody_cmpsfGtrH runsBody_cmpsfGtrS runsBody_cmpsfGtrD runsBody_cmpsfEqlQ runsBody_cmpsfEqlH runsBody_cmpsfEqlS
    runsBody_cmpsfEqlD runsBody_cmpsfGeqQ runsBody_cmpsfGeqH runsBody_cmpsfGeqS runsBody_cmpsfGeqD runsBody_cmpsfLssQ
    runsBody_cmpsfLssH runsBody_cmpsfLssS runsBody_cmpsfLssD runsBody_cmpsfNeqQ runsBody_cmpsfNeqH runsBody_cmpsfNeqS
    runsBody_cmpsfNeqD runsBody_cmpsfLeqQ runsBody_cmpsfLeqH runsBody_cmpsfLeqS runsBody_cmpsfLeqD runsBody_bndsfBQ
    runsBody_bndsfBH runsBody_bndsfBS runsBody_bndsfBD runsBody_bndsfMinQ runsBody_bndsfMinH runsBody_bndsfMinS
    runsBody_bndsfMinD runsBody_bndsfM1Q runsBody_bndsfM1H runsBody_bndsfM1S runsBody_bndsfM1D runsBody_bndsf0Q
    runsBody_bndsf0H runsBody_bndsf0S runsBody_bndsf0D runsBody_bndsf1Q runsBody_bndsf1H runsBody_bndsf1S
    runsBody_bndsf1D runsBody_notQ runsBody_notH runsBody_notS runsBody_notD runsBody_andQ runsBody_andH runsBody_andS
    runsBody_andD runsBody_andtcQ runsBody_andtcH runsBody_andtcS runsBody_andtcD runsBody_andctQ runsBody_andctH
    runsBody_andctS runsBody_andctD runsBody_orQ runsBody_orH runsBody_orS runsBody_orD runsBody_ortcQ runsBody_ortcH
    runsBody_ortcS runsBody_ortcD runsBody_orctQ runsBody_orctH runsBody_orctS runsBody_orctD runsBody_nandQ
    runsBody_nandH runsBody_nandS runsBody_nandD runsBody_norQ runsBody_norH runsBody_norS runsBody_norD runsBody_xorQ
    runsBody_xorH runsBody_xorS runsBody_xorD runsBody_eqvQ runsBody_eqvH runsBody_eqvS runsBody_eqvD runsBody_shfLfQ
    runsBody_shfLfH runsBody_shfLfS runsBody_shfLfD runsBody_shfRtQ runsBody_shfRtH runsBody_shfRtS runsBody_shfRtD
    runsBody_shfvLfQ runsBody_shfvLfH runsBody_shfvLfS runsBody_shfvLfD runsBody_shfvRtQ runsBody_shfvRtH
    runsBody_shfvRtS runsBody_shfvRtD runsBody_dshfLfQ runsBody_dshfLfH runsBody_dshfLfS runsBody_dshfRtQ
    runsBody_dshfRtH runsBody_dshfRtS runsBody_dshfvLfQ runsBody_dshfvLfH runsBody_dshfvLfS runsBody_dshfvRtQ
    runsBody_dshfvRtH runsBody_dshfvRtS runsBody_shfaLfQ runsBody_shfaLfH runsBody_shfaLfS runsBody_shfaLfD
    runsBody_shfaRtQ runsBody_shfaRtH runsBody_shfaRtS runsBody_shfaRtD runsBody_shfavLfQ runsBody_shfavLfH
    runsBody_shfavLfS runsBody_shfavLfD runsBody_shfavRtQ runsBody_shfavRtH runsBody_shfavRtS runsBody_shfavRtD
    runsBody_rotLfQ runsBody_rotLfH runsBody_rotLfS runsBody_rotLfD runsBody_rotRtQ runsBody_rotRtH runsBody_rotRtS
    runsBody_rotRtD runsBody_rotvLfQ runsBody_rotvLfH runsBody_rotvLfS runsBody_rotvLfD runsBody_rotvRtQ
    runsBody_rotvRtH runsBody_rotvRtS runsBody_rotvRtD runsBody_skpGtrQ runsBody_skpGtrH runsBody_skpGtrS
    runsBody_skpGtrD runsBody_skpEqlQ runsBody_skpEqlH runsBody_skpEqlS runsBody_skpEqlD runsBody_skpGeqQ
    runsBody_skpGeqH runsBody_skpGeqS runsBody_skpGeqD runsBody_skpLssQ runsBody_skpLssH runsBody_skpLssS
    runsBody_skpLssD runsBody_skpNeqQ runsBody_skpNeqH runsBody_skpNeqS runsBody_skpNeqD runsBody_skpLeqQ
    runsBody_skpLeqH runsBody_skpLeqS runsBody_skpLeqD runsBody_skpNonQ runsBody_skpNonH runsBody_skpNonS
    runsBody_skpNonD runsBody_skpAllQ runsBody_skpAllH runsBody_skpAllS runsBody_skpAllD runsBody_skpNalQ
    runsBody_skpNalH runsBody_skpNalS runsBody_skpNalD runsBody_skpAnyQ runsBody_skpAnyH runsBody_skpAnyS
    runsBody_skpAnyD runsBody_iskpGtr runsBody_iskpEql runsBody_iskpGeq runsBody_iskpLss runsBody_iskpNeq
    runsBody_iskpLeq runsBody_dskpGtr runsBody_dskpEql runsBody_dskpGeq runsBody_dskpLss runsBody_dskpNeq
    runsBody_dskpLeq runsBody_jmpGtr runsBody_jmpEql runsBody_jmpGeq runsBody_jmpLss runsBody_jmpNeq runsBody_jmpLeq
    runsBody_jmpzGtrQ runsBody_jmpzGtrH runsBody_jmpzGtrS runsBody_jmpzGtrD runsBody_jmpzEqlQ runsBody_jmpzEqlH
    runsBody_jmpzEqlS runsBody_jmpzEqlD runsBody_jmpzGeqQ runsBody_jmpzGeqH runsBody_jmpzGeqS runsBody_jmpzGeqD
    runsBody_jmpzLssQ runsBody_jmpzLssH runsBody_jmpzLssS runsBody_jmpzLssD runsBody_jmpzNeqQ runsBody_jmpzNeqH
    runsBody_jmpzNeqS runsBody_jmpzNeqD runsBody_jmpzLeqQ runsBody_jmpzLeqH runsBody_jmpzLeqS runsBody_jmpzLeqD
    runsBody_jmpa runsBody_ijmpGtr runsBody_ijmpEql runsBody_ijmpGeq runsBody_ijmpLss runsBody_ijmpNeq
    runsBody_ijmpLeq runsBody_ijmpzGtr runsBody_ijmpzEql runsBody_ijmpzGeq runsBody_ijmpzLss runsBody_ijmpzNeq
    runsBody_ijmpzLeq runsBody_ijmpa runsBody_djmpGtr runsBody_djmpEql runsBody_djmpGeq runsBody_djmpLss
    runsBody_djmpNeq runsBody_djmpLeq runsBody_djmpzGtr runsBody_djmpzEql runsBody_djmpzGeq runsBody_djmpzLss
    runsBody_djmpzNeq runsBody_djmpzLeq runsBody_djmpa runsBody_bndtrpBQ runsBody_bndtrpBH runsBody_bndtrpBS
    runsBody_bndtrpBD runsBody_bndtrpMinQ runsBody_bndtrpMinH runsBody_bndtrpMinS runsBody_bndtrpMinD
    runsBody_bndtrpM1Q runsBody_bndtrpM1H runsBody_bndtrpM1S runsBody_bndtrpM1D runsBody_bndtrp0Q runsBody_bndtrp0H
    runsBody_bndtrp0S runsBody_bndtrp0D runsBody_bndtrp1Q runsBody_bndtrp1H runsBody_bndtrp1S runsBody_bndtrp1D
    runsBody_jpatch runsBody_jsr runsBody_jcr runsBody_alloc1 runsBody_alloc2 runsBody_alloc3 runsBody_alloc4
    runsBody_alloc5 runsBody_alloc6 runsBody_alloc7 runsBody_alloc8 runsBody_alloc9 runsBody_alloc10 runsBody_alloc11
    runsBody_alloc12 runsBody_alloc13 runsBody_alloc14 runsBody_alloc15 runsBody_alloc16 runsBody_alloc17
    runsBody_alloc18 runsBody_alloc19 runsBody_alloc20 runsBody_alloc21 runsBody_alloc22 runsBody_alloc23
    runsBody_alloc24 runsBody_alloc25 runsBody_alloc26 runsBody_alloc27 runsBody_alloc28 runsBody_alloc29
    runsBody_alloc30 runsBody_alloc31 runsBody_alloc32 runsBody_retsr runsBody_ret runsBody_retus runsBody_retfs
    runsBody_trpslf0 runsBody_trpslf1 runsBody_trpslf2 runsBody_trpslf3 runsBody_trpslf4 runsBody_trpslf5
    runsBody_trpslf6 runsBody_trpslf7 runsBody_trpslf8 runsBody_trpslf9 runsBody_trpslf10 runsBody_trpslf11
    runsBody_trpslf12 runsBody_trpslf13 runsBody_trpslf14 runsBody_trpslf15 runsBody_trpslf16 runsBody_trpslf17
    runsBody_trpslf18 runsBody_trpslf19 runsBody_trpslf20 runsBody_trpslf21 runsBody_trpslf22 runsBody_trpslf23
    runsBody_trpslf24 runsBody_trpslf25 runsBody_trpslf26 runsBody_trpslf27 runsBody_trpslf28 runsBody_trpslf29
    runsBody_trpslf30 runsBody_trpslf31 runsBody_trpslf32 runsBody_trpslf33 runsBody_trpslf34 runsBody_trpslf35
    runsBody_trpslf36 runsBody_trpslf37 runsBody_trpslf38 runsBody_trpslf39 runsBody_trpslf40 runsBody_trpslf41
    runsBody_trpslf42 runsBody_trpslf43 runsBody_trpslf44 runsBody_trpslf45 runsBody_trpslf46 runsBody_trpslf47
    runsBody_trpslf48 runsBody_trpslf49 runsBody_trpslf50 runsBody_trpslf51 runsBody_trpslf52 runsBody_trpslf53
    runsBody_trpslf54 runsBody_trpslf55 runsBody_trpslf56 runsBody_trpslf57 runsBody_trpslf58 runsBody_trpslf59
    runsBody_trpslf60 runsBody_trpslf61 runsBody_trpslf62 runsBody_trpslf63 runsBody_trpexe0 runsBody_trpexe1
    runsBody_trpexe2 runsBody_trpexe3 runsBody_trpexe4 runsBody_trpexe5 runsBody_trpexe6 runsBody_trpexe7
    runsBody_trpexe8 runsBody_trpexe9 runsBody_trpexe10 runsBody_trpexe11 runsBody_trpexe12 runsBody_trpexe13
    runsBody_trpexe14 runsBody_trpexe15 runsBody_trpexe16 runsBody_trpexe17 runsBody_trpexe18 runsBody_trpexe19
    runsBody_trpexe20 runsBody_trpexe21 runsBody_trpexe22 runsBody_trpexe23 runsBody_trpexe24 runsBody_trpexe25
    runsBody_trpexe26 runsBody_trpexe27 runsBody_trpexe28 runsBody_trpexe29 runsBody_trpexe30 runsBody_trpexe31
    runsBody_trpexe32 runsBody_trpexe33 runsBody_trpexe34 runsBody_trpexe35 runsBody_trpexe36 runsBody_trpexe37
    runsBody_trpexe38 runsBody_trpexe39 runsBody_trpexe40 runsBody_trpexe41 runsBody_trpexe42 runsBody_trpexe43
    runsBody_trpexe44 runsBody_trpexe45 runsBody_trpexe46 runsBody_trpexe47 runsBody_trpexe48 runsBody_trpexe49
    runsBody_trpexe50 runsBody_trpexe51 runsBody_trpexe52 runsBody_trpexe53 runsBody_trpexe54 runsBody_trpexe55
    runsBody_trpexe56 runsBody_trpexe57 runsBody_trpexe58 runsBody_trpexe59 runsBody_trpexe60 runsBody_trpexe61
    runsBody_trpexe62 runsBody_trpexe63 runsBody_adjspUp runsBody_adjspDn runsBody_pushUpQ runsBody_pushUpH
    runsBody_pushUpS runsBody_pushUpD runsBody_pushDnQ runsBody_pushDnH runsBody_pushDnS runsBody_pushDnD
    runsBody_popUpQ runsBody_popUpH runsBody_popUpS runsBody_popUpD runsBody_popDnQ runsBody_popDnH runsBody_popDnS
    runsBody_popDnD runsBody_lbytS runsBody_lbytD runsBody_libytS runsBody_libytD runsBody_lsbytS runsBody_lsbytD
    runsBody_lisbytS runsBody_lisbytD runsBody_dbytS runsBody_dbytD runsBody_dibytS runsBody_dibytD runsBody_adjbpS
    runsBody_adjbpD runsBody_bitrvQ runsBody_bitrvH runsBody_bitrvS runsBody_bitrvD runsBody_bitrvvQ runsBody_bitrvvH
    runsBody_bitrvvS runsBody_bitrvvD runsBody_bitexQ runsBody_bitexH runsBody_bitexS runsBody_bitexD runsBody_bitexvQ
    runsBody_bitexvH runsBody_bitexvS runsBody_bitexvD runsBody_bitcntQ runsBody_bitcntH runsBody_bitcntS
    runsBody_bitcntD runsBody_bitfstQ runsBody_bitfstH runsBody_bitfstS runsBody_bitfstD runsBody_strcmpRta
    runsBody_strcmpRtb runsBody_blkmovRta runsBody_blkmovRtb runsBody_blkiniRtaQ runsBody_blkiniRtaH
    runsBody_blkiniRtaS runsBody_blkiniRtaD runsBody_blkiniRtbQ runsBody_blkiniRtbH runsBody_blkiniRtbS
    runsBody_blkiniRtbD runsBody_blkidRta runsBody_blkidRtb runsBody_blkdiRta runsBody_blkdiRtb runsBody_rus
    runsBody_jusclrNon runsBody_jusclrAll runsBody_jusclrNal runsBody_jusclrAny runsBody_jusNon runsBody_jusAll
    runsBody_jusNal runsBody_jusAny runsBody_wusjmp runsBody_setus runsBody_clrus runsBody_rspid runsBody_wspid
    runsBody_rrndmd runsBody_wrndmd runsBody_rps runsBody_wfsjmp runsBody_rcfile runsBody_wcfile runsBody_rpfile
    runsBody_wpfile runsBody_rpid runsBody_swpicRtaV runsBody_swpicRtaP runsBody_swpicRtbV runsBody_swpicRtbP
    runsBody_swpdcRtaVU runsBody_swpdcRtaVUk runsBody_swpdcRtaPU runsBody_swpdcRtaPUk runsBody_swpdcRtbVU
    runsBody_swpdcRtbVUk runsBody_swpdcRtbPU runsBody_swpdcRtbPUk runsBody_swpimE runsBody_swpimU runsBody_swpdmE
    runsBody_swpdmU runsBody_wupjmp runsBody_wepjmp runsBody_rien runsBody_wien runsBody_sien runsBody_cien
    runsBody_ripnd runsBody_wipnd runsBody_sipnd runsBody_cipnd runsBody_ripar runsBody_wipar runsBody_blkiorRtaB
    runsBody_blkiorRtaQ runsBody_blkiorRtaH runsBody_blkiorRtaS runsBody_blkiorRtbB runsBody_blkiorRtbQ
    runsBody_blkiorRtbH runsBody_blkiorRtbS runsBody_blkiowRtaB runsBody_blkiowRtaQ runsBody_blkiowRtaH
    runsBody_blkiowRtaS runsBody_blkiowRtbB runsBody_blkiowRtbQ runsBody_blkiowRtbH runsBody_blkiowRtbS
    runsBody_intiop runsBody_rctr runsBody_wctr runsBody_rectr runsBody_wectr runsBody_nop runsBody_xct runsBody_rmw
    runsBody_wait runsBody_halt

end Sys2Proof.Machine
end

