-- ==== Sys2Proof/Laws/State.lean ====
section
/-! SUPPORT. The fields of the state after each named update: one lemma for each field and update. -/

namespace Sys2Proof.Machine

variable (s : State)


/-! ### `State.setPc` -/

@[simp] theorem State.setPc_rf (a : VAddr) : (s.setPc a).rf = s.rf := rfl
@[simp] theorem State.setPc_pc (a : VAddr) : (s.setPc a).pc = a := rfl
@[simp] theorem State.setPc_ps (a : VAddr) : (s.setPc a).ps = s.ps := rfl
@[simp] theorem State.setPc_us (a : VAddr) : (s.setPc a).us = s.us := rfl
@[simp] theorem State.setPc_execStp (a : VAddr) : (s.setPc a).execStp = s.execStp := rfl
@[simp] theorem State.setPc_execStl (a : VAddr) : (s.setPc a).execStl = s.execStl := rfl
@[simp] theorem State.setPc_userStp (a : VAddr) : (s.setPc a).userStp = s.userStp := rfl
@[simp] theorem State.setPc_userStl (a : VAddr) : (s.setPc a).userStl = s.userStl := rfl
@[simp] theorem State.setPc_intPend (a : VAddr) : (s.setPc a).intPend = s.intPend := rfl
@[simp] theorem State.setPc_intEnb (a : VAddr) : (s.setPc a).intEnb = s.intEnb := rfl
@[simp] theorem State.setPc_intParm (a : VAddr) : (s.setPc a).intParm = s.intParm := rfl
@[simp] theorem State.setPc_ctr (a : VAddr) : (s.setPc a).ctr = s.ctr := rfl
@[simp] theorem State.setPc_ctrEnb (a : VAddr) : (s.setPc a).ctrEnb = s.ctrEnb := rfl
@[simp] theorem State.setPc_procId (a : VAddr) : (s.setPc a).procId = s.procId := rfl
@[simp] theorem State.setPc_instructionState (a : VAddr) : (s.setPc a).instructionState = s.instructionState := rfl
@[simp] theorem State.setPc_traceEnbOld (a : VAddr) : (s.setPc a).traceEnbOld = s.traceEnbOld := rfl
@[simp] theorem State.setPc_run (a : VAddr) : (s.setPc a).run = s.run := rfl
@[simp] theorem State.setPc_doubleFault (a : VAddr) : (s.setPc a).doubleFault = s.doubleFault := rfl
@[simp] theorem State.setPc_mem (a : VAddr) : (s.setPc a).mem = s.mem := rfl
@[simp] theorem State.setPc_physMem (a : VAddr) : (s.setPc a).physMem = s.physMem := rfl
@[simp] theorem State.setPc_iobuf (a : VAddr) : (s.setPc a).iobuf = s.iobuf := rfl
@[simp] theorem State.setPc_iopOut (a : VAddr) : (s.setPc a).iopOut = s.iopOut := rfl
@[simp] theorem State.setPc_freeCount (a : VAddr) : (s.setPc a).freeCount = s.freeCount := rfl

/-! ### `State.setUs` -/

@[simp] theorem State.setUs_rf (w : SW) : (s.setUs w).rf = s.rf := rfl
@[simp] theorem State.setUs_pc (w : SW) : (s.setUs w).pc = s.pc := rfl
@[simp] theorem State.setUs_ps (w : SW) : (s.setUs w).ps = s.ps := rfl
@[simp] theorem State.setUs_us (w : SW) : (s.setUs w).us = w := rfl
@[simp] theorem State.setUs_execStp (w : SW) : (s.setUs w).execStp = s.execStp := rfl
@[simp] theorem State.setUs_execStl (w : SW) : (s.setUs w).execStl = s.execStl := rfl
@[simp] theorem State.setUs_userStp (w : SW) : (s.setUs w).userStp = s.userStp := rfl
@[simp] theorem State.setUs_userStl (w : SW) : (s.setUs w).userStl = s.userStl := rfl
@[simp] theorem State.setUs_intPend (w : SW) : (s.setUs w).intPend = s.intPend := rfl
@[simp] theorem State.setUs_intEnb (w : SW) : (s.setUs w).intEnb = s.intEnb := rfl
@[simp] theorem State.setUs_intParm (w : SW) : (s.setUs w).intParm = s.intParm := rfl
@[simp] theorem State.setUs_ctr (w : SW) : (s.setUs w).ctr = s.ctr := rfl
@[simp] theorem State.setUs_ctrEnb (w : SW) : (s.setUs w).ctrEnb = s.ctrEnb := rfl
@[simp] theorem State.setUs_procId (w : SW) : (s.setUs w).procId = s.procId := rfl
@[simp] theorem State.setUs_instructionState (w : SW) : (s.setUs w).instructionState = s.instructionState := rfl
@[simp] theorem State.setUs_traceEnbOld (w : SW) : (s.setUs w).traceEnbOld = s.traceEnbOld := rfl
@[simp] theorem State.setUs_run (w : SW) : (s.setUs w).run = s.run := rfl
@[simp] theorem State.setUs_doubleFault (w : SW) : (s.setUs w).doubleFault = s.doubleFault := rfl
@[simp] theorem State.setUs_mem (w : SW) : (s.setUs w).mem = s.mem := rfl
@[simp] theorem State.setUs_physMem (w : SW) : (s.setUs w).physMem = s.physMem := rfl
@[simp] theorem State.setUs_iobuf (w : SW) : (s.setUs w).iobuf = s.iobuf := rfl
@[simp] theorem State.setUs_iopOut (w : SW) : (s.setUs w).iopOut = s.iopOut := rfl
@[simp] theorem State.setUs_freeCount (w : SW) : (s.setUs w).freeCount = s.freeCount := rfl

/-! ### `State.setPs` -/

@[simp] theorem State.setPs_rf (w : SW) : (s.setPs w).rf = s.rf := rfl
@[simp] theorem State.setPs_pc (w : SW) : (s.setPs w).pc = s.pc := rfl
@[simp] theorem State.setPs_ps (w : SW) : (s.setPs w).ps = w := rfl
@[simp] theorem State.setPs_us (w : SW) : (s.setPs w).us = s.us := rfl
@[simp] theorem State.setPs_execStp (w : SW) : (s.setPs w).execStp = s.execStp := rfl
@[simp] theorem State.setPs_execStl (w : SW) : (s.setPs w).execStl = s.execStl := rfl
@[simp] theorem State.setPs_userStp (w : SW) : (s.setPs w).userStp = s.userStp := rfl
@[simp] theorem State.setPs_userStl (w : SW) : (s.setPs w).userStl = s.userStl := rfl
@[simp] theorem State.setPs_intPend (w : SW) : (s.setPs w).intPend = s.intPend := rfl
@[simp] theorem State.setPs_intEnb (w : SW) : (s.setPs w).intEnb = s.intEnb := rfl
@[simp] theorem State.setPs_intParm (w : SW) : (s.setPs w).intParm = s.intParm := rfl
@[simp] theorem State.setPs_ctr (w : SW) : (s.setPs w).ctr = s.ctr := rfl
@[simp] theorem State.setPs_ctrEnb (w : SW) : (s.setPs w).ctrEnb = s.ctrEnb := rfl
@[simp] theorem State.setPs_procId (w : SW) : (s.setPs w).procId = s.procId := rfl
@[simp] theorem State.setPs_instructionState (w : SW) : (s.setPs w).instructionState = s.instructionState := rfl
@[simp] theorem State.setPs_traceEnbOld (w : SW) : (s.setPs w).traceEnbOld = s.traceEnbOld := rfl
@[simp] theorem State.setPs_run (w : SW) : (s.setPs w).run = s.run := rfl
@[simp] theorem State.setPs_doubleFault (w : SW) : (s.setPs w).doubleFault = s.doubleFault := rfl
@[simp] theorem State.setPs_mem (w : SW) : (s.setPs w).mem = s.mem := rfl
@[simp] theorem State.setPs_physMem (w : SW) : (s.setPs w).physMem = s.physMem := rfl
@[simp] theorem State.setPs_iobuf (w : SW) : (s.setPs w).iobuf = s.iobuf := rfl
@[simp] theorem State.setPs_iopOut (w : SW) : (s.setPs w).iopOut = s.iopOut := rfl
@[simp] theorem State.setPs_freeCount (w : SW) : (s.setPs w).freeCount = s.freeCount := rfl

/-! ### `State.setRun` -/

@[simp] theorem State.setRun_rf (r : RunState) : (s.setRun r).rf = s.rf := rfl
@[simp] theorem State.setRun_pc (r : RunState) : (s.setRun r).pc = s.pc := rfl
@[simp] theorem State.setRun_ps (r : RunState) : (s.setRun r).ps = s.ps := rfl
@[simp] theorem State.setRun_us (r : RunState) : (s.setRun r).us = s.us := rfl
@[simp] theorem State.setRun_execStp (r : RunState) : (s.setRun r).execStp = s.execStp := rfl
@[simp] theorem State.setRun_execStl (r : RunState) : (s.setRun r).execStl = s.execStl := rfl
@[simp] theorem State.setRun_userStp (r : RunState) : (s.setRun r).userStp = s.userStp := rfl
@[simp] theorem State.setRun_userStl (r : RunState) : (s.setRun r).userStl = s.userStl := rfl
@[simp] theorem State.setRun_intPend (r : RunState) : (s.setRun r).intPend = s.intPend := rfl
@[simp] theorem State.setRun_intEnb (r : RunState) : (s.setRun r).intEnb = s.intEnb := rfl
@[simp] theorem State.setRun_intParm (r : RunState) : (s.setRun r).intParm = s.intParm := rfl
@[simp] theorem State.setRun_ctr (r : RunState) : (s.setRun r).ctr = s.ctr := rfl
@[simp] theorem State.setRun_ctrEnb (r : RunState) : (s.setRun r).ctrEnb = s.ctrEnb := rfl
@[simp] theorem State.setRun_procId (r : RunState) : (s.setRun r).procId = s.procId := rfl
@[simp] theorem State.setRun_instructionState (r : RunState) :
    (s.setRun r).instructionState = s.instructionState := rfl
@[simp] theorem State.setRun_traceEnbOld (r : RunState) : (s.setRun r).traceEnbOld = s.traceEnbOld := rfl
@[simp] theorem State.setRun_run (r : RunState) : (s.setRun r).run = r := rfl
@[simp] theorem State.setRun_doubleFault (r : RunState) : (s.setRun r).doubleFault = s.doubleFault := rfl
@[simp] theorem State.setRun_mem (r : RunState) : (s.setRun r).mem = s.mem := rfl
@[simp] theorem State.setRun_physMem (r : RunState) : (s.setRun r).physMem = s.physMem := rfl
@[simp] theorem State.setRun_iobuf (r : RunState) : (s.setRun r).iobuf = s.iobuf := rfl
@[simp] theorem State.setRun_iopOut (r : RunState) : (s.setRun r).iopOut = s.iopOut := rfl
@[simp] theorem State.setRun_freeCount (r : RunState) : (s.setRun r).freeCount = s.freeCount := rfl

/-! ### `State.drawn` -/

@[simp] theorem State.drawn_rf : (s.drawn).rf = s.rf := rfl
@[simp] theorem State.drawn_pc : (s.drawn).pc = s.pc := rfl
@[simp] theorem State.drawn_ps : (s.drawn).ps = s.ps := rfl
@[simp] theorem State.drawn_us : (s.drawn).us = s.us := rfl
@[simp] theorem State.drawn_execStp : (s.drawn).execStp = s.execStp := rfl
@[simp] theorem State.drawn_execStl : (s.drawn).execStl = s.execStl := rfl
@[simp] theorem State.drawn_userStp : (s.drawn).userStp = s.userStp := rfl
@[simp] theorem State.drawn_userStl : (s.drawn).userStl = s.userStl := rfl
@[simp] theorem State.drawn_intPend : (s.drawn).intPend = s.intPend := rfl
@[simp] theorem State.drawn_intEnb : (s.drawn).intEnb = s.intEnb := rfl
@[simp] theorem State.drawn_intParm : (s.drawn).intParm = s.intParm := rfl
@[simp] theorem State.drawn_ctr : (s.drawn).ctr = s.ctr := rfl
@[simp] theorem State.drawn_ctrEnb : (s.drawn).ctrEnb = s.ctrEnb := rfl
@[simp] theorem State.drawn_procId : (s.drawn).procId = s.procId := rfl
@[simp] theorem State.drawn_instructionState : (s.drawn).instructionState = s.instructionState := rfl
@[simp] theorem State.drawn_traceEnbOld : (s.drawn).traceEnbOld = s.traceEnbOld := rfl
@[simp] theorem State.drawn_run : (s.drawn).run = s.run := rfl
@[simp] theorem State.drawn_doubleFault : (s.drawn).doubleFault = s.doubleFault := rfl
@[simp] theorem State.drawn_mem : (s.drawn).mem = s.mem := rfl
@[simp] theorem State.drawn_physMem : (s.drawn).physMem = s.physMem := rfl
@[simp] theorem State.drawn_iobuf : (s.drawn).iobuf = s.iobuf := rfl
@[simp] theorem State.drawn_iopOut : (s.drawn).iopOut = s.iopOut := rfl
@[simp] theorem State.drawn_freeCount : (s.drawn).freeCount = s.freeCount + 1 := rfl

/-! ### `State.stage4` -/

@[simp] theorem State.stage4_rf : (s.stage4).rf = s.rf := rfl
@[simp] theorem State.stage4_pc : (s.stage4).pc = s.pc := rfl
@[simp] theorem State.stage4_ps : (s.stage4).ps = s.ps := rfl
@[simp] theorem State.stage4_us : (s.stage4).us = s.us := rfl
@[simp] theorem State.stage4_execStp : (s.stage4).execStp = s.execStp := rfl
@[simp] theorem State.stage4_execStl : (s.stage4).execStl = s.execStl := rfl
@[simp] theorem State.stage4_userStp : (s.stage4).userStp = s.userStp := rfl
@[simp] theorem State.stage4_userStl : (s.stage4).userStl = s.userStl := rfl
@[simp] theorem State.stage4_intPend : (s.stage4).intPend = s.intPend := rfl
@[simp] theorem State.stage4_intEnb : (s.stage4).intEnb = s.intEnb := rfl
@[simp] theorem State.stage4_intParm : (s.stage4).intParm = s.intParm := rfl
@[simp] theorem State.stage4_ctr : (s.stage4).ctr = s.ctr := rfl
@[simp] theorem State.stage4_ctrEnb : (s.stage4).ctrEnb = s.ctrEnb := rfl
@[simp] theorem State.stage4_procId : (s.stage4).procId = s.procId := rfl
@[simp] theorem State.stage4_instructionState : (s.stage4).instructionState = s.instructionState := rfl
@[simp] theorem State.stage4_traceEnbOld : (s.stage4).traceEnbOld = Ps.traceEnb s.ps := rfl
@[simp] theorem State.stage4_run : (s.stage4).run = s.run := rfl
@[simp] theorem State.stage4_doubleFault : (s.stage4).doubleFault = s.doubleFault := rfl
@[simp] theorem State.stage4_mem : (s.stage4).mem = s.mem := rfl
@[simp] theorem State.stage4_physMem : (s.stage4).physMem = s.physMem := rfl
@[simp] theorem State.stage4_iobuf : (s.stage4).iobuf = s.iobuf := rfl
@[simp] theorem State.stage4_iopOut : (s.stage4).iopOut = s.iopOut := rfl
@[simp] theorem State.stage4_freeCount : (s.stage4).freeCount = s.freeCount := rfl

/-! ### `State.stage6` -/

@[simp] theorem State.stage6_rf : (s.stage6).rf = s.rf := rfl
@[simp] theorem State.stage6_pc : (s.stage6).pc = s.pc := rfl
@[simp] theorem State.stage6_ps : (s.stage6).ps = Ps.setTracePend s.ps (Ps.tracePend s.ps || s.traceEnbOld) := rfl
@[simp] theorem State.stage6_us : (s.stage6).us = s.us := rfl
@[simp] theorem State.stage6_execStp : (s.stage6).execStp = s.execStp := rfl
@[simp] theorem State.stage6_execStl : (s.stage6).execStl = s.execStl := rfl
@[simp] theorem State.stage6_userStp : (s.stage6).userStp = s.userStp := rfl
@[simp] theorem State.stage6_userStl : (s.stage6).userStl = s.userStl := rfl
@[simp] theorem State.stage6_intPend : (s.stage6).intPend = s.intPend := rfl
@[simp] theorem State.stage6_intEnb : (s.stage6).intEnb = s.intEnb := rfl
@[simp] theorem State.stage6_intParm : (s.stage6).intParm = s.intParm := rfl
@[simp] theorem State.stage6_ctr : (s.stage6).ctr = s.ctr := rfl
@[simp] theorem State.stage6_ctrEnb : (s.stage6).ctrEnb = s.ctrEnb := rfl
@[simp] theorem State.stage6_procId : (s.stage6).procId = s.procId := rfl
@[simp] theorem State.stage6_instructionState : (s.stage6).instructionState = s.instructionState := rfl
@[simp] theorem State.stage6_traceEnbOld : (s.stage6).traceEnbOld = s.traceEnbOld := rfl
@[simp] theorem State.stage6_run : (s.stage6).run = s.run := rfl
@[simp] theorem State.stage6_doubleFault : (s.stage6).doubleFault = s.doubleFault := rfl
@[simp] theorem State.stage6_mem : (s.stage6).mem = s.mem := rfl
@[simp] theorem State.stage6_physMem : (s.stage6).physMem = s.physMem := rfl
@[simp] theorem State.stage6_iobuf : (s.stage6).iobuf = s.iobuf := rfl
@[simp] theorem State.stage6_iopOut : (s.stage6).iopOut = s.iopOut := rfl
@[simp] theorem State.stage6_freeCount : (s.stage6).freeCount = s.freeCount := rfl

/-! ### `State.setReg` -/

@[simp] theorem State.setReg_rf (f : FileNum) (n : RegNum) (v : SW) :
    (s.setReg f n v).rf = s.rf.set (regIndex f n).toNat v (regIndex f n).isLt := rfl
@[simp] theorem State.setReg_pc (f : FileNum) (n : RegNum) (v : SW) : (s.setReg f n v).pc = s.pc := rfl
@[simp] theorem State.setReg_ps (f : FileNum) (n : RegNum) (v : SW) : (s.setReg f n v).ps = s.ps := rfl
@[simp] theorem State.setReg_us (f : FileNum) (n : RegNum) (v : SW) : (s.setReg f n v).us = s.us := rfl
@[simp] theorem State.setReg_execStp (f : FileNum) (n : RegNum) (v : SW) : (s.setReg f n v).execStp = s.execStp := rfl
@[simp] theorem State.setReg_execStl (f : FileNum) (n : RegNum) (v : SW) : (s.setReg f n v).execStl = s.execStl := rfl
@[simp] theorem State.setReg_userStp (f : FileNum) (n : RegNum) (v : SW) : (s.setReg f n v).userStp = s.userStp := rfl
@[simp] theorem State.setReg_userStl (f : FileNum) (n : RegNum) (v : SW) : (s.setReg f n v).userStl = s.userStl := rfl
@[simp] theorem State.setReg_intPend (f : FileNum) (n : RegNum) (v : SW) : (s.setReg f n v).intPend = s.intPend := rfl
@[simp] theorem State.setReg_intEnb (f : FileNum) (n : RegNum) (v : SW) : (s.setReg f n v).intEnb = s.intEnb := rfl
@[simp] theorem State.setReg_intParm (f : FileNum) (n : RegNum) (v : SW) : (s.setReg f n v).intParm = s.intParm := rfl
@[simp] theorem State.setReg_ctr (f : FileNum) (n : RegNum) (v : SW) : (s.setReg f n v).ctr = s.ctr := rfl
@[simp] theorem State.setReg_ctrEnb (f : FileNum) (n : RegNum) (v : SW) : (s.setReg f n v).ctrEnb = s.ctrEnb := rfl
@[simp] theorem State.setReg_procId (f : FileNum) (n : RegNum) (v : SW) : (s.setReg f n v).procId = s.procId := rfl
@[simp] theorem State.setReg_instructionState (f : FileNum) (n : RegNum) (v : SW) :
    (s.setReg f n v).instructionState = s.instructionState := rfl
@[simp] theorem State.setReg_traceEnbOld (f : FileNum) (n : RegNum) (v : SW) :
    (s.setReg f n v).traceEnbOld = s.traceEnbOld := rfl
@[simp] theorem State.setReg_run (f : FileNum) (n : RegNum) (v : SW) : (s.setReg f n v).run = s.run := rfl
@[simp] theorem State.setReg_doubleFault (f : FileNum) (n : RegNum) (v : SW) :
    (s.setReg f n v).doubleFault = s.doubleFault := rfl
@[simp] theorem State.setReg_mem (f : FileNum) (n : RegNum) (v : SW) : (s.setReg f n v).mem = s.mem := rfl
@[simp] theorem State.setReg_physMem (f : FileNum) (n : RegNum) (v : SW) : (s.setReg f n v).physMem = s.physMem := rfl
@[simp] theorem State.setReg_iobuf (f : FileNum) (n : RegNum) (v : SW) : (s.setReg f n v).iobuf = s.iobuf := rfl
@[simp] theorem State.setReg_iopOut (f : FileNum) (n : RegNum) (v : SW) : (s.setReg f n v).iopOut = s.iopOut := rfl
@[simp] theorem State.setReg_freeCount (f : FileNum) (n : RegNum) (v : SW) :
    (s.setReg f n v).freeCount = s.freeCount := rfl

/-! ### `State.putReg` -/

@[simp] theorem State.putReg_rf (n : RegNum) (v : SW) :
    (s.putReg n v).rf = s.rf.set (regIndex s.file n).toNat v (regIndex s.file n).isLt := rfl
@[simp] theorem State.putReg_pc (n : RegNum) (v : SW) : (s.putReg n v).pc = s.pc := rfl
@[simp] theorem State.putReg_ps (n : RegNum) (v : SW) : (s.putReg n v).ps = s.ps := rfl
@[simp] theorem State.putReg_us (n : RegNum) (v : SW) : (s.putReg n v).us = s.us := rfl
@[simp] theorem State.putReg_execStp (n : RegNum) (v : SW) : (s.putReg n v).execStp = s.execStp := rfl
@[simp] theorem State.putReg_execStl (n : RegNum) (v : SW) : (s.putReg n v).execStl = s.execStl := rfl
@[simp] theorem State.putReg_userStp (n : RegNum) (v : SW) : (s.putReg n v).userStp = s.userStp := rfl
@[simp] theorem State.putReg_userStl (n : RegNum) (v : SW) : (s.putReg n v).userStl = s.userStl := rfl
@[simp] theorem State.putReg_intPend (n : RegNum) (v : SW) : (s.putReg n v).intPend = s.intPend := rfl
@[simp] theorem State.putReg_intEnb (n : RegNum) (v : SW) : (s.putReg n v).intEnb = s.intEnb := rfl
@[simp] theorem State.putReg_intParm (n : RegNum) (v : SW) : (s.putReg n v).intParm = s.intParm := rfl
@[simp] theorem State.putReg_ctr (n : RegNum) (v : SW) : (s.putReg n v).ctr = s.ctr := rfl
@[simp] theorem State.putReg_ctrEnb (n : RegNum) (v : SW) : (s.putReg n v).ctrEnb = s.ctrEnb := rfl
@[simp] theorem State.putReg_procId (n : RegNum) (v : SW) : (s.putReg n v).procId = s.procId := rfl
@[simp] theorem State.putReg_instructionState (n : RegNum) (v : SW) :
    (s.putReg n v).instructionState = s.instructionState := rfl
@[simp] theorem State.putReg_traceEnbOld (n : RegNum) (v : SW) : (s.putReg n v).traceEnbOld = s.traceEnbOld := rfl
@[simp] theorem State.putReg_run (n : RegNum) (v : SW) : (s.putReg n v).run = s.run := rfl
@[simp] theorem State.putReg_doubleFault (n : RegNum) (v : SW) : (s.putReg n v).doubleFault = s.doubleFault := rfl
@[simp] theorem State.putReg_mem (n : RegNum) (v : SW) : (s.putReg n v).mem = s.mem := rfl
@[simp] theorem State.putReg_physMem (n : RegNum) (v : SW) : (s.putReg n v).physMem = s.physMem := rfl
@[simp] theorem State.putReg_iobuf (n : RegNum) (v : SW) : (s.putReg n v).iobuf = s.iobuf := rfl
@[simp] theorem State.putReg_iopOut (n : RegNum) (v : SW) : (s.putReg n v).iopOut = s.iopOut := rfl
@[simp] theorem State.putReg_freeCount (n : RegNum) (v : SW) : (s.putReg n v).freeCount = s.freeCount := rfl

/-! ### `State.putQ` -/

@[simp] theorem State.putQ_rf (pa : PAddr) (v : QW) : (s.putQ pa v).rf = s.rf := rfl
@[simp] theorem State.putQ_pc (pa : PAddr) (v : QW) : (s.putQ pa v).pc = s.pc := rfl
@[simp] theorem State.putQ_ps (pa : PAddr) (v : QW) : (s.putQ pa v).ps = s.ps := rfl
@[simp] theorem State.putQ_us (pa : PAddr) (v : QW) : (s.putQ pa v).us = s.us := rfl
@[simp] theorem State.putQ_execStp (pa : PAddr) (v : QW) : (s.putQ pa v).execStp = s.execStp := rfl
@[simp] theorem State.putQ_execStl (pa : PAddr) (v : QW) : (s.putQ pa v).execStl = s.execStl := rfl
@[simp] theorem State.putQ_userStp (pa : PAddr) (v : QW) : (s.putQ pa v).userStp = s.userStp := rfl
@[simp] theorem State.putQ_userStl (pa : PAddr) (v : QW) : (s.putQ pa v).userStl = s.userStl := rfl
@[simp] theorem State.putQ_intPend (pa : PAddr) (v : QW) : (s.putQ pa v).intPend = s.intPend := rfl
@[simp] theorem State.putQ_intEnb (pa : PAddr) (v : QW) : (s.putQ pa v).intEnb = s.intEnb := rfl
@[simp] theorem State.putQ_intParm (pa : PAddr) (v : QW) : (s.putQ pa v).intParm = s.intParm := rfl
@[simp] theorem State.putQ_ctr (pa : PAddr) (v : QW) : (s.putQ pa v).ctr = s.ctr := rfl
@[simp] theorem State.putQ_ctrEnb (pa : PAddr) (v : QW) : (s.putQ pa v).ctrEnb = s.ctrEnb := rfl
@[simp] theorem State.putQ_procId (pa : PAddr) (v : QW) : (s.putQ pa v).procId = s.procId := rfl
@[simp] theorem State.putQ_instructionState (pa : PAddr) (v : QW) :
    (s.putQ pa v).instructionState = s.instructionState := rfl
@[simp] theorem State.putQ_traceEnbOld (pa : PAddr) (v : QW) : (s.putQ pa v).traceEnbOld = s.traceEnbOld := rfl
@[simp] theorem State.putQ_run (pa : PAddr) (v : QW) : (s.putQ pa v).run = s.run := rfl
@[simp] theorem State.putQ_doubleFault (pa : PAddr) (v : QW) : (s.putQ pa v).doubleFault = s.doubleFault := rfl
@[simp] theorem State.putQ_mem (pa : PAddr) (v : QW) : (s.putQ pa v).mem = Memory.write s.mem pa.toNat v := rfl
@[simp] theorem State.putQ_physMem (pa : PAddr) (v : QW) : (s.putQ pa v).physMem = s.physMem := rfl
@[simp] theorem State.putQ_iobuf (pa : PAddr) (v : QW) : (s.putQ pa v).iobuf = s.iobuf := rfl
@[simp] theorem State.putQ_iopOut (pa : PAddr) (v : QW) : (s.putQ pa v).iopOut = s.iopOut := rfl
@[simp] theorem State.putQ_freeCount (pa : PAddr) (v : QW) : (s.putQ pa v).freeCount = s.freeCount := rfl

/-! ### `State.setEnb` -/

@[simp] theorem State.setEnb_rf (i : BitVec 3) (v : SW) : (s.setEnb i v).rf = s.rf := rfl
@[simp] theorem State.setEnb_pc (i : BitVec 3) (v : SW) : (s.setEnb i v).pc = s.pc := rfl
@[simp] theorem State.setEnb_ps (i : BitVec 3) (v : SW) : (s.setEnb i v).ps = s.ps := rfl
@[simp] theorem State.setEnb_us (i : BitVec 3) (v : SW) : (s.setEnb i v).us = s.us := rfl
@[simp] theorem State.setEnb_execStp (i : BitVec 3) (v : SW) : (s.setEnb i v).execStp = s.execStp := rfl
@[simp] theorem State.setEnb_execStl (i : BitVec 3) (v : SW) : (s.setEnb i v).execStl = s.execStl := rfl
@[simp] theorem State.setEnb_userStp (i : BitVec 3) (v : SW) : (s.setEnb i v).userStp = s.userStp := rfl
@[simp] theorem State.setEnb_userStl (i : BitVec 3) (v : SW) : (s.setEnb i v).userStl = s.userStl := rfl
@[simp] theorem State.setEnb_intPend (i : BitVec 3) (v : SW) : (s.setEnb i v).intPend = s.intPend := rfl
@[simp] theorem State.setEnb_intEnb (i : BitVec 3) (v : SW) :
    (s.setEnb i v).intEnb = s.intEnb.set i.toNat v i.isLt := rfl
@[simp] theorem State.setEnb_intParm (i : BitVec 3) (v : SW) : (s.setEnb i v).intParm = s.intParm := rfl
@[simp] theorem State.setEnb_ctr (i : BitVec 3) (v : SW) : (s.setEnb i v).ctr = s.ctr := rfl
@[simp] theorem State.setEnb_ctrEnb (i : BitVec 3) (v : SW) : (s.setEnb i v).ctrEnb = s.ctrEnb := rfl
@[simp] theorem State.setEnb_procId (i : BitVec 3) (v : SW) : (s.setEnb i v).procId = s.procId := rfl
@[simp] theorem State.setEnb_instructionState (i : BitVec 3) (v : SW) :
    (s.setEnb i v).instructionState = s.instructionState := rfl
@[simp] theorem State.setEnb_traceEnbOld (i : BitVec 3) (v : SW) : (s.setEnb i v).traceEnbOld = s.traceEnbOld := rfl
@[simp] theorem State.setEnb_run (i : BitVec 3) (v : SW) : (s.setEnb i v).run = s.run := rfl
@[simp] theorem State.setEnb_doubleFault (i : BitVec 3) (v : SW) : (s.setEnb i v).doubleFault = s.doubleFault := rfl
@[simp] theorem State.setEnb_mem (i : BitVec 3) (v : SW) : (s.setEnb i v).mem = s.mem := rfl
@[simp] theorem State.setEnb_physMem (i : BitVec 3) (v : SW) : (s.setEnb i v).physMem = s.physMem := rfl
@[simp] theorem State.setEnb_iobuf (i : BitVec 3) (v : SW) : (s.setEnb i v).iobuf = s.iobuf := rfl
@[simp] theorem State.setEnb_iopOut (i : BitVec 3) (v : SW) : (s.setEnb i v).iopOut = s.iopOut := rfl
@[simp] theorem State.setEnb_freeCount (i : BitVec 3) (v : SW) : (s.setEnb i v).freeCount = s.freeCount := rfl

/-! ### `State.setPend` -/

@[simp] theorem State.setPend_rf (i : BitVec 3) (v : SW) : (s.setPend i v).rf = s.rf := rfl
@[simp] theorem State.setPend_pc (i : BitVec 3) (v : SW) : (s.setPend i v).pc = s.pc := rfl
@[simp] theorem State.setPend_ps (i : BitVec 3) (v : SW) : (s.setPend i v).ps = s.ps := rfl
@[simp] theorem State.setPend_us (i : BitVec 3) (v : SW) : (s.setPend i v).us = s.us := rfl
@[simp] theorem State.setPend_execStp (i : BitVec 3) (v : SW) : (s.setPend i v).execStp = s.execStp := rfl
@[simp] theorem State.setPend_execStl (i : BitVec 3) (v : SW) : (s.setPend i v).execStl = s.execStl := rfl
@[simp] theorem State.setPend_userStp (i : BitVec 3) (v : SW) : (s.setPend i v).userStp = s.userStp := rfl
@[simp] theorem State.setPend_userStl (i : BitVec 3) (v : SW) : (s.setPend i v).userStl = s.userStl := rfl
@[simp] theorem State.setPend_intPend (i : BitVec 3) (v : SW) :
    (s.setPend i v).intPend = s.intPend.set i.toNat v i.isLt := rfl
@[simp] theorem State.setPend_intEnb (i : BitVec 3) (v : SW) : (s.setPend i v).intEnb = s.intEnb := rfl
@[simp] theorem State.setPend_intParm (i : BitVec 3) (v : SW) : (s.setPend i v).intParm = s.intParm := rfl
@[simp] theorem State.setPend_ctr (i : BitVec 3) (v : SW) : (s.setPend i v).ctr = s.ctr := rfl
@[simp] theorem State.setPend_ctrEnb (i : BitVec 3) (v : SW) : (s.setPend i v).ctrEnb = s.ctrEnb := rfl
@[simp] theorem State.setPend_procId (i : BitVec 3) (v : SW) : (s.setPend i v).procId = s.procId := rfl
@[simp] theorem State.setPend_instructionState (i : BitVec 3) (v : SW) :
    (s.setPend i v).instructionState = s.instructionState := rfl
@[simp] theorem State.setPend_traceEnbOld (i : BitVec 3) (v : SW) : (s.setPend i v).traceEnbOld = s.traceEnbOld := rfl
@[simp] theorem State.setPend_run (i : BitVec 3) (v : SW) : (s.setPend i v).run = s.run := rfl
@[simp] theorem State.setPend_doubleFault (i : BitVec 3) (v : SW) : (s.setPend i v).doubleFault = s.doubleFault := rfl
@[simp] theorem State.setPend_mem (i : BitVec 3) (v : SW) : (s.setPend i v).mem = s.mem := rfl
@[simp] theorem State.setPend_physMem (i : BitVec 3) (v : SW) : (s.setPend i v).physMem = s.physMem := rfl
@[simp] theorem State.setPend_iobuf (i : BitVec 3) (v : SW) : (s.setPend i v).iobuf = s.iobuf := rfl
@[simp] theorem State.setPend_iopOut (i : BitVec 3) (v : SW) : (s.setPend i v).iopOut = s.iopOut := rfl
@[simp] theorem State.setPend_freeCount (i : BitVec 3) (v : SW) : (s.setPend i v).freeCount = s.freeCount := rfl

/-! ### `State.setParm` -/

@[simp] theorem State.setParm_rf (k : BitVec 8) (v : SW) : (s.setParm k v).rf = s.rf := rfl
@[simp] theorem State.setParm_pc (k : BitVec 8) (v : SW) : (s.setParm k v).pc = s.pc := rfl
@[simp] theorem State.setParm_ps (k : BitVec 8) (v : SW) : (s.setParm k v).ps = s.ps := rfl
@[simp] theorem State.setParm_us (k : BitVec 8) (v : SW) : (s.setParm k v).us = s.us := rfl
@[simp] theorem State.setParm_execStp (k : BitVec 8) (v : SW) : (s.setParm k v).execStp = s.execStp := rfl
@[simp] theorem State.setParm_execStl (k : BitVec 8) (v : SW) : (s.setParm k v).execStl = s.execStl := rfl
@[simp] theorem State.setParm_userStp (k : BitVec 8) (v : SW) : (s.setParm k v).userStp = s.userStp := rfl
@[simp] theorem State.setParm_userStl (k : BitVec 8) (v : SW) : (s.setParm k v).userStl = s.userStl := rfl
@[simp] theorem State.setParm_intPend (k : BitVec 8) (v : SW) : (s.setParm k v).intPend = s.intPend := rfl
@[simp] theorem State.setParm_intEnb (k : BitVec 8) (v : SW) : (s.setParm k v).intEnb = s.intEnb := rfl
@[simp] theorem State.setParm_intParm (k : BitVec 8) (v : SW) :
    (s.setParm k v).intParm = s.intParm.set k.toNat v k.isLt := rfl
@[simp] theorem State.setParm_ctr (k : BitVec 8) (v : SW) : (s.setParm k v).ctr = s.ctr := rfl
@[simp] theorem State.setParm_ctrEnb (k : BitVec 8) (v : SW) : (s.setParm k v).ctrEnb = s.ctrEnb := rfl
@[simp] theorem State.setParm_procId (k : BitVec 8) (v : SW) : (s.setParm k v).procId = s.procId := rfl
@[simp] theorem State.setParm_instructionState (k : BitVec 8) (v : SW) :
    (s.setParm k v).instructionState = s.instructionState := rfl
@[simp] theorem State.setParm_traceEnbOld (k : BitVec 8) (v : SW) : (s.setParm k v).traceEnbOld = s.traceEnbOld := rfl
@[simp] theorem State.setParm_run (k : BitVec 8) (v : SW) : (s.setParm k v).run = s.run := rfl
@[simp] theorem State.setParm_doubleFault (k : BitVec 8) (v : SW) : (s.setParm k v).doubleFault = s.doubleFault := rfl
@[simp] theorem State.setParm_mem (k : BitVec 8) (v : SW) : (s.setParm k v).mem = s.mem := rfl
@[simp] theorem State.setParm_physMem (k : BitVec 8) (v : SW) : (s.setParm k v).physMem = s.physMem := rfl
@[simp] theorem State.setParm_iobuf (k : BitVec 8) (v : SW) : (s.setParm k v).iobuf = s.iobuf := rfl
@[simp] theorem State.setParm_iopOut (k : BitVec 8) (v : SW) : (s.setParm k v).iopOut = s.iopOut := rfl
@[simp] theorem State.setParm_freeCount (k : BitVec 8) (v : SW) : (s.setParm k v).freeCount = s.freeCount := rfl

/-! ### `State.setUserSegment` -/

@[simp] theorem State.setUserSegment_rf (p l : PAddr) : (s.setUserSegment p l).rf = s.rf := rfl
@[simp] theorem State.setUserSegment_pc (p l : PAddr) : (s.setUserSegment p l).pc = s.pc := rfl
@[simp] theorem State.setUserSegment_ps (p l : PAddr) : (s.setUserSegment p l).ps = s.ps := rfl
@[simp] theorem State.setUserSegment_us (p l : PAddr) : (s.setUserSegment p l).us = s.us := rfl
@[simp] theorem State.setUserSegment_execStp (p l : PAddr) : (s.setUserSegment p l).execStp = s.execStp := rfl
@[simp] theorem State.setUserSegment_execStl (p l : PAddr) : (s.setUserSegment p l).execStl = s.execStl := rfl
@[simp] theorem State.setUserSegment_userStp (p l : PAddr) : (s.setUserSegment p l).userStp = p := rfl
@[simp] theorem State.setUserSegment_userStl (p l : PAddr) : (s.setUserSegment p l).userStl = l := rfl
@[simp] theorem State.setUserSegment_intPend (p l : PAddr) : (s.setUserSegment p l).intPend = s.intPend := rfl
@[simp] theorem State.setUserSegment_intEnb (p l : PAddr) : (s.setUserSegment p l).intEnb = s.intEnb := rfl
@[simp] theorem State.setUserSegment_intParm (p l : PAddr) : (s.setUserSegment p l).intParm = s.intParm := rfl
@[simp] theorem State.setUserSegment_ctr (p l : PAddr) : (s.setUserSegment p l).ctr = s.ctr := rfl
@[simp] theorem State.setUserSegment_ctrEnb (p l : PAddr) : (s.setUserSegment p l).ctrEnb = s.ctrEnb := rfl
@[simp] theorem State.setUserSegment_procId (p l : PAddr) : (s.setUserSegment p l).procId = s.procId := rfl
@[simp] theorem State.setUserSegment_instructionState (p l : PAddr) :
    (s.setUserSegment p l).instructionState = s.instructionState := rfl
@[simp] theorem State.setUserSegment_traceEnbOld (p l : PAddr) :
    (s.setUserSegment p l).traceEnbOld = s.traceEnbOld := rfl
@[simp] theorem State.setUserSegment_run (p l : PAddr) : (s.setUserSegment p l).run = s.run := rfl
@[simp] theorem State.setUserSegment_doubleFault (p l : PAddr) :
    (s.setUserSegment p l).doubleFault = s.doubleFault := rfl
@[simp] theorem State.setUserSegment_mem (p l : PAddr) : (s.setUserSegment p l).mem = s.mem := rfl
@[simp] theorem State.setUserSegment_physMem (p l : PAddr) : (s.setUserSegment p l).physMem = s.physMem := rfl
@[simp] theorem State.setUserSegment_iobuf (p l : PAddr) : (s.setUserSegment p l).iobuf = s.iobuf := rfl
@[simp] theorem State.setUserSegment_iopOut (p l : PAddr) : (s.setUserSegment p l).iopOut = s.iopOut := rfl
@[simp] theorem State.setUserSegment_freeCount (p l : PAddr) : (s.setUserSegment p l).freeCount = s.freeCount := rfl

/-! ### `State.setExecSegment` -/

@[simp] theorem State.setExecSegment_rf (p l : PAddr) : (s.setExecSegment p l).rf = s.rf := rfl
@[simp] theorem State.setExecSegment_pc (p l : PAddr) : (s.setExecSegment p l).pc = s.pc := rfl
@[simp] theorem State.setExecSegment_ps (p l : PAddr) : (s.setExecSegment p l).ps = s.ps := rfl
@[simp] theorem State.setExecSegment_us (p l : PAddr) : (s.setExecSegment p l).us = s.us := rfl
@[simp] theorem State.setExecSegment_execStp (p l : PAddr) : (s.setExecSegment p l).execStp = p := rfl
@[simp] theorem State.setExecSegment_execStl (p l : PAddr) : (s.setExecSegment p l).execStl = l := rfl
@[simp] theorem State.setExecSegment_userStp (p l : PAddr) : (s.setExecSegment p l).userStp = s.userStp := rfl
@[simp] theorem State.setExecSegment_userStl (p l : PAddr) : (s.setExecSegment p l).userStl = s.userStl := rfl
@[simp] theorem State.setExecSegment_intPend (p l : PAddr) : (s.setExecSegment p l).intPend = s.intPend := rfl
@[simp] theorem State.setExecSegment_intEnb (p l : PAddr) : (s.setExecSegment p l).intEnb = s.intEnb := rfl
@[simp] theorem State.setExecSegment_intParm (p l : PAddr) : (s.setExecSegment p l).intParm = s.intParm := rfl
@[simp] theorem State.setExecSegment_ctr (p l : PAddr) : (s.setExecSegment p l).ctr = s.ctr := rfl
@[simp] theorem State.setExecSegment_ctrEnb (p l : PAddr) : (s.setExecSegment p l).ctrEnb = s.ctrEnb := rfl
@[simp] theorem State.setExecSegment_procId (p l : PAddr) : (s.setExecSegment p l).procId = s.procId := rfl
@[simp] theorem State.setExecSegment_instructionState (p l : PAddr) :
    (s.setExecSegment p l).instructionState = s.instructionState := rfl
@[simp] theorem State.setExecSegment_traceEnbOld (p l : PAddr) :
    (s.setExecSegment p l).traceEnbOld = s.traceEnbOld := rfl
@[simp] theorem State.setExecSegment_run (p l : PAddr) : (s.setExecSegment p l).run = s.run := rfl
@[simp] theorem State.setExecSegment_doubleFault (p l : PAddr) :
    (s.setExecSegment p l).doubleFault = s.doubleFault := rfl
@[simp] theorem State.setExecSegment_mem (p l : PAddr) : (s.setExecSegment p l).mem = s.mem := rfl
@[simp] theorem State.setExecSegment_physMem (p l : PAddr) : (s.setExecSegment p l).physMem = s.physMem := rfl
@[simp] theorem State.setExecSegment_iobuf (p l : PAddr) : (s.setExecSegment p l).iobuf = s.iobuf := rfl
@[simp] theorem State.setExecSegment_iopOut (p l : PAddr) : (s.setExecSegment p l).iopOut = s.iopOut := rfl
@[simp] theorem State.setExecSegment_freeCount (p l : PAddr) : (s.setExecSegment p l).freeCount = s.freeCount := rfl

@[simp] theorem State.setPc_getReg (a : VAddr) (g : FileNum) (m : RegNum) :
    (s.setPc a).getReg g m = s.getReg g m := rfl

@[simp] theorem State.setUs_getReg (w : SW) (g : FileNum) (m : RegNum) : (s.setUs w).getReg g m = s.getReg g m := rfl

@[simp] theorem State.setPs_getReg (w : SW) (g : FileNum) (m : RegNum) : (s.setPs w).getReg g m = s.getReg g m := rfl

@[simp] theorem State.setRun_getReg (r : RunState) (g : FileNum) (m : RegNum) :
    (s.setRun r).getReg g m = s.getReg g m := rfl

@[simp] theorem State.drawn_getReg (g : FileNum) (m : RegNum) : (s.drawn).getReg g m = s.getReg g m := rfl

@[simp] theorem State.stage4_getReg (g : FileNum) (m : RegNum) : (s.stage4).getReg g m = s.getReg g m := rfl

@[simp] theorem State.stage6_getReg (g : FileNum) (m : RegNum) : (s.stage6).getReg g m = s.getReg g m := rfl

@[simp] theorem State.putQ_getReg (pa : PAddr) (v : QW) (g : FileNum) (m : RegNum) :
    (s.putQ pa v).getReg g m = s.getReg g m := rfl

@[simp] theorem State.setEnb_getReg (i : BitVec 3) (v : SW) (g : FileNum) (m : RegNum) :
    (s.setEnb i v).getReg g m = s.getReg g m := rfl

@[simp] theorem State.setPend_getReg (i : BitVec 3) (v : SW) (g : FileNum) (m : RegNum) :
    (s.setPend i v).getReg g m = s.getReg g m := rfl

@[simp] theorem State.setParm_getReg (k : BitVec 8) (v : SW) (g : FileNum) (m : RegNum) :
    (s.setParm k v).getReg g m = s.getReg g m := rfl

@[simp] theorem State.setUserSegment_getReg (p l : PAddr) (g : FileNum) (m : RegNum) :
    (s.setUserSegment p l).getReg g m = s.getReg g m := rfl

@[simp] theorem State.setExecSegment_getReg (p l : PAddr) (g : FileNum) (m : RegNum) :
    (s.setExecSegment p l).getReg g m = s.getReg g m := rfl
@[simp] theorem State.setPc_physQ (a : VAddr) (q : PAddr) : (s.setPc a).physQ q = s.physQ q := rfl
@[simp] theorem State.setUs_physQ (w : SW) (q : PAddr) : (s.setUs w).physQ q = s.physQ q := rfl
@[simp] theorem State.setPs_physQ (w : SW) (q : PAddr) : (s.setPs w).physQ q = s.physQ q := rfl
@[simp] theorem State.setRun_physQ (r : RunState) (q : PAddr) : (s.setRun r).physQ q = s.physQ q := rfl
@[simp] theorem State.drawn_physQ (q : PAddr) : (s.drawn).physQ q = s.physQ q := rfl
@[simp] theorem State.stage4_physQ (q : PAddr) : (s.stage4).physQ q = s.physQ q := rfl
@[simp] theorem State.stage6_physQ (q : PAddr) : (s.stage6).physQ q = s.physQ q := rfl
@[simp] theorem State.setReg_physQ (f : FileNum) (n : RegNum) (v : SW) (q : PAddr) :
    (s.setReg f n v).physQ q = s.physQ q := rfl
@[simp] theorem State.putReg_physQ (n : RegNum) (v : SW) (q : PAddr) : (s.putReg n v).physQ q = s.physQ q := rfl
@[simp] theorem State.setEnb_physQ (i : BitVec 3) (v : SW) (q : PAddr) : (s.setEnb i v).physQ q = s.physQ q := rfl
@[simp] theorem State.setPend_physQ (i : BitVec 3) (v : SW) (q : PAddr) : (s.setPend i v).physQ q = s.physQ q := rfl
@[simp] theorem State.setParm_physQ (k : BitVec 8) (v : SW) (q : PAddr) : (s.setParm k v).physQ q = s.physQ q := rfl
@[simp] theorem State.setUserSegment_physQ (p l : PAddr) (q : PAddr) :
    (s.setUserSegment p l).physQ q = s.physQ q := rfl
@[simp] theorem State.setExecSegment_physQ (p l : PAddr) (q : PAddr) :
    (s.setExecSegment p l).physQ q = s.physQ q := rfl

end Sys2Proof.Machine
end

