-- ==== Sys2Proof/Laws/Memory.lean ====
section
/-! SUPPORT. Sparse storage: what is read after a store, and that every memory operation keeps the canonical form. -/

namespace Sys2Proof.Machine

/-! ### Cells -/

variable {w : Nat}

/-- The canonical form of a list with a first cell. -/
theorem Cells.wfFrom_cons {lo k : Nat} {v : BitVec w} {t : List (Nat × BitVec w)} :
    Cells.wfFrom lo ((k, v) :: t) = true ↔ lo ≤ k ∧ v ≠ 0 ∧ Cells.wfFrom (k + 1) t = true := by
  simp only [Cells.wfFrom, Bool.and_eq_true, decide_eq_true_eq, bne_iff_ne, and_assoc]

/-- A canonical list reads as zero below its lower bound. -/
theorem Cells.get_of_lt_wfFrom {lo a : Nat} {m : List (Nat × BitVec w)} (h : Cells.wfFrom lo m = true) (ha : a < lo) :
    Cells.get a m = 0 := by
  induction m generalizing lo with
  | nil => rfl
  | cons c t ih =>
    obtain ⟨k, v⟩ := c
    have hk := (Cells.wfFrom_cons.1 h).1
    simp only [Cells.get]
    rw [if_neg (by omega), if_neg (by omega)]

/-- A smaller lower bound also holds. -/
theorem Cells.wfFrom_mono {lo lo' : Nat} {m : List (Nat × BitVec w)} (h : Cells.wfFrom lo m = true) (hl : lo' ≤ lo) :
    Cells.wfFrom lo' m = true := by
  cases m with
  | nil => rfl
  | cons c t =>
    obtain ⟨k, v⟩ := c
    obtain ⟨hk, hv, ht⟩ := Cells.wfFrom_cons.1 h
    exact Cells.wfFrom_cons.2 ⟨by omega, hv, ht⟩

/-- A store keeps the canonical form. -/
theorem Cells.wfFrom_set {lo a : Nat} {v : BitVec w} {m : List (Nat × BitVec w)} (h : Cells.wfFrom lo m = true)
    (ha : lo ≤ a) : Cells.wfFrom lo (Cells.set a v m) = true := by
  induction m generalizing lo with
  | nil =>
    unfold Cells.set
    split
    · rfl
    · next hv => exact Cells.wfFrom_cons.2 ⟨ha, hv, rfl⟩
  | cons c t ih =>
    obtain ⟨k, x⟩ := c
    obtain ⟨hk, hx, ht⟩ := Cells.wfFrom_cons.1 h
    unfold Cells.set
    split
    · exact Cells.wfFrom_cons.2 ⟨hk, hx, ih ht (by omega)⟩
    · split
      · subst_vars
        split
        · exact Cells.wfFrom_mono ht (by omega)
        · next hv => exact Cells.wfFrom_cons.2 ⟨ha, hv, ht⟩
      · split
        · exact h
        · next hv => exact Cells.wfFrom_cons.2 ⟨ha, hv, Cells.wfFrom_cons.2 ⟨by omega, hx, ht⟩⟩

/-- What is read after a store. -/
theorem Cells.get_set {lo a b : Nat} {v : BitVec w} {m : List (Nat × BitVec w)} (h : Cells.wfFrom lo m = true) :
    Cells.get b (Cells.set a v m) = if b = a then v else Cells.get b m := by
  induction m generalizing lo with
  | nil =>
    unfold Cells.set
    split
    · next hv => simp [Cells.get, hv]
    · simp only [Cells.get]
      split
      · rw [if_neg (by omega)]
      · simp only [eq_comm]
  | cons c t ih =>
    obtain ⟨k, x⟩ := c
    have ht := (Cells.wfFrom_cons.1 h).2.2
    have hz : b ≤ k → Cells.get b t = 0 := fun hb => Cells.get_of_lt_wfFrom ht (by omega)
    by_cases hba : b = a
    · subst hba
      simp only [if_pos]
      unfold Cells.set
      split
      · next hk => simp only [Cells.get, if_pos hk, ih ht]; simp
      · split
        · split
          · next hv => rw [hz (by omega), hv]
          · simp [Cells.get]
        · split
          · next hv => simp only [Cells.get]; rw [if_neg (by omega), if_neg (by omega), hv]
          · simp [Cells.get]
    · rw [if_neg hba]
      unfold Cells.set
      split
      · simp only [Cells.get, ih ht, if_neg hba]
      · split
        · subst_vars
          split
          · simp only [Cells.get]
            split
            · rfl
            · rw [if_neg (by omega)]; exact hz (by omega)
          · simp only [Cells.get]
            split
            · rfl
            · rw [if_neg (by omega), if_neg (by omega)]
        · split
          · rfl
          · simp only [Cells.get]
            split
            · rfl
            · rw [if_neg (by omega)]
              split
              · omega
              · rw [if_neg (by omega)]

/-- Storage outside the stored key does not depend on the form of the list. -/
theorem Cells.get_set_other {a b : Nat} {v : BitVec w} {m : List (Nat × BitVec w)} (h : b ≠ a)
    (hm : Cells.wfFrom 0 m = true) : Cells.get b (Cells.set a v m) = Cells.get b m := by
  rw [Cells.get_set hm, if_neg h]

/-! ### Memory -/

/-- A store keeps the canonical form of memory. -/
theorem Memory.wf_write {m : Memory} {a : Nat} {v : QW} (h : Memory.wf m = true) : Memory.wf (Memory.write m a v) = true :=
  Cells.wfFrom_set h (Nat.zero_le a)

/-- What a byte of memory reads as after a store. -/
theorem Memory.read_write {m : Memory} {a b : Nat} {v : QW} (h : Memory.wf m = true) :
    Memory.read (Memory.write m a v) b = if b = a then v else Memory.read m b :=
  Cells.get_set h

/-- Memory of the state after reset is canonical. -/
theorem State.reset_mem_wf : Memory.wf State.reset.mem = true := rfl

/-- A quarter-word store keeps the canonical form. -/
theorem State.mem_wf_putQ {s : State} {pa : PAddr} {v : QW} (h : Memory.wf s.mem = true) :
    Memory.wf (s.putQ pa v).mem = true := Memory.wf_write h

/-- A half-word store keeps the canonical form. -/
theorem State.mem_wf_putH {s : State} {pa : PAddr} {v : HW} (h : Memory.wf s.mem = true) :
    Memory.wf (s.putH pa v).mem = true := State.mem_wf_putQ (State.mem_wf_putQ h)

/-- A single-word store keeps the canonical form. -/
theorem State.mem_wf_putS {s : State} {pa : PAddr} {v : SW} (h : Memory.wf s.mem = true) :
    Memory.wf (s.putS pa v).mem = true := State.mem_wf_putH (State.mem_wf_putH h)

/-- A single-word store in a place keeps the canonical form. -/
theorem State.mem_wf_writeS {s : State} {v : SW} {p : Place} (h : Memory.wf s.mem = true) :
    Memory.wf (s.writeS v p).mem = true := by
  cases p with
  | reg f a => exact h
  | phys pa => exact State.mem_wf_putS h

/-- An operand store keeps the canonical form. -/
theorem State.mem_wf_writeSpan {s : State} {p : Prec} {sp : Span} {v : BitVec p.bits} (h : Memory.wf s.mem = true) :
    Memory.wf (s.writeSpan p sp v).mem = true := by
  cases p with
  | q =>
    cases hp : sp.fst with
    | reg f a => simpa [State.writeSpan, State.writeQ, hp] using h
    | phys pa => simpa [State.writeSpan, State.writeQ, hp] using State.mem_wf_putQ h
  | h =>
    cases hp : sp.fst with
    | reg f a => simpa [State.writeSpan, State.writeH, hp] using h
    | phys pa => simpa [State.writeSpan, State.writeH, hp] using State.mem_wf_putH h
  | s => exact State.mem_wf_writeS h
  | d => exact State.mem_wf_writeS (State.mem_wf_writeS h)

/-- A block store keeps the canonical form. -/
theorem State.mem_wf_writeRun {p : Prec} {sps : List Span} {vs : List (BitVec p.bits)} {s : State}
    (h : Memory.wf s.mem = true) : Memory.wf (s.writeRun p sps vs).mem = true := by
  induction sps generalizing s vs with
  | nil => exact h
  | cons sp t ih =>
    cases vs with
    | nil => exact h
    | cons v vt => exact ih (State.mem_wf_writeSpan h)

/-- A push on the implicit stack keeps the canonical form. -/
theorem State.mem_wf_pushWords {s s' : State} {ws : List SW} (h : Memory.wf s.mem = true)
    (hp : s.pushWords ws = .ok s') : Memory.wf s'.mem = true := by
  simp only [State.pushWords, bind, Except.bind] at hp
  split at hp
  · cases hp
  · split at hp
    · cases hp
    · cases hp
      exact State.mem_wf_writeRun h

/-- Stores of buffer words keep the canonical form of the buffers. -/
theorem IoBuffers.wf_store {b : IoBuffers} {ks : List Nat} {ws : List SW} (h : IoBuffers.wf b = true) :
    IoBuffers.wf (IoBuffers.store b ks ws) = true := by
  induction ks generalizing b ws with
  | nil => exact h
  | cons k t ih =>
    cases ws with
    | nil => exact h
    | cons x xs => exact ih (Cells.wfFrom_set h (Nat.zero_le k))

end Sys2Proof.Machine
end

