-- ==== Sys2Proof/Laws/Places.lean ====
section
/-! SUPPORT. What a store in a place, a span or a run changes: the fields it leaves alone, and the registers and bytes
outside what it stores. -/

namespace Sys2Proof.Machine

variable (s : State)

/-! ### A store changes registers and memory only -/

/-- A store of a quarter-word changes the register file and memory only. -/
theorem State.writeQ_eq (v : QW) (p : Place) :
    s.writeQ v p = { s with rf := (s.writeQ v p).rf, mem := (s.writeQ v p).mem } := by
  cases p <;> rfl

/-- A store of a half-word changes the register file and memory only. -/
theorem State.writeH_eq (v : HW) (p : Place) :
    s.writeH v p = { s with rf := (s.writeH v p).rf, mem := (s.writeH v p).mem } := by
  cases p <;> rfl

/-- A store of a single-word changes the register file and memory only. -/
theorem State.writeS_eq (v : SW) (p : Place) :
    s.writeS v p = { s with rf := (s.writeS v p).rf, mem := (s.writeS v p).mem } := by
  cases p <;> rfl

/-- An operand store changes the register file and memory only. -/
theorem State.writeSpan_eq (p : Prec) (sp : Span) (v : BitVec p.bits) :
    s.writeSpan p sp v = { s with rf := (s.writeSpan p sp v).rf, mem := (s.writeSpan p sp v).mem } := by
  cases p with
  | q => exact State.writeQ_eq s _ _
  | h => exact State.writeH_eq s _ _
  | s => exact State.writeS_eq s _ _
  | d =>
    simp only [State.writeSpan]
    rw [State.writeS_eq (s.writeS _ _)]
    rw [State.writeS_eq s]

/-- A block store changes the register file and memory only. -/
theorem State.writeRun_eq (p : Prec) (sps : List Span) (vs : List (BitVec p.bits)) :
    s.writeRun p sps vs = { s with rf := (s.writeRun p sps vs).rf, mem := (s.writeRun p sps vs).mem } := by
  induction sps generalizing s vs with
  | nil => rfl
  | cons sp t ih =>
    cases vs with
    | nil => rfl
    | cons v vt =>
      simp only [State.writeRun]
      rw [ih]
      rw [State.writeSpan_eq s]


/-! ### The fields a `State.writeQ` leaves alone -/

@[simp] theorem State.writeQ_pc (v : QW) (p : Place) : (s.writeQ v p).pc = s.pc := by rw [State.writeQ_eq]
@[simp] theorem State.writeQ_ps (v : QW) (p : Place) : (s.writeQ v p).ps = s.ps := by rw [State.writeQ_eq]
@[simp] theorem State.writeQ_us (v : QW) (p : Place) : (s.writeQ v p).us = s.us := by rw [State.writeQ_eq]
@[simp] theorem State.writeQ_execStp (v : QW) (p : Place) :
    (s.writeQ v p).execStp = s.execStp := by rw [State.writeQ_eq]
@[simp] theorem State.writeQ_execStl (v : QW) (p : Place) :
    (s.writeQ v p).execStl = s.execStl := by rw [State.writeQ_eq]
@[simp] theorem State.writeQ_userStp (v : QW) (p : Place) :
    (s.writeQ v p).userStp = s.userStp := by rw [State.writeQ_eq]
@[simp] theorem State.writeQ_userStl (v : QW) (p : Place) :
    (s.writeQ v p).userStl = s.userStl := by rw [State.writeQ_eq]
@[simp] theorem State.writeQ_intPend (v : QW) (p : Place) :
    (s.writeQ v p).intPend = s.intPend := by rw [State.writeQ_eq]
@[simp] theorem State.writeQ_intEnb (v : QW) (p : Place) : (s.writeQ v p).intEnb = s.intEnb := by rw [State.writeQ_eq]
@[simp] theorem State.writeQ_intParm (v : QW) (p : Place) :
    (s.writeQ v p).intParm = s.intParm := by rw [State.writeQ_eq]
@[simp] theorem State.writeQ_ctr (v : QW) (p : Place) : (s.writeQ v p).ctr = s.ctr := by rw [State.writeQ_eq]
@[simp] theorem State.writeQ_ctrEnb (v : QW) (p : Place) : (s.writeQ v p).ctrEnb = s.ctrEnb := by rw [State.writeQ_eq]
@[simp] theorem State.writeQ_procId (v : QW) (p : Place) : (s.writeQ v p).procId = s.procId := by rw [State.writeQ_eq]
@[simp] theorem State.writeQ_instructionState (v : QW) (p : Place) :
    (s.writeQ v p).instructionState = s.instructionState := by rw [State.writeQ_eq]
@[simp] theorem State.writeQ_traceEnbOld (v : QW) (p : Place) :
    (s.writeQ v p).traceEnbOld = s.traceEnbOld := by rw [State.writeQ_eq]
@[simp] theorem State.writeQ_run (v : QW) (p : Place) : (s.writeQ v p).run = s.run := by rw [State.writeQ_eq]
@[simp] theorem State.writeQ_doubleFault (v : QW) (p : Place) :
    (s.writeQ v p).doubleFault = s.doubleFault := by rw [State.writeQ_eq]
@[simp] theorem State.writeQ_physMem (v : QW) (p : Place) :
    (s.writeQ v p).physMem = s.physMem := by rw [State.writeQ_eq]
@[simp] theorem State.writeQ_iobuf (v : QW) (p : Place) : (s.writeQ v p).iobuf = s.iobuf := by rw [State.writeQ_eq]
@[simp] theorem State.writeQ_iopOut (v : QW) (p : Place) : (s.writeQ v p).iopOut = s.iopOut := by rw [State.writeQ_eq]
@[simp] theorem State.writeQ_freeCount (v : QW) (p : Place) :
    (s.writeQ v p).freeCount = s.freeCount := by rw [State.writeQ_eq]

/-! ### The fields a `State.writeH` leaves alone -/

@[simp] theorem State.writeH_pc (v : HW) (p : Place) : (s.writeH v p).pc = s.pc := by rw [State.writeH_eq]
@[simp] theorem State.writeH_ps (v : HW) (p : Place) : (s.writeH v p).ps = s.ps := by rw [State.writeH_eq]
@[simp] theorem State.writeH_us (v : HW) (p : Place) : (s.writeH v p).us = s.us := by rw [State.writeH_eq]
@[simp] theorem State.writeH_execStp (v : HW) (p : Place) :
    (s.writeH v p).execStp = s.execStp := by rw [State.writeH_eq]
@[simp] theorem State.writeH_execStl (v : HW) (p : Place) :
    (s.writeH v p).execStl = s.execStl := by rw [State.writeH_eq]
@[simp] theorem State.writeH_userStp (v : HW) (p : Place) :
    (s.writeH v p).userStp = s.userStp := by rw [State.writeH_eq]
@[simp] theorem State.writeH_userStl (v : HW) (p : Place) :
    (s.writeH v p).userStl = s.userStl := by rw [State.writeH_eq]
@[simp] theorem State.writeH_intPend (v : HW) (p : Place) :
    (s.writeH v p).intPend = s.intPend := by rw [State.writeH_eq]
@[simp] theorem State.writeH_intEnb (v : HW) (p : Place) : (s.writeH v p).intEnb = s.intEnb := by rw [State.writeH_eq]
@[simp] theorem State.writeH_intParm (v : HW) (p : Place) :
    (s.writeH v p).intParm = s.intParm := by rw [State.writeH_eq]
@[simp] theorem State.writeH_ctr (v : HW) (p : Place) : (s.writeH v p).ctr = s.ctr := by rw [State.writeH_eq]
@[simp] theorem State.writeH_ctrEnb (v : HW) (p : Place) : (s.writeH v p).ctrEnb = s.ctrEnb := by rw [State.writeH_eq]
@[simp] theorem State.writeH_procId (v : HW) (p : Place) : (s.writeH v p).procId = s.procId := by rw [State.writeH_eq]
@[simp] theorem State.writeH_instructionState (v : HW) (p : Place) :
    (s.writeH v p).instructionState = s.instructionState := by rw [State.writeH_eq]
@[simp] theorem State.writeH_traceEnbOld (v : HW) (p : Place) :
    (s.writeH v p).traceEnbOld = s.traceEnbOld := by rw [State.writeH_eq]
@[simp] theorem State.writeH_run (v : HW) (p : Place) : (s.writeH v p).run = s.run := by rw [State.writeH_eq]
@[simp] theorem State.writeH_doubleFault (v : HW) (p : Place) :
    (s.writeH v p).doubleFault = s.doubleFault := by rw [State.writeH_eq]
@[simp] theorem State.writeH_physMem (v : HW) (p : Place) :
    (s.writeH v p).physMem = s.physMem := by rw [State.writeH_eq]
@[simp] theorem State.writeH_iobuf (v : HW) (p : Place) : (s.writeH v p).iobuf = s.iobuf := by rw [State.writeH_eq]
@[simp] theorem State.writeH_iopOut (v : HW) (p : Place) : (s.writeH v p).iopOut = s.iopOut := by rw [State.writeH_eq]
@[simp] theorem State.writeH_freeCount (v : HW) (p : Place) :
    (s.writeH v p).freeCount = s.freeCount := by rw [State.writeH_eq]

/-! ### The fields a `State.writeS` leaves alone -/

@[simp] theorem State.writeS_pc (v : SW) (p : Place) : (s.writeS v p).pc = s.pc := by rw [State.writeS_eq]
@[simp] theorem State.writeS_ps (v : SW) (p : Place) : (s.writeS v p).ps = s.ps := by rw [State.writeS_eq]
@[simp] theorem State.writeS_us (v : SW) (p : Place) : (s.writeS v p).us = s.us := by rw [State.writeS_eq]
@[simp] theorem State.writeS_execStp (v : SW) (p : Place) :
    (s.writeS v p).execStp = s.execStp := by rw [State.writeS_eq]
@[simp] theorem State.writeS_execStl (v : SW) (p : Place) :
    (s.writeS v p).execStl = s.execStl := by rw [State.writeS_eq]
@[simp] theorem State.writeS_userStp (v : SW) (p : Place) :
    (s.writeS v p).userStp = s.userStp := by rw [State.writeS_eq]
@[simp] theorem State.writeS_userStl (v : SW) (p : Place) :
    (s.writeS v p).userStl = s.userStl := by rw [State.writeS_eq]
@[simp] theorem State.writeS_intPend (v : SW) (p : Place) :
    (s.writeS v p).intPend = s.intPend := by rw [State.writeS_eq]
@[simp] theorem State.writeS_intEnb (v : SW) (p : Place) : (s.writeS v p).intEnb = s.intEnb := by rw [State.writeS_eq]
@[simp] theorem State.writeS_intParm (v : SW) (p : Place) :
    (s.writeS v p).intParm = s.intParm := by rw [State.writeS_eq]
@[simp] theorem State.writeS_ctr (v : SW) (p : Place) : (s.writeS v p).ctr = s.ctr := by rw [State.writeS_eq]
@[simp] theorem State.writeS_ctrEnb (v : SW) (p : Place) : (s.writeS v p).ctrEnb = s.ctrEnb := by rw [State.writeS_eq]
@[simp] theorem State.writeS_procId (v : SW) (p : Place) : (s.writeS v p).procId = s.procId := by rw [State.writeS_eq]
@[simp] theorem State.writeS_instructionState (v : SW) (p : Place) :
    (s.writeS v p).instructionState = s.instructionState := by rw [State.writeS_eq]
@[simp] theorem State.writeS_traceEnbOld (v : SW) (p : Place) :
    (s.writeS v p).traceEnbOld = s.traceEnbOld := by rw [State.writeS_eq]
@[simp] theorem State.writeS_run (v : SW) (p : Place) : (s.writeS v p).run = s.run := by rw [State.writeS_eq]
@[simp] theorem State.writeS_doubleFault (v : SW) (p : Place) :
    (s.writeS v p).doubleFault = s.doubleFault := by rw [State.writeS_eq]
@[simp] theorem State.writeS_physMem (v : SW) (p : Place) :
    (s.writeS v p).physMem = s.physMem := by rw [State.writeS_eq]
@[simp] theorem State.writeS_iobuf (v : SW) (p : Place) : (s.writeS v p).iobuf = s.iobuf := by rw [State.writeS_eq]
@[simp] theorem State.writeS_iopOut (v : SW) (p : Place) : (s.writeS v p).iopOut = s.iopOut := by rw [State.writeS_eq]
@[simp] theorem State.writeS_freeCount (v : SW) (p : Place) :
    (s.writeS v p).freeCount = s.freeCount := by rw [State.writeS_eq]

/-! ### The fields a `State.writeSpan` leaves alone -/

@[simp] theorem State.writeSpan_pc (p : Prec) (sp : Span) (v : BitVec p.bits) :
    (s.writeSpan p sp v).pc = s.pc := by rw [State.writeSpan_eq]
@[simp] theorem State.writeSpan_ps (p : Prec) (sp : Span) (v : BitVec p.bits) :
    (s.writeSpan p sp v).ps = s.ps := by rw [State.writeSpan_eq]
@[simp] theorem State.writeSpan_us (p : Prec) (sp : Span) (v : BitVec p.bits) :
    (s.writeSpan p sp v).us = s.us := by rw [State.writeSpan_eq]
@[simp] theorem State.writeSpan_execStp (p : Prec) (sp : Span) (v : BitVec p.bits) :
    (s.writeSpan p sp v).execStp = s.execStp := by rw [State.writeSpan_eq]
@[simp] theorem State.writeSpan_execStl (p : Prec) (sp : Span) (v : BitVec p.bits) :
    (s.writeSpan p sp v).execStl = s.execStl := by rw [State.writeSpan_eq]
@[simp] theorem State.writeSpan_userStp (p : Prec) (sp : Span) (v : BitVec p.bits) :
    (s.writeSpan p sp v).userStp = s.userStp := by rw [State.writeSpan_eq]
@[simp] theorem State.writeSpan_userStl (p : Prec) (sp : Span) (v : BitVec p.bits) :
    (s.writeSpan p sp v).userStl = s.userStl := by rw [State.writeSpan_eq]
@[simp] theorem State.writeSpan_intPend (p : Prec) (sp : Span) (v : BitVec p.bits) :
    (s.writeSpan p sp v).intPend = s.intPend := by rw [State.writeSpan_eq]
@[simp] theorem State.writeSpan_intEnb (p : Prec) (sp : Span) (v : BitVec p.bits) :
    (s.writeSpan p sp v).intEnb = s.intEnb := by rw [State.writeSpan_eq]
@[simp] theorem State.writeSpan_intParm (p : Prec) (sp : Span) (v : BitVec p.bits) :
    (s.writeSpan p sp v).intParm = s.intParm := by rw [State.writeSpan_eq]
@[simp] theorem State.writeSpan_ctr (p : Prec) (sp : Span) (v : BitVec p.bits) :
    (s.writeSpan p sp v).ctr = s.ctr := by rw [State.writeSpan_eq]
@[simp] theorem State.writeSpan_ctrEnb (p : Prec) (sp : Span) (v : BitVec p.bits) :
    (s.writeSpan p sp v).ctrEnb = s.ctrEnb := by rw [State.writeSpan_eq]
@[simp] theorem State.writeSpan_procId (p : Prec) (sp : Span) (v : BitVec p.bits) :
    (s.writeSpan p sp v).procId = s.procId := by rw [State.writeSpan_eq]
@[simp] theorem State.writeSpan_instructionState (p : Prec) (sp : Span) (v : BitVec p.bits) :
    (s.writeSpan p sp v).instructionState = s.instructionState := by rw [State.writeSpan_eq]
@[simp] theorem State.writeSpan_traceEnbOld (p : Prec) (sp : Span) (v : BitVec p.bits) :
    (s.writeSpan p sp v).traceEnbOld = s.traceEnbOld := by rw [State.writeSpan_eq]
@[simp] theorem State.writeSpan_run (p : Prec) (sp : Span) (v : BitVec p.bits) :
    (s.writeSpan p sp v).run = s.run := by rw [State.writeSpan_eq]
@[simp] theorem State.writeSpan_doubleFault (p : Prec) (sp : Span) (v : BitVec p.bits) :
    (s.writeSpan p sp v).doubleFault = s.doubleFault := by rw [State.writeSpan_eq]
@[simp] theorem State.writeSpan_physMem (p : Prec) (sp : Span) (v : BitVec p.bits) :
    (s.writeSpan p sp v).physMem = s.physMem := by rw [State.writeSpan_eq]
@[simp] theorem State.writeSpan_iobuf (p : Prec) (sp : Span) (v : BitVec p.bits) :
    (s.writeSpan p sp v).iobuf = s.iobuf := by rw [State.writeSpan_eq]
@[simp] theorem State.writeSpan_iopOut (p : Prec) (sp : Span) (v : BitVec p.bits) :
    (s.writeSpan p sp v).iopOut = s.iopOut := by rw [State.writeSpan_eq]
@[simp] theorem State.writeSpan_freeCount (p : Prec) (sp : Span) (v : BitVec p.bits) :
    (s.writeSpan p sp v).freeCount = s.freeCount := by rw [State.writeSpan_eq]

/-! ### The fields a `State.writeRun` leaves alone -/

@[simp] theorem State.writeRun_pc (p : Prec) (sps : List Span) (vs : List (BitVec p.bits)) :
    (s.writeRun p sps vs).pc = s.pc := by rw [State.writeRun_eq]
@[simp] theorem State.writeRun_ps (p : Prec) (sps : List Span) (vs : List (BitVec p.bits)) :
    (s.writeRun p sps vs).ps = s.ps := by rw [State.writeRun_eq]
@[simp] theorem State.writeRun_us (p : Prec) (sps : List Span) (vs : List (BitVec p.bits)) :
    (s.writeRun p sps vs).us = s.us := by rw [State.writeRun_eq]
@[simp] theorem State.writeRun_execStp (p : Prec) (sps : List Span) (vs : List (BitVec p.bits)) :
    (s.writeRun p sps vs).execStp = s.execStp := by rw [State.writeRun_eq]
@[simp] theorem State.writeRun_execStl (p : Prec) (sps : List Span) (vs : List (BitVec p.bits)) :
    (s.writeRun p sps vs).execStl = s.execStl := by rw [State.writeRun_eq]
@[simp] theorem State.writeRun_userStp (p : Prec) (sps : List Span) (vs : List (BitVec p.bits)) :
    (s.writeRun p sps vs).userStp = s.userStp := by rw [State.writeRun_eq]
@[simp] theorem State.writeRun_userStl (p : Prec) (sps : List Span) (vs : List (BitVec p.bits)) :
    (s.writeRun p sps vs).userStl = s.userStl := by rw [State.writeRun_eq]
@[simp] theorem State.writeRun_intPend (p : Prec) (sps : List Span) (vs : List (BitVec p.bits)) :
    (s.writeRun p sps vs).intPend = s.intPend := by rw [State.writeRun_eq]
@[simp] theorem State.writeRun_intEnb (p : Prec) (sps : List Span) (vs : List (BitVec p.bits)) :
    (s.writeRun p sps vs).intEnb = s.intEnb := by rw [State.writeRun_eq]
@[simp] theorem State.writeRun_intParm (p : Prec) (sps : List Span) (vs : List (BitVec p.bits)) :
    (s.writeRun p sps vs).intParm = s.intParm := by rw [State.writeRun_eq]
@[simp] theorem State.writeRun_ctr (p : Prec) (sps : List Span) (vs : List (BitVec p.bits)) :
    (s.writeRun p sps vs).ctr = s.ctr := by rw [State.writeRun_eq]
@[simp] theorem State.writeRun_ctrEnb (p : Prec) (sps : List Span) (vs : List (BitVec p.bits)) :
    (s.writeRun p sps vs).ctrEnb = s.ctrEnb := by rw [State.writeRun_eq]
@[simp] theorem State.writeRun_procId (p : Prec) (sps : List Span) (vs : List (BitVec p.bits)) :
    (s.writeRun p sps vs).procId = s.procId := by rw [State.writeRun_eq]
@[simp] theorem State.writeRun_instructionState (p : Prec) (sps : List Span) (vs : List (BitVec p.bits)) :
    (s.writeRun p sps vs).instructionState = s.instructionState := by rw [State.writeRun_eq]
@[simp] theorem State.writeRun_traceEnbOld (p : Prec) (sps : List Span) (vs : List (BitVec p.bits)) :
    (s.writeRun p sps vs).traceEnbOld = s.traceEnbOld := by rw [State.writeRun_eq]
@[simp] theorem State.writeRun_run (p : Prec) (sps : List Span) (vs : List (BitVec p.bits)) :
    (s.writeRun p sps vs).run = s.run := by rw [State.writeRun_eq]
@[simp] theorem State.writeRun_doubleFault (p : Prec) (sps : List Span) (vs : List (BitVec p.bits)) :
    (s.writeRun p sps vs).doubleFault = s.doubleFault := by rw [State.writeRun_eq]
@[simp] theorem State.writeRun_physMem (p : Prec) (sps : List Span) (vs : List (BitVec p.bits)) :
    (s.writeRun p sps vs).physMem = s.physMem := by rw [State.writeRun_eq]
@[simp] theorem State.writeRun_iobuf (p : Prec) (sps : List Span) (vs : List (BitVec p.bits)) :
    (s.writeRun p sps vs).iobuf = s.iobuf := by rw [State.writeRun_eq]
@[simp] theorem State.writeRun_iopOut (p : Prec) (sps : List Span) (vs : List (BitVec p.bits)) :
    (s.writeRun p sps vs).iopOut = s.iopOut := by rw [State.writeRun_eq]
@[simp] theorem State.writeRun_freeCount (p : Prec) (sps : List Span) (vs : List (BitVec p.bits)) :
    (s.writeRun p sps vs).freeCount = s.freeCount := by rw [State.writeRun_eq]

/-! ### Registers -/

/-- The parts of a concatenation. -/
theorem append_inj {m n : Nat} {a b : BitVec m} {c d : BitVec n} (h : a ++ c = b ++ d) : a = b ∧ c = d := by
  constructor
  · apply BitVec.eq_of_getLsbD_eq
    intro i hi
    have := congrArg (fun w => w.getLsbD (i + n)) h
    simpa [BitVec.getLsbD_append] using this
  · apply BitVec.eq_of_getLsbD_eq
    intro i hi
    have := congrArg (fun w => w.getLsbD i) h
    simpa [BitVec.getLsbD_append, hi] using this

/-- Distinct registers have distinct places in the file. -/
theorem regIndex_inj {f g : FileNum} {n m : RegNum} (h : regIndex f n = regIndex g m) : f = g ∧ n = m :=
  append_inj h

/-- A register after a store in a register. -/
theorem State.getReg_setReg (f g : FileNum) (n m : RegNum) (v : SW) :
    (s.setReg f n v).getReg g m = if f = g ∧ n = m then v else s.getReg g m := by
  unfold State.getReg State.setReg
  simp only [Vector.getElem_set]
  split
  · next h =>
    obtain ⟨rfl, rfl⟩ := regIndex_inj (BitVec.eq_of_toNat_eq h)
    simp
  · next h =>
    rw [if_neg]
    rintro ⟨rfl, rfl⟩
    exact h rfl

/-- The register of a place, and whether a store in the place changes register `n` of file `f`. -/
theorem Place.isReg_reg {f g : FileNum} {n : RegNum} {a : BitVec 7} :
    (Place.reg g a).isReg f n = false ↔ ¬(g = f ∧ field a 0 5 = n) := by
  simp [Place.isReg]

/-- A store in another place leaves a register alone. -/
theorem State.getReg_writeQ {v : QW} {p : Place} {f : FileNum} {n : RegNum} (h : p.isReg f n = false) :
    (s.writeQ v p).getReg f n = s.getReg f n := by
  cases p with
  | reg g a => rw [State.writeQ, State.getReg_setReg, if_neg (Place.isReg_reg.1 h)]
  | phys pa => rfl

/-- A store in another place leaves a register alone. -/
theorem State.getReg_writeH {v : HW} {p : Place} {f : FileNum} {n : RegNum} (h : p.isReg f n = false) :
    (s.writeH v p).getReg f n = s.getReg f n := by
  cases p with
  | reg g a => rw [State.writeH, State.getReg_setReg, if_neg (Place.isReg_reg.1 h)]
  | phys pa => rfl

/-- A store in another place leaves a register alone. -/
theorem State.getReg_writeS {v : SW} {p : Place} {f : FileNum} {n : RegNum} (h : p.isReg f n = false) :
    (s.writeS v p).getReg f n = s.getReg f n := by
  cases p with
  | reg g a => rw [State.writeS, State.getReg_setReg, if_neg (Place.isReg_reg.1 h)]
  | phys pa => rfl

/-- An operand store leaves every other register alone. -/
theorem State.getReg_writeSpan {p : Prec} {sp : Span} {v : BitVec p.bits} {f : FileNum} {n : RegNum}
    (h : sp.touchesReg p f n = false) : (s.writeSpan p sp v).getReg f n = s.getReg f n := by
  cases p with
  | q => exact State.getReg_writeQ s h
  | h => exact State.getReg_writeH s h
  | s => exact State.getReg_writeS s h
  | d =>
    have h2 := Bool.or_eq_false_iff.1 h
    simp only [State.writeSpan]
    rw [State.getReg_writeS _ h2.2, State.getReg_writeS _ h2.1]

/-- A block store leaves every other register alone. -/
theorem State.getReg_writeRun {p : Prec} {sps : List Span} {vs : List (BitVec p.bits)} {f : FileNum} {n : RegNum}
    (h : ∀ sp ∈ sps, sp.touchesReg p f n = false) : (s.writeRun p sps vs).getReg f n = s.getReg f n := by
  induction sps generalizing s vs with
  | nil => rfl
  | cons sp t ih =>
    cases vs with
    | nil => rfl
    | cons v vt =>
      simp only [State.writeRun]
      rw [ih _ fun x hx => h x (List.mem_cons_of_mem _ hx), State.getReg_writeSpan s (h sp List.mem_cons_self)]

/-! ### Bytes of memory -/

variable {s}

/-- A quarter-word after a store of a quarter-word. -/
theorem State.physQ_putQ (hm : Memory.wf s.mem = true) (pa a : PAddr) (v : QW) :
    (s.putQ pa v).physQ a = if a = pa then v else s.physQ a := by
  unfold State.physQ State.putQ
  simp only [Memory.read_write hm, BitVec.toNat_inj]

/-- A quarter-word outside a stored half-word. -/
theorem State.physQ_putH (hm : Memory.wf s.mem = true) {pa a : PAddr} {v : HW} (h0 : a ≠ pa) (h1 : a ≠ paAdd pa 1) :
    (s.putH pa v).physQ a = s.physQ a := by
  rw [State.putH, State.physQ_putQ (State.mem_wf_putQ hm), if_neg h1, State.physQ_putQ hm, if_neg h0]

/-- Addition on physical addresses. -/
theorem paAdd_paAdd (pa : PAddr) (j k : Nat) : paAdd (paAdd pa j) k = paAdd pa (j + k) := by
  simp only [paAdd, BitVec.add_assoc, ← BitVec.ofNat_add]

/-- A quarter-word outside a stored single-word. -/
theorem State.physQ_putS (hm : Memory.wf s.mem = true) {pa a : PAddr} {v : SW}
    (h : ∀ j < 4, a ≠ paAdd pa j) : (s.putS pa v).physQ a = s.physQ a := by
  have h0 : a ≠ pa := by simpa [paAdd] using h 0 (by decide)
  rw [State.putS, State.physQ_putH (State.mem_wf_putH hm) (h 2 (by decide)) (by rw [paAdd_paAdd]; exact h 3 (by decide)),
    State.physQ_putH hm h0 (h 1 (by decide))]

/-- A place that does not cover an address. -/
theorem Place.covers_phys {k : Nat} {a pa : PAddr} : (Place.phys pa).covers k a = false ↔ ∀ j < k, a ≠ paAdd pa j := by
  simp [Place.covers]

/-- A byte of memory outside the place of a stored quarter-word. -/
theorem State.physQ_writeQ (hm : Memory.wf s.mem = true) {v : QW} {p : Place} {a : PAddr} (h : p.covers 1 a = false) :
    (s.writeQ v p).physQ a = s.physQ a := by
  cases p with
  | reg f b => rfl
  | phys pa =>
    have h0 : a ≠ pa := by simpa [paAdd] using Place.covers_phys.1 h 0 (by decide)
    rw [State.writeQ, State.physQ_putQ hm, if_neg h0]

/-- A byte of memory outside the place of a stored half-word. -/
theorem State.physQ_writeH (hm : Memory.wf s.mem = true) {v : HW} {p : Place} {a : PAddr} (h : p.covers 2 a = false) :
    (s.writeH v p).physQ a = s.physQ a := by
  cases p with
  | reg f b => rfl
  | phys pa =>
    have h0 : a ≠ pa := by simpa [paAdd] using Place.covers_phys.1 h 0 (by decide)
    exact State.physQ_putH hm h0 (Place.covers_phys.1 h 1 (by decide))

/-- A byte of memory outside the place of a stored single-word. -/
theorem State.physQ_writeS (hm : Memory.wf s.mem = true) {v : SW} {p : Place} {a : PAddr} (h : p.covers 4 a = false) :
    (s.writeS v p).physQ a = s.physQ a := by
  cases p with
  | reg f b => rfl
  | phys pa => exact State.physQ_putS hm (Place.covers_phys.1 h)

/-- A byte of memory outside a stored operand. -/
theorem State.physQ_writeSpan (hm : Memory.wf s.mem = true) {p : Prec} {sp : Span} {v : BitVec p.bits} {a : PAddr}
    (h : sp.touchesByte p a = false) : (s.writeSpan p sp v).physQ a = s.physQ a := by
  cases p with
  | q => exact State.physQ_writeQ hm h
  | h => exact State.physQ_writeH hm h
  | s => exact State.physQ_writeS hm h
  | d =>
    have h2 := Bool.or_eq_false_iff.1 h
    simp only [State.writeSpan]
    rw [State.physQ_writeS (State.mem_wf_writeS hm) h2.2, State.physQ_writeS hm h2.1]

/-- A byte of memory outside a stored block. -/
theorem State.physQ_writeRun {p : Prec} {sps : List Span} {vs : List (BitVec p.bits)} {a : PAddr}
    (hm : Memory.wf s.mem = true) (h : ∀ sp ∈ sps, sp.touchesByte p a = false) :
    (s.writeRun p sps vs).physQ a = s.physQ a := by
  induction sps generalizing s vs with
  | nil => rfl
  | cons sp t ih =>
    cases vs with
    | nil => rfl
    | cons v vt =>
      simp only [State.writeRun]
      rw [ih (State.mem_wf_writeSpan hm) fun x hx => h x (List.mem_cons_of_mem _ hx),
        State.physQ_writeSpan hm (h sp List.mem_cons_self)]

end Sys2Proof.Machine
end

