-- ==== Sys2Proof/Laws/Ops.lean ====
section
/-! SUPPORT. One lemma for each shared operation that says once everything it can answer, and the operations that stage 4
does not affect: the proofs about instructions cite these instead of unfolding the operations. -/

namespace Sys2Proof.Machine

/-! ### Computations of an instruction -/

/-- A sequence of two computations answers a value exactly when both do. -/
theorem M.bind_ok {α β : Type} {x : M α} {f : α → M β} {b : β} :
    (x >>= f) = .ok b ↔ ∃ a, x = .ok a ∧ f a = .ok b := by
  cases x with
  | error e => simp [bind, Except.bind]
  | ok a => simp [bind, Except.bind]

/-- A sequence of two computations raises what the first or the second raises. -/
theorem M.bind_error {α β : Type} {x : M α} {f : α → M β} {e : Exc} :
    (x >>= f) = .error e ↔ x = .error e ∨ ∃ a, x = .ok a ∧ f a = .error e := by
  cases x with
  | error e' => simp [bind, Except.bind]
  | ok a => simp [bind, Except.bind]

/-- A fatal trap is not raised exactly when its condition fails. -/
theorem fatalIf_ok {c : Bool} {n : Fatal} {u : Unit} : fatalIf c n = .ok u ↔ c = false := by
  unfold fatalIf
  cases c <;> simp

/-- What a computation answers inside an instruction. -/
theorem liftAlu_ok {α : Type} {i : SoftInfo} {x : Alu α} {a : α} : liftAlu i x = .ok a ↔ x = .ok a := by
  cases x with
  | ok b => simp [liftAlu]
  | error e => cases e <;> simp [liftAlu]

/-- An address that can be loaded in the PC (R615). -/
theorem checkPC_ok {a : VAddr} {u : Unit} : checkPC a = .ok u ↔ aligned .s a = true ∧ 128 ≤ a.toNat := by
  simp only [checkPC, M.bind_ok, fatalIf_ok, Bool.not_eq_false', decide_eq_false_iff_not, Nat.not_lt]
  exact ⟨fun ⟨_, h1, h2⟩ => ⟨h1, h2⟩, fun ⟨h1, h2⟩ => ⟨(), h1, h2⟩⟩

/-- A word that can be loaded in `USER_STATUS` (R751). -/
theorem checkUS_ok {w : SW} {u : Unit} : checkUS w = .ok u ↔ Us.legal w = true := by
  simp [checkUS, fatalIf_ok]

/-- The stack does not grow past its limit (R612). -/
theorem State.stackCheck_ok {s : State} {new : SW} {u : Unit} :
    s.stackCheck new = .ok u ↔ new.toInt ≤ s.sl.toInt := by
  unfold State.stackCheck
  split <;> simp <;> omega

/-! ### Operands and stage 4 -/

section
variable (s : State)

@[simp] theorem State.stage4_evalOD (od : OD) : s.stage4.evalOD od = s.evalOD od := rfl
@[simp] theorem State.stage4_evalTop (t : TMode) (o1 o2 : OD) : s.stage4.evalTop t o1 o2 = s.evalTop t o1 o2 := rfl
@[simp] theorem State.stage4_checkWrite (o : Operand) (p : Prec) : s.stage4.checkWrite o p = s.checkWrite o p := rfl
@[simp] theorem State.stage4_checkWriteLoc (l : Loc) (p : Prec) :
    s.stage4.checkWriteLoc l p = s.checkWriteLoc l p := rfl
@[simp] theorem State.stage4_readOp (o : Operand) (p : Prec) : s.stage4.readOp o p = s.readOp o p := rfl
@[simp] theorem State.stage4_readLoc (l : Loc) (p : Prec) : s.stage4.readLoc l p = s.readLoc l p := rfl
@[simp] theorem State.stage4_jumpDest (j : JDest) : s.stage4.jumpDest j = s.jumpDest j := rfl
@[simp] theorem State.stage4_skipDest (k : BitVec 4) : s.stage4.skipDest k = s.skipDest k := rfl
@[simp] theorem State.stage4_hopDest (d : BitVec 24) : s.stage4.hopDest d = s.hopDest d := rfl
@[simp] theorem State.stage4_memRead (c : Ctx) (va : VAddr) (p : Prec) :
    s.stage4.memRead c va p = s.memRead c va p := rfl
@[simp] theorem State.stage4_vecRead (va : VAddr) : s.stage4.vecRead va = s.vecRead va := rfl
@[simp] theorem State.stage4_wordBelow (l : Loc) (k : Nat) : s.stage4.wordBelow l k = s.wordBelow l k := rfl
@[simp] theorem State.stage4_locate (a : Access) (c : Ctx) (va : VAddr) (p : Prec) :
    s.stage4.locate a c va p = s.locate a c va p := rfl
@[simp] theorem State.stage4_readSpan (p : Prec) (sp : Span) : s.stage4.readSpan p sp = s.readSpan p sp := rfl
@[simp] theorem State.stage4_readRun (p : Prec) (sps : List Span) : s.stage4.readRun p sps = s.readRun p sps := rfl
@[simp] theorem State.stage4_iapLoc (c : Ctx) (w : SW) : s.stage4.iapLoc c w = s.iapLoc c w := rfl
@[simp] theorem State.stage4_byteLoc (x : Operand) (p : Prec) : s.stage4.byteLoc x p = s.byteLoc x p := rfl
@[simp] theorem State.stage4_trapParm (tm : BitVec 9) (od : OD) (b : Bool) :
    s.stage4.trapParm tm od b = s.trapParm tm od b := rfl
@[simp] theorem State.stage4_privileged (e : Env) : s.stage4.privileged e = s.privileged e := rfl
@[simp] theorem State.stage4_stackCheck (w : SW) : s.stage4.stackCheck w = s.stackCheck w := rfl
@[simp] theorem State.stage4_translate (b : Bool) (va : VAddr) : s.stage4.translate b va = s.translate b va := rfl
@[simp] theorem State.stage4_ioBufLoc (c : Ctx) (va : VAddr) : s.stage4.ioBufLoc c va = s.ioBufLoc c va := rfl
@[simp] theorem State.stage4_reg (n : RegNum) : s.stage4.reg n = s.reg n := rfl
@[simp] theorem State.stage4_count (n : RegNum) : s.stage4.count n = s.count n := rfl
@[simp] theorem State.stage4_sp : s.stage4.sp = s.sp := rfl
@[simp] theorem State.stage4_sl : s.stage4.sl = s.sl := rfl
@[simp] theorem State.stage4_loadUs (w : SW) :
    s.stage4.loadUs w = (s.loadUs w).map State.stage4 := by
  simp only [State.loadUs, bind, Except.bind, Except.map]
  cases checkUS w <;> rfl

@[simp] theorem State.stage4_locateRun (a : Access) (c : Ctx) (p : Prec) (n : Nat) (va : VAddr) :
    s.stage4.locateRun a c p n va = s.locateRun a c p n va := by
  induction n generalizing va with
  | zero => rfl
  | succ n ih => simp only [State.locateRun, ih, State.stage4_locate]

@[simp] theorem State.stage4_ioBufRun (c : Ctx) (n : Nat) (va : VAddr) :
    s.stage4.ioBufRun c n va = s.ioBufRun c n va := by
  induction n generalizing va with
  | zero => rfl
  | succ n ih => simp only [State.ioBufRun, ih, State.stage4_ioBufLoc]

@[simp] theorem State.stage4_sourceBlock (a : Access) (x : Operand) (n : Nat) :
    s.stage4.sourceBlock a x n = s.sourceBlock a x n := by
  cases x with
  | imm k w => rfl
  | loc l => simp only [State.sourceBlock, State.stage4_locateRun, State.stage4_readRun]

@[simp] theorem State.stage4_destBlock (a : Access) (x : Operand) (n : Nat) :
    s.stage4.destBlock a x n = s.destBlock a x n := by
  simp only [State.destBlock, State.stage4_locateRun]

@[simp] theorem State.stage4_compareFrom (x y : Operand) (n k i : Nat) :
    s.stage4.compareFrom x y n k i = s.compareFrom x y n k i := by
  induction k generalizing i with
  | zero => rfl
  | succ k ih =>
    have hq : ∀ z, s.stage4.srcQuarter z n i = s.srcQuarter z n i := fun z => by cases z <;> rfl
    simp only [State.compareFrom, ih, hq]

end

/-! ### The implicit stack and the entry of an exception -/

variable {s t : State}

/-- Everything a push on the implicit stack can answer (R613). -/
theorem State.pushWords_ok {ws : List SW} : s.pushWords ws = .ok t ↔
    (s.sp + BitVec.ofNat 36 (4 * ws.length)).toInt ≤ s.sl.toInt ∧
    ∃ sps, s.locateRun .write .cur .s ws.length (addrOfWord s.sp) = .ok sps ∧
      t = (s.writeRun .s sps ws).putReg (Us.spId s.us) (s.sp + BitVec.ofNat 36 (4 * ws.length)) := by
  simp only [State.pushWords, M.bind_ok, State.stackCheck_ok, Except.ok.injEq]
  constructor
  · rintro ⟨_, h, sps, hs, rfl⟩
    exact ⟨h, sps, hs, rfl⟩
  · rintro ⟨h, sps, hs, rfl⟩
    exact ⟨(), h, sps, hs, rfl⟩

/-- Everything the load of the status words and the push of a save area can answer (R890). -/
theorem State.loadAndPush_ok {h nus nps : SW} {ws : List SW} : s.loadAndPush h nus nps ws = .ok t ↔
    ∃ s2, ((s.setUs nus).setPs (Ps.partialLoad s.ps nps)).pushWords ws = .ok s2 ∧
      t = (s2.setPc (addrOfWord h)).setRun .running := by
  simp only [State.loadAndPush, M.bind_ok, Except.ok.injEq]
  exact exists_congr fun _ => and_congr_right fun _ => eq_comm

/-- Everything the initiation of a hard trap or an interrupt can answer (R904). -/
theorem State.initiateFull_ok {va : VAddr} {ws : List SW} : s.initiateFull va ws = .ok t ↔
    ∃ h nus nps, s.vecRead va = .ok h ∧ s.vecRead (vaAdd va 4) = .ok nus ∧ s.vecRead (vaAdd va 8) = .ok nps ∧
      aligned .s (addrOfWord h) = true ∧ 128 ≤ (addrOfWord h).toNat ∧ Us.legal nus = true ∧
      s.loadAndPush h nus nps ws = .ok t := by
  simp only [State.initiateFull, M.bind_ok, checkPC_ok, checkUS_ok]
  constructor
  · rintro ⟨h, h1, u, h2, p, h3, _, ⟨h4, h5⟩, _, h6, h7⟩
    exact ⟨h, u, p, h1, h2, h3, h4, h5, h6, h7⟩
  · rintro ⟨h, u, p, h1, h2, h3, h4, h5, h6, h7⟩
    exact ⟨h, h1, u, h2, p, h3, (), ⟨h4, h5⟩, (), h6, h7⟩

/-- The next states of a nested hard trap: its handler, or the halt with `DOUBLE_FAULT` (R930, R932). -/
theorem State.nested_next {va : VAddr} (h : s.nested va = .next t) :
    s.initiateFull (hrdVecAddr nestedVecIndex) (s.hardSaveArea (pcWord va)) = .ok t ∨
    (∃ e, s.initiateFull (hrdVecAddr nestedVecIndex) (s.hardSaveArea (pcWord va)) = .error e) ∧
      t = { s with run := .halted, doubleFault := true } := by
  unfold State.nested at h
  split at h <;> first | contradiction | (cases h; simp_all)

/-- The next states of a hard trap: its handler, or a nested hard trap (R904, R930). -/
theorem State.enterHard_next {k : Nat} {w : SW} (h : s.enterHard k w = .next t) :
    s.initiateFull (hrdVecAddr k) (s.hardSaveArea w) = .ok t ∨ s.nested (hrdVecAddr k) = .next t := by
  unfold State.enterHard at h
  split at h <;> first | contradiction | (cases h; simp_all) | simp_all

/-- Everything the initiation of a soft trap can answer (R908). -/
theorem State.initiateSoft_ok {k : SoftVec} {i : SoftInfo} : s.initiateSoft k i = .ok t ↔
    ∃ h nus s2, s.memRead .cur (sftVecAddr k.index) .s = .ok h ∧
      s.memRead .cur (vaAdd (sftVecAddr k.index) 4) .s = .ok nus ∧
      aligned .s (addrOfWord h) = true ∧ 128 ≤ (addrOfWord h).toNat ∧ Us.legal nus = true ∧
      ((s.fillUndefined (s.softSaveArea k i)).2.setUs nus).pushWords (s.fillUndefined (s.softSaveArea k i)).1 = .ok s2 ∧
      t = s2.setPc (addrOfWord h) := by
  simp only [State.initiateSoft, M.bind_ok, checkPC_ok, checkUS_ok, Except.ok.injEq]
  constructor
  · rintro ⟨h, h1, u, h2, _, ⟨h3, h4⟩, _, h5, s2, h6, rfl⟩
    exact ⟨h, u, s2, h1, h2, h3, h4, h5, h6, rfl⟩
  · rintro ⟨h, u, s2, h1, h2, h3, h4, h5, h6, rfl⟩
    exact ⟨h, h1, u, h2, (), ⟨h3, h4⟩, (), h5, s2, h6, rfl⟩

/-- The next states of a soft trap: its handler, or the fatal trap for an error of its initiation (R931). -/
theorem State.enterSoft_next {k : SoftVec} {i : SoftInfo} (h : s.enterSoft k i = .next t) :
    s.initiateSoft k i = .ok t ∨ s.enterFatal .softTrapError = .next t := by
  unfold State.enterSoft at h
  split at h <;> first | contradiction | (cases h; simp_all) | simp_all

/-- The next states of an accepted interrupt (R922). -/
theorem State.acceptInterrupt_next {i : Fin 8} {j : Nat} (h : s.acceptInterrupt i j = .next t) :
    (∃ s', s.initiateFull (intVecAddr (32 * i.val + j))
        [s.intParmAt (BitVec.ofNat 8 (32 * i.val + j)), s.instructionState, s.us, s.ps, pcWord s.pc] = .ok s' ∧
      t = { s' with intPend := s'.intPend.set i (setBit s'.intPend[i] j false) }) ∨
    s.nested (intVecAddr (32 * i.val + j)) = .next t := by
  unfold State.acceptInterrupt at h
  dsimp only at h
  split at h
  · next s' hs => exact .inl ⟨s', hs, by cases h; rfl⟩
  · contradiction
  · contradiction
  · exact .inr h

/-- The fields a return leaves (R632). -/
theorem State.returnTo_fields {sp : SW} {us ps : Option SW} {pc : VAddr} :
    (s.returnTo sp us ps pc).us = us.getD s.us ∧ (s.returnTo sp us ps pc).ps = ps.getD s.ps ∧
    (s.returnTo sp us ps pc).pc = pc ∧ (s.returnTo sp us ps pc).rf = (s.putReg (Us.spId s.us) sp).rf :=
  ⟨rfl, rfl, rfl, rfl⟩

/-! ### The frames of the instructions -/

/-- Everything a three-address instruction can answer. -/
theorem top3_ok {pd p1 p2 : Prec} {op : SW → BitVec p1.bits → BitVec p2.bits → Alu (BitVec pd.bits × SW)} {m : TMode}
    {o1 o2 : OD} {env : Env} : top3 pd p1 p2 op m o1 o2 env s = .ok t ↔
    ∃ a d x y r, s.evalTop m o1 o2 = .ok a ∧ s.checkWrite a.dest pd = .ok d ∧ s.readOp a.s1 p1 = .ok x ∧
      s.readOp a.s2 p2 = .ok y ∧ op s.us x y = .ok r ∧
      t = ((s.writeSpan pd d r.1).setUs r.2).setPc env.next := by
  simp only [top3, M.bind_ok, liftAlu_ok, Except.ok.injEq]
  constructor
  · rintro ⟨a, h1, d, h2, x, h3, y, h4, r, h5, rfl⟩
    exact ⟨a, d, x, y, r, h1, h2, h3, h4, h5, rfl⟩
  · rintro ⟨a, d, x, y, r, h1, h2, h3, h4, h5, rfl⟩
    exact ⟨a, h1, d, h2, x, h3, y, h4, r, h5, rfl⟩

/-- Everything a three-address instruction with two results can answer. -/
theorem top3Next_ok {pd p1 p2 : Prec}
    {op : SW → BitVec p1.bits → BitVec p2.bits → Alu (BitVec pd.bits × BitVec pd.bits × SW)} {m : TMode}
    {o1 o2 : OD} {env : Env} : top3Next pd p1 p2 op m o1 o2 env s = .ok t ↔
    ∃ a l d d2 x y r, s.evalTop m o1 o2 = .ok a ∧ a.dest.asLoc = .ok l ∧ s.checkWriteLoc l pd = .ok d ∧
      s.checkWriteLoc (l.next pd) pd = .ok d2 ∧ s.readOp a.s1 p1 = .ok x ∧ s.readOp a.s2 p2 = .ok y ∧
      op s.us x y = .ok r ∧
      t = (((s.writeSpan pd d r.1).writeSpan pd d2 r.2.1).setUs r.2.2).setPc env.next := by
  simp only [top3Next, M.bind_ok, liftAlu_ok, Except.ok.injEq]
  constructor
  · rintro ⟨a, h1, l, h2, d, h3, d2, h4, x, h5, y, h6, r, h7, rfl⟩
    exact ⟨a, l, d, d2, x, y, r, h1, h2, h3, h4, h5, h6, h7, rfl⟩
  · rintro ⟨a, l, d, d2, x, y, r, h1, h2, h3, h4, h5, h6, h7, rfl⟩
    exact ⟨a, h1, l, h2, d, h3, d2, h4, x, h5, y, h6, r, h7, rfl⟩

/-- Everything a three-address instruction that can hard-trap can answer. -/
theorem top3Trap_ok {pd p1 p2 : Prec} {op : BitVec p1.bits → BitVec p2.bits → M (BitVec pd.bits)} {m : TMode}
    {o1 o2 : OD} {env : Env} : top3Trap pd p1 p2 op m o1 o2 env s = .ok t ↔
    ∃ a d x y r, s.evalTop m o1 o2 = .ok a ∧ s.checkWrite a.dest pd = .ok d ∧ s.readOp a.s1 p1 = .ok x ∧
      s.readOp a.s2 p2 = .ok y ∧ op x y = .ok r ∧ t = (s.writeSpan pd d r).setPc env.next := by
  simp only [top3Trap, M.bind_ok, Except.ok.injEq]
  constructor
  · rintro ⟨a, h1, d, h2, x, h3, y, h4, r, h5, rfl⟩
    exact ⟨a, d, x, y, r, h1, h2, h3, h4, h5, rfl⟩
  · rintro ⟨a, d, x, y, r, h1, h2, h3, h4, h5, rfl⟩
    exact ⟨a, h1, d, h2, x, h3, y, h4, r, h5, rfl⟩

/-- Everything a two-address instruction can answer. -/
theorem xop2_ok {p1 p2 : Prec} {op : SW → BitVec p2.bits → Alu (BitVec p1.bits × SW)} {o1 o2 : OD} {env : Env} :
    xop2 p1 p2 op o1 o2 env s = .ok t ↔
    ∃ x1 x2 d y r, s.evalOD o1 = .ok x1 ∧ s.evalOD o2 = .ok x2 ∧ s.checkWrite x1 p1 = .ok d ∧
      s.readOp x2 p2 = .ok y ∧ op s.us y = .ok r ∧
      t = ((s.writeSpan p1 d r.1).setUs r.2).setPc env.next := by
  simp only [xop2, M.bind_ok, liftAlu_ok, Except.ok.injEq]
  constructor
  · rintro ⟨x1, h1, x2, h2, d, h3, y, h4, r, h5, rfl⟩
    exact ⟨x1, x2, d, y, r, h1, h2, h3, h4, h5, rfl⟩
  · rintro ⟨x1, x2, d, y, r, h1, h2, h3, h4, h5, rfl⟩
    exact ⟨x1, h1, x2, h2, d, h3, y, h4, r, h5, rfl⟩

end Sys2Proof.Machine
end

