-- ==== Sys2Proof/Laws/Shapes.lean ====
section
/-! SUPPORT. How a statement about an instruction reduces to one about its computation: the frame of the stores an instruction
makes, and the statements `Top3Gives`, `Top3NextGives` and `Xop2Gives` from the agreement of the machine's computation with
the rules. -/

namespace Sys2Proof.Machine

/-! ### The frame of what an instruction stores -/

/-- The stores of a list of spans, in order. -/
def State.storeAll (s : State) : List (Σ p : Prec, Span × BitVec p.bits) → State
  | [] => s
  | x :: t => (s.writeSpan x.1 x.2.1 x.2.2).storeAll t

/-- The spans of a list of stores with their precisions. -/
def spansOf (l : List (Σ p : Prec, Span × BitVec p.bits)) : List (Prec × Span) := l.map fun x => (x.1, x.2.1)

/-- A list of stores changes the register file and memory only. -/
theorem State.storeAll_eq (s : State) (l : List (Σ p : Prec, Span × BitVec p.bits)) :
    s.storeAll l = { s with rf := (s.storeAll l).rf, mem := (s.storeAll l).mem } := by
  induction l generalizing s with
  | nil => rfl
  | cons x t ih =>
    simp only [State.storeAll]
    rw [ih]
    rw [State.writeSpan_eq s]

/-- A list of stores leaves every other register alone. -/
theorem State.getReg_storeAll {l : List (Σ p : Prec, Span × BitVec p.bits)} {f : FileNum} {n : RegNum} (s : State)
    (h : ∀ x ∈ spansOf l, x.2.touchesReg x.1 f n = false) : (s.storeAll l).getReg f n = s.getReg f n := by
  induction l generalizing s with
  | nil => rfl
  | cons x t ih =>
    simp only [State.storeAll]
    rw [ih _ fun y hy => h y (List.mem_cons_of_mem _ hy),
      State.getReg_writeSpan s (h (x.1, x.2.1) List.mem_cons_self)]

/-- A list of stores leaves every other byte of memory alone. -/
theorem State.physQ_storeAll {l : List (Σ p : Prec, Span × BitVec p.bits)} {a : PAddr} {s : State}
    (hm : Memory.wf s.mem = true) (h : ∀ x ∈ spansOf l, x.2.touchesByte x.1 a = false) :
    (s.storeAll l).physQ a = s.physQ a := by
  induction l generalizing s with
  | nil => rfl
  | cons x t ih =>
    simp only [State.storeAll]
    rw [ih (State.mem_wf_writeSpan hm) fun y hy => h y (List.mem_cons_of_mem _ hy),
      State.physQ_writeSpan hm (h (x.1, x.2.1) List.mem_cons_self)]

/-- The frame of an instruction that only makes a list of stores. -/
theorem leaves_done {s : State} (hm : Memory.wf s.mem = true) (l : List (Σ p : Prec, Span × BitVec p.bits)) (us : SW)
    (pc : VAddr) : Leaves s s (s.done (fun u => u.storeAll l) us pc) (spansOf l) where
  regs f n h := by
    show (s.stage4.storeAll l).getReg f n = s.getReg f n
    exact State.getReg_storeAll s.stage4 h
  bytes a h := by
    show (s.stage4.storeAll l).physQ a = s.physQ a
    exact State.physQ_storeAll (s := s.stage4) hm h
  rest := by
    simp only [State.done]
    rw [State.storeAll_eq]
    rfl
  ps := by
    simp only [State.done]
    rw [State.storeAll_eq]
    rfl

/-! ### From the computation to the instruction -/

/-- The machine's computation agrees with the answer of the rules. -/
def Agrees {α : Type} (m : Alu α) (r : Answer α) : Prop :=
  match r with
  | .value a => m = .ok a
  | .trap k => m = .error (.soft k)

/-- A three-address instruction gives the answer of the rules when its computation agrees with it. -/
theorem top3Gives_of {pd p1 p2 : Prec} {mk : TMode → OD → OD → Instr}
    {op : SW → BitVec p1.bits → BitVec p2.bits → Alu (BitVec pd.bits × SW)}
    {res : SW → BitVec p1.bits → BitVec p2.bits → Answer (BitVec pd.bits × SW)}
    (he : ∀ t o1 o2 s, exec (mk t o1 o2) s = runInstr (mk t o1 o2).form (top3 pd p1 p2 op t o1 o2) s)
    (h : ∀ us x y, Us.legal us = true → Agrees (op us x y) (res us x y)) : Top3Gives pd p1 p2 mk res := by
  intro t o1 o2 s a d x y hm hus h1 h2 h3 h4
  have ha := h s.us x y hus
  rw [he]
  split
  · next v us hv =>
    rw [hv] at ha
    refine ⟨?_, leaves_done hm [⟨pd, d, v⟩] us _⟩
    rw [he]
    refine (runInstr_ok (s2 := ((s.stage4.writeSpan pd d v).setUs us).setPc (s.after (mk t o1 o2))) ?_).trans rfl
    exact top3_ok.2 ⟨a, d, x, y, (v, us), h1, h2, h3, h4, ha, rfl⟩
  · next k hk =>
    rw [hk] at ha
    rw [runInstr_exc (e := .soft k (softTop (s.env (mk t o1 o2)) a p1 p2 x y)) ?_ (by simp)]
    · rfl
    · have ha' : op s.stage4.us x y = .error (.soft k) := ha
      simp only [top3, State.stage4_evalTop, h1, State.stage4_checkWrite, h2, State.stage4_readOp, h3, h4, ha', bind,
        Except.bind, liftAlu]
      rfl

/-- A three-address instruction with two results gives the answer of the rules when its computation agrees with it. -/
theorem top3NextGives_of {pd p1 p2 : Prec} {mk : TMode → OD → OD → Instr}
    {op : SW → BitVec p1.bits → BitVec p2.bits → Alu (BitVec pd.bits × BitVec pd.bits × SW)}
    {res : SW → BitVec p1.bits → BitVec p2.bits → Answer (BitVec pd.bits × BitVec pd.bits × SW)}
    (he : ∀ t o1 o2 s, exec (mk t o1 o2) s = runInstr (mk t o1 o2).form (top3Next pd p1 p2 op t o1 o2) s)
    (h : ∀ us x y, Us.legal us = true → Agrees (op us x y) (res us x y)) : Top3NextGives pd p1 p2 mk res := by
  intro t o1 o2 s a l d e x y hm hus h1 h2 h3 h4 h5 h6
  have ha := h s.us x y hus
  have hl : a.dest.asLoc = .ok l := by rw [h2]; rfl
  rw [he]
  split
  · next v w us hv =>
    rw [hv] at ha
    refine ⟨?_, leaves_done hm [⟨pd, d, v⟩, ⟨pd, e, w⟩] us _⟩
    rw [he]
    refine (runInstr_ok
      (s2 := (((s.stage4.writeSpan pd d v).writeSpan pd e w).setUs us).setPc (s.after (mk t o1 o2))) ?_).trans rfl
    exact top3Next_ok.2 ⟨a, l, d, e, x, y, (v, w, us), h1, hl, h3, h4, h5, h6, ha, rfl⟩
  · next k hk =>
    rw [hk] at ha
    rw [runInstr_exc (e := .soft k (softTop (s.env (mk t o1 o2)) a p1 p2 x y)) ?_ (by simp)]
    · rfl
    · have ha' : op s.stage4.us x y = .error (.soft k) := ha
      simp only [top3Next, State.stage4_evalTop, h1, hl, State.stage4_checkWriteLoc, h3, h4, State.stage4_readOp, h5, h6,
        ha', bind, Except.bind, liftAlu]
      rfl

/-- A two-address instruction gives the answer of the rules when its computation agrees with it. -/
theorem xop2Gives_of {p1 p2 : Prec} {mk : OD → OD → Instr} {op : SW → BitVec p2.bits → Alu (BitVec p1.bits × SW)}
    {res : SW → BitVec p2.bits → Answer (BitVec p1.bits × SW)}
    (he : ∀ o1 o2 s, exec (mk o1 o2) s = runInstr (mk o1 o2).form (xop2 p1 p2 op o1 o2) s)
    (h : ∀ us y, Us.legal us = true → Agrees (op us y) (res us y)) : Xop2Gives p1 p2 mk res := by
  intro o1 o2 s x1 x2 d y hm hus h1 h2 h3 h4
  have ha := h s.us y hus
  rw [he]
  split
  · next v us hv =>
    rw [hv] at ha
    refine ⟨?_, leaves_done hm [⟨p1, d, v⟩] us _⟩
    rw [he]
    refine (runInstr_ok (s2 := ((s.stage4.writeSpan p1 d v).setUs us).setPc (s.after (mk o1 o2))) ?_).trans rfl
    exact xop2_ok.2 ⟨x1, x2, d, y, (v, us), h1, h2, h3, h4, ha, rfl⟩
  · next k hk =>
    rw [hk] at ha
    rw [runInstr_exc (e := .soft k (softUnary (s.env (mk o1 o2)) x1 p2 y)) ?_ (by simp)]
    · rfl
    · have ha' : op s.stage4.us y = .error (.soft k) := ha
      simp only [xop2, State.stage4_evalOD, h1, h2, State.stage4_checkWrite, h3, State.stage4_readOp, h4, ha', bind,
        Except.bind, liftAlu]
      rfl

end Sys2Proof.Machine
end

