-- ==== Sys2Proof/Laws/Families.lean ====
section
/-! SUPPORT. For each shared operation that is no computation of a three- or two-address frame: when it completes, with which stores
and which frame. Each lemma gives the statement of a shape for an instruction that runs the operation. -/

namespace Sys2Proof.Machine

/-! ### Frames -/

/-- The frame of an instruction that changes special registers by `g` and then makes a list of stores. -/
theorem completes_of {s : State} {i : Instr} {base : State} {f : State → State} {us : SW} {pc : VAddr}
    {stored : List (Prec × Span)} (g : State → State) (l : List (Σ p : Prec, Span × BitVec p.bits))
    (hx : exec i s = .next (s.done f us pc)) (hf : f s.stage4 = (g s.stage4).storeAll l)
    (hg : g s.stage4 = { base with traceEnbOld := Ps.traceEnb s.ps })
    (hm : l ≠ [] → Memory.wf base.mem = true) (hst : ∀ x ∈ spansOf l, x ∈ stored) :
    Completes s i base (s.done f us pc) stored := by
  refine ⟨hx, ?_, ?_, ?_, ?_⟩
  · intro r n h
    show (f s.stage4).getReg r n = base.getReg r n
    rw [hf, State.getReg_storeAll _ fun x hx => h x (hst x hx), hg]
    rfl
  · intro a h
    show (f s.stage4).physQ a = base.physQ a
    rw [hf, hg]
    cases l with
    | nil => rfl
    | cons x t =>
      rw [State.physQ_storeAll (s := { base with traceEnbOld := Ps.traceEnb s.ps }) (hm (by simp))
        fun x hx => h x (hst x hx)]
      rfl
  · simp only [State.done]
    rw [hf, hg, State.storeAll_eq]
    rfl
  · simp only [State.done]
    rw [hf, hg, State.storeAll_eq]
    rfl

/-- The stores of a list of words in a run of spans. -/
def runStores (p : Prec) (sps : List Span) (vs : List (BitVec p.bits)) : List (Σ p : Prec, Span × BitVec p.bits) :=
  (sps.zip vs).map fun x => ⟨p, x.1, x.2⟩

theorem State.writeRun_storeAll (s : State) (p : Prec) (sps : List Span) (vs : List (BitVec p.bits)) :
    s.writeRun p sps vs = s.storeAll (runStores p sps vs) := by
  induction sps generalizing s vs with
  | nil => rfl
  | cons sp t ih =>
    cases vs with
    | nil => rfl
    | cons v vs => exact ih _ _

theorem State.storeAll_append (s : State) (a b : List (Σ p : Prec, Span × BitVec p.bits)) :
    s.storeAll (a ++ b) = (s.storeAll a).storeAll b := by
  induction a generalizing s with
  | nil => rfl
  | cons x t ih => exact ih _

theorem mem_spansOf_runStores {p : Prec} {sps : List Span} {vs : List (BitVec p.bits)} {x : Prec × Span}
    (h : x ∈ spansOf (runStores p sps vs)) : x ∈ sps.map fun sp => (p, sp) := by
  simp only [spansOf, runStores, List.map_map, List.mem_map, Function.comp] at h ⊢
  obtain ⟨y, hy, rfl⟩ := h
  exact ⟨y.1, (List.of_mem_zip hy).1, rfl⟩

theorem spansOf_append (a b : List (Σ p : Prec, Span × BitVec p.bits)) : spansOf (a ++ b) = spansOf a ++ spansOf b :=
  List.map_append

/-- Writing a register of the current file is a store in its span. -/
theorem State.putReg_store (s : State) (n : RegNum) (v : SW) : s.putReg n v = s.writeSpan .s (s.regSpan n) v := by
  have h : field (n ++ 0#2) 0 5 = n := by
    revert n
    decide
  show s.setReg s.file n v = s.setReg s.file (field (n ++ 0#2) 0 5) v
  rw [h]

/-- An exception of the body is taken from the state after stage 4. -/
theorem trapsFatal_of {i : Instr} {s : State} {b : Body} {n : Fatal} (he : exec i s = runInstr i.form b s)
    (h : b (s.envOf i.form) s.stage4 = .error (.fatal n)) : TrapsFatal s i n := by
  rw [TrapsFatal, he, runInstr_exc h (by simp)]
  rfl

/-- A hard trap of the body is taken from the state after stage 4. -/
theorem trapsHard_of {i : Instr} {s : State} {b : Body} {v : HardVec} {w : SW} (he : exec i s = runInstr i.form b s)
    (h : b (s.envOf i.form) s.stage4 = .error (.hard v w)) : TrapsHard s i v w := by
  rw [TrapsHard, he, runInstr_exc h (by simp)]
  rfl

/-- A soft trap of the body is taken after stage 6. -/
theorem trapsSoft_of {i : Instr} {s : State} {b : Body} {k : SoftVec} {w : SoftInfo}
    (he : exec i s = runInstr i.form b s) (h : b (s.envOf i.form) s.stage4 = .error (.soft k w)) :
    TrapsSoft s i k w := by
  rw [TrapsSoft, he, runInstr_exc h (by simp)]
  rfl

/-- An instruction whose body completes in a state that differs from the state after stage 4 by `f`, `USER_STATUS` and PC. -/
theorem exec_of {i : Instr} {s : State} {b : Body} {f : State → State} {us : SW} {pc : VAddr}
    (he : exec i s = runInstr i.form b s)
    (h : b (s.envOf i.form) s.stage4 = .ok (((f s.stage4).setUs us).setPc pc)) :
    exec i s = .next (s.done f us pc) := by
  rw [he, runInstr_ok h]
  rfl

/-- As `exec_of`, for a body that does not write `USER_STATUS`. -/
theorem exec_of_plain {i : Instr} {s : State} {b : Body} {f : State → State} {pc : VAddr}
    (he : exec i s = runInstr i.form b s) (h : b (s.envOf i.form) s.stage4 = .ok ((f s.stage4).setPc pc))
    (hus : (f s.stage4).us = s.us) : exec i s = .next (s.done f s.us pc) := by
  refine exec_of he ?_
  rw [h, ← hus]
  rfl

/-- A body that only jumps. -/
theorem jumpsTo_of {i : Instr} {s : State} {b : Body} {pc : VAddr} (he : exec i s = runInstr i.form b s)
    (h : b (s.envOf i.form) s.stage4 = .ok (s.stage4.setPc pc)) : JumpsTo s i pc :=
  completes_of (f := id) id [] (exec_of_plain he h rfl) rfl rfl (by simp) (by simp [spansOf])

/-- A body that makes a list of stores. -/
theorem stores_of {i : Instr} {s : State} {b : Body} {f : State → State} {pc : VAddr}
    (l : List (Σ p : Prec, Span × BitVec p.bits)) {stored : List (Prec × Span)}
    (he : exec i s = runInstr i.form b s) (h : b (s.envOf i.form) s.stage4 = .ok ((f s.stage4).setPc pc))
    (hf : f s.stage4 = s.stage4.storeAll l) (hm : Memory.wf s.mem = true) (hst : ∀ x ∈ spansOf l, x ∈ stored) :
    Completes s i s (s.done f s.us pc) stored := by
  refine completes_of id l (exec_of_plain he h ?_) hf rfl (fun _ => hm) hst
  rw [hf, State.storeAll_eq]
  rfl

/-- A body that makes a list of stores and writes `USER_STATUS`. -/
theorem stores_us_of {i : Instr} {s : State} {b : Body} {f : State → State} {us : SW} {pc : VAddr}
    (l : List (Σ p : Prec, Span × BitVec p.bits)) {stored : List (Prec × Span)}
    (he : exec i s = runInstr i.form b s) (h : b (s.envOf i.form) s.stage4 = .ok (((f s.stage4).setUs us).setPc pc))
    (hf : f s.stage4 = s.stage4.storeAll l) (hm : l ≠ [] → Memory.wf s.mem = true)
    (hst : ∀ x ∈ spansOf l, x ∈ stored) : Completes s i s (s.done f us pc) stored :=
  completes_of id l (exec_of he h) hf rfl hm hst

/-! ### Moves -/

theorem regLoc_within {l : Loc} {n : Nat} (h : l.within n) : boundaryCheck l.va n l.rd = .ok () := by
  simp only [boundaryCheck, fatalIf]
  cases hr : l.rd with
  | false => rfl
  | true =>
    have := h hr
    rw [if_neg]
    simp
    omega

theorem sharePlace_iff {a b : List Span} : sharePlace a b = true ↔ ∃ x ∈ a, ∃ y ∈ b, x.fst = y.fst := by
  simp [sharePlace]

theorem State.freeList_eq (s : State) (w n : Nat) :
    s.freeList w n = ((List.range n).map fun k => Config.freeValue w (s.freeCount + k),
      { s with freeCount := s.freeCount + n }) := by
  induction n generalizing s with
  | zero => rfl
  | succ n ih =>
    have h : ∀ k, s.freeCount + 1 + k = s.freeCount + (k + 1) := fun k => by omega
    simp only [State.freeList, ih, State.drawn, State.free, List.range_succ_eq_map, List.map_cons, List.map_map,
      Nat.add_zero, Function.comp_def, Nat.succ_eq_add_one, h]

theorem movesMany_of {p : Prec} {n : Nat} {mk : OD → OD → Instr}
    (he : ∀ o1 o2 s, exec (mk o1 o2) s = runInstr (mk o1 o2).form (moveMany p n o1 o2) s) : MovesMany p n mk := by
  intro o1 o2 s l1 l2 dst src hm h1 h2 hb1 hb2 h3 h4
  split
  · next hs =>
    refine completes_of (fun u => { u with freeCount := u.freeCount + n })
      (runStores p dst ((List.range n).map fun k => Config.freeValue p.bits (s.freeCount + k)))
      (exec_of_plain (he o1 o2 s) ?_ (State.writeRun_us _ p _ _)) (State.writeRun_storeAll _ _ _ _) rfl (fun _ => hm)
      fun x hx => mem_spansOf_runStores hx
    simp only [moveMany, State.stage4_evalOD, h1, h2, Operand.asLoc, regLoc_within hb1, regLoc_within hb2,
      State.stage4_locateRun, h3, h4, bind, Except.bind, sharePlace_iff.2 hs, if_true, State.freeList_eq]
    rfl
  · next hs =>
    refine stores_of (runStores p dst (src.map (s.readSpan p))) (he o1 o2 s) ?_ (State.writeRun_storeAll _ _ _ _) hm
      fun x hx => mem_spansOf_runStores hx
    have hs' : sharePlace dst src = false := by
      rw [← Bool.not_eq_true]
      exact fun h => hs (sharePlace_iff.1 h)
    simp only [moveMany, State.stage4_evalOD, h1, h2, Operand.asLoc, regLoc_within hb1, regLoc_within hb2,
      State.stage4_locateRun, h3, h4, bind, Except.bind, hs', Bool.false_eq_true, if_false, State.stage4_readRun]
    rfl

theorem exchanges_of {p : Prec} {mk : OD → OD → Instr}
    (he : ∀ o1 o2 s, exec (mk o1 o2) s = runInstr (mk o1 o2).form (exchange p o1 o2) s) : Exchanges p mk := by
  intro o1 o2 s x1 x2 d1 d2 a b hm h1 h2 h3 h4 h5 h6
  refine stores_of [⟨p, d2, a⟩, ⟨p, d1, b⟩] (he o1 o2 s) ?_ rfl hm fun x hx => hx
  simp only [exchange, State.stage4_evalOD, h1, h2, State.stage4_checkWrite, h3, h4, State.stage4_readOp, h5, h6, bind,
    Except.bind]
  rfl

theorem savesAndLoads_of {n : RegNum} {mk : OD → OD → Instr}
    (he : ∀ o1 o2 s, exec (mk o1 o2) s = runInstr (mk o1 o2).form (saveLoadReg n o1 o2) s) : SavesAndLoads n mk := by
  intro o1 o2 s x1 x2 d v hm h1 h2 h3 h4
  refine stores_of [⟨.s, s.regSpan n, v⟩, ⟨.s, d, s.reg n⟩] (he o1 o2 s) ?_ ?_ hm fun x hx => hx
  · simp only [saveLoadReg, State.stage4_evalOD, h1, h2, State.stage4_checkWrite, h3, State.stage4_readOp, h4, bind,
      Except.bind]
    rfl
  · rw [State.putReg_store]
    rfl

/-- The number that two words side by side stand for. -/
theorem toNat_append_eq {m n : Nat} (x : BitVec m) (y : BitVec n) : (x ++ y).toNat = x.toNat * 2 ^ n + y.toNat := by
  rw [BitVec.toNat_append, Nat.shiftLeft_eq, Nat.mul_comm, ← Nat.two_pow_add_eq_or_of_lt y.isLt]

theorem addrWord_rule (l : Loc) : l.addrWord = Rule.addrWord l := by
  obtain ⟨c, va, rd⟩ := l
  have := va.isLt
  apply BitVec.eq_of_toNat_eq
  simp only [Loc.addrWord, toNat_append_eq, Rule.addrWord, BitVec.toNat_ofNat, BitVec.toNat_ofBool]
  cases c
  · rw [if_neg (by decide), show (Ctx.cur == Ctx.prev).toNat = 0 from rfl]
    omega
  · rw [if_pos rfl, show (Ctx.prev == Ctx.prev).toNat = 1 from rfl]
    omega

theorem savesAndLoadsAddress_of {n : RegNum} {mk : OD → OD → Instr}
    (he : ∀ o1 o2 s, exec (mk o1 o2) s = runInstr (mk o1 o2).form (saveLoadRegAddr n o1 o2) s) :
    SavesAndLoadsAddress n mk := by
  intro o1 o2 s x1 x2 hm h1 h2
  cases x2 with
  | imm k w =>
    refine trapsFatal_of (he o1 o2 s) ?_
    simp only [saveLoadRegAddr, State.stage4_evalOD, h1, h2, Operand.asLoc, bind, Except.bind]
  | loc l =>
    intro d h3
    refine stores_of [⟨.s, s.regSpan n, Rule.addrWord l⟩, ⟨.s, d, s.reg n⟩] (he o1 o2 s) ?_ ?_ hm fun x hx => hx
    · simp only [saveLoadRegAddr, State.stage4_evalOD, h1, h2, Operand.asLoc, State.stage4_checkWrite, h3, bind,
        Except.bind, addrWord_rule]
      rfl
    · rw [State.putReg_store]
      rfl

/-! ### Flags and double-width shifts -/

/-- A flag of the machine is the flag of the rules. -/
theorem flagWord_rule (b : Bool) : flagWord b = Rule.flag b := by cases b <;> rfl

theorem inBounds_rule {n : Nat} (lo : Int) (hi v : BitVec n) :
    inBounds lo hi v = decide (lo ≤ v.toInt ∧ v.toInt ≤ hi.toInt) := by
  rw [inBounds, Bool.decide_and]

theorem bndsfBetween_of {p : Prec} {mk : TMode → OD → OD → Instr}
    (he : ∀ t o1 o2 s, exec (mk t o1 o2) s = runInstr (mk t o1 o2).form (bndsfB p t o1 o2) s) : BndsfBetween p mk := by
  intro t o1 o2 s a hm h1
  split
  · next k w h2 =>
    refine trapsFatal_of (he t o1 o2 s) ?_
    simp only [bndsfB, State.stage4_evalTop, h1, h2, Operand.asLoc, bind, Except.bind]
  · next l h2 =>
    intro d lo v hi h3 h4 h5 h6
    refine stores_of [⟨.s, d, Rule.flag (decide (lo.toInt ≤ v.toInt ∧ v.toInt ≤ hi.toInt))⟩] (he t o1 o2 s) ?_ rfl hm
      fun x hx => hx
    simp only [bndsfB, State.stage4_evalTop, h1, h2, Operand.asLoc, State.stage4_checkWrite, h3, State.stage4_readLoc,
      h4, State.stage4_readOp, h5, h6, bind, Except.bind, flagWord_rule, inBounds_rule]
    rfl

theorem doubleShift_of {d : ShiftDir} {rev : Bool} {p : Prec} {mk : TMode → OD → OD → Instr}
    (he : ∀ t o1 o2 s, exec (mk t o1 o2) s = runInstr (mk t o1 o2).form (doubleShift p d rev t o1 o2) s)
    (hs : ∀ (x y : BitVec p.bits) (cnt : SW), shiftHalf d x y cnt = Rule.dshift d x y cnt)
    (hi : ∀ k w, immPair k w p = (BitVec.ofNat p.bits ((Rule.imm k w (2 * p.bits)).toNat / 2 ^ p.bits),
      BitVec.ofNat p.bits (Rule.imm k w (2 * p.bits)).toNat)) : DoubleShiftGives d rev p mk := by
  intro t o1 o2 s a dst cnt hm h1 h2 h3
  split
  · next k w h4 =>
    refine stores_of [⟨p, dst, _⟩] (he t o1 o2 s) ?_ rfl hm fun x hx => hx
    cases rev <;>
      simp only [Bool.false_eq_true, if_false, if_true] at h3 h4 <;>
      simp only [doubleShift, State.stage4_evalTop, h1, State.stage4_checkWrite, h2, Bool.false_eq_true, if_false,
        if_true, h4, State.stage4_readOp, h3, bind, Except.bind, hi, hs] <;>
      rfl
  · next l h4 =>
    intro hi lo h5 h6
    refine stores_of [⟨p, dst, _⟩] (he t o1 o2 s) ?_ rfl hm fun x hx => hx
    cases rev <;>
      simp only [Bool.false_eq_true, if_false, if_true] at h3 h4 <;>
      simp only [doubleShift, State.stage4_evalTop, h1, State.stage4_checkWrite, h2, Bool.false_eq_true, if_false,
        if_true, h4, State.stage4_readOp, h3, State.stage4_readLoc, h5, h6, bind, Except.bind, hs] <;>
      rfl

/-! ### Skips and jumps -/

/-- A displacement in single-words, sign-extended and scaled, is the address the rules give. -/
theorem target_rule {m : Nat} (a : VAddr) (x : BitVec m) : a + (x.signExtend 30 <<< 2) = Rule.target a x.toInt := by
  have h : x.signExtend 30 <<< 2 = BitVec.ofInt 30 (4 * x.toInt) := by
    rw [BitVec.shiftLeft_eq_mul_twoPow, BitVec.ofInt_mul, BitVec.mul_comm]
    rfl
  rw [h, Rule.target, BitVec.ofInt_add, BitVec.ofInt_natCast, BitVec.ofNat_toNat, BitVec.setWidth_eq]

theorem State.skipDest_rule (s : State) (skp : BitVec 4) :
    s.skipDest skp = if (Rule.target s.pc skp.toInt).toNat < 128 then .error (.fatal .jumpToRegisters)
      else .ok (Rule.target s.pc skp.toInt) := by
  simp only [State.skipDest, target_rule, fatalIf, bind, Except.bind]
  by_cases h : (Rule.target s.pc skp.toInt).toNat < 128 <;> simp [h]

theorem State.hopDest_rule (s : State) (k : BitVec 24) :
    s.hopDest k = if (Rule.target s.pc k.toInt).toNat < 128 then .error (.fatal .jumpToRegisters)
      else .ok (Rule.target s.pc k.toInt) := by
  simp only [State.hopDest, target_rule, fatalIf, bind, Except.bind]
  by_cases h : (Rule.target s.pc k.toInt).toNat < 128 <;> simp [h]

/-- A relation of the machine is the relation of the rules. -/
theorem ACond.rel_rule {n : Nat} (c : ACond) (a b : BitVec n) : c.rel a b = Rule.acond c a.toInt b.toInt := by
  cases c <;> simp only [ACond.rel, Rule.acond, ne_eq, BitVec.toInt_inj]
  · exact beq_eq_decide a b
  · rw [bne, beq_eq_decide, decide_not]

theorem skip_of {p : Prec} {r rel : BitVec p.bits → BitVec p.bits → Bool} {mk : BitVec 4 → OD → OD → Instr}
    (he : ∀ k o1 o2 s, exec (mk k o1 o2) s = runInstr (mk k o1 o2).form (skipIf p r k o1 o2) s)
    (hr : ∀ a b, r a b = rel a b) : SkipGives p rel mk := by
  intro skp o1 o2 s x1 x2 h1 h2
  split
  · next h =>
    refine trapsFatal_of (he skp o1 o2 s) ?_
    have hd := (State.skipDest_rule s skp).trans (if_pos h)
    simp only [skipIf, State.stage4_evalOD, h1, h2, State.stage4_skipDest, hd, bind, Except.bind]
  · next h =>
    intro a b h3 h4
    refine jumpsTo_of (he skp o1 o2 s) ?_
    have hd := (State.skipDest_rule s skp).trans (if_neg h)
    simp only [skipIf, State.stage4_evalOD, h1, h2, State.stage4_skipDest, hd, State.stage4_readOp, h3, h4, bind, Except.bind, hr]
    rfl

theorem countSkip_of {up : Bool} {by1 : Int} {c : ACond} {mk : BitVec 4 → OD → OD → Instr}
    (he : ∀ k o1 o2 s, exec (mk k o1 o2) s = runInstr (mk k o1 o2).form (countSkip up c k o1 o2) s)
    (ha : ∀ us a, Agrees (incDec up us a) (Rule.int us 36 (a.toInt + by1))) : CountSkipGives by1 c mk := by
  intro skp o1 o2 s x1 x2 w a b hm h1 h2 h h3 h4 h5
  have ha := ha s.us a
  have hd := (State.skipDest_rule s skp).trans (if_neg (by omega))
  split
  · next r us hv =>
    rw [hv] at ha
    refine stores_us_of [⟨.s, w, r⟩] (he skp o1 o2 s) ?_ rfl (fun _ => hm) fun x hx => hx
    have ha' : incDec up s.stage4.us a = .ok (r, us) := ha
    simp only [countSkip, State.stage4_evalOD, h1, h2, State.stage4_skipDest, hd,
      State.stage4_checkWrite, h3, State.stage4_readOp, h4, h5, ha', liftAlu, bind, Except.bind, ACond.rel_rule]
    rfl
  · next k hk =>
    rw [hk] at ha
    refine trapsSoft_of (he skp o1 o2 s) ?_
    have ha' : incDec up s.stage4.us a = .error (.soft k) := ha
    simp only [countSkip, State.stage4_evalOD, h1, h2, State.stage4_skipDest, hd,
      State.stage4_checkWrite, h3, State.stage4_readOp, h4, h5, ha', liftAlu, bind, Except.bind]
    rfl

theorem jump_of {c : ACond} {mk : OD → JDest → Instr}
    (he : ∀ o1 j s, exec (mk o1 j) s = runInstr (mk o1 j).form (jumpIfNext c o1 j) s) : JumpGives c mk := by
  intro o1 j s l d a b h1 h2 h3 h4
  refine jumpsTo_of (he o1 j s) ?_
  simp only [jumpIfNext, State.stage4_evalOD, h1, State.stage4_jumpDest, h2, Operand.asLoc, State.readOp, h3, State.stage4_readLoc, h4, bind, Except.bind, ACond.rel_rule]
  rfl

theorem jumpZero_of {c : ACond} {p : Prec} {mk : OD → JDest → Instr}
    (he : ∀ o1 j s, exec (mk o1 j) s = runInstr (mk o1 j).form (jumpIfZero p c o1 j) s) : JumpZeroGives c p mk := by
  intro o1 j s x d a h1 h2 h3
  refine jumpsTo_of (he o1 j s) ?_
  have h0 : BitVec.toInt (0 : BitVec p.bits) = 0 := BitVec.toInt_zero
  simp only [jumpIfZero, State.stage4_evalOD, h1, State.stage4_jumpDest, h2, State.stage4_readOp, h3, bind, Except.bind,
    ACond.rel_rule, h0]
  rfl

theorem countJumpNext_of {up : Bool} {by1 : Int} {c : ACond} {mk : OD → JDest → Instr}
    (he : ∀ o1 j s, exec (mk o1 j) s = runInstr (mk o1 j).form (countJumpNext up c o1 j) s)
    (ha : ∀ us a, Agrees (incDec up us a) (Rule.int us 36 (a.toInt + by1))) : CountJumpNextGives by1 c mk := by
  intro o1 j s l d w a b hm h1 h2 h3 h4 h5
  have ha := ha s.us a
  have h3' : s.checkWrite (.loc l) .s = .ok w := h3
  split
  · next r us hv =>
    rw [hv] at ha
    refine stores_us_of [⟨.s, w, r⟩] (he o1 j s) ?_ rfl (fun _ => hm) fun x hx => hx
    have ha' : incDec up s.stage4.us a = .ok (r, us) := ha
    simp only [countJumpNext, State.stage4_evalOD, h1, State.stage4_jumpDest, h2, State.stage4_checkWrite, h3',
      Operand.asLoc, State.readOp, State.stage4_readLoc, h4, h5, ha', liftAlu, bind, Except.bind,
      ACond.rel_rule]
    rfl
  · next k hk =>
    rw [hk] at ha
    refine trapsSoft_of (he o1 j s) ?_
    have ha' : incDec up s.stage4.us a = .error (.soft k) := ha
    simp only [countJumpNext, State.stage4_evalOD, h1, State.stage4_jumpDest, h2, State.stage4_checkWrite, h3',
      Operand.asLoc, State.readOp, State.stage4_readLoc, h4, h5, ha', liftAlu, bind, Except.bind,
      softCount, Operand.softDest, addrWord_rule]
    rfl

theorem countJump_of {up : Bool} {by1 : Int} {test : SW → Bool} {cond : Int → Bool} {mk : OD → JDest → Instr}
    (he : ∀ o1 j s, exec (mk o1 j) s = runInstr (mk o1 j).form (countJump up test o1 j) s)
    (ha : ∀ us a, Agrees (incDec up us a) (Rule.int us 36 (a.toInt + by1)))
    (ht : ∀ r, test r = cond r.toInt) : CountJumpGives by1 cond mk := by
  intro o1 j s l d w a hm h1 h2 h3 h4
  have ha := ha s.us a
  have h3' : s.checkWrite (.loc l) .s = .ok w := h3
  split
  · next r us hv =>
    rw [hv] at ha
    refine stores_us_of [⟨.s, w, r⟩] (he o1 j s) ?_ rfl (fun _ => hm) fun x hx => hx
    have ha' : incDec up s.stage4.us a = .ok (r, us) := ha
    simp only [countJump, State.stage4_evalOD, h1, State.stage4_jumpDest, h2, State.stage4_checkWrite, h3',
      State.readOp, State.stage4_readLoc, h4, ha', liftAlu, bind, Except.bind, ht]
    rfl
  · next k hk =>
    rw [hk] at ha
    refine trapsSoft_of (he o1 j s) ?_
    have ha' : incDec up s.stage4.us a = .error (.soft k) := ha
    simp only [countJump, State.stage4_evalOD, h1, State.stage4_jumpDest, h2, State.stage4_checkWrite, h3',
      State.readOp, State.stage4_readLoc, h4, ha', liftAlu, bind, Except.bind, softCount, Operand.softDest, addrWord_rule]
    rfl

theorem boundTrap_of {b : BoundKind} {lo : Prec → Int} {p : Prec} {mk : OD → OD → Instr}
    (he : ∀ o1 o2 s, exec (mk o1 o2) s = runInstr (mk o1 o2).form (boundTrap p b o1 o2) s)
    (hl : b.lo p.bits = lo p) : BoundTrapGives lo p mk := by
  intro o1 o2 s x1 x2 hi v h1 h2 h3 h4
  split
  · next h =>
    refine jumpsTo_of (he o1 o2 s) ?_
    simp only [boundTrap, State.stage4_evalOD, h1, h2, State.stage4_readOp, h3, h4, bind, Except.bind, inBounds_rule, hl,
      h, and_self, decide_true, if_true]
    rfl
  · next h =>
    refine trapsSoft_of (he o1 o2 s) ?_
    simp only [boundTrap, State.stage4_evalOD, h1, h2, State.stage4_readOp, h3, h4, bind, Except.bind, inBounds_rule, hl,
      h, decide_false, Bool.false_eq_true, if_false]
    rfl

theorem boundTrapBetween_of {p : Prec} {mk : OD → OD → Instr}
    (he : ∀ o1 o2 s, exec (mk o1 o2) s = runInstr (mk o1 o2).form (boundTrapB p o1 o2) s) : BoundTrapBetween p mk := by
  intro o1 o2 s l x2 lo v hi h1 h2 h3 h4 h5
  split
  · next h =>
    refine jumpsTo_of (he o1 o2 s) ?_
    simp only [boundTrapB, State.stage4_evalOD, h1, h2, Operand.asLoc, State.stage4_readLoc, State.stage4_readOp, h3, h4,
      h5, bind, Except.bind, inBounds_rule, h, and_self, decide_true, if_true]
    rfl
  · next h =>
    refine trapsSoft_of (he o1 o2 s) ?_
    simp only [boundTrapB, State.stage4_evalOD, h1, h2, Operand.asLoc, State.stage4_readLoc, State.stage4_readOp, h3, h4,
      h5, bind, Except.bind, inBounds_rule, h, decide_false, Bool.false_eq_true, if_false]
    rfl


/-! ### Routine linkage -/

theorem State.pushWords_of {s : State} {ws : List SW} {sps : List Span} {new : SW}
    (hn : s.sp + BitVec.ofNat 36 (4 * ws.length) = new) (hc : ¬ s.sl.toInt < new.toInt)
    (hl : s.locateRun .write .cur .s ws.length (addrOfWord s.sp) = .ok sps) :
    s.pushWords ws = .ok ((s.writeRun .s sps ws).putReg (Us.spId s.us) new) := by
  simp only [State.pushWords, hn, State.stackCheck, hc, if_false, hl, bind, Except.bind]

/-- A run of stores followed by a store in a register of the current file. -/
theorem writeRun_putReg_storeAll (s : State) (p : Prec) (sps : List Span) (vs : List (BitVec p.bits)) (n : RegNum)
    (v : SW) : (s.writeRun p sps vs).putReg n v = s.storeAll (runStores p sps vs ++ [⟨.s, s.regSpan n, v⟩]) := by
  rw [State.storeAll_append, ← State.writeRun_storeAll, State.putReg_store]
  show _ = (s.writeRun p sps vs).writeSpan .s (s.regSpan n) v
  rw [State.regSpan, State.regSpan, State.file, State.writeRun_ps]
  rfl

theorem mem_spansOf_runStores_append {p p2 : Prec} {sps : List Span} {vs : List (BitVec p.bits)} {sp : Span}
    {v : BitVec p2.bits} {x : Prec × Span} (h : x ∈ spansOf (runStores p sps vs ++ [⟨p2, sp, v⟩])) :
    x ∈ (sps.map fun sp => (p, sp)) ++ [(p2, sp)] := by
  rw [spansOf_append] at h
  rcases List.mem_append.1 h with h | h
  · exact List.mem_append_left _ (mem_spansOf_runStores h)
  · exact List.mem_append_right _ h

theorem alloc_of {n : Nat} {mk : OD → OD → Instr}
    (he : ∀ o1 o2 s, exec (mk o1 o2) s = runInstr (mk o1 o2).form (allocStack n o1 o2) s) : AllocGives n mk := by
  intro o1 o2 s l x2 b hm h1 h2 hb h3
  split
  · next h =>
    refine trapsHard_of (he o1 o2 s) ?_
    have hc : s.stackCheck (s.sp + b) = .error (.hard .stkOvfl (s.sp + b)) := if_pos h
    simp only [allocStack, State.stage4_evalOD, h1, h2, Operand.asLoc, regLoc_within hb, State.stage4_readOp, h3,
      State.stage4_stackCheck, State.stage4_sp, hc, bind, Except.bind]
  · next h =>
    intro dst src h4 h5
    have hc : s.stackCheck (s.sp + b) = .ok () := if_neg h
    split
    · next hs =>
      refine completes_of (fun u => { u with freeCount := u.freeCount + n })
        (runStores .s dst ((List.range n).map fun k => Config.freeValue 36 (s.freeCount + k)) ++
          [⟨.s, s.regSpan (Us.spId s.us), s.sp + b⟩])
        (exec_of_plain (he o1 o2 s) ?_ ?_) (writeRun_putReg_storeAll _ _ _ _ _ _) rfl (fun _ => hm)
        fun x hx => mem_spansOf_runStores_append hx
      · simp only [allocStack, State.stage4_evalOD, h1, h2, Operand.asLoc, regLoc_within hb, State.stage4_readOp, h3,
          State.stage4_stackCheck, State.stage4_sp, hc, State.stage4_locateRun, h4, h5,
          bind, Except.bind, sharePlace_iff.2 hs, if_true, State.freeList_eq]
        rfl
      · exact State.writeRun_us _ .s _ _
    · next hs =>
      have hs' : sharePlace dst src = false := by
        rw [← Bool.not_eq_true]
        exact fun h => hs (sharePlace_iff.1 h)
      refine stores_of (runStores .s dst (src.map (s.readSpan .s)) ++ [⟨.s, s.regSpan (Us.spId s.us), s.sp + b⟩])
        (he o1 o2 s) ?_ (writeRun_putReg_storeAll _ _ _ _ _ _) hm fun x hx => mem_spansOf_runStores_append hx
      simp only [allocStack, State.stage4_evalOD, h1, h2, Operand.asLoc, regLoc_within hb, State.stage4_readOp, h3,
        State.stage4_stackCheck, State.stage4_sp, hc, State.stage4_locateRun, h4, h5,
        bind, Except.bind, hs', Bool.false_eq_true, State.stage4_readRun]
      rfl

/-- The words of a save area, the undefined ones filled with the next free values. -/
theorem State.fillUndefined_eq (s : State) (l : List (Option SW)) :
    ∃ (ws : List SW) (k : Nat), ws.length = l.length ∧
      s.fillUndefined l = (ws, { s with freeCount := s.freeCount + k }) ∧
      ∀ u : State, u.freeCount = s.freeCount → u.fillUndefined l = (ws, { u with freeCount := u.freeCount + k }) := by
  induction l generalizing s with
  | nil => exact ⟨[], 0, rfl, rfl, fun u _ => rfl⟩
  | cons a t ih =>
    cases a with
    | some w =>
      obtain ⟨ws, k, h1, h2, h3⟩ := ih s
      refine ⟨w :: ws, k, by simp [h1], ?_, fun u hu => ?_⟩
      · simp only [State.fillUndefined, h2]
      · simp only [State.fillUndefined, h3 u hu]
    | none =>
      obtain ⟨ws, k, h1, h2, h3⟩ := ih s.drawn
      have e : ∀ u : State, ({ u.drawn with freeCount := u.drawn.freeCount + k } : State) =
          { u with freeCount := u.freeCount + (k + 1) } := fun u => by
        have : u.freeCount + 1 + k = u.freeCount + (k + 1) := by omega
        simp only [State.drawn, this]
      refine ⟨s.free 36 :: ws, k + 1, by simp [h1], ?_, fun u hu => ?_⟩
      · simp only [State.fillUndefined, h2, e]
      · simp only [State.fillUndefined, h3 u.drawn (by simp [hu]), e, State.free, hu]

theorem checkPC_of {h : SW} (h1 : field h 34 2 = 0) (h2 : 128 ≤ (addrOfWord h).toNat) :
    checkPC (addrOfWord h) = .ok () := by
  have e : field (addrOfWord h) 28 2 = field h 34 2 := by
    apply BitVec.eq_of_toNat_eq
    simp [field, addrOfWord]
  simp only [checkPC, aligned, e, h1, fatalIf, bind, Except.bind]
  rw [show ((0 : BitVec 2) == 0) = true from rfl]
  simpa using h2

theorem trapsToSelf_of {n : Nat} {mk : OD → OD → Instr}
    (he : ∀ o1 o2 s, exec (mk o1 o2) s = runInstr (mk o1 o2).form (trapSelf n o1 o2) s) : TrapsToSelf n mk := by
  intro o1 o2 s h d p q sps hm h1 h2 hd h3 h4 h5 h6 h7 h8
  obtain ⟨ws, k, hl, hw, hu⟩ := s.fillUndefined_eq
    [p.1, p.2, q.1, q.2, some (pcWord s.pc), some (pcWord (s.after (mk o1 o2)))]
  refine ⟨ws, k, hl, hw, ?_⟩
  have hv : trpslfVecAddr n = BitVec.ofNat 30 (0o4000 + 8 * n) := rfl
  have hv2 : vaAdd (trpslfVecAddr n) 4 = BitVec.ofNat 30 (0o4004 + 8 * n) := by
    rw [hv, vaAdd, ← BitVec.ofNat_add]
    congr 1
    omega
  refine completes_of (fun u => { u with freeCount := u.freeCount + k })
    (runStores .s sps ws ++ [⟨.s, s.regSpan (Us.spId s.us), s.sp + 24⟩])
    (exec_of_plain (he o1 o2 s) ?_ ?_) (writeRun_putReg_storeAll _ _ _ _ _ _) rfl (fun _ => hm)
    fun x hx => mem_spansOf_runStores_append hx
  · have hu4 := hu s.stage4 rfl
    have hl' : ws.length = 6 := hl
    have hp := State.pushWords_of (s := { s.stage4 with freeCount := s.freeCount + k }) (ws := ws) (sps := sps)
      (new := s.sp + 24) (by rw [hl']; rfl) (by show ¬ s.sl.toInt < _; omega) (by
        rw [hl']
        exact (State.stage4_locateRun (s := s) ..).trans h8)
    have h1' : s.memRead .cur (trpslfVecAddr n) .s = .ok h := h1
    rw [← hv2] at h2
    simp only [trapSelf, State.stage4_memRead, h1', h2, hd, bind, Except.bind, State.stage4_trapParm, h3, h4,
      checkPC_of h5 h6, fatalIf, bne_self_eq_false, Bool.false_eq_true, if_false]
    erw [hu4]
    simp only
    erw [hp]
    rfl
  · exact State.writeRun_us _ .s _ _

theorem trapsToExecutive_of {n : Nat} {mk : OD → OD → Instr}
    (he : ∀ o1 o2 s, exec (mk o1 o2) s = runInstr (mk o1 o2).form (trapExec n o1 o2) s) : TrapsToExecutive n mk := by
  intro o1 o2 s v h d us ps p q sps hv0 h1 h2 h3 h4 hd h5 h6 h7 h8 h9 h10 h11
  subst hv0
  obtain ⟨ws, k, hl, hw, hu⟩ := s.fillUndefined_eq
    [p.1, p.2, q.1, q.2, some (pcWord s.pc), some s.us, some s.ps, some (pcWord (s.after (mk o1 o2)))]
  refine ⟨ws, k, hl, hw, ?_⟩
  have hv : trpexeVecAddr n = BitVec.ofNat 30 (0o10000 + 16 * n) := rfl
  have hv2 : vaAdd (trpexeVecAddr n) 4 = BitVec.ofNat 30 (0o10004 + 16 * n) := by
    rw [hv, vaAdd, ← BitVec.ofNat_add]
    congr 1
    omega
  have hv3 : vaAdd (trpexeVecAddr n) 8 = BitVec.ofNat 30 (0o10010 + 16 * n) := by
    rw [hv, vaAdd, ← BitVec.ofNat_add]
    congr 1
    omega
  have hv4 : vaAdd (trpexeVecAddr n) 12 = BitVec.ofNat 30 (0o10014 + 16 * n) := by
    rw [hv, vaAdd, ← BitVec.ofNat_add]
    congr 1
    omega
  have hl' : ws.length = 8 := hl
  have hp := State.pushWords_of
    (s := { (s.setUs us).setPs (Ps.partialLoad s.ps ps) with freeCount := s.freeCount + k, traceEnbOld := Ps.traceEnb s.ps })
    (ws := ws) (sps := sps) (new := State.sp ((s.setUs us).setPs (Ps.partialLoad s.ps ps)) + 32) (by rw [hl']; rfl)
    (by
      show ¬ (State.sl ((s.setUs us).setPs (Ps.partialLoad s.ps ps))).toInt < _
      omega) (by
      rw [hl']
      exact (State.stage4_locateRun (s := (s.setUs us).setPs (Ps.partialLoad s.ps ps)) ..).trans h11)
  rw [he, runInstr_ok (s2 := State.setRun (State.setPc (State.putReg (State.writeRun
        { (s.setUs us).setPs (Ps.partialLoad s.ps ps) with
          freeCount := s.freeCount + k, traceEnbOld := Ps.traceEnb s.ps } .s sps ws) (Us.spId us)
        (State.sp ((s.setUs us).setPs (Ps.partialLoad s.ps ps)) + 32))
        (addrOfWord h)) .running)]
  have hc : checkUS us = .ok () := by
    simp only [checkUS, h9, fatalIf, Bool.not_true, Bool.false_eq_true, if_false]
  have hu4 := hu s.stage4 rfl
  have h1' : s.vecRead (trpexeVecAddr n) = .ok h := h1
  rw [← hv2] at h2
  rw [← hv3] at h3
  rw [← hv4] at h4
  simp only [trapExec, State.stage4_vecRead, h1', h2, h3, h4, hd, bind, Except.bind,
    State.stage4_trapParm, h5, h6, checkPC_of h7 h8, hc, fatalIf, bne_self_eq_false, Bool.false_eq_true, if_false]
  erw [hu4]
  simp only [State.loadAndPush, bind, Except.bind]
  erw [hp]
  rfl

/-! ### Stacks -/

theorem growCheck_ok {d : StackDir} {new limit : SW} (h : ¬ Rule.overflows d new limit) :
    growCheck d new limit = .ok () := by
  cases d <;> exact if_neg h

theorem growCheck_error {d : StackDir} {new limit : SW} (h : Rule.overflows d new limit) :
    growCheck d new limit = .error (.hard .stkOvfl new) := by
  cases d <;> exact if_pos h

theorem adjustsStack_of {d : StackDir} {mk : OD → OD → Instr}
    (he : ∀ o1 o2 s, exec (mk o1 o2) s = runInstr (mk o1 o2).form (adjustStack d o1 o2) s) : AdjustsStack d mk := by
  intro o1 o2 s l x2 w ptr limit k hm h1 h2 h3 h4 h5 h6
  constructor
  · intro h
    refine trapsHard_of (he o1 o2 s) ?_
    have hg := growCheck_error h
    cases d <;>
      simp only [Loc.pointer, Loc.limit, Rule.grown] at h3 h4 h5 hg <;>
      simp only [adjustStack, State.stage4_evalOD, h1, h2, Operand.asLoc, State.stage4_checkWriteLoc, h3,
        State.stage4_readLoc, h4, h5, State.stage4_readOp, h6, hg, bind, Except.bind, Rule.grown]
  · intro h
    refine stores_of [⟨.s, w, Rule.grown d ptr k⟩] (he o1 o2 s) ?_ rfl hm fun x hx => hx
    have hg := growCheck_ok h
    cases d <;>
      simp only [Loc.pointer, Loc.limit, Rule.grown] at h3 h4 h5 hg <;>
      simp only [adjustStack, State.stage4_evalOD, h1, h2, Operand.asLoc, State.stage4_checkWriteLoc, h3,
        State.stage4_readLoc, h4, h5, State.stage4_readOp, h6, hg, bind, Except.bind, Rule.grown] <;>
      rfl

theorem pushesItem_of {d : StackDir} {p : Prec} {mk : OD → OD → Instr}
    (he : ∀ o1 o2 s, exec (mk o1 o2) s = runInstr (mk o1 o2).form (pushItem d p o1 o2) s) : PushesItem d p mk := by
  intro o1 o2 s l x2 v ptr limit new hm h1 h2 h3 h4 h5 h6
  subst h6
  constructor
  · intro h
    refine trapsHard_of (he o1 o2 s) ?_
    have hg := growCheck_error h
    cases d <;>
      simp only [Loc.pointer, Loc.limit, Rule.grown] at h4 h5 hg <;>
      simp only [pushItem, State.stage4_evalOD, h1, h2, Operand.asLoc, State.stage4_readLoc, h4, h5,
        State.stage4_readOp, h3, itemSize, hg, bind, Except.bind, Rule.grown]
  · intro h w i h6 h7
    refine stores_of [⟨p, i, v⟩, ⟨.s, w, Rule.grown d ptr (BitVec.ofNat 36 p.qws)⟩] (he o1 o2 s) ?_ rfl hm
      fun x hx => hx
    have hg := growCheck_ok h
    cases d <;>
      simp only [Loc.pointer, Loc.limit, Rule.grown, if_true, reduceCtorEq, if_false] at h4 h5 hg h6 h7 <;>
      simp only [pushItem, State.stage4_evalOD, h1, h2, Operand.asLoc, State.stage4_readLoc, h4, h5,
        State.stage4_readOp, h3, itemSize, itemLoc, hg, State.stage4_checkWriteLoc, h6, h7, bind, Except.bind,
        Rule.grown] <;>
      rfl

theorem popsItem_of {d : StackDir} {p : Prec} {mk : OD → OD → Instr}
    (he : ∀ o1 o2 s, exec (mk o1 o2) s = runInstr (mk o1 o2).form (popItem d p o1 o2) s) : PopsItem d p mk := by
  intro o1 o2 s l x2 o w v ptr new hm h1 h2 hb h3 h4 h5 h6 h7
  refine stores_of [⟨p, o, v⟩, ⟨.s, w, new⟩] (he o1 o2 s) ?_ rfl hm fun x hx => hx
  have hb := regLoc_within hb
  subst h5
  cases d <;>
    simp only [Loc.pointer, if_true, reduceCtorEq, if_false] at h4 h6 h7 <;>
    simp only [popItem, State.stage4_evalOD, h1, h2, Operand.asLoc, hb, State.stage4_checkWrite, h3,
      State.stage4_readLoc, h4, itemSize, itemLoc, h6, State.stage4_checkWriteLoc, h7, bind, Except.bind] <;>
    rfl

/-! ### Bytes and bits -/

theorem selector_rule (sel : SW) (p : Prec) :
    selector sel p = if p.bits < Rule.pos sel + Rule.len sel then .error (.fatal .bytePointer)
      else .ok ⟨Rule.pos sel, Rule.len sel⟩ := by
  have h1 : (field sel 0 18).toNat = Rule.pos sel := by
    have := sel.isLt
    simp only [field, BitVec.extractLsb'_toNat, Rule.pos, Nat.shiftRight_eq_div_pow]
    exact Nat.mod_eq_of_lt (by omega)
  have h2 : (field sel 18 18).toNat = Rule.len sel := by
    simp [field, Rule.len]
  simp only [selector, h1, h2]

theorem loadsByte_of {p : Prec} {op : BitVec p.bits → ByteField → BitVec p.bits}
    {f : BitVec p.bits → Nat → Nat → BitVec p.bits} {mk : OD → OD → Instr}
    (he : ∀ o1 o2 s, exec (mk o1 o2) s = runInstr (mk o1 o2).form (loadByteOf p op o1 o2) s)
    (hf : ∀ w pos len, pos + len ≤ p.bits → op w ⟨pos, len⟩ = f w pos len) : LoadsByte p f mk := by
  intro o1 o2 s x1 x2 d bp hm h1 h2 h3 h4
  split
  · next h =>
    refine trapsFatal_of (he o1 o2 s) ?_
    have hs := (selector_rule (field bp 36 36) p).trans (if_pos h)
    simp only [loadByteOf, State.stage4_evalOD, h1, h2, State.stage4_checkWrite, h3, State.byteLoc, State.stage4_readOp,
      h4, hs, bind, Except.bind]
  · next h =>
    intro l w h5 h6
    refine stores_of [⟨p, d, _⟩] (he o1 o2 s) ?_ rfl hm fun x hx => hx
    have hs := (selector_rule (field bp 36 36) p).trans (if_neg h)
    simp only [loadByteOf, State.stage4_evalOD, h1, h2, State.stage4_checkWrite, h3, State.byteLoc, State.stage4_readOp, State.stage4_iapLoc,
      h4, hs, h5, State.stage4_readLoc, h6, bind, Except.bind, hf w _ _ (Nat.le_of_not_lt h)]
    rfl

theorem loadsImmediateByte_of {p : Prec} {op : BitVec p.bits → ByteField → BitVec p.bits}
    {f : BitVec p.bits → Nat → Nat → BitVec p.bits} {mk : TMode → OD → OD → Instr}
    (he : ∀ t o1 o2 s, exec (mk t o1 o2) s = runInstr (mk t o1 o2).form (top3Trap p p .s (loadImmByte p op) t o1 o2) s)
    (hf : ∀ w pos len, pos + len ≤ p.bits → op w ⟨pos, len⟩ = f w pos len) : LoadsImmediateByte p f mk := by
  intro t o1 o2 s a d x sel hm h1 h2 h3 h4
  split
  · next h =>
    refine trapsFatal_of (he t o1 o2 s) ?_
    have hs := (selector_rule sel p).trans (if_pos h)
    simp only [top3Trap, State.stage4_evalTop, h1, State.stage4_checkWrite, h2, State.stage4_readOp, h3, h4, loadImmByte,
      hs, bind, Except.bind]
  · next h =>
    refine stores_of [⟨p, d, _⟩] (he t o1 o2 s) ?_ rfl hm fun x hx => hx
    have hs := (selector_rule sel p).trans (if_neg h)
    simp only [top3Trap, State.stage4_evalTop, h1, State.stage4_checkWrite, h2, State.stage4_readOp, h3, h4, loadImmByte,
      hs, bind, Except.bind, hf x _ _ (Nat.le_of_not_lt h)]
    rfl

theorem depositsByte_of {p : Prec} {mk : OD → OD → Instr}
    (he : ∀ o1 o2 s, exec (mk o1 o2) s = runInstr (mk o1 o2).form (depositByteIn p o1 o2) s)
    (hf : ∀ (w : BitVec p.bits) pos len v, pos + len ≤ p.bits → depositByte w ⟨pos, len⟩ v = Rule.deposit w pos len v) :
    DepositsByte p mk := by
  intro o1 o2 s x1 x2 bp v hm h1 h2 h3 h4
  split
  · next h =>
    refine trapsFatal_of (he o1 o2 s) ?_
    have hs := (selector_rule (field bp 36 36) p).trans (if_pos h)
    simp only [depositByteIn, State.stage4_evalOD, h1, h2, State.stage4_readOp, h3, h4, hs, bind, Except.bind]
  · next h =>
    intro l d w h5 h6 h7
    refine stores_of [⟨p, d, _⟩] (he o1 o2 s) ?_ rfl hm fun x hx => hx
    have hs := (selector_rule (field bp 36 36) p).trans (if_neg h)
    simp only [depositByteIn, State.stage4_evalOD, h1, h2, State.stage4_readOp, h3, h4, hs, State.stage4_iapLoc, h5,
      State.stage4_checkWriteLoc, h6, State.stage4_readLoc, h7, bind, Except.bind, hf w _ _ v (Nat.le_of_not_lt h)]
    rfl

theorem depositsImmediateByte_of {p : Prec} {mk : TMode → OD → OD → Instr}
    (he : ∀ t o1 o2 s, exec (mk t o1 o2) s = runInstr (mk t o1 o2).form (depositImmByte p t o1 o2) s)
    (hf : ∀ (w : BitVec p.bits) pos len v, pos + len ≤ p.bits → depositByte w ⟨pos, len⟩ v = Rule.deposit w pos len v) :
    DepositsImmediateByte p mk := by
  intro t o1 o2 s a d x w sel hm h1 h2 h3 h4 h5
  split
  · next h =>
    refine trapsFatal_of (he t o1 o2 s) ?_
    have hs := (selector_rule sel p).trans (if_pos h)
    simp only [depositImmByte, State.stage4_evalTop, h1, State.stage4_checkWrite, h2, State.stage4_readOp, h3, h4, hs,
      bind, Except.bind]
  · next h =>
    refine stores_of [⟨p, d, _⟩] (he t o1 o2 s) ?_ rfl hm fun x hx => hx
    have hs := (selector_rule sel p).trans (if_neg h)
    simp only [depositImmByte, State.stage4_evalTop, h1, State.stage4_checkWrite, h2, State.stage4_readOp, h3, h4, hs,
      h5, bind, Except.bind, hf w _ _ x (Nat.le_of_not_lt h)]
    rfl

theorem adjustsPointer_of {p : Prec} {mk : TMode → OD → OD → Instr}
    (he : ∀ t o1 o2 s, exec (mk t o1 o2) s = runInstr (mk t o1 o2).form (top3Trap .d .d .s (adjustPointer p) t o1 o2) s)
    (hf : ∀ bp cnt, Rule.pos (field bp 36 36) + Rule.len (field bp 36 36) ≤ p.bits →
      adjustPointer p bp cnt = .ok (if Rule.len (field bp 36 36) = 0 ∨ cnt = 0 then bp
        else Rule.adjust p bp (Rule.pos (field bp 36 36)) (Rule.len (field bp 36 36)) cnt.toInt)) :
    AdjustsPointer p mk := by
  intro t o1 o2 s a d bp cnt pos len hm h1 h2 h3 h4 hp hl
  subst hp hl
  split
  · next h =>
    refine trapsFatal_of (he t o1 o2 s) ?_
    have hs := (selector_rule (field bp 36 36) p).trans (if_pos h)
    simp only [top3Trap, State.stage4_evalTop, h1, State.stage4_checkWrite, h2, State.stage4_readOp, h3, h4,
      adjustPointer, hs, bind, Except.bind]
  · next h =>
    refine stores_of [⟨.d, d, _⟩] (he t o1 o2 s) ?_ rfl hm fun x hx => hx
    simp only [top3Trap, State.stage4_evalTop, h1, State.stage4_checkWrite, h2, State.stage4_readOp, h3, h4,
      bind, Except.bind, hf bp cnt (Nat.le_of_not_lt h)]
    rfl

theorem reversesBits_of {rev : Bool} {p : Prec} {mk : TMode → OD → OD → Instr}
    (he : ∀ t o1 o2 s, exec (mk t o1 o2) s = runInstr (mk t o1 o2).form
      (match rev with
        | false => top3Trap p p .s bitrv t o1 o2
        | true => top3Trap p .s p bitrvv t o1 o2) s)
    (hf : ∀ (x : BitVec p.bits) n, n ≤ p.bits → Rule.reversed x n (reverseBits x n)) : ReversesBits rev p mk := by
  intro t o1 o2 s a d x cnt hm h1 h2 h3 h4
  split
  · next h =>
    refine trapsFatal_of (he t o1 o2 s) ?_
    have hb : bitrv x cnt = .error (.fatal .other) := if_pos h
    cases rev <;>
      simp only [Bool.false_eq_true, if_false, if_true] at h3 h4 <;>
      simp only [top3Trap, State.stage4_evalTop, h1, State.stage4_checkWrite, h2, State.stage4_readOp, h3, h4, bitrvv, hb,
        bind, Except.bind]
  · next h =>
    have hn : cnt.toInt.toNat = cnt.toNat := by
      have := cnt.toInt_eq_toNat_cond
      split at this <;> omega
    have hb : bitrv x cnt = .ok (reverseBits x cnt.toInt.toNat) := by
      rw [hn]
      exact if_neg h
    refine ⟨reverseBits x cnt.toInt.toNat, hf x _ (by omega), ?_⟩
    refine stores_of [⟨p, d, _⟩] (he t o1 o2 s) ?_ rfl hm fun x hx => hx
    cases rev <;>
      simp only [Bool.false_eq_true, if_false, if_true] at h3 h4 <;>
      simp only [top3Trap, State.stage4_evalTop, h1, State.stage4_checkWrite, h2, State.stage4_readOp, h3, h4, bitrvv, hb,
        bind, Except.bind] <;>
      rfl


/-! ### Blocks -/

theorem locateRun_length {s : State} {acc : Access} {ctx : Ctx} {p : Prec} {n : Nat} {va : VAddr} {sps : List Span}
    (h : s.locateRun acc ctx p n va = .ok sps) : sps.length = n := by
  induction n generalizing va sps with
  | zero =>
    cases h
    rfl
  | succ n ih =>
    simp only [State.locateRun, bind, Except.bind] at h
    split at h
    · cases h
    · split at h
      · cases h
      · next _ r hr =>
        cases h
        simp [ih hr]

theorem movesBlock_of {src dst : Access} {cnt : RegNum} {mk : OD → OD → Instr}
    (he : ∀ o1 o2 s, exec (mk o1 o2) s = runInstr (mk o1 o2).form (blockMove src dst cnt o1 o2) s) :
    MovesBlock src dst cnt mk := by
  intro o1 o2 s l x2 vs ds hm h1 h2 hb h3 h4
  refine stores_of (runStores .q ds vs) (he o1 o2 s) ?_ (State.writeRun_storeAll _ _ _ _) hm
    fun x hx => mem_spansOf_runStores hx
  have hn : s.count cnt = s.blockLength cnt := rfl
  have hd : s.destBlock dst (.loc l) (s.blockLength cnt) = .ok ds := by
    simp only [State.destBlock, Operand.asLoc, regLoc_within hb, h4, bind, Except.bind]
  simp only [blockMove, State.stage4_evalOD, h1, h2, Operand.asLoc, State.stage4_count, State.stage4_sourceBlock,
    hn, h3, State.stage4_destBlock, hd, bind, Except.bind]
  rfl

theorem fillsBlock_of {cnt : RegNum} {p : Prec} {mk : OD → OD → Instr}
    (he : ∀ o1 o2 s, exec (mk o1 o2) s = runInstr (mk o1 o2).form (blockInit cnt p o1 o2) s)
    (hal : ∀ va, aligned p va = decide (va.toNat % min p.qws 4 = 0)) : FillsBlock cnt p mk := by
  intro o1 o2 s l x2 n hm h1 h2 hn
  subst hn
  have hc : s.count cnt = s.blockLength cnt := rfl
  split
  · next h =>
    refine trapsFatal_of (he o1 o2 s) ?_
    simp only [blockInit, State.stage4_evalOD, h1, h2, State.stage4_count, hc, Operand.asLoc, bind, Except.bind]
    by_cases h3 : s.blockLength cnt % p.qws = 0
    · have h4 : l.va.toNat % min p.qws 4 ≠ 0 := by
        rcases h with h | h
        · exact absurd h3 h
        · exact h
      simp [fatalIf, h3, hal, h4]
    · simp [fatalIf, h3]
  · next h =>
    intro v ds h3 hb h4
    rw [not_or, not_not, not_not] at h
    refine stores_of (runStores p ds (List.replicate (s.blockLength cnt / p.qws) v)) (he o1 o2 s) ?_
      (State.writeRun_storeAll _ _ _ _) hm fun x hx => mem_spansOf_runStores hx
    simp only [blockInit, State.stage4_evalOD, h1, h2, State.stage4_count, hc, Operand.asLoc, bind, Except.bind, fatalIf,
      h.1, hal, h.2, State.stage4_readOp, h3, regLoc_within hb, State.stage4_locateRun, h4]
    rfl

/-! ### Status and the numbered parts -/

/-- The privilege check of an instruction that may run. -/
theorem privileged_of {s : State} {priv : Bool} (h : s.mayRun priv) (e : Env) :
    (if priv then s.privileged e else .ok ()) = (.ok () : M Unit) := by
  cases priv with
  | false => rfl
  | true =>
    simp only [if_true, State.privileged, h rfl]

theorem storesWord_of {priv : Bool} {f g : State → SW} {mk : OD → OD → Instr}
    (he : ∀ o1 o2 s, exec (mk o1 o2) s = runInstr (mk o1 o2).form (storeStatus priv g o1 o2) s)
    (hg : ∀ s, g s.stage4 = f s) : StoresWord priv f mk := by
  intro o1 s x d hm hp h1 h2
  refine stores_of [⟨.s, d, f s⟩] (he o1 noOD s) ?_ rfl hm fun x hx => hx
  have hpr := privileged_of hp
  have hu : checkUnused noOD = .ok () := rfl
  cases priv <;>
    simp only [storeStatus, Bool.false_eq_true, if_false, if_true, State.stage4_privileged, hu, State.stage4_evalOD, h1,
      State.stage4_checkWrite, h2, hg, bind, Except.bind] at hpr ⊢ <;>
    (try rw [hpr]) <;> rfl

theorem loadsUserStatus_of {f : SW → SW → SW} {mk : OD → OD → Instr}
    (he : ∀ o1 o2 s, exec (mk o1 o2) s = runInstr (mk o1 o2).form
      (loadStatus false (fun v s => s.loadUs (f s.us v)) o1 o2) s) : LoadsUserStatus f mk := by
  intro o1 s x v h1 h2
  have hu : checkUnused noOD = .ok () := rfl
  split
  · next h =>
    refine completes_of id [] (exec_of (he o1 noOD s) ?_) rfl rfl (by simp) (by simp [spansOf])
    simp only [loadStatus, Bool.false_eq_true, if_false, hu, State.stage4_evalOD, h1, State.stage4_readOp, h2, State.loadUs,
      checkUS, fatalIf, State.stage4_us, h, Bool.not_true, bind, Except.bind]
    rfl
  · next h =>
    refine trapsFatal_of (he o1 noOD s) ?_
    have h' : Us.legal (f s.us v) = false := by simpa using h
    simp only [loadStatus, Bool.false_eq_true, if_false, hu, State.stage4_evalOD, h1, State.stage4_readOp, h2, State.loadUs,
      checkUS, fatalIf, State.stage4_us, h', Bool.not_false, if_true, bind, Except.bind]

theorem jumpsOnStatus_of {c : LCond} {mk : OD → JDest → Instr}
    (he : ∀ o1 j s, exec (mk o1 j) s = runInstr (mk o1 j).form (jumpUs c o1 j) s)
    (hc : ∀ a m : SW, c.rel a m = Rule.lcond c a m) : JumpsOnStatus c mk := by
  intro o1 j s x d m h1 h2 h3
  refine jumpsTo_of (he o1 j s) ?_
  simp only [jumpUs, State.stage4_evalOD, h1, State.stage4_jumpDest, h2, State.stage4_readOp, h3, State.stage4_us, hc,
    bind, Except.bind]
  rfl

theorem jumpsAndClears_of {c : LCond} {mk : OD → JDest → Instr}
    (he : ∀ o1 j s, exec (mk o1 j) s = runInstr (mk o1 j).form (jumpUsClear c o1 j) s)
    (hc : ∀ a m : SW, c.rel a m = Rule.lcond c a m) : JumpsAndClears c mk := by
  intro o1 j s x d m h1 h2 h3
  split
  · next h =>
    refine completes_of id [] (exec_of (he o1 j s) ?_) rfl rfl (by simp) (by simp [spansOf])
    simp only [jumpUsClear, State.stage4_evalOD, h1, State.stage4_jumpDest, h2, State.stage4_readOp, h3, State.loadUs,
      checkUS, fatalIf, State.stage4_us, h, Bool.not_true, hc, bind, Except.bind]
    rfl
  · next h =>
    refine trapsFatal_of (he o1 j s) ?_
    have h' : Us.legal (s.us &&& ~~~m) = false := by simpa using h
    simp only [jumpUsClear, State.stage4_evalOD, h1, State.stage4_jumpDest, h2, State.stage4_readOp, h3, State.loadUs,
      checkUS, fatalIf, State.stage4_us, h', Bool.not_false, if_true, bind, Except.bind]

theorem storesPart_of {priv : Bool} {pd : Prec} {n : Nat} {get : State → Fin n → BitVec pd.bits}
    {f : SW → State → M (BitVec pd.bits × State)} {mk : OD → OD → Instr}
    (he : ∀ o1 o2 s, exec (mk o1 o2) s = runInstr (mk o1 o2).form (storePart priv pd f o1 o2) s)
    (hf : ∀ k s, f k s.stage4 = if h : k.toNat < n then .ok (get s ⟨k.toNat, h⟩, s.stage4) else .error (.fatal .other)) :
    StoresPart priv pd n get mk := by
  intro o1 o2 s x1 x2 d k hm hp h1 h2 h3 h4
  have hpr := privileged_of hp
  split
  · next h =>
    refine stores_of [⟨pd, d, get s ⟨k.toNat, h⟩⟩] (he o1 o2 s) ?_ rfl hm fun x hx => hx
    have hk := (hf k s).trans (dif_pos h)
    cases priv <;>
      simp only [storePart, Bool.false_eq_true, if_false, if_true, State.stage4_privileged, State.stage4_evalOD, h1, h2,
        State.stage4_checkWrite, h3, State.stage4_readOp, h4, hk, bind, Except.bind] at hpr ⊢ <;>
      (try rw [hpr]) <;> rfl
  · next h =>
    refine trapsFatal_of (he o1 o2 s) ?_
    have hk := (hf k s).trans (dif_neg h)
    cases priv <;>
      simp only [storePart, Bool.false_eq_true, if_false, if_true, State.stage4_privileged, State.stage4_evalOD, h1, h2,
        State.stage4_checkWrite, h3, State.stage4_readOp, h4, hk, bind, Except.bind] at hpr ⊢ <;>
      (try rw [hpr])

theorem loadsPart_of {priv : Bool} {p : Prec} {n : Nat} {ok : BitVec p.bits → Bool}
    {put : Fin n → BitVec p.bits → State → State} {f : SW → BitVec p.bits → State → M State} {mk : OD → OD → Instr}
    (he : ∀ o1 o2 s, exec (mk o1 o2) s = runInstr (mk o1 o2).form (loadPart priv p f o1 o2) s)
    (hf : ∀ k v s, f k v s = if h : k.toNat < n then
      if ok v = true then .ok (put ⟨k.toNat, h⟩ v s) else .error (.fatal .other) else .error (.fatal .other))
    (hp : ∀ k v s, put k v s.stage4 = { put k v s with traceEnbOld := Ps.traceEnb s.ps })
    (hu : ∀ k v s, (put k v s).us = s.us) :
    LoadsPart priv p n ok put mk := by
  intro o1 o2 s x1 x2 k v hr h1 h2 h3 h4
  have hpr := privileged_of hr
  split
  · next h =>
    split
    · next hv =>
      refine completes_of (put ⟨k.toNat, h⟩ v) [] (exec_of_plain (he o1 o2 s) ?_ (hu _ _ _)) rfl (hp _ _ _) (by simp)
        (by simp [spansOf])
      have hk := ((hf k v s.stage4).trans (dif_pos h)).trans (if_pos hv)
      cases priv <;>
        simp only [loadPart, Bool.false_eq_true, if_false, if_true, State.stage4_privileged, State.stage4_evalOD, h1, h2,
          State.stage4_readOp, h3, h4, hk, bind, Except.bind] at hpr ⊢ <;>
        (try rw [hpr]) <;> rfl
    · next hv =>
      refine trapsFatal_of (he o1 o2 s) ?_
      have hk := ((hf k v s.stage4).trans (dif_pos h)).trans (if_neg hv)
      cases priv <;>
        simp only [loadPart, Bool.false_eq_true, if_false, if_true, State.stage4_privileged, State.stage4_evalOD, h1, h2,
          State.stage4_readOp, h3, h4, hk, bind, Except.bind] at hpr ⊢ <;>
        (try rw [hpr])
  · next h =>
    refine trapsFatal_of (he o1 o2 s) ?_
    have hk := (hf k v s.stage4).trans (dif_neg h)
    cases priv <;>
      simp only [loadPart, Bool.false_eq_true, if_false, if_true, State.stage4_privileged, State.stage4_evalOD, h1, h2,
        State.stage4_readOp, h3, h4, hk, bind, Except.bind] at hpr ⊢ <;>
      (try rw [hpr])

/-! ### Segment registers and buffers -/

theorem readsBuffer_of {cnt : RegNum} {t : IoKind} {mk : OD → OD → Instr}
    (he : ∀ o1 o2 s, exec (mk o1 o2) s = runInstr (mk o1 o2).form (ioRead cnt t o1 o2) s)
    (hal : ∀ va, aligned t.prec va = decide (va.toNat % t.prec.qws = 0))
    (hf : ∀ n ws, bufferElements t n ws = Rule.ioElements t n ws) : ReadsBuffer cnt t mk := by
  intro o1 o2 s l1 l2 n hm h1 h2 hn
  subst hn
  have hc : s.count cnt = s.blockLength cnt := rfl
  split
  · next h =>
    refine trapsFatal_of (he o1 o2 s) ?_
    simp only [ioRead, State.stage4_evalOD, h1, h2, State.stage4_count, hc, Operand.asLoc, bind, Except.bind]
    by_cases h3 : s.blockLength cnt % t.prec.qws = 0
    · have h4 : s.blockLength cnt ≠ 0 ∧ l1.va.toNat % t.prec.qws ≠ 0 := by
        rcases h with h | h
        · exact absurd h3 h
        · exact h
      simp [fatalIf, h3, hal, h4.1, h4.2]
    · simp [fatalIf, h3]
  · next h =>
    intro ks ds hb h3 h4
    rw [not_or, not_not, not_and, not_not] at h
    refine stores_of (runStores t.prec ds
        (Rule.ioElements t (s.blockLength cnt / t.prec.qws) (ks.map fun k => Cells.get k s.iobuf))) (he o1 o2 s) ?_
      (State.writeRun_storeAll _ _ _ _) hm fun x hx => mem_spansOf_runStores hx
    have hbc : boundaryCheck l1.va (s.blockLength cnt) l1.rd = .ok () := regLoc_within hb
    have hg : (s.blockLength cnt != 0 && !aligned t.prec l1.va) = false := by
      by_cases h0 : s.blockLength cnt = 0
      · simp [h0]
      · simp [hal, h.2 h0]
    simp only [ioRead, State.stage4_evalOD, h1, h2, State.stage4_count, hc, Operand.asLoc, bind, Except.bind, fatalIf,
      h.1, hg, hbc, IoKind.words, State.stage4_ioBufRun, h3, State.stage4_locateRun, h4, hf]
    rfl

theorem writesBuffer_of {cnt : RegNum} {t : IoKind} {mk : OD → OD → Instr}
    (he : ∀ o1 o2 s, exec (mk o1 o2) s = runInstr (mk o1 o2).form (ioWrite cnt t o1 o2) s)
    (hf : ∀ vs, bufferWords t vs = Rule.ioWords t vs)
    (h4 : ∀ (s : State) x n, s.stage4.ioSource t x n = s.ioSource t x n) : WritesBuffer cnt t mk := by
  intro o1 o2 s l1 x2 n h1 h2 hn
  subst hn
  have hc : s.count cnt = s.blockLength cnt := rfl
  split
  · next h =>
    refine trapsFatal_of (he o1 o2 s) ?_
    simp only [ioWrite, State.stage4_evalOD, h1, h2, State.stage4_count, hc, Operand.asLoc, bind, Except.bind]
    simp [fatalIf, h]
  · next h =>
    intro ks vs h3 h5
    rw [not_not] at h
    refine completes_of (fun u => { u with iobuf := u.iobuf.store ks (Rule.ioWords t vs) }) []
      (exec_of_plain (he o1 o2 s) ?_ rfl) rfl rfl (by simp) (by simp [spansOf])
    simp only [ioWrite, State.stage4_evalOD, h1, h2, State.stage4_count, hc, Operand.asLoc, bind, Except.bind, fatalIf,
      h, h4, h3, IoKind.words, State.stage4_ioBufRun, h5, hf]
    rfl

theorem sweepsCache_of {priv : Bool} {cnt : RegNum} {mk : OD → OD → Instr}
    (he : ∀ o1 o2 s, exec (mk o1 o2) s = runInstr (mk o1 o2).form (sweepCache priv cnt o1 o2) s) :
    SweepsCache priv cnt mk := by
  intro o1 s l hp h1
  have hpr := privileged_of hp
  have hu : checkUnused noOD = .ok () := rfl
  have hc : s.count cnt = s.blockLength cnt := rfl
  constructor
  · intro h
    refine trapsFatal_of (he o1 noOD s) ?_
    have hn : fatalIf (s.blockLength cnt % 4 != 0) .blockAlignment = .error (.fatal .blockAlignment) := by
      simp [fatalIf, h]
    cases priv <;>
      simp only [sweepCache, Bool.false_eq_true, if_false, if_true, State.stage4_privileged, hu, State.stage4_evalOD, h1,
        Operand.asLoc, State.stage4_count, hc, hn, bind, Except.bind] at hpr ⊢ <;>
      (try rw [hpr])
  · intro h hb
    refine jumpsTo_of (he o1 noOD s) ?_
    have hn : fatalIf (s.blockLength cnt % 4 != 0) .blockAlignment = .ok () := by
      simp [fatalIf, h]
    cases priv <;>
      simp only [sweepCache, Bool.false_eq_true, if_false, if_true, State.stage4_privileged, hu, State.stage4_evalOD, h1,
        Operand.asLoc, State.stage4_count, hc, hn, regLoc_within hb, bind, Except.bind] at hpr ⊢ <;>
      (try rw [hpr]) <;> rfl

theorem sweepsMap_of {mk : OD → OD → Instr}
    (he : ∀ o1 o2 s, exec (mk o1 o2) s = runInstr (mk o1 o2).form (sweepMap o1 o2) s) : SweepsMap mk := by
  intro o1 s x v hp h1 h2
  have hpr := privileged_of (priv := true) (s := s) fun _ => hp
  have hu : checkUnused noOD = .ok () := rfl
  refine jumpsTo_of (he o1 noOD s) ?_
  simp only [if_true] at hpr
  simp only [sweepMap, State.stage4_privileged, hpr, hu, State.stage4_evalOD, h1, State.stage4_readOp, h2, bind,
    Except.bind]
  rfl

theorem loadsSegment_of {put : PAddr → PAddr → State → State} {set : State → PAddr → PAddr → State}
    {mk : OD → JDest → Instr}
    (he : ∀ o1 j s, exec (mk o1 j) s = runInstr (mk o1 j).form (writeSegment set o1 j) s)
    (hs : ∀ p q s, set s.stage4 p q = { put p q s with traceEnbOld := Ps.traceEnb s.ps })
    (hs' : ∀ p q s, set s p q = put p q s) (hu : ∀ p q s, (put p q s).us = s.us)
    (h34 : ∀ w : SW, field w 2 34 = BitVec.ofNat 34 w.toNat)
    (h2 : ∀ w : SW, (field w 34 2 != 0) = !decide (w.toNat % 4 = 0)) : LoadsSegment put mk := by
  intro o1 j s l d p q hp h1 h3 h4 h5
  have hpr := privileged_of (priv := true) (s := s) fun _ => hp
  simp only [if_true] at hpr
  split
  · next h =>
    have hg : fatalIf (field p 34 2 != 0 || field q 34 2 != 0) .notAligned = .ok () := by
      rw [fatalIf, h2, h2]
      simp [h]
    refine completes_of (put (BitVec.ofNat 34 p.toNat) (BitVec.ofNat 34 q.toNat)) []
      (exec_of_plain (he o1 j s) ?_ (hu _ _ _)) rfl ((hs' _ _ _).symm.trans (hs _ _ _)) (by simp) (by simp [spansOf])
    simp only [writeSegment, State.stage4_privileged, hpr, State.stage4_evalOD, h1, State.stage4_jumpDest, h3,
      Operand.asLoc, State.stage4_readLoc, h4, h5, hg, h34, hs', bind, Except.bind]
  · next h =>
    have hg : fatalIf (field p 34 2 != 0 || field q 34 2 != 0) .notAligned = .error (.fatal .notAligned) := by
      rw [not_and_or] at h
      simp only [fatalIf, h2]
      rcases h with h | h <;> simp [h]
    refine trapsFatal_of (he o1 j s) ?_
    simp only [writeSegment, State.stage4_privileged, hpr, State.stage4_evalOD, h1, State.stage4_jumpDest, h3,
      Operand.asLoc, State.stage4_readLoc, h4, h5, hg, bind, Except.bind]

/-- The single elements of a source block are those of the whole. -/
theorem srcQuarter_of {s : State} {x : Operand} {n i : Nat} {vs : List QW} (h : s.sourceBlock .read x n = .ok vs)
    (hi : i < n) : ∃ hl : i < vs.length, s.srcQuarter x n i = .ok vs[i] := by
  cases x with
  | imm k w =>
    simp only [State.sourceBlock] at h
    split at h
    · cases h
    · next h4 =>
      cases h
      refine ⟨by simpa using hi, ?_⟩
      simp [State.srcQuarter, h4]
  | loc l =>
    simp only [State.sourceBlock, bind, Except.bind] at h
    split at h
    · cases h
    · next hb =>
      split at h
      · cases h
      · next sps hs =>
        cases h
        have key : ∀ (n : Nat) (va : VAddr) (sps : List Span) (i : Nat), s.locateRun .read l.ctx .q n va = .ok sps →
            i < n → ∃ hl : i < sps.length, s.locate .read l.ctx (vaAdd va i) .q = .ok sps[i] := by
          intro n
          induction n with
          | zero => intro _ _ i _ hi; omega
          | succ n ih =>
            intro va sps i h hi
            simp only [State.locateRun, bind, Except.bind] at h
            split at h
            · cases h
            · next a ha =>
              split at h
              · cases h
              · next r hr =>
                cases h
                cases i with
                | zero =>
                  refine ⟨by simp, ?_⟩
                  simpa [vaAdd] using ha
                | succ i =>
                  obtain ⟨hl, hh⟩ := ih _ _ i hr (by omega)
                  refine ⟨by simpa using hl, ?_⟩
                  have e : vaAdd (vaAdd va Prec.q.qws) i = vaAdd va (i + 1) := by
                    simp only [vaAdd, Prec.qws, BitVec.add_assoc]
                    congr 1
                    apply BitVec.eq_of_toNat_eq
                    simp [BitVec.toNat_add, Nat.add_comm]
                  rw [e] at hh
                  simpa using hh
        obtain ⟨hl, hh⟩ := key n l.va sps i hs hi
        refine ⟨by simpa [State.readRun] using hl, ?_⟩
        simp only [State.srcQuarter, hb, State.memRead, hh, bind, Except.bind, State.readRun, List.getElem_map]

theorem sourceBlock_length {s : State} {acc : Access} {x : Operand} {n : Nat} {vs : List QW}
    (h : s.sourceBlock acc x n = .ok vs) : vs.length = n := by
  cases x with
  | imm k w =>
    simp only [State.sourceBlock] at h
    split at h
    · cases h
    · cases h
      simp
  | loc l =>
    simp only [State.sourceBlock, bind, Except.bind] at h
    split at h
    · cases h
    · split at h
      · cases h
      · next hs =>
        cases h
        simpa [State.readRun] using locateRun_length hs

theorem compareFrom_rule {s : State} {x y : Operand} {n : Nat} {as bs : List QW}
    (ha : s.sourceBlock .read x n = .ok as) (hb : s.sourceBlock .read y n = .ok bs)
    (hw : ∀ (b : Bool) (i : Nat), i < n → BitVec.ofBool b ++ BitVec.ofNat 35 (i + 1) =
      BitVec.ofNat 36 ((if b = true then 2 ^ 35 else 0) + (i + 1))) (k : Nat) :
    ∀ i, i + k = n → s.compareFrom x y n k i = .ok (Rule.compare (as.drop i) (bs.drop i) i) := by
  have la := sourceBlock_length ha
  have lb := sourceBlock_length hb
  induction k with
  | zero =>
    intro i hi
    have : as.drop i = [] := by simp; omega
    rw [this]
    rfl
  | succ k ih =>
    intro i hi
    obtain ⟨h1, e1⟩ := srcQuarter_of ha (i := i) (by omega)
    obtain ⟨h2, e2⟩ := srcQuarter_of hb (i := i) (by omega)
    rw [List.drop_eq_getElem_cons h1, List.drop_eq_getElem_cons h2]
    simp only [State.compareFrom, e1, e2, bind, Except.bind, Rule.compare, BitVec.toInt_inj, ih (i + 1) (by omega)]
    split
    · rfl
    · rw [hw _ i (by omega)]
      simp only [decide_eq_true_eq]

theorem comparesBlocks_of {cnt : RegNum} {mk : OD → OD → Instr}
    (he : ∀ o1 o2 s, exec (mk o1 o2) s = runInstr (mk o1 o2).form (stringCompare cnt o1 o2) s) :
    ComparesBlocks cnt mk := by
  intro o1 o2 s x1 x2 as bs hm h1 h2 h3 h4
  have hc : s.count cnt = s.blockLength cnt := rfl
  have hn : s.blockLength cnt < 2 ^ 35 := by
    have := BitVec.toInt_lt (x := s.reg cnt)
    simp only [State.blockLength]
    omega
  have hw : ∀ (b : Bool) (i : Nat), i < s.blockLength cnt → BitVec.ofBool b ++ BitVec.ofNat 35 (i + 1) =
      BitVec.ofNat 36 ((if b = true then 2 ^ 35 else 0) + (i + 1)) := by
    intro b i hi
    apply BitVec.eq_of_toNat_eq
    rw [toNat_append_eq]
    cases b <;> simp <;> omega
  have hr := compareFrom_rule h3 h4 hw (s.blockLength cnt) 0 (by omega)
  refine stores_of [⟨.s, s.regSpan cnt, Rule.compare as bs 0⟩] (he o1 o2 s) ?_ ?_ hm fun x hx => hx
  · simp only [stringCompare, State.stage4_evalOD, h1, h2, State.stage4_count, hc, State.stage4_compareFrom, hr,
      List.drop_zero, bind, Except.bind]
    rfl
  · rw [State.putReg_store]
    rfl

end Sys2Proof.Machine
end

