-- ==== Sys2Proof/Laws/PerInstr.lean ====
section
/-! SUPPORT. One lemma for each instruction (family `Mapped` of LAWS.json): the opcode map gives back the instruction
from its class, number and fields, the number lies within the class, and the encoder writes as many words as the
instruction is long. -/

namespace Sys2Proof.Laws.Mapped

/-- The place of an instruction in the opcode map (R264), and the words it occupies (R204). -/
structure Statement (i : Instr) : Prop where
  instr : i.form.instr = some i
  number : i.form.number < classCount i.form
  encoded : (encode i).length = i.length
  pos : 1 ≤ i.length
  le : i.length ≤ 3

/-- An extended word follows exactly when the descriptor is an extended one. -/
theorem encodeOD_length (od : OD) : (encodeOD od).2.toList.length = od.extended.toNat := by
  cases od <;> rfl

/-- The length of an instruction is the number of words the encoder writes. -/
theorem form_length (f : Form) : f.extWords.length + 1 = f.length := by
  cases f with
  | hop k d => rfl
  | xop k o1 o2 => simp only [Form.extWords, Form.length, List.length_append, encodeOD_length]; omega
  | sop k x o1 o2 => simp only [Form.extWords, Form.length, List.length_append, encodeOD_length]; omega
  | top k t o1 o2 => simp only [Form.extWords, Form.length, List.length_append, encodeOD_length]; omega
  | jop k o1 j =>
    cases j with
    | rel x =>
      simp only [Form.extWords, Form.length, encodeOD_length, JDest.extended, Bool.toNat_false]; omega
    | gen od =>
      simp only [Form.extWords, Form.length, List.length_append, encodeOD_length, JDest.extended]; omega

/-- An instruction has one to three words. -/
theorem form_length_le (f : Form) : f.length ≤ 3 := by
  cases f with
  | hop k d => exact (by decide : 1 ≤ 3)
  | xop k o1 o2 => have := o1.extended.toNat_le; have := o2.extended.toNat_le; simp only [Form.length]; omega
  | sop k x o1 o2 => have := o1.extended.toNat_le; have := o2.extended.toNat_le; simp only [Form.length]; omega
  | top k t o1 o2 => have := o1.extended.toNat_le; have := o2.extended.toNat_le; simp only [Form.length]; omega
  | jop k o1 j => have := o1.extended.toNat_le; have := j.extended.toNat_le; simp only [Form.length]; omega

/-- The statement for an instruction at its place in the opcode map. -/
theorem of_map {i : Instr} (h : i.form.instr = some i) (hn : decide (i.form.number < classCount i.form) = true) : Statement i where
  instr := h
  number := of_decide_eq_true hn
  encoded := form_length i.form
  pos := by have := form_length i.form; unfold Instr.length; omega
  le := form_length_le i.form

theorem addQ (t : TMode) (o1 o2 : OD) : Statement (.addQ t o1 o2) := of_map rfl rfl
theorem addH (t : TMode) (o1 o2 : OD) : Statement (.addH t o1 o2) := of_map rfl rfl
theorem addS (t : TMode) (o1 o2 : OD) : Statement (.addS t o1 o2) := of_map rfl rfl
theorem addD (t : TMode) (o1 o2 : OD) : Statement (.addD t o1 o2) := of_map rfl rfl
theorem addcQ (t : TMode) (o1 o2 : OD) : Statement (.addcQ t o1 o2) := of_map rfl rfl
theorem addcH (t : TMode) (o1 o2 : OD) : Statement (.addcH t o1 o2) := of_map rfl rfl
theorem addcS (t : TMode) (o1 o2 : OD) : Statement (.addcS t o1 o2) := of_map rfl rfl
theorem addcD (t : TMode) (o1 o2 : OD) : Statement (.addcD t o1 o2) := of_map rfl rfl
theorem subQ (t : TMode) (o1 o2 : OD) : Statement (.subQ t o1 o2) := of_map rfl rfl
theorem subH (t : TMode) (o1 o2 : OD) : Statement (.subH t o1 o2) := of_map rfl rfl
theorem subS (t : TMode) (o1 o2 : OD) : Statement (.subS t o1 o2) := of_map rfl rfl
theorem subD (t : TMode) (o1 o2 : OD) : Statement (.subD t o1 o2) := of_map rfl rfl
theorem subvQ (t : TMode) (o1 o2 : OD) : Statement (.subvQ t o1 o2) := of_map rfl rfl
theorem subvH (t : TMode) (o1 o2 : OD) : Statement (.subvH t o1 o2) := of_map rfl rfl
theorem subvS (t : TMode) (o1 o2 : OD) : Statement (.subvS t o1 o2) := of_map rfl rfl
theorem subvD (t : TMode) (o1 o2 : OD) : Statement (.subvD t o1 o2) := of_map rfl rfl
theorem subcQ (t : TMode) (o1 o2 : OD) : Statement (.subcQ t o1 o2) := of_map rfl rfl
theorem subcH (t : TMode) (o1 o2 : OD) : Statement (.subcH t o1 o2) := of_map rfl rfl
theorem subcS (t : TMode) (o1 o2 : OD) : Statement (.subcS t o1 o2) := of_map rfl rfl
theorem subcD (t : TMode) (o1 o2 : OD) : Statement (.subcD t o1 o2) := of_map rfl rfl
theorem subcvQ (t : TMode) (o1 o2 : OD) : Statement (.subcvQ t o1 o2) := of_map rfl rfl
theorem subcvH (t : TMode) (o1 o2 : OD) : Statement (.subcvH t o1 o2) := of_map rfl rfl
theorem subcvS (t : TMode) (o1 o2 : OD) : Statement (.subcvS t o1 o2) := of_map rfl rfl
theorem subcvD (t : TMode) (o1 o2 : OD) : Statement (.subcvD t o1 o2) := of_map rfl rfl
theorem multQ (t : TMode) (o1 o2 : OD) : Statement (.multQ t o1 o2) := of_map rfl rfl
theorem multH (t : TMode) (o1 o2 : OD) : Statement (.multH t o1 o2) := of_map rfl rfl
theorem multS (t : TMode) (o1 o2 : OD) : Statement (.multS t o1 o2) := of_map rfl rfl
theorem multD (t : TMode) (o1 o2 : OD) : Statement (.multD t o1 o2) := of_map rfl rfl
theorem multlQ (t : TMode) (o1 o2 : OD) : Statement (.multlQ t o1 o2) := of_map rfl rfl
theorem multlH (t : TMode) (o1 o2 : OD) : Statement (.multlH t o1 o2) := of_map rfl rfl
theorem multlS (t : TMode) (o1 o2 : OD) : Statement (.multlS t o1 o2) := of_map rfl rfl
theorem quoQ (t : TMode) (o1 o2 : OD) : Statement (.quoQ t o1 o2) := of_map rfl rfl
theorem quoH (t : TMode) (o1 o2 : OD) : Statement (.quoH t o1 o2) := of_map rfl rfl
theorem quoS (t : TMode) (o1 o2 : OD) : Statement (.quoS t o1 o2) := of_map rfl rfl
theorem quoD (t : TMode) (o1 o2 : OD) : Statement (.quoD t o1 o2) := of_map rfl rfl
theorem quovQ (t : TMode) (o1 o2 : OD) : Statement (.quovQ t o1 o2) := of_map rfl rfl
theorem quovH (t : TMode) (o1 o2 : OD) : Statement (.quovH t o1 o2) := of_map rfl rfl
theorem quovS (t : TMode) (o1 o2 : OD) : Statement (.quovS t o1 o2) := of_map rfl rfl
theorem quovD (t : TMode) (o1 o2 : OD) : Statement (.quovD t o1 o2) := of_map rfl rfl
theorem quolQ (t : TMode) (o1 o2 : OD) : Statement (.quolQ t o1 o2) := of_map rfl rfl
theorem quolH (t : TMode) (o1 o2 : OD) : Statement (.quolH t o1 o2) := of_map rfl rfl
theorem quolS (t : TMode) (o1 o2 : OD) : Statement (.quolS t o1 o2) := of_map rfl rfl
theorem quolvQ (t : TMode) (o1 o2 : OD) : Statement (.quolvQ t o1 o2) := of_map rfl rfl
theorem quolvH (t : TMode) (o1 o2 : OD) : Statement (.quolvH t o1 o2) := of_map rfl rfl
theorem quolvS (t : TMode) (o1 o2 : OD) : Statement (.quolvS t o1 o2) := of_map rfl rfl
theorem quo2Q (t : TMode) (o1 o2 : OD) : Statement (.quo2Q t o1 o2) := of_map rfl rfl
theorem quo2H (t : TMode) (o1 o2 : OD) : Statement (.quo2H t o1 o2) := of_map rfl rfl
theorem quo2S (t : TMode) (o1 o2 : OD) : Statement (.quo2S t o1 o2) := of_map rfl rfl
theorem quo2D (t : TMode) (o1 o2 : OD) : Statement (.quo2D t o1 o2) := of_map rfl rfl
theorem quo2vQ (t : TMode) (o1 o2 : OD) : Statement (.quo2vQ t o1 o2) := of_map rfl rfl
theorem quo2vH (t : TMode) (o1 o2 : OD) : Statement (.quo2vH t o1 o2) := of_map rfl rfl
theorem quo2vS (t : TMode) (o1 o2 : OD) : Statement (.quo2vS t o1 o2) := of_map rfl rfl
theorem quo2vD (t : TMode) (o1 o2 : OD) : Statement (.quo2vD t o1 o2) := of_map rfl rfl
theorem quo2lQ (t : TMode) (o1 o2 : OD) : Statement (.quo2lQ t o1 o2) := of_map rfl rfl
theorem quo2lH (t : TMode) (o1 o2 : OD) : Statement (.quo2lH t o1 o2) := of_map rfl rfl
theorem quo2lS (t : TMode) (o1 o2 : OD) : Statement (.quo2lS t o1 o2) := of_map rfl rfl
theorem quo2lvQ (t : TMode) (o1 o2 : OD) : Statement (.quo2lvQ t o1 o2) := of_map rfl rfl
theorem quo2lvH (t : TMode) (o1 o2 : OD) : Statement (.quo2lvH t o1 o2) := of_map rfl rfl
theorem quo2lvS (t : TMode) (o1 o2 : OD) : Statement (.quo2lvS t o1 o2) := of_map rfl rfl
theorem remQ (t : TMode) (o1 o2 : OD) : Statement (.remQ t o1 o2) := of_map rfl rfl
theorem remH (t : TMode) (o1 o2 : OD) : Statement (.remH t o1 o2) := of_map rfl rfl
theorem remS (t : TMode) (o1 o2 : OD) : Statement (.remS t o1 o2) := of_map rfl rfl
theorem remD (t : TMode) (o1 o2 : OD) : Statement (.remD t o1 o2) := of_map rfl rfl
theorem remvQ (t : TMode) (o1 o2 : OD) : Statement (.remvQ t o1 o2) := of_map rfl rfl
theorem remvH (t : TMode) (o1 o2 : OD) : Statement (.remvH t o1 o2) := of_map rfl rfl
theorem remvS (t : TMode) (o1 o2 : OD) : Statement (.remvS t o1 o2) := of_map rfl rfl
theorem remvD (t : TMode) (o1 o2 : OD) : Statement (.remvD t o1 o2) := of_map rfl rfl
theorem remlQ (t : TMode) (o1 o2 : OD) : Statement (.remlQ t o1 o2) := of_map rfl rfl
theorem remlH (t : TMode) (o1 o2 : OD) : Statement (.remlH t o1 o2) := of_map rfl rfl
theorem remlS (t : TMode) (o1 o2 : OD) : Statement (.remlS t o1 o2) := of_map rfl rfl
theorem remlvQ (t : TMode) (o1 o2 : OD) : Statement (.remlvQ t o1 o2) := of_map rfl rfl
theorem remlvH (t : TMode) (o1 o2 : OD) : Statement (.remlvH t o1 o2) := of_map rfl rfl
theorem remlvS (t : TMode) (o1 o2 : OD) : Statement (.remlvS t o1 o2) := of_map rfl rfl
theorem modQ (t : TMode) (o1 o2 : OD) : Statement (.modQ t o1 o2) := of_map rfl rfl
theorem modH (t : TMode) (o1 o2 : OD) : Statement (.modH t o1 o2) := of_map rfl rfl
theorem modS (t : TMode) (o1 o2 : OD) : Statement (.modS t o1 o2) := of_map rfl rfl
theorem modD (t : TMode) (o1 o2 : OD) : Statement (.modD t o1 o2) := of_map rfl rfl
theorem modvQ (t : TMode) (o1 o2 : OD) : Statement (.modvQ t o1 o2) := of_map rfl rfl
theorem modvH (t : TMode) (o1 o2 : OD) : Statement (.modvH t o1 o2) := of_map rfl rfl
theorem modvS (t : TMode) (o1 o2 : OD) : Statement (.modvS t o1 o2) := of_map rfl rfl
theorem modvD (t : TMode) (o1 o2 : OD) : Statement (.modvD t o1 o2) := of_map rfl rfl
theorem modlQ (t : TMode) (o1 o2 : OD) : Statement (.modlQ t o1 o2) := of_map rfl rfl
theorem modlH (t : TMode) (o1 o2 : OD) : Statement (.modlH t o1 o2) := of_map rfl rfl
theorem modlS (t : TMode) (o1 o2 : OD) : Statement (.modlS t o1 o2) := of_map rfl rfl
theorem modlvQ (t : TMode) (o1 o2 : OD) : Statement (.modlvQ t o1 o2) := of_map rfl rfl
theorem modlvH (t : TMode) (o1 o2 : OD) : Statement (.modlvH t o1 o2) := of_map rfl rfl
theorem modlvS (t : TMode) (o1 o2 : OD) : Statement (.modlvS t o1 o2) := of_map rfl rfl
theorem divQ (t : TMode) (o1 o2 : OD) : Statement (.divQ t o1 o2) := of_map rfl rfl
theorem divH (t : TMode) (o1 o2 : OD) : Statement (.divH t o1 o2) := of_map rfl rfl
theorem divS (t : TMode) (o1 o2 : OD) : Statement (.divS t o1 o2) := of_map rfl rfl
theorem divD (t : TMode) (o1 o2 : OD) : Statement (.divD t o1 o2) := of_map rfl rfl
theorem divvQ (t : TMode) (o1 o2 : OD) : Statement (.divvQ t o1 o2) := of_map rfl rfl
theorem divvH (t : TMode) (o1 o2 : OD) : Statement (.divvH t o1 o2) := of_map rfl rfl
theorem divvS (t : TMode) (o1 o2 : OD) : Statement (.divvS t o1 o2) := of_map rfl rfl
theorem divvD (t : TMode) (o1 o2 : OD) : Statement (.divvD t o1 o2) := of_map rfl rfl
theorem divlQ (t : TMode) (o1 o2 : OD) : Statement (.divlQ t o1 o2) := of_map rfl rfl
theorem divlH (t : TMode) (o1 o2 : OD) : Statement (.divlH t o1 o2) := of_map rfl rfl
theorem divlS (t : TMode) (o1 o2 : OD) : Statement (.divlS t o1 o2) := of_map rfl rfl
theorem divlvQ (t : TMode) (o1 o2 : OD) : Statement (.divlvQ t o1 o2) := of_map rfl rfl
theorem divlvH (t : TMode) (o1 o2 : OD) : Statement (.divlvH t o1 o2) := of_map rfl rfl
theorem divlvS (t : TMode) (o1 o2 : OD) : Statement (.divlvS t o1 o2) := of_map rfl rfl
theorem incQ (o1 o2 : OD) : Statement (.incQ o1 o2) := of_map rfl rfl
theorem incH (o1 o2 : OD) : Statement (.incH o1 o2) := of_map rfl rfl
theorem incS (o1 o2 : OD) : Statement (.incS o1 o2) := of_map rfl rfl
theorem incD (o1 o2 : OD) : Statement (.incD o1 o2) := of_map rfl rfl
theorem decQ (o1 o2 : OD) : Statement (.decQ o1 o2) := of_map rfl rfl
theorem decH (o1 o2 : OD) : Statement (.decH o1 o2) := of_map rfl rfl
theorem decS (o1 o2 : OD) : Statement (.decS o1 o2) := of_map rfl rfl
theorem decD (o1 o2 : OD) : Statement (.decD o1 o2) := of_map rfl rfl
theorem transQQ (o1 o2 : OD) : Statement (.transQQ o1 o2) := of_map rfl rfl
theorem transQH (o1 o2 : OD) : Statement (.transQH o1 o2) := of_map rfl rfl
theorem transQS (o1 o2 : OD) : Statement (.transQS o1 o2) := of_map rfl rfl
theorem transQD (o1 o2 : OD) : Statement (.transQD o1 o2) := of_map rfl rfl
theorem transHQ (o1 o2 : OD) : Statement (.transHQ o1 o2) := of_map rfl rfl
theorem transHH (o1 o2 : OD) : Statement (.transHH o1 o2) := of_map rfl rfl
theorem transHS (o1 o2 : OD) : Statement (.transHS o1 o2) := of_map rfl rfl
theorem transHD (o1 o2 : OD) : Statement (.transHD o1 o2) := of_map rfl rfl
theorem transSQ (o1 o2 : OD) : Statement (.transSQ o1 o2) := of_map rfl rfl
theorem transSH (o1 o2 : OD) : Statement (.transSH o1 o2) := of_map rfl rfl
theorem transSS (o1 o2 : OD) : Statement (.transSS o1 o2) := of_map rfl rfl
theorem transSD (o1 o2 : OD) : Statement (.transSD o1 o2) := of_map rfl rfl
theorem transDQ (o1 o2 : OD) : Statement (.transDQ o1 o2) := of_map rfl rfl
theorem transDH (o1 o2 : OD) : Statement (.transDH o1 o2) := of_map rfl rfl
theorem transDS (o1 o2 : OD) : Statement (.transDS o1 o2) := of_map rfl rfl
theorem transDD (o1 o2 : OD) : Statement (.transDD o1 o2) := of_map rfl rfl
theorem negQ (o1 o2 : OD) : Statement (.negQ o1 o2) := of_map rfl rfl
theorem negH (o1 o2 : OD) : Statement (.negH o1 o2) := of_map rfl rfl
theorem negS (o1 o2 : OD) : Statement (.negS o1 o2) := of_map rfl rfl
theorem negD (o1 o2 : OD) : Statement (.negD o1 o2) := of_map rfl rfl
theorem absQ (o1 o2 : OD) : Statement (.absQ o1 o2) := of_map rfl rfl
theorem absH (o1 o2 : OD) : Statement (.absH o1 o2) := of_map rfl rfl
theorem absS (o1 o2 : OD) : Statement (.absS o1 o2) := of_map rfl rfl
theorem absD (o1 o2 : OD) : Statement (.absD o1 o2) := of_map rfl rfl
theorem minQ (t : TMode) (o1 o2 : OD) : Statement (.minQ t o1 o2) := of_map rfl rfl
theorem minH (t : TMode) (o1 o2 : OD) : Statement (.minH t o1 o2) := of_map rfl rfl
theorem minS (t : TMode) (o1 o2 : OD) : Statement (.minS t o1 o2) := of_map rfl rfl
theorem minD (t : TMode) (o1 o2 : OD) : Statement (.minD t o1 o2) := of_map rfl rfl
theorem maxQ (t : TMode) (o1 o2 : OD) : Statement (.maxQ t o1 o2) := of_map rfl rfl
theorem maxH (t : TMode) (o1 o2 : OD) : Statement (.maxH t o1 o2) := of_map rfl rfl
theorem maxS (t : TMode) (o1 o2 : OD) : Statement (.maxS t o1 o2) := of_map rfl rfl
theorem maxD (t : TMode) (o1 o2 : OD) : Statement (.maxD t o1 o2) := of_map rfl rfl
theorem umultQ (t : TMode) (o1 o2 : OD) : Statement (.umultQ t o1 o2) := of_map rfl rfl
theorem umultH (t : TMode) (o1 o2 : OD) : Statement (.umultH t o1 o2) := of_map rfl rfl
theorem umultS (t : TMode) (o1 o2 : OD) : Statement (.umultS t o1 o2) := of_map rfl rfl
theorem umultD (t : TMode) (o1 o2 : OD) : Statement (.umultD t o1 o2) := of_map rfl rfl
theorem umultlQ (t : TMode) (o1 o2 : OD) : Statement (.umultlQ t o1 o2) := of_map rfl rfl
theorem umultlH (t : TMode) (o1 o2 : OD) : Statement (.umultlH t o1 o2) := of_map rfl rfl
theorem umultlS (t : TMode) (o1 o2 : OD) : Statement (.umultlS t o1 o2) := of_map rfl rfl
theorem udivQ (t : TMode) (o1 o2 : OD) : Statement (.udivQ t o1 o2) := of_map rfl rfl
theorem udivH (t : TMode) (o1 o2 : OD) : Statement (.udivH t o1 o2) := of_map rfl rfl
theorem udivS (t : TMode) (o1 o2 : OD) : Statement (.udivS t o1 o2) := of_map rfl rfl
theorem udivD (t : TMode) (o1 o2 : OD) : Statement (.udivD t o1 o2) := of_map rfl rfl
theorem udivlQ (t : TMode) (o1 o2 : OD) : Statement (.udivlQ t o1 o2) := of_map rfl rfl
theorem udivlH (t : TMode) (o1 o2 : OD) : Statement (.udivlH t o1 o2) := of_map rfl rfl
theorem udivlS (t : TMode) (o1 o2 : OD) : Statement (.udivlS t o1 o2) := of_map rfl rfl
theorem faddH (t : TMode) (o1 o2 : OD) : Statement (.faddH t o1 o2) := of_map rfl rfl
theorem faddS (t : TMode) (o1 o2 : OD) : Statement (.faddS t o1 o2) := of_map rfl rfl
theorem faddD (t : TMode) (o1 o2 : OD) : Statement (.faddD t o1 o2) := of_map rfl rfl
theorem fsubH (t : TMode) (o1 o2 : OD) : Statement (.fsubH t o1 o2) := of_map rfl rfl
theorem fsubS (t : TMode) (o1 o2 : OD) : Statement (.fsubS t o1 o2) := of_map rfl rfl
theorem fsubD (t : TMode) (o1 o2 : OD) : Statement (.fsubD t o1 o2) := of_map rfl rfl
theorem fsubvH (t : TMode) (o1 o2 : OD) : Statement (.fsubvH t o1 o2) := of_map rfl rfl
theorem fsubvS (t : TMode) (o1 o2 : OD) : Statement (.fsubvS t o1 o2) := of_map rfl rfl
theorem fsubvD (t : TMode) (o1 o2 : OD) : Statement (.fsubvD t o1 o2) := of_map rfl rfl
theorem fmultH (t : TMode) (o1 o2 : OD) : Statement (.fmultH t o1 o2) := of_map rfl rfl
theorem fmultS (t : TMode) (o1 o2 : OD) : Statement (.fmultS t o1 o2) := of_map rfl rfl
theorem fmultD (t : TMode) (o1 o2 : OD) : Statement (.fmultD t o1 o2) := of_map rfl rfl
theorem fmultlH (t : TMode) (o1 o2 : OD) : Statement (.fmultlH t o1 o2) := of_map rfl rfl
theorem fmultlS (t : TMode) (o1 o2 : OD) : Statement (.fmultlS t o1 o2) := of_map rfl rfl
theorem fdivH (t : TMode) (o1 o2 : OD) : Statement (.fdivH t o1 o2) := of_map rfl rfl
theorem fdivS (t : TMode) (o1 o2 : OD) : Statement (.fdivS t o1 o2) := of_map rfl rfl
theorem fdivD (t : TMode) (o1 o2 : OD) : Statement (.fdivD t o1 o2) := of_map rfl rfl
theorem fdivvH (t : TMode) (o1 o2 : OD) : Statement (.fdivvH t o1 o2) := of_map rfl rfl
theorem fdivvS (t : TMode) (o1 o2 : OD) : Statement (.fdivvS t o1 o2) := of_map rfl rfl
theorem fdivvD (t : TMode) (o1 o2 : OD) : Statement (.fdivvD t o1 o2) := of_map rfl rfl
theorem fdivlH (t : TMode) (o1 o2 : OD) : Statement (.fdivlH t o1 o2) := of_map rfl rfl
theorem fdivlS (t : TMode) (o1 o2 : OD) : Statement (.fdivlS t o1 o2) := of_map rfl rfl
theorem fdivlvH (t : TMode) (o1 o2 : OD) : Statement (.fdivlvH t o1 o2) := of_map rfl rfl
theorem fdivlvS (t : TMode) (o1 o2 : OD) : Statement (.fdivlvS t o1 o2) := of_map rfl rfl
theorem fscH (t : TMode) (o1 o2 : OD) : Statement (.fscH t o1 o2) := of_map rfl rfl
theorem fscS (t : TMode) (o1 o2 : OD) : Statement (.fscS t o1 o2) := of_map rfl rfl
theorem fscD (t : TMode) (o1 o2 : OD) : Statement (.fscD t o1 o2) := of_map rfl rfl
theorem fscvH (t : TMode) (o1 o2 : OD) : Statement (.fscvH t o1 o2) := of_map rfl rfl
theorem fscvS (t : TMode) (o1 o2 : OD) : Statement (.fscvS t o1 o2) := of_map rfl rfl
theorem fscvD (t : TMode) (o1 o2 : OD) : Statement (.fscvD t o1 o2) := of_map rfl rfl
theorem fixFlQH (o1 o2 : OD) : Statement (.fixFlQH o1 o2) := of_map rfl rfl
theorem fixFlQS (o1 o2 : OD) : Statement (.fixFlQS o1 o2) := of_map rfl rfl
theorem fixFlQD (o1 o2 : OD) : Statement (.fixFlQD o1 o2) := of_map rfl rfl
theorem fixFlHH (o1 o2 : OD) : Statement (.fixFlHH o1 o2) := of_map rfl rfl
theorem fixFlHS (o1 o2 : OD) : Statement (.fixFlHS o1 o2) := of_map rfl rfl
theorem fixFlHD (o1 o2 : OD) : Statement (.fixFlHD o1 o2) := of_map rfl rfl
theorem fixFlSH (o1 o2 : OD) : Statement (.fixFlSH o1 o2) := of_map rfl rfl
theorem fixFlSS (o1 o2 : OD) : Statement (.fixFlSS o1 o2) := of_map rfl rfl
theorem fixFlSD (o1 o2 : OD) : Statement (.fixFlSD o1 o2) := of_map rfl rfl
theorem fixFlDH (o1 o2 : OD) : Statement (.fixFlDH o1 o2) := of_map rfl rfl
theorem fixFlDS (o1 o2 : OD) : Statement (.fixFlDS o1 o2) := of_map rfl rfl
theorem fixFlDD (o1 o2 : OD) : Statement (.fixFlDD o1 o2) := of_map rfl rfl
theorem fixClQH (o1 o2 : OD) : Statement (.fixClQH o1 o2) := of_map rfl rfl
theorem fixClQS (o1 o2 : OD) : Statement (.fixClQS o1 o2) := of_map rfl rfl
theorem fixClQD (o1 o2 : OD) : Statement (.fixClQD o1 o2) := of_map rfl rfl
theorem fixClHH (o1 o2 : OD) : Statement (.fixClHH o1 o2) := of_map rfl rfl
theorem fixClHS (o1 o2 : OD) : Statement (.fixClHS o1 o2) := of_map rfl rfl
theorem fixClHD (o1 o2 : OD) : Statement (.fixClHD o1 o2) := of_map rfl rfl
theorem fixClSH (o1 o2 : OD) : Statement (.fixClSH o1 o2) := of_map rfl rfl
theorem fixClSS (o1 o2 : OD) : Statement (.fixClSS o1 o2) := of_map rfl rfl
theorem fixClSD (o1 o2 : OD) : Statement (.fixClSD o1 o2) := of_map rfl rfl
theorem fixClDH (o1 o2 : OD) : Statement (.fixClDH o1 o2) := of_map rfl rfl
theorem fixClDS (o1 o2 : OD) : Statement (.fixClDS o1 o2) := of_map rfl rfl
theorem fixClDD (o1 o2 : OD) : Statement (.fixClDD o1 o2) := of_map rfl rfl
theorem fixDmQH (o1 o2 : OD) : Statement (.fixDmQH o1 o2) := of_map rfl rfl
theorem fixDmQS (o1 o2 : OD) : Statement (.fixDmQS o1 o2) := of_map rfl rfl
theorem fixDmQD (o1 o2 : OD) : Statement (.fixDmQD o1 o2) := of_map rfl rfl
theorem fixDmHH (o1 o2 : OD) : Statement (.fixDmHH o1 o2) := of_map rfl rfl
theorem fixDmHS (o1 o2 : OD) : Statement (.fixDmHS o1 o2) := of_map rfl rfl
theorem fixDmHD (o1 o2 : OD) : Statement (.fixDmHD o1 o2) := of_map rfl rfl
theorem fixDmSH (o1 o2 : OD) : Statement (.fixDmSH o1 o2) := of_map rfl rfl
theorem fixDmSS (o1 o2 : OD) : Statement (.fixDmSS o1 o2) := of_map rfl rfl
theorem fixDmSD (o1 o2 : OD) : Statement (.fixDmSD o1 o2) := of_map rfl rfl
theorem fixDmDH (o1 o2 : OD) : Statement (.fixDmDH o1 o2) := of_map rfl rfl
theorem fixDmDS (o1 o2 : OD) : Statement (.fixDmDS o1 o2) := of_map rfl rfl
theorem fixDmDD (o1 o2 : OD) : Statement (.fixDmDD o1 o2) := of_map rfl rfl
theorem fixHpQH (o1 o2 : OD) : Statement (.fixHpQH o1 o2) := of_map rfl rfl
theorem fixHpQS (o1 o2 : OD) : Statement (.fixHpQS o1 o2) := of_map rfl rfl
theorem fixHpQD (o1 o2 : OD) : Statement (.fixHpQD o1 o2) := of_map rfl rfl
theorem fixHpHH (o1 o2 : OD) : Statement (.fixHpHH o1 o2) := of_map rfl rfl
theorem fixHpHS (o1 o2 : OD) : Statement (.fixHpHS o1 o2) := of_map rfl rfl
theorem fixHpHD (o1 o2 : OD) : Statement (.fixHpHD o1 o2) := of_map rfl rfl
theorem fixHpSH (o1 o2 : OD) : Statement (.fixHpSH o1 o2) := of_map rfl rfl
theorem fixHpSS (o1 o2 : OD) : Statement (.fixHpSS o1 o2) := of_map rfl rfl
theorem fixHpSD (o1 o2 : OD) : Statement (.fixHpSD o1 o2) := of_map rfl rfl
theorem fixHpDH (o1 o2 : OD) : Statement (.fixHpDH o1 o2) := of_map rfl rfl
theorem fixHpDS (o1 o2 : OD) : Statement (.fixHpDS o1 o2) := of_map rfl rfl
theorem fixHpDD (o1 o2 : OD) : Statement (.fixHpDD o1 o2) := of_map rfl rfl
theorem fixUsQH (o1 o2 : OD) : Statement (.fixUsQH o1 o2) := of_map rfl rfl
theorem fixUsQS (o1 o2 : OD) : Statement (.fixUsQS o1 o2) := of_map rfl rfl
theorem fixUsQD (o1 o2 : OD) : Statement (.fixUsQD o1 o2) := of_map rfl rfl
theorem fixUsHH (o1 o2 : OD) : Statement (.fixUsHH o1 o2) := of_map rfl rfl
theorem fixUsHS (o1 o2 : OD) : Statement (.fixUsHS o1 o2) := of_map rfl rfl
theorem fixUsHD (o1 o2 : OD) : Statement (.fixUsHD o1 o2) := of_map rfl rfl
theorem fixUsSH (o1 o2 : OD) : Statement (.fixUsSH o1 o2) := of_map rfl rfl
theorem fixUsSS (o1 o2 : OD) : Statement (.fixUsSS o1 o2) := of_map rfl rfl
theorem fixUsSD (o1 o2 : OD) : Statement (.fixUsSD o1 o2) := of_map rfl rfl
theorem fixUsDH (o1 o2 : OD) : Statement (.fixUsDH o1 o2) := of_map rfl rfl
theorem fixUsDS (o1 o2 : OD) : Statement (.fixUsDS o1 o2) := of_map rfl rfl
theorem fixUsDD (o1 o2 : OD) : Statement (.fixUsDD o1 o2) := of_map rfl rfl
theorem floatHQ (o1 o2 : OD) : Statement (.floatHQ o1 o2) := of_map rfl rfl
theorem floatHH (o1 o2 : OD) : Statement (.floatHH o1 o2) := of_map rfl rfl
theorem floatHS (o1 o2 : OD) : Statement (.floatHS o1 o2) := of_map rfl rfl
theorem floatHD (o1 o2 : OD) : Statement (.floatHD o1 o2) := of_map rfl rfl
theorem floatSQ (o1 o2 : OD) : Statement (.floatSQ o1 o2) := of_map rfl rfl
theorem floatSH (o1 o2 : OD) : Statement (.floatSH o1 o2) := of_map rfl rfl
theorem floatSS (o1 o2 : OD) : Statement (.floatSS o1 o2) := of_map rfl rfl
theorem floatSD (o1 o2 : OD) : Statement (.floatSD o1 o2) := of_map rfl rfl
theorem floatDQ (o1 o2 : OD) : Statement (.floatDQ o1 o2) := of_map rfl rfl
theorem floatDH (o1 o2 : OD) : Statement (.floatDH o1 o2) := of_map rfl rfl
theorem floatDS (o1 o2 : OD) : Statement (.floatDS o1 o2) := of_map rfl rfl
theorem floatDD (o1 o2 : OD) : Statement (.floatDD o1 o2) := of_map rfl rfl
theorem ftransHH (o1 o2 : OD) : Statement (.ftransHH o1 o2) := of_map rfl rfl
theorem ftransHS (o1 o2 : OD) : Statement (.ftransHS o1 o2) := of_map rfl rfl
theorem ftransHD (o1 o2 : OD) : Statement (.ftransHD o1 o2) := of_map rfl rfl
theorem ftransSH (o1 o2 : OD) : Statement (.ftransSH o1 o2) := of_map rfl rfl
theorem ftransSS (o1 o2 : OD) : Statement (.ftransSS o1 o2) := of_map rfl rfl
theorem ftransSD (o1 o2 : OD) : Statement (.ftransSD o1 o2) := of_map rfl rfl
theorem ftransDH (o1 o2 : OD) : Statement (.ftransDH o1 o2) := of_map rfl rfl
theorem ftransDS (o1 o2 : OD) : Statement (.ftransDS o1 o2) := of_map rfl rfl
theorem ftransDD (o1 o2 : OD) : Statement (.ftransDD o1 o2) := of_map rfl rfl
theorem fnegH (o1 o2 : OD) : Statement (.fnegH o1 o2) := of_map rfl rfl
theorem fnegS (o1 o2 : OD) : Statement (.fnegS o1 o2) := of_map rfl rfl
theorem fnegD (o1 o2 : OD) : Statement (.fnegD o1 o2) := of_map rfl rfl
theorem fabsH (o1 o2 : OD) : Statement (.fabsH o1 o2) := of_map rfl rfl
theorem fabsS (o1 o2 : OD) : Statement (.fabsS o1 o2) := of_map rfl rfl
theorem fabsD (o1 o2 : OD) : Statement (.fabsD o1 o2) := of_map rfl rfl
theorem fminH (t : TMode) (o1 o2 : OD) : Statement (.fminH t o1 o2) := of_map rfl rfl
theorem fminS (t : TMode) (o1 o2 : OD) : Statement (.fminS t o1 o2) := of_map rfl rfl
theorem fminD (t : TMode) (o1 o2 : OD) : Statement (.fminD t o1 o2) := of_map rfl rfl
theorem fmaxH (t : TMode) (o1 o2 : OD) : Statement (.fmaxH t o1 o2) := of_map rfl rfl
theorem fmaxS (t : TMode) (o1 o2 : OD) : Statement (.fmaxS t o1 o2) := of_map rfl rfl
theorem fmaxD (t : TMode) (o1 o2 : OD) : Statement (.fmaxD t o1 o2) := of_map rfl rfl
theorem movQQ (o1 o2 : OD) : Statement (.movQQ o1 o2) := of_map rfl rfl
theorem movQH (o1 o2 : OD) : Statement (.movQH o1 o2) := of_map rfl rfl
theorem movQS (o1 o2 : OD) : Statement (.movQS o1 o2) := of_map rfl rfl
theorem movQD (o1 o2 : OD) : Statement (.movQD o1 o2) := of_map rfl rfl
theorem movHQ (o1 o2 : OD) : Statement (.movHQ o1 o2) := of_map rfl rfl
theorem movHH (o1 o2 : OD) : Statement (.movHH o1 o2) := of_map rfl rfl
theorem movHS (o1 o2 : OD) : Statement (.movHS o1 o2) := of_map rfl rfl
theorem movHD (o1 o2 : OD) : Statement (.movHD o1 o2) := of_map rfl rfl
theorem movSQ (o1 o2 : OD) : Statement (.movSQ o1 o2) := of_map rfl rfl
theorem movSH (o1 o2 : OD) : Statement (.movSH o1 o2) := of_map rfl rfl
theorem movSS (o1 o2 : OD) : Statement (.movSS o1 o2) := of_map rfl rfl
theorem movSD (o1 o2 : OD) : Statement (.movSD o1 o2) := of_map rfl rfl
theorem movDQ (o1 o2 : OD) : Statement (.movDQ o1 o2) := of_map rfl rfl
theorem movDH (o1 o2 : OD) : Statement (.movDH o1 o2) := of_map rfl rfl
theorem movDS (o1 o2 : OD) : Statement (.movDS o1 o2) := of_map rfl rfl
theorem movDD (o1 o2 : OD) : Statement (.movDD o1 o2) := of_map rfl rfl
theorem movmq2 (o1 o2 : OD) : Statement (.movmq2 o1 o2) := of_map rfl rfl
theorem movmq3 (o1 o2 : OD) : Statement (.movmq3 o1 o2) := of_map rfl rfl
theorem movmq4 (o1 o2 : OD) : Statement (.movmq4 o1 o2) := of_map rfl rfl
theorem movmq5 (o1 o2 : OD) : Statement (.movmq5 o1 o2) := of_map rfl rfl
theorem movmq6 (o1 o2 : OD) : Statement (.movmq6 o1 o2) := of_map rfl rfl
theorem movmq7 (o1 o2 : OD) : Statement (.movmq7 o1 o2) := of_map rfl rfl
theorem movmq8 (o1 o2 : OD) : Statement (.movmq8 o1 o2) := of_map rfl rfl
theorem movmq9 (o1 o2 : OD) : Statement (.movmq9 o1 o2) := of_map rfl rfl
theorem movmq10 (o1 o2 : OD) : Statement (.movmq10 o1 o2) := of_map rfl rfl
theorem movmq11 (o1 o2 : OD) : Statement (.movmq11 o1 o2) := of_map rfl rfl
theorem movmq12 (o1 o2 : OD) : Statement (.movmq12 o1 o2) := of_map rfl rfl
theorem movmq13 (o1 o2 : OD) : Statement (.movmq13 o1 o2) := of_map rfl rfl
theorem movmq14 (o1 o2 : OD) : Statement (.movmq14 o1 o2) := of_map rfl rfl
theorem movmq15 (o1 o2 : OD) : Statement (.movmq15 o1 o2) := of_map rfl rfl
theorem movmq16 (o1 o2 : OD) : Statement (.movmq16 o1 o2) := of_map rfl rfl
theorem movmq17 (o1 o2 : OD) : Statement (.movmq17 o1 o2) := of_map rfl rfl
theorem movmq18 (o1 o2 : OD) : Statement (.movmq18 o1 o2) := of_map rfl rfl
theorem movmq19 (o1 o2 : OD) : Statement (.movmq19 o1 o2) := of_map rfl rfl
theorem movmq20 (o1 o2 : OD) : Statement (.movmq20 o1 o2) := of_map rfl rfl
theorem movmq21 (o1 o2 : OD) : Statement (.movmq21 o1 o2) := of_map rfl rfl
theorem movmq22 (o1 o2 : OD) : Statement (.movmq22 o1 o2) := of_map rfl rfl
theorem movmq23 (o1 o2 : OD) : Statement (.movmq23 o1 o2) := of_map rfl rfl
theorem movmq24 (o1 o2 : OD) : Statement (.movmq24 o1 o2) := of_map rfl rfl
theorem movmq25 (o1 o2 : OD) : Statement (.movmq25 o1 o2) := of_map rfl rfl
theorem movmq26 (o1 o2 : OD) : Statement (.movmq26 o1 o2) := of_map rfl rfl
theorem movmq27 (o1 o2 : OD) : Statement (.movmq27 o1 o2) := of_map rfl rfl
theorem movmq28 (o1 o2 : OD) : Statement (.movmq28 o1 o2) := of_map rfl rfl
theorem movmq29 (o1 o2 : OD) : Statement (.movmq29 o1 o2) := of_map rfl rfl
theorem movmq30 (o1 o2 : OD) : Statement (.movmq30 o1 o2) := of_map rfl rfl
theorem movmq31 (o1 o2 : OD) : Statement (.movmq31 o1 o2) := of_map rfl rfl
theorem movmq32 (o1 o2 : OD) : Statement (.movmq32 o1 o2) := of_map rfl rfl
theorem movmq64 (o1 o2 : OD) : Statement (.movmq64 o1 o2) := of_map rfl rfl
theorem movmq128 (o1 o2 : OD) : Statement (.movmq128 o1 o2) := of_map rfl rfl
theorem movms2 (o1 o2 : OD) : Statement (.movms2 o1 o2) := of_map rfl rfl
theorem movms3 (o1 o2 : OD) : Statement (.movms3 o1 o2) := of_map rfl rfl
theorem movms4 (o1 o2 : OD) : Statement (.movms4 o1 o2) := of_map rfl rfl
theorem movms5 (o1 o2 : OD) : Statement (.movms5 o1 o2) := of_map rfl rfl
theorem movms6 (o1 o2 : OD) : Statement (.movms6 o1 o2) := of_map rfl rfl
theorem movms7 (o1 o2 : OD) : Statement (.movms7 o1 o2) := of_map rfl rfl
theorem movms8 (o1 o2 : OD) : Statement (.movms8 o1 o2) := of_map rfl rfl
theorem movms9 (o1 o2 : OD) : Statement (.movms9 o1 o2) := of_map rfl rfl
theorem movms10 (o1 o2 : OD) : Statement (.movms10 o1 o2) := of_map rfl rfl
theorem movms11 (o1 o2 : OD) : Statement (.movms11 o1 o2) := of_map rfl rfl
theorem movms12 (o1 o2 : OD) : Statement (.movms12 o1 o2) := of_map rfl rfl
theorem movms13 (o1 o2 : OD) : Statement (.movms13 o1 o2) := of_map rfl rfl
theorem movms14 (o1 o2 : OD) : Statement (.movms14 o1 o2) := of_map rfl rfl
theorem movms15 (o1 o2 : OD) : Statement (.movms15 o1 o2) := of_map rfl rfl
theorem movms16 (o1 o2 : OD) : Statement (.movms16 o1 o2) := of_map rfl rfl
theorem movms17 (o1 o2 : OD) : Statement (.movms17 o1 o2) := of_map rfl rfl
theorem movms18 (o1 o2 : OD) : Statement (.movms18 o1 o2) := of_map rfl rfl
theorem movms19 (o1 o2 : OD) : Statement (.movms19 o1 o2) := of_map rfl rfl
theorem movms20 (o1 o2 : OD) : Statement (.movms20 o1 o2) := of_map rfl rfl
theorem movms21 (o1 o2 : OD) : Statement (.movms21 o1 o2) := of_map rfl rfl
theorem movms22 (o1 o2 : OD) : Statement (.movms22 o1 o2) := of_map rfl rfl
theorem movms23 (o1 o2 : OD) : Statement (.movms23 o1 o2) := of_map rfl rfl
theorem movms24 (o1 o2 : OD) : Statement (.movms24 o1 o2) := of_map rfl rfl
theorem movms25 (o1 o2 : OD) : Statement (.movms25 o1 o2) := of_map rfl rfl
theorem movms26 (o1 o2 : OD) : Statement (.movms26 o1 o2) := of_map rfl rfl
theorem movms27 (o1 o2 : OD) : Statement (.movms27 o1 o2) := of_map rfl rfl
theorem movms28 (o1 o2 : OD) : Statement (.movms28 o1 o2) := of_map rfl rfl
theorem movms29 (o1 o2 : OD) : Statement (.movms29 o1 o2) := of_map rfl rfl
theorem movms30 (o1 o2 : OD) : Statement (.movms30 o1 o2) := of_map rfl rfl
theorem movms31 (o1 o2 : OD) : Statement (.movms31 o1 o2) := of_map rfl rfl
theorem movms32 (o1 o2 : OD) : Statement (.movms32 o1 o2) := of_map rfl rfl
theorem exchQ (o1 o2 : OD) : Statement (.exchQ o1 o2) := of_map rfl rfl
theorem exchH (o1 o2 : OD) : Statement (.exchH o1 o2) := of_map rfl rfl
theorem exchS (o1 o2 : OD) : Statement (.exchS o1 o2) := of_map rfl rfl
theorem exchD (o1 o2 : OD) : Statement (.exchD o1 o2) := of_map rfl rfl
theorem slr0 (o1 o2 : OD) : Statement (.slr0 o1 o2) := of_map rfl rfl
theorem slr1 (o1 o2 : OD) : Statement (.slr1 o1 o2) := of_map rfl rfl
theorem slr2 (o1 o2 : OD) : Statement (.slr2 o1 o2) := of_map rfl rfl
theorem slr3 (o1 o2 : OD) : Statement (.slr3 o1 o2) := of_map rfl rfl
theorem slr4 (o1 o2 : OD) : Statement (.slr4 o1 o2) := of_map rfl rfl
theorem slr5 (o1 o2 : OD) : Statement (.slr5 o1 o2) := of_map rfl rfl
theorem slr6 (o1 o2 : OD) : Statement (.slr6 o1 o2) := of_map rfl rfl
theorem slr7 (o1 o2 : OD) : Statement (.slr7 o1 o2) := of_map rfl rfl
theorem slr8 (o1 o2 : OD) : Statement (.slr8 o1 o2) := of_map rfl rfl
theorem slr9 (o1 o2 : OD) : Statement (.slr9 o1 o2) := of_map rfl rfl
theorem slr10 (o1 o2 : OD) : Statement (.slr10 o1 o2) := of_map rfl rfl
theorem slr11 (o1 o2 : OD) : Statement (.slr11 o1 o2) := of_map rfl rfl
theorem slr12 (o1 o2 : OD) : Statement (.slr12 o1 o2) := of_map rfl rfl
theorem slr13 (o1 o2 : OD) : Statement (.slr13 o1 o2) := of_map rfl rfl
theorem slr14 (o1 o2 : OD) : Statement (.slr14 o1 o2) := of_map rfl rfl
theorem slr15 (o1 o2 : OD) : Statement (.slr15 o1 o2) := of_map rfl rfl
theorem slr16 (o1 o2 : OD) : Statement (.slr16 o1 o2) := of_map rfl rfl
theorem slr17 (o1 o2 : OD) : Statement (.slr17 o1 o2) := of_map rfl rfl
theorem slr18 (o1 o2 : OD) : Statement (.slr18 o1 o2) := of_map rfl rfl
theorem slr19 (o1 o2 : OD) : Statement (.slr19 o1 o2) := of_map rfl rfl
theorem slr20 (o1 o2 : OD) : Statement (.slr20 o1 o2) := of_map rfl rfl
theorem slr21 (o1 o2 : OD) : Statement (.slr21 o1 o2) := of_map rfl rfl
theorem slr22 (o1 o2 : OD) : Statement (.slr22 o1 o2) := of_map rfl rfl
theorem slr23 (o1 o2 : OD) : Statement (.slr23 o1 o2) := of_map rfl rfl
theorem slr24 (o1 o2 : OD) : Statement (.slr24 o1 o2) := of_map rfl rfl
theorem slr25 (o1 o2 : OD) : Statement (.slr25 o1 o2) := of_map rfl rfl
theorem slr26 (o1 o2 : OD) : Statement (.slr26 o1 o2) := of_map rfl rfl
theorem slr27 (o1 o2 : OD) : Statement (.slr27 o1 o2) := of_map rfl rfl
theorem slr28 (o1 o2 : OD) : Statement (.slr28 o1 o2) := of_map rfl rfl
theorem slr29 (o1 o2 : OD) : Statement (.slr29 o1 o2) := of_map rfl rfl
theorem slr30 (o1 o2 : OD) : Statement (.slr30 o1 o2) := of_map rfl rfl
theorem slr31 (o1 o2 : OD) : Statement (.slr31 o1 o2) := of_map rfl rfl
theorem slradr0 (o1 o2 : OD) : Statement (.slradr0 o1 o2) := of_map rfl rfl
theorem slradr1 (o1 o2 : OD) : Statement (.slradr1 o1 o2) := of_map rfl rfl
theorem slradr2 (o1 o2 : OD) : Statement (.slradr2 o1 o2) := of_map rfl rfl
theorem slradr3 (o1 o2 : OD) : Statement (.slradr3 o1 o2) := of_map rfl rfl
theorem slradr4 (o1 o2 : OD) : Statement (.slradr4 o1 o2) := of_map rfl rfl
theorem slradr5 (o1 o2 : OD) : Statement (.slradr5 o1 o2) := of_map rfl rfl
theorem slradr6 (o1 o2 : OD) : Statement (.slradr6 o1 o2) := of_map rfl rfl
theorem slradr7 (o1 o2 : OD) : Statement (.slradr7 o1 o2) := of_map rfl rfl
theorem slradr8 (o1 o2 : OD) : Statement (.slradr8 o1 o2) := of_map rfl rfl
theorem slradr9 (o1 o2 : OD) : Statement (.slradr9 o1 o2) := of_map rfl rfl
theorem slradr10 (o1 o2 : OD) : Statement (.slradr10 o1 o2) := of_map rfl rfl
theorem slradr11 (o1 o2 : OD) : Statement (.slradr11 o1 o2) := of_map rfl rfl
theorem slradr12 (o1 o2 : OD) : Statement (.slradr12 o1 o2) := of_map rfl rfl
theorem slradr13 (o1 o2 : OD) : Statement (.slradr13 o1 o2) := of_map rfl rfl
theorem slradr14 (o1 o2 : OD) : Statement (.slradr14 o1 o2) := of_map rfl rfl
theorem slradr15 (o1 o2 : OD) : Statement (.slradr15 o1 o2) := of_map rfl rfl
theorem slradr16 (o1 o2 : OD) : Statement (.slradr16 o1 o2) := of_map rfl rfl
theorem slradr17 (o1 o2 : OD) : Statement (.slradr17 o1 o2) := of_map rfl rfl
theorem slradr18 (o1 o2 : OD) : Statement (.slradr18 o1 o2) := of_map rfl rfl
theorem slradr19 (o1 o2 : OD) : Statement (.slradr19 o1 o2) := of_map rfl rfl
theorem slradr20 (o1 o2 : OD) : Statement (.slradr20 o1 o2) := of_map rfl rfl
theorem slradr21 (o1 o2 : OD) : Statement (.slradr21 o1 o2) := of_map rfl rfl
theorem slradr22 (o1 o2 : OD) : Statement (.slradr22 o1 o2) := of_map rfl rfl
theorem slradr23 (o1 o2 : OD) : Statement (.slradr23 o1 o2) := of_map rfl rfl
theorem slradr24 (o1 o2 : OD) : Statement (.slradr24 o1 o2) := of_map rfl rfl
theorem slradr25 (o1 o2 : OD) : Statement (.slradr25 o1 o2) := of_map rfl rfl
theorem slradr26 (o1 o2 : OD) : Statement (.slradr26 o1 o2) := of_map rfl rfl
theorem slradr27 (o1 o2 : OD) : Statement (.slradr27 o1 o2) := of_map rfl rfl
theorem slradr28 (o1 o2 : OD) : Statement (.slradr28 o1 o2) := of_map rfl rfl
theorem slradr29 (o1 o2 : OD) : Statement (.slradr29 o1 o2) := of_map rfl rfl
theorem slradr30 (o1 o2 : OD) : Statement (.slradr30 o1 o2) := of_map rfl rfl
theorem slradr31 (o1 o2 : OD) : Statement (.slradr31 o1 o2) := of_map rfl rfl
theorem movadr (o1 o2 : OD) : Statement (.movadr o1 o2) := of_map rfl rfl
theorem movphy (o1 o2 : OD) : Statement (.movphy o1 o2) := of_map rfl rfl
theorem cmpsfGtrQ (t : TMode) (o1 o2 : OD) : Statement (.cmpsfGtrQ t o1 o2) := of_map rfl rfl
theorem cmpsfGtrH (t : TMode) (o1 o2 : OD) : Statement (.cmpsfGtrH t o1 o2) := of_map rfl rfl
theorem cmpsfGtrS (t : TMode) (o1 o2 : OD) : Statement (.cmpsfGtrS t o1 o2) := of_map rfl rfl
theorem cmpsfGtrD (t : TMode) (o1 o2 : OD) : Statement (.cmpsfGtrD t o1 o2) := of_map rfl rfl
theorem cmpsfEqlQ (t : TMode) (o1 o2 : OD) : Statement (.cmpsfEqlQ t o1 o2) := of_map rfl rfl
theorem cmpsfEqlH (t : TMode) (o1 o2 : OD) : Statement (.cmpsfEqlH t o1 o2) := of_map rfl rfl
theorem cmpsfEqlS (t : TMode) (o1 o2 : OD) : Statement (.cmpsfEqlS t o1 o2) := of_map rfl rfl
theorem cmpsfEqlD (t : TMode) (o1 o2 : OD) : Statement (.cmpsfEqlD t o1 o2) := of_map rfl rfl
theorem cmpsfGeqQ (t : TMode) (o1 o2 : OD) : Statement (.cmpsfGeqQ t o1 o2) := of_map rfl rfl
theorem cmpsfGeqH (t : TMode) (o1 o2 : OD) : Statement (.cmpsfGeqH t o1 o2) := of_map rfl rfl
theorem cmpsfGeqS (t : TMode) (o1 o2 : OD) : Statement (.cmpsfGeqS t o1 o2) := of_map rfl rfl
theorem cmpsfGeqD (t : TMode) (o1 o2 : OD) : Statement (.cmpsfGeqD t o1 o2) := of_map rfl rfl
theorem cmpsfLssQ (t : TMode) (o1 o2 : OD) : Statement (.cmpsfLssQ t o1 o2) := of_map rfl rfl
theorem cmpsfLssH (t : TMode) (o1 o2 : OD) : Statement (.cmpsfLssH t o1 o2) := of_map rfl rfl
theorem cmpsfLssS (t : TMode) (o1 o2 : OD) : Statement (.cmpsfLssS t o1 o2) := of_map rfl rfl
theorem cmpsfLssD (t : TMode) (o1 o2 : OD) : Statement (.cmpsfLssD t o1 o2) := of_map rfl rfl
theorem cmpsfNeqQ (t : TMode) (o1 o2 : OD) : Statement (.cmpsfNeqQ t o1 o2) := of_map rfl rfl
theorem cmpsfNeqH (t : TMode) (o1 o2 : OD) : Statement (.cmpsfNeqH t o1 o2) := of_map rfl rfl
theorem cmpsfNeqS (t : TMode) (o1 o2 : OD) : Statement (.cmpsfNeqS t o1 o2) := of_map rfl rfl
theorem cmpsfNeqD (t : TMode) (o1 o2 : OD) : Statement (.cmpsfNeqD t o1 o2) := of_map rfl rfl
theorem cmpsfLeqQ (t : TMode) (o1 o2 : OD) : Statement (.cmpsfLeqQ t o1 o2) := of_map rfl rfl
theorem cmpsfLeqH (t : TMode) (o1 o2 : OD) : Statement (.cmpsfLeqH t o1 o2) := of_map rfl rfl
theorem cmpsfLeqS (t : TMode) (o1 o2 : OD) : Statement (.cmpsfLeqS t o1 o2) := of_map rfl rfl
theorem cmpsfLeqD (t : TMode) (o1 o2 : OD) : Statement (.cmpsfLeqD t o1 o2) := of_map rfl rfl
theorem bndsfBQ (t : TMode) (o1 o2 : OD) : Statement (.bndsfBQ t o1 o2) := of_map rfl rfl
theorem bndsfBH (t : TMode) (o1 o2 : OD) : Statement (.bndsfBH t o1 o2) := of_map rfl rfl
theorem bndsfBS (t : TMode) (o1 o2 : OD) : Statement (.bndsfBS t o1 o2) := of_map rfl rfl
theorem bndsfBD (t : TMode) (o1 o2 : OD) : Statement (.bndsfBD t o1 o2) := of_map rfl rfl
theorem bndsfMinQ (t : TMode) (o1 o2 : OD) : Statement (.bndsfMinQ t o1 o2) := of_map rfl rfl
theorem bndsfMinH (t : TMode) (o1 o2 : OD) : Statement (.bndsfMinH t o1 o2) := of_map rfl rfl
theorem bndsfMinS (t : TMode) (o1 o2 : OD) : Statement (.bndsfMinS t o1 o2) := of_map rfl rfl
theorem bndsfMinD (t : TMode) (o1 o2 : OD) : Statement (.bndsfMinD t o1 o2) := of_map rfl rfl
theorem bndsfM1Q (t : TMode) (o1 o2 : OD) : Statement (.bndsfM1Q t o1 o2) := of_map rfl rfl
theorem bndsfM1H (t : TMode) (o1 o2 : OD) : Statement (.bndsfM1H t o1 o2) := of_map rfl rfl
theorem bndsfM1S (t : TMode) (o1 o2 : OD) : Statement (.bndsfM1S t o1 o2) := of_map rfl rfl
theorem bndsfM1D (t : TMode) (o1 o2 : OD) : Statement (.bndsfM1D t o1 o2) := of_map rfl rfl
theorem bndsf0Q (t : TMode) (o1 o2 : OD) : Statement (.bndsf0Q t o1 o2) := of_map rfl rfl
theorem bndsf0H (t : TMode) (o1 o2 : OD) : Statement (.bndsf0H t o1 o2) := of_map rfl rfl
theorem bndsf0S (t : TMode) (o1 o2 : OD) : Statement (.bndsf0S t o1 o2) := of_map rfl rfl
theorem bndsf0D (t : TMode) (o1 o2 : OD) : Statement (.bndsf0D t o1 o2) := of_map rfl rfl
theorem bndsf1Q (t : TMode) (o1 o2 : OD) : Statement (.bndsf1Q t o1 o2) := of_map rfl rfl
theorem bndsf1H (t : TMode) (o1 o2 : OD) : Statement (.bndsf1H t o1 o2) := of_map rfl rfl
theorem bndsf1S (t : TMode) (o1 o2 : OD) : Statement (.bndsf1S t o1 o2) := of_map rfl rfl
theorem bndsf1D (t : TMode) (o1 o2 : OD) : Statement (.bndsf1D t o1 o2) := of_map rfl rfl
theorem notQ (o1 o2 : OD) : Statement (.notQ o1 o2) := of_map rfl rfl
theorem notH (o1 o2 : OD) : Statement (.notH o1 o2) := of_map rfl rfl
theorem notS (o1 o2 : OD) : Statement (.notS o1 o2) := of_map rfl rfl
theorem notD (o1 o2 : OD) : Statement (.notD o1 o2) := of_map rfl rfl
theorem andQ (t : TMode) (o1 o2 : OD) : Statement (.andQ t o1 o2) := of_map rfl rfl
theorem andH (t : TMode) (o1 o2 : OD) : Statement (.andH t o1 o2) := of_map rfl rfl
theorem andS (t : TMode) (o1 o2 : OD) : Statement (.andS t o1 o2) := of_map rfl rfl
theorem andD (t : TMode) (o1 o2 : OD) : Statement (.andD t o1 o2) := of_map rfl rfl
theorem andtcQ (t : TMode) (o1 o2 : OD) : Statement (.andtcQ t o1 o2) := of_map rfl rfl
theorem andtcH (t : TMode) (o1 o2 : OD) : Statement (.andtcH t o1 o2) := of_map rfl rfl
theorem andtcS (t : TMode) (o1 o2 : OD) : Statement (.andtcS t o1 o2) := of_map rfl rfl
theorem andtcD (t : TMode) (o1 o2 : OD) : Statement (.andtcD t o1 o2) := of_map rfl rfl
theorem andctQ (t : TMode) (o1 o2 : OD) : Statement (.andctQ t o1 o2) := of_map rfl rfl
theorem andctH (t : TMode) (o1 o2 : OD) : Statement (.andctH t o1 o2) := of_map rfl rfl
theorem andctS (t : TMode) (o1 o2 : OD) : Statement (.andctS t o1 o2) := of_map rfl rfl
theorem andctD (t : TMode) (o1 o2 : OD) : Statement (.andctD t o1 o2) := of_map rfl rfl
theorem orQ (t : TMode) (o1 o2 : OD) : Statement (.orQ t o1 o2) := of_map rfl rfl
theorem orH (t : TMode) (o1 o2 : OD) : Statement (.orH t o1 o2) := of_map rfl rfl
theorem orS (t : TMode) (o1 o2 : OD) : Statement (.orS t o1 o2) := of_map rfl rfl
theorem orD (t : TMode) (o1 o2 : OD) : Statement (.orD t o1 o2) := of_map rfl rfl
theorem ortcQ (t : TMode) (o1 o2 : OD) : Statement (.ortcQ t o1 o2) := of_map rfl rfl
theorem ortcH (t : TMode) (o1 o2 : OD) : Statement (.ortcH t o1 o2) := of_map rfl rfl
theorem ortcS (t : TMode) (o1 o2 : OD) : Statement (.ortcS t o1 o2) := of_map rfl rfl
theorem ortcD (t : TMode) (o1 o2 : OD) : Statement (.ortcD t o1 o2) := of_map rfl rfl
theorem orctQ (t : TMode) (o1 o2 : OD) : Statement (.orctQ t o1 o2) := of_map rfl rfl
theorem orctH (t : TMode) (o1 o2 : OD) : Statement (.orctH t o1 o2) := of_map rfl rfl
theorem orctS (t : TMode) (o1 o2 : OD) : Statement (.orctS t o1 o2) := of_map rfl rfl
theorem orctD (t : TMode) (o1 o2 : OD) : Statement (.orctD t o1 o2) := of_map rfl rfl
theorem nandQ (t : TMode) (o1 o2 : OD) : Statement (.nandQ t o1 o2) := of_map rfl rfl
theorem nandH (t : TMode) (o1 o2 : OD) : Statement (.nandH t o1 o2) := of_map rfl rfl
theorem nandS (t : TMode) (o1 o2 : OD) : Statement (.nandS t o1 o2) := of_map rfl rfl
theorem nandD (t : TMode) (o1 o2 : OD) : Statement (.nandD t o1 o2) := of_map rfl rfl
theorem norQ (t : TMode) (o1 o2 : OD) : Statement (.norQ t o1 o2) := of_map rfl rfl
theorem norH (t : TMode) (o1 o2 : OD) : Statement (.norH t o1 o2) := of_map rfl rfl
theorem norS (t : TMode) (o1 o2 : OD) : Statement (.norS t o1 o2) := of_map rfl rfl
theorem norD (t : TMode) (o1 o2 : OD) : Statement (.norD t o1 o2) := of_map rfl rfl
theorem xorQ (t : TMode) (o1 o2 : OD) : Statement (.xorQ t o1 o2) := of_map rfl rfl
theorem xorH (t : TMode) (o1 o2 : OD) : Statement (.xorH t o1 o2) := of_map rfl rfl
theorem xorS (t : TMode) (o1 o2 : OD) : Statement (.xorS t o1 o2) := of_map rfl rfl
theorem xorD (t : TMode) (o1 o2 : OD) : Statement (.xorD t o1 o2) := of_map rfl rfl
theorem eqvQ (t : TMode) (o1 o2 : OD) : Statement (.eqvQ t o1 o2) := of_map rfl rfl
theorem eqvH (t : TMode) (o1 o2 : OD) : Statement (.eqvH t o1 o2) := of_map rfl rfl
theorem eqvS (t : TMode) (o1 o2 : OD) : Statement (.eqvS t o1 o2) := of_map rfl rfl
theorem eqvD (t : TMode) (o1 o2 : OD) : Statement (.eqvD t o1 o2) := of_map rfl rfl
theorem shfLfQ (t : TMode) (o1 o2 : OD) : Statement (.shfLfQ t o1 o2) := of_map rfl rfl
theorem shfLfH (t : TMode) (o1 o2 : OD) : Statement (.shfLfH t o1 o2) := of_map rfl rfl
theorem shfLfS (t : TMode) (o1 o2 : OD) : Statement (.shfLfS t o1 o2) := of_map rfl rfl
theorem shfLfD (t : TMode) (o1 o2 : OD) : Statement (.shfLfD t o1 o2) := of_map rfl rfl
theorem shfRtQ (t : TMode) (o1 o2 : OD) : Statement (.shfRtQ t o1 o2) := of_map rfl rfl
theorem shfRtH (t : TMode) (o1 o2 : OD) : Statement (.shfRtH t o1 o2) := of_map rfl rfl
theorem shfRtS (t : TMode) (o1 o2 : OD) : Statement (.shfRtS t o1 o2) := of_map rfl rfl
theorem shfRtD (t : TMode) (o1 o2 : OD) : Statement (.shfRtD t o1 o2) := of_map rfl rfl
theorem shfvLfQ (t : TMode) (o1 o2 : OD) : Statement (.shfvLfQ t o1 o2) := of_map rfl rfl
theorem shfvLfH (t : TMode) (o1 o2 : OD) : Statement (.shfvLfH t o1 o2) := of_map rfl rfl
theorem shfvLfS (t : TMode) (o1 o2 : OD) : Statement (.shfvLfS t o1 o2) := of_map rfl rfl
theorem shfvLfD (t : TMode) (o1 o2 : OD) : Statement (.shfvLfD t o1 o2) := of_map rfl rfl
theorem shfvRtQ (t : TMode) (o1 o2 : OD) : Statement (.shfvRtQ t o1 o2) := of_map rfl rfl
theorem shfvRtH (t : TMode) (o1 o2 : OD) : Statement (.shfvRtH t o1 o2) := of_map rfl rfl
theorem shfvRtS (t : TMode) (o1 o2 : OD) : Statement (.shfvRtS t o1 o2) := of_map rfl rfl
theorem shfvRtD (t : TMode) (o1 o2 : OD) : Statement (.shfvRtD t o1 o2) := of_map rfl rfl
theorem dshfLfQ (t : TMode) (o1 o2 : OD) : Statement (.dshfLfQ t o1 o2) := of_map rfl rfl
theorem dshfLfH (t : TMode) (o1 o2 : OD) : Statement (.dshfLfH t o1 o2) := of_map rfl rfl
theorem dshfLfS (t : TMode) (o1 o2 : OD) : Statement (.dshfLfS t o1 o2) := of_map rfl rfl
theorem dshfRtQ (t : TMode) (o1 o2 : OD) : Statement (.dshfRtQ t o1 o2) := of_map rfl rfl
theorem dshfRtH (t : TMode) (o1 o2 : OD) : Statement (.dshfRtH t o1 o2) := of_map rfl rfl
theorem dshfRtS (t : TMode) (o1 o2 : OD) : Statement (.dshfRtS t o1 o2) := of_map rfl rfl
theorem dshfvLfQ (t : TMode) (o1 o2 : OD) : Statement (.dshfvLfQ t o1 o2) := of_map rfl rfl
theorem dshfvLfH (t : TMode) (o1 o2 : OD) : Statement (.dshfvLfH t o1 o2) := of_map rfl rfl
theorem dshfvLfS (t : TMode) (o1 o2 : OD) : Statement (.dshfvLfS t o1 o2) := of_map rfl rfl
theorem dshfvRtQ (t : TMode) (o1 o2 : OD) : Statement (.dshfvRtQ t o1 o2) := of_map rfl rfl
theorem dshfvRtH (t : TMode) (o1 o2 : OD) : Statement (.dshfvRtH t o1 o2) := of_map rfl rfl
theorem dshfvRtS (t : TMode) (o1 o2 : OD) : Statement (.dshfvRtS t o1 o2) := of_map rfl rfl
theorem shfaLfQ (t : TMode) (o1 o2 : OD) : Statement (.shfaLfQ t o1 o2) := of_map rfl rfl
theorem shfaLfH (t : TMode) (o1 o2 : OD) : Statement (.shfaLfH t o1 o2) := of_map rfl rfl
theorem shfaLfS (t : TMode) (o1 o2 : OD) : Statement (.shfaLfS t o1 o2) := of_map rfl rfl
theorem shfaLfD (t : TMode) (o1 o2 : OD) : Statement (.shfaLfD t o1 o2) := of_map rfl rfl
theorem shfaRtQ (t : TMode) (o1 o2 : OD) : Statement (.shfaRtQ t o1 o2) := of_map rfl rfl
theorem shfaRtH (t : TMode) (o1 o2 : OD) : Statement (.shfaRtH t o1 o2) := of_map rfl rfl
theorem shfaRtS (t : TMode) (o1 o2 : OD) : Statement (.shfaRtS t o1 o2) := of_map rfl rfl
theorem shfaRtD (t : TMode) (o1 o2 : OD) : Statement (.shfaRtD t o1 o2) := of_map rfl rfl
theorem shfavLfQ (t : TMode) (o1 o2 : OD) : Statement (.shfavLfQ t o1 o2) := of_map rfl rfl
theorem shfavLfH (t : TMode) (o1 o2 : OD) : Statement (.shfavLfH t o1 o2) := of_map rfl rfl
theorem shfavLfS (t : TMode) (o1 o2 : OD) : Statement (.shfavLfS t o1 o2) := of_map rfl rfl
theorem shfavLfD (t : TMode) (o1 o2 : OD) : Statement (.shfavLfD t o1 o2) := of_map rfl rfl
theorem shfavRtQ (t : TMode) (o1 o2 : OD) : Statement (.shfavRtQ t o1 o2) := of_map rfl rfl
theorem shfavRtH (t : TMode) (o1 o2 : OD) : Statement (.shfavRtH t o1 o2) := of_map rfl rfl
theorem shfavRtS (t : TMode) (o1 o2 : OD) : Statement (.shfavRtS t o1 o2) := of_map rfl rfl
theorem shfavRtD (t : TMode) (o1 o2 : OD) : Statement (.shfavRtD t o1 o2) := of_map rfl rfl
theorem rotLfQ (t : TMode) (o1 o2 : OD) : Statement (.rotLfQ t o1 o2) := of_map rfl rfl
theorem rotLfH (t : TMode) (o1 o2 : OD) : Statement (.rotLfH t o1 o2) := of_map rfl rfl
theorem rotLfS (t : TMode) (o1 o2 : OD) : Statement (.rotLfS t o1 o2) := of_map rfl rfl
theorem rotLfD (t : TMode) (o1 o2 : OD) : Statement (.rotLfD t o1 o2) := of_map rfl rfl
theorem rotRtQ (t : TMode) (o1 o2 : OD) : Statement (.rotRtQ t o1 o2) := of_map rfl rfl
theorem rotRtH (t : TMode) (o1 o2 : OD) : Statement (.rotRtH t o1 o2) := of_map rfl rfl
theorem rotRtS (t : TMode) (o1 o2 : OD) : Statement (.rotRtS t o1 o2) := of_map rfl rfl
theorem rotRtD (t : TMode) (o1 o2 : OD) : Statement (.rotRtD t o1 o2) := of_map rfl rfl
theorem rotvLfQ (t : TMode) (o1 o2 : OD) : Statement (.rotvLfQ t o1 o2) := of_map rfl rfl
theorem rotvLfH (t : TMode) (o1 o2 : OD) : Statement (.rotvLfH t o1 o2) := of_map rfl rfl
theorem rotvLfS (t : TMode) (o1 o2 : OD) : Statement (.rotvLfS t o1 o2) := of_map rfl rfl
theorem rotvLfD (t : TMode) (o1 o2 : OD) : Statement (.rotvLfD t o1 o2) := of_map rfl rfl
theorem rotvRtQ (t : TMode) (o1 o2 : OD) : Statement (.rotvRtQ t o1 o2) := of_map rfl rfl
theorem rotvRtH (t : TMode) (o1 o2 : OD) : Statement (.rotvRtH t o1 o2) := of_map rfl rfl
theorem rotvRtS (t : TMode) (o1 o2 : OD) : Statement (.rotvRtS t o1 o2) := of_map rfl rfl
theorem rotvRtD (t : TMode) (o1 o2 : OD) : Statement (.rotvRtD t o1 o2) := of_map rfl rfl
theorem skpGtrQ (skp : BitVec 4) (o1 o2 : OD) : Statement (.skpGtrQ skp o1 o2) := of_map rfl rfl
theorem skpGtrH (skp : BitVec 4) (o1 o2 : OD) : Statement (.skpGtrH skp o1 o2) := of_map rfl rfl
theorem skpGtrS (skp : BitVec 4) (o1 o2 : OD) : Statement (.skpGtrS skp o1 o2) := of_map rfl rfl
theorem skpGtrD (skp : BitVec 4) (o1 o2 : OD) : Statement (.skpGtrD skp o1 o2) := of_map rfl rfl
theorem skpEqlQ (skp : BitVec 4) (o1 o2 : OD) : Statement (.skpEqlQ skp o1 o2) := of_map rfl rfl
theorem skpEqlH (skp : BitVec 4) (o1 o2 : OD) : Statement (.skpEqlH skp o1 o2) := of_map rfl rfl
theorem skpEqlS (skp : BitVec 4) (o1 o2 : OD) : Statement (.skpEqlS skp o1 o2) := of_map rfl rfl
theorem skpEqlD (skp : BitVec 4) (o1 o2 : OD) : Statement (.skpEqlD skp o1 o2) := of_map rfl rfl
theorem skpGeqQ (skp : BitVec 4) (o1 o2 : OD) : Statement (.skpGeqQ skp o1 o2) := of_map rfl rfl
theorem skpGeqH (skp : BitVec 4) (o1 o2 : OD) : Statement (.skpGeqH skp o1 o2) := of_map rfl rfl
theorem skpGeqS (skp : BitVec 4) (o1 o2 : OD) : Statement (.skpGeqS skp o1 o2) := of_map rfl rfl
theorem skpGeqD (skp : BitVec 4) (o1 o2 : OD) : Statement (.skpGeqD skp o1 o2) := of_map rfl rfl
theorem skpLssQ (skp : BitVec 4) (o1 o2 : OD) : Statement (.skpLssQ skp o1 o2) := of_map rfl rfl
theorem skpLssH (skp : BitVec 4) (o1 o2 : OD) : Statement (.skpLssH skp o1 o2) := of_map rfl rfl
theorem skpLssS (skp : BitVec 4) (o1 o2 : OD) : Statement (.skpLssS skp o1 o2) := of_map rfl rfl
theorem skpLssD (skp : BitVec 4) (o1 o2 : OD) : Statement (.skpLssD skp o1 o2) := of_map rfl rfl
theorem skpNeqQ (skp : BitVec 4) (o1 o2 : OD) : Statement (.skpNeqQ skp o1 o2) := of_map rfl rfl
theorem skpNeqH (skp : BitVec 4) (o1 o2 : OD) : Statement (.skpNeqH skp o1 o2) := of_map rfl rfl
theorem skpNeqS (skp : BitVec 4) (o1 o2 : OD) : Statement (.skpNeqS skp o1 o2) := of_map rfl rfl
theorem skpNeqD (skp : BitVec 4) (o1 o2 : OD) : Statement (.skpNeqD skp o1 o2) := of_map rfl rfl
theorem skpLeqQ (skp : BitVec 4) (o1 o2 : OD) : Statement (.skpLeqQ skp o1 o2) := of_map rfl rfl
theorem skpLeqH (skp : BitVec 4) (o1 o2 : OD) : Statement (.skpLeqH skp o1 o2) := of_map rfl rfl
theorem skpLeqS (skp : BitVec 4) (o1 o2 : OD) : Statement (.skpLeqS skp o1 o2) := of_map rfl rfl
theorem skpLeqD (skp : BitVec 4) (o1 o2 : OD) : Statement (.skpLeqD skp o1 o2) := of_map rfl rfl
theorem skpNonQ (skp : BitVec 4) (o1 o2 : OD) : Statement (.skpNonQ skp o1 o2) := of_map rfl rfl
theorem skpNonH (skp : BitVec 4) (o1 o2 : OD) : Statement (.skpNonH skp o1 o2) := of_map rfl rfl
theorem skpNonS (skp : BitVec 4) (o1 o2 : OD) : Statement (.skpNonS skp o1 o2) := of_map rfl rfl
theorem skpNonD (skp : BitVec 4) (o1 o2 : OD) : Statement (.skpNonD skp o1 o2) := of_map rfl rfl
theorem skpAllQ (skp : BitVec 4) (o1 o2 : OD) : Statement (.skpAllQ skp o1 o2) := of_map rfl rfl
theorem skpAllH (skp : BitVec 4) (o1 o2 : OD) : Statement (.skpAllH skp o1 o2) := of_map rfl rfl
theorem skpAllS (skp : BitVec 4) (o1 o2 : OD) : Statement (.skpAllS skp o1 o2) := of_map rfl rfl
theorem skpAllD (skp : BitVec 4) (o1 o2 : OD) : Statement (.skpAllD skp o1 o2) := of_map rfl rfl
theorem skpNalQ (skp : BitVec 4) (o1 o2 : OD) : Statement (.skpNalQ skp o1 o2) := of_map rfl rfl
theorem skpNalH (skp : BitVec 4) (o1 o2 : OD) : Statement (.skpNalH skp o1 o2) := of_map rfl rfl
theorem skpNalS (skp : BitVec 4) (o1 o2 : OD) : Statement (.skpNalS skp o1 o2) := of_map rfl rfl
theorem skpNalD (skp : BitVec 4) (o1 o2 : OD) : Statement (.skpNalD skp o1 o2) := of_map rfl rfl
theorem skpAnyQ (skp : BitVec 4) (o1 o2 : OD) : Statement (.skpAnyQ skp o1 o2) := of_map rfl rfl
theorem skpAnyH (skp : BitVec 4) (o1 o2 : OD) : Statement (.skpAnyH skp o1 o2) := of_map rfl rfl
theorem skpAnyS (skp : BitVec 4) (o1 o2 : OD) : Statement (.skpAnyS skp o1 o2) := of_map rfl rfl
theorem skpAnyD (skp : BitVec 4) (o1 o2 : OD) : Statement (.skpAnyD skp o1 o2) := of_map rfl rfl
theorem iskpGtr (skp : BitVec 4) (o1 o2 : OD) : Statement (.iskpGtr skp o1 o2) := of_map rfl rfl
theorem iskpEql (skp : BitVec 4) (o1 o2 : OD) : Statement (.iskpEql skp o1 o2) := of_map rfl rfl
theorem iskpGeq (skp : BitVec 4) (o1 o2 : OD) : Statement (.iskpGeq skp o1 o2) := of_map rfl rfl
theorem iskpLss (skp : BitVec 4) (o1 o2 : OD) : Statement (.iskpLss skp o1 o2) := of_map rfl rfl
theorem iskpNeq (skp : BitVec 4) (o1 o2 : OD) : Statement (.iskpNeq skp o1 o2) := of_map rfl rfl
theorem iskpLeq (skp : BitVec 4) (o1 o2 : OD) : Statement (.iskpLeq skp o1 o2) := of_map rfl rfl
theorem dskpGtr (skp : BitVec 4) (o1 o2 : OD) : Statement (.dskpGtr skp o1 o2) := of_map rfl rfl
theorem dskpEql (skp : BitVec 4) (o1 o2 : OD) : Statement (.dskpEql skp o1 o2) := of_map rfl rfl
theorem dskpGeq (skp : BitVec 4) (o1 o2 : OD) : Statement (.dskpGeq skp o1 o2) := of_map rfl rfl
theorem dskpLss (skp : BitVec 4) (o1 o2 : OD) : Statement (.dskpLss skp o1 o2) := of_map rfl rfl
theorem dskpNeq (skp : BitVec 4) (o1 o2 : OD) : Statement (.dskpNeq skp o1 o2) := of_map rfl rfl
theorem dskpLeq (skp : BitVec 4) (o1 o2 : OD) : Statement (.dskpLeq skp o1 o2) := of_map rfl rfl
theorem jmpGtr (o1 : OD) (j : JDest) : Statement (.jmpGtr o1 j) := of_map rfl rfl
theorem jmpEql (o1 : OD) (j : JDest) : Statement (.jmpEql o1 j) := of_map rfl rfl
theorem jmpGeq (o1 : OD) (j : JDest) : Statement (.jmpGeq o1 j) := of_map rfl rfl
theorem jmpLss (o1 : OD) (j : JDest) : Statement (.jmpLss o1 j) := of_map rfl rfl
theorem jmpNeq (o1 : OD) (j : JDest) : Statement (.jmpNeq o1 j) := of_map rfl rfl
theorem jmpLeq (o1 : OD) (j : JDest) : Statement (.jmpLeq o1 j) := of_map rfl rfl
theorem jmpzGtrQ (o1 : OD) (j : JDest) : Statement (.jmpzGtrQ o1 j) := of_map rfl rfl
theorem jmpzGtrH (o1 : OD) (j : JDest) : Statement (.jmpzGtrH o1 j) := of_map rfl rfl
theorem jmpzGtrS (o1 : OD) (j : JDest) : Statement (.jmpzGtrS o1 j) := of_map rfl rfl
theorem jmpzGtrD (o1 : OD) (j : JDest) : Statement (.jmpzGtrD o1 j) := of_map rfl rfl
theorem jmpzEqlQ (o1 : OD) (j : JDest) : Statement (.jmpzEqlQ o1 j) := of_map rfl rfl
theorem jmpzEqlH (o1 : OD) (j : JDest) : Statement (.jmpzEqlH o1 j) := of_map rfl rfl
theorem jmpzEqlS (o1 : OD) (j : JDest) : Statement (.jmpzEqlS o1 j) := of_map rfl rfl
theorem jmpzEqlD (o1 : OD) (j : JDest) : Statement (.jmpzEqlD o1 j) := of_map rfl rfl
theorem jmpzGeqQ (o1 : OD) (j : JDest) : Statement (.jmpzGeqQ o1 j) := of_map rfl rfl
theorem jmpzGeqH (o1 : OD) (j : JDest) : Statement (.jmpzGeqH o1 j) := of_map rfl rfl
theorem jmpzGeqS (o1 : OD) (j : JDest) : Statement (.jmpzGeqS o1 j) := of_map rfl rfl
theorem jmpzGeqD (o1 : OD) (j : JDest) : Statement (.jmpzGeqD o1 j) := of_map rfl rfl
theorem jmpzLssQ (o1 : OD) (j : JDest) : Statement (.jmpzLssQ o1 j) := of_map rfl rfl
theorem jmpzLssH (o1 : OD) (j : JDest) : Statement (.jmpzLssH o1 j) := of_map rfl rfl
theorem jmpzLssS (o1 : OD) (j : JDest) : Statement (.jmpzLssS o1 j) := of_map rfl rfl
theorem jmpzLssD (o1 : OD) (j : JDest) : Statement (.jmpzLssD o1 j) := of_map rfl rfl
theorem jmpzNeqQ (o1 : OD) (j : JDest) : Statement (.jmpzNeqQ o1 j) := of_map rfl rfl
theorem jmpzNeqH (o1 : OD) (j : JDest) : Statement (.jmpzNeqH o1 j) := of_map rfl rfl
theorem jmpzNeqS (o1 : OD) (j : JDest) : Statement (.jmpzNeqS o1 j) := of_map rfl rfl
theorem jmpzNeqD (o1 : OD) (j : JDest) : Statement (.jmpzNeqD o1 j) := of_map rfl rfl
theorem jmpzLeqQ (o1 : OD) (j : JDest) : Statement (.jmpzLeqQ o1 j) := of_map rfl rfl
theorem jmpzLeqH (o1 : OD) (j : JDest) : Statement (.jmpzLeqH o1 j) := of_map rfl rfl
theorem jmpzLeqS (o1 : OD) (j : JDest) : Statement (.jmpzLeqS o1 j) := of_map rfl rfl
theorem jmpzLeqD (o1 : OD) (j : JDest) : Statement (.jmpzLeqD o1 j) := of_map rfl rfl
theorem jmpa (o1 : OD) (j : JDest) : Statement (.jmpa o1 j) := of_map rfl rfl
theorem ijmpGtr (o1 : OD) (j : JDest) : Statement (.ijmpGtr o1 j) := of_map rfl rfl
theorem ijmpEql (o1 : OD) (j : JDest) : Statement (.ijmpEql o1 j) := of_map rfl rfl
theorem ijmpGeq (o1 : OD) (j : JDest) : Statement (.ijmpGeq o1 j) := of_map rfl rfl
theorem ijmpLss (o1 : OD) (j : JDest) : Statement (.ijmpLss o1 j) := of_map rfl rfl
theorem ijmpNeq (o1 : OD) (j : JDest) : Statement (.ijmpNeq o1 j) := of_map rfl rfl
theorem ijmpLeq (o1 : OD) (j : JDest) : Statement (.ijmpLeq o1 j) := of_map rfl rfl
theorem ijmpzGtr (o1 : OD) (j : JDest) : Statement (.ijmpzGtr o1 j) := of_map rfl rfl
theorem ijmpzEql (o1 : OD) (j : JDest) : Statement (.ijmpzEql o1 j) := of_map rfl rfl
theorem ijmpzGeq (o1 : OD) (j : JDest) : Statement (.ijmpzGeq o1 j) := of_map rfl rfl
theorem ijmpzLss (o1 : OD) (j : JDest) : Statement (.ijmpzLss o1 j) := of_map rfl rfl
theorem ijmpzNeq (o1 : OD) (j : JDest) : Statement (.ijmpzNeq o1 j) := of_map rfl rfl
theorem ijmpzLeq (o1 : OD) (j : JDest) : Statement (.ijmpzLeq o1 j) := of_map rfl rfl
theorem ijmpa (o1 : OD) (j : JDest) : Statement (.ijmpa o1 j) := of_map rfl rfl
theorem djmpGtr (o1 : OD) (j : JDest) : Statement (.djmpGtr o1 j) := of_map rfl rfl
theorem djmpEql (o1 : OD) (j : JDest) : Statement (.djmpEql o1 j) := of_map rfl rfl
theorem djmpGeq (o1 : OD) (j : JDest) : Statement (.djmpGeq o1 j) := of_map rfl rfl
theorem djmpLss (o1 : OD) (j : JDest) : Statement (.djmpLss o1 j) := of_map rfl rfl
theorem djmpNeq (o1 : OD) (j : JDest) : Statement (.djmpNeq o1 j) := of_map rfl rfl
theorem djmpLeq (o1 : OD) (j : JDest) : Statement (.djmpLeq o1 j) := of_map rfl rfl
theorem djmpzGtr (o1 : OD) (j : JDest) : Statement (.djmpzGtr o1 j) := of_map rfl rfl
theorem djmpzEql (o1 : OD) (j : JDest) : Statement (.djmpzEql o1 j) := of_map rfl rfl
theorem djmpzGeq (o1 : OD) (j : JDest) : Statement (.djmpzGeq o1 j) := of_map rfl rfl
theorem djmpzLss (o1 : OD) (j : JDest) : Statement (.djmpzLss o1 j) := of_map rfl rfl
theorem djmpzNeq (o1 : OD) (j : JDest) : Statement (.djmpzNeq o1 j) := of_map rfl rfl
theorem djmpzLeq (o1 : OD) (j : JDest) : Statement (.djmpzLeq o1 j) := of_map rfl rfl
theorem djmpa (o1 : OD) (j : JDest) : Statement (.djmpa o1 j) := of_map rfl rfl
theorem bndtrpBQ (o1 o2 : OD) : Statement (.bndtrpBQ o1 o2) := of_map rfl rfl
theorem bndtrpBH (o1 o2 : OD) : Statement (.bndtrpBH o1 o2) := of_map rfl rfl
theorem bndtrpBS (o1 o2 : OD) : Statement (.bndtrpBS o1 o2) := of_map rfl rfl
theorem bndtrpBD (o1 o2 : OD) : Statement (.bndtrpBD o1 o2) := of_map rfl rfl
theorem bndtrpMinQ (o1 o2 : OD) : Statement (.bndtrpMinQ o1 o2) := of_map rfl rfl
theorem bndtrpMinH (o1 o2 : OD) : Statement (.bndtrpMinH o1 o2) := of_map rfl rfl
theorem bndtrpMinS (o1 o2 : OD) : Statement (.bndtrpMinS o1 o2) := of_map rfl rfl
theorem bndtrpMinD (o1 o2 : OD) : Statement (.bndtrpMinD o1 o2) := of_map rfl rfl
theorem bndtrpM1Q (o1 o2 : OD) : Statement (.bndtrpM1Q o1 o2) := of_map rfl rfl
theorem bndtrpM1H (o1 o2 : OD) : Statement (.bndtrpM1H o1 o2) := of_map rfl rfl
theorem bndtrpM1S (o1 o2 : OD) : Statement (.bndtrpM1S o1 o2) := of_map rfl rfl
theorem bndtrpM1D (o1 o2 : OD) : Statement (.bndtrpM1D o1 o2) := of_map rfl rfl
theorem bndtrp0Q (o1 o2 : OD) : Statement (.bndtrp0Q o1 o2) := of_map rfl rfl
theorem bndtrp0H (o1 o2 : OD) : Statement (.bndtrp0H o1 o2) := of_map rfl rfl
theorem bndtrp0S (o1 o2 : OD) : Statement (.bndtrp0S o1 o2) := of_map rfl rfl
theorem bndtrp0D (o1 o2 : OD) : Statement (.bndtrp0D o1 o2) := of_map rfl rfl
theorem bndtrp1Q (o1 o2 : OD) : Statement (.bndtrp1Q o1 o2) := of_map rfl rfl
theorem bndtrp1H (o1 o2 : OD) : Statement (.bndtrp1H o1 o2) := of_map rfl rfl
theorem bndtrp1S (o1 o2 : OD) : Statement (.bndtrp1S o1 o2) := of_map rfl rfl
theorem bndtrp1D (o1 o2 : OD) : Statement (.bndtrp1D o1 o2) := of_map rfl rfl
theorem jpatch (disp : BitVec 24) : Statement (.jpatch disp) := of_map rfl rfl
theorem jsr (o1 : OD) (j : JDest) : Statement (.jsr o1 j) := of_map rfl rfl
theorem jcr (o1 o2 : OD) : Statement (.jcr o1 o2) := of_map rfl rfl
theorem alloc1 (o1 o2 : OD) : Statement (.alloc1 o1 o2) := of_map rfl rfl
theorem alloc2 (o1 o2 : OD) : Statement (.alloc2 o1 o2) := of_map rfl rfl
theorem alloc3 (o1 o2 : OD) : Statement (.alloc3 o1 o2) := of_map rfl rfl
theorem alloc4 (o1 o2 : OD) : Statement (.alloc4 o1 o2) := of_map rfl rfl
theorem alloc5 (o1 o2 : OD) : Statement (.alloc5 o1 o2) := of_map rfl rfl
theorem alloc6 (o1 o2 : OD) : Statement (.alloc6 o1 o2) := of_map rfl rfl
theorem alloc7 (o1 o2 : OD) : Statement (.alloc7 o1 o2) := of_map rfl rfl
theorem alloc8 (o1 o2 : OD) : Statement (.alloc8 o1 o2) := of_map rfl rfl
theorem alloc9 (o1 o2 : OD) : Statement (.alloc9 o1 o2) := of_map rfl rfl
theorem alloc10 (o1 o2 : OD) : Statement (.alloc10 o1 o2) := of_map rfl rfl
theorem alloc11 (o1 o2 : OD) : Statement (.alloc11 o1 o2) := of_map rfl rfl
theorem alloc12 (o1 o2 : OD) : Statement (.alloc12 o1 o2) := of_map rfl rfl
theorem alloc13 (o1 o2 : OD) : Statement (.alloc13 o1 o2) := of_map rfl rfl
theorem alloc14 (o1 o2 : OD) : Statement (.alloc14 o1 o2) := of_map rfl rfl
theorem alloc15 (o1 o2 : OD) : Statement (.alloc15 o1 o2) := of_map rfl rfl
theorem alloc16 (o1 o2 : OD) : Statement (.alloc16 o1 o2) := of_map rfl rfl
theorem alloc17 (o1 o2 : OD) : Statement (.alloc17 o1 o2) := of_map rfl rfl
theorem alloc18 (o1 o2 : OD) : Statement (.alloc18 o1 o2) := of_map rfl rfl
theorem alloc19 (o1 o2 : OD) : Statement (.alloc19 o1 o2) := of_map rfl rfl
theorem alloc20 (o1 o2 : OD) : Statement (.alloc20 o1 o2) := of_map rfl rfl
theorem alloc21 (o1 o2 : OD) : Statement (.alloc21 o1 o2) := of_map rfl rfl
theorem alloc22 (o1 o2 : OD) : Statement (.alloc22 o1 o2) := of_map rfl rfl
theorem alloc23 (o1 o2 : OD) : Statement (.alloc23 o1 o2) := of_map rfl rfl
theorem alloc24 (o1 o2 : OD) : Statement (.alloc24 o1 o2) := of_map rfl rfl
theorem alloc25 (o1 o2 : OD) : Statement (.alloc25 o1 o2) := of_map rfl rfl
theorem alloc26 (o1 o2 : OD) : Statement (.alloc26 o1 o2) := of_map rfl rfl
theorem alloc27 (o1 o2 : OD) : Statement (.alloc27 o1 o2) := of_map rfl rfl
theorem alloc28 (o1 o2 : OD) : Statement (.alloc28 o1 o2) := of_map rfl rfl
theorem alloc29 (o1 o2 : OD) : Statement (.alloc29 o1 o2) := of_map rfl rfl
theorem alloc30 (o1 o2 : OD) : Statement (.alloc30 o1 o2) := of_map rfl rfl
theorem alloc31 (o1 o2 : OD) : Statement (.alloc31 o1 o2) := of_map rfl rfl
theorem alloc32 (o1 o2 : OD) : Statement (.alloc32 o1 o2) := of_map rfl rfl
theorem retsr (o1 o2 : OD) : Statement (.retsr o1 o2) := of_map rfl rfl
theorem ret (o1 o2 : OD) : Statement (.ret o1 o2) := of_map rfl rfl
theorem retus (o1 o2 : OD) : Statement (.retus o1 o2) := of_map rfl rfl
theorem retfs (o1 o2 : OD) : Statement (.retfs o1 o2) := of_map rfl rfl
theorem trpslf0 (o1 o2 : OD) : Statement (.trpslf0 o1 o2) := of_map rfl rfl
theorem trpslf1 (o1 o2 : OD) : Statement (.trpslf1 o1 o2) := of_map rfl rfl
theorem trpslf2 (o1 o2 : OD) : Statement (.trpslf2 o1 o2) := of_map rfl rfl
theorem trpslf3 (o1 o2 : OD) : Statement (.trpslf3 o1 o2) := of_map rfl rfl
theorem trpslf4 (o1 o2 : OD) : Statement (.trpslf4 o1 o2) := of_map rfl rfl
theorem trpslf5 (o1 o2 : OD) : Statement (.trpslf5 o1 o2) := of_map rfl rfl
theorem trpslf6 (o1 o2 : OD) : Statement (.trpslf6 o1 o2) := of_map rfl rfl
theorem trpslf7 (o1 o2 : OD) : Statement (.trpslf7 o1 o2) := of_map rfl rfl
theorem trpslf8 (o1 o2 : OD) : Statement (.trpslf8 o1 o2) := of_map rfl rfl
theorem trpslf9 (o1 o2 : OD) : Statement (.trpslf9 o1 o2) := of_map rfl rfl
theorem trpslf10 (o1 o2 : OD) : Statement (.trpslf10 o1 o2) := of_map rfl rfl
theorem trpslf11 (o1 o2 : OD) : Statement (.trpslf11 o1 o2) := of_map rfl rfl
theorem trpslf12 (o1 o2 : OD) : Statement (.trpslf12 o1 o2) := of_map rfl rfl
theorem trpslf13 (o1 o2 : OD) : Statement (.trpslf13 o1 o2) := of_map rfl rfl
theorem trpslf14 (o1 o2 : OD) : Statement (.trpslf14 o1 o2) := of_map rfl rfl
theorem trpslf15 (o1 o2 : OD) : Statement (.trpslf15 o1 o2) := of_map rfl rfl
theorem trpslf16 (o1 o2 : OD) : Statement (.trpslf16 o1 o2) := of_map rfl rfl
theorem trpslf17 (o1 o2 : OD) : Statement (.trpslf17 o1 o2) := of_map rfl rfl
theorem trpslf18 (o1 o2 : OD) : Statement (.trpslf18 o1 o2) := of_map rfl rfl
theorem trpslf19 (o1 o2 : OD) : Statement (.trpslf19 o1 o2) := of_map rfl rfl
theorem trpslf20 (o1 o2 : OD) : Statement (.trpslf20 o1 o2) := of_map rfl rfl
theorem trpslf21 (o1 o2 : OD) : Statement (.trpslf21 o1 o2) := of_map rfl rfl
theorem trpslf22 (o1 o2 : OD) : Statement (.trpslf22 o1 o2) := of_map rfl rfl
theorem trpslf23 (o1 o2 : OD) : Statement (.trpslf23 o1 o2) := of_map rfl rfl
theorem trpslf24 (o1 o2 : OD) : Statement (.trpslf24 o1 o2) := of_map rfl rfl
theorem trpslf25 (o1 o2 : OD) : Statement (.trpslf25 o1 o2) := of_map rfl rfl
theorem trpslf26 (o1 o2 : OD) : Statement (.trpslf26 o1 o2) := of_map rfl rfl
theorem trpslf27 (o1 o2 : OD) : Statement (.trpslf27 o1 o2) := of_map rfl rfl
theorem trpslf28 (o1 o2 : OD) : Statement (.trpslf28 o1 o2) := of_map rfl rfl
theorem trpslf29 (o1 o2 : OD) : Statement (.trpslf29 o1 o2) := of_map rfl rfl
theorem trpslf30 (o1 o2 : OD) : Statement (.trpslf30 o1 o2) := of_map rfl rfl
theorem trpslf31 (o1 o2 : OD) : Statement (.trpslf31 o1 o2) := of_map rfl rfl
theorem trpslf32 (o1 o2 : OD) : Statement (.trpslf32 o1 o2) := of_map rfl rfl
theorem trpslf33 (o1 o2 : OD) : Statement (.trpslf33 o1 o2) := of_map rfl rfl
theorem trpslf34 (o1 o2 : OD) : Statement (.trpslf34 o1 o2) := of_map rfl rfl
theorem trpslf35 (o1 o2 : OD) : Statement (.trpslf35 o1 o2) := of_map rfl rfl
theorem trpslf36 (o1 o2 : OD) : Statement (.trpslf36 o1 o2) := of_map rfl rfl
theorem trpslf37 (o1 o2 : OD) : Statement (.trpslf37 o1 o2) := of_map rfl rfl
theorem trpslf38 (o1 o2 : OD) : Statement (.trpslf38 o1 o2) := of_map rfl rfl
theorem trpslf39 (o1 o2 : OD) : Statement (.trpslf39 o1 o2) := of_map rfl rfl
theorem trpslf40 (o1 o2 : OD) : Statement (.trpslf40 o1 o2) := of_map rfl rfl
theorem trpslf41 (o1 o2 : OD) : Statement (.trpslf41 o1 o2) := of_map rfl rfl
theorem trpslf42 (o1 o2 : OD) : Statement (.trpslf42 o1 o2) := of_map rfl rfl
theorem trpslf43 (o1 o2 : OD) : Statement (.trpslf43 o1 o2) := of_map rfl rfl
theorem trpslf44 (o1 o2 : OD) : Statement (.trpslf44 o1 o2) := of_map rfl rfl
theorem trpslf45 (o1 o2 : OD) : Statement (.trpslf45 o1 o2) := of_map rfl rfl
theorem trpslf46 (o1 o2 : OD) : Statement (.trpslf46 o1 o2) := of_map rfl rfl
theorem trpslf47 (o1 o2 : OD) : Statement (.trpslf47 o1 o2) := of_map rfl rfl
theorem trpslf48 (o1 o2 : OD) : Statement (.trpslf48 o1 o2) := of_map rfl rfl
theorem trpslf49 (o1 o2 : OD) : Statement (.trpslf49 o1 o2) := of_map rfl rfl
theorem trpslf50 (o1 o2 : OD) : Statement (.trpslf50 o1 o2) := of_map rfl rfl
theorem trpslf51 (o1 o2 : OD) : Statement (.trpslf51 o1 o2) := of_map rfl rfl
theorem trpslf52 (o1 o2 : OD) : Statement (.trpslf52 o1 o2) := of_map rfl rfl
theorem trpslf53 (o1 o2 : OD) : Statement (.trpslf53 o1 o2) := of_map rfl rfl
theorem trpslf54 (o1 o2 : OD) : Statement (.trpslf54 o1 o2) := of_map rfl rfl
theorem trpslf55 (o1 o2 : OD) : Statement (.trpslf55 o1 o2) := of_map rfl rfl
theorem trpslf56 (o1 o2 : OD) : Statement (.trpslf56 o1 o2) := of_map rfl rfl
theorem trpslf57 (o1 o2 : OD) : Statement (.trpslf57 o1 o2) := of_map rfl rfl
theorem trpslf58 (o1 o2 : OD) : Statement (.trpslf58 o1 o2) := of_map rfl rfl
theorem trpslf59 (o1 o2 : OD) : Statement (.trpslf59 o1 o2) := of_map rfl rfl
theorem trpslf60 (o1 o2 : OD) : Statement (.trpslf60 o1 o2) := of_map rfl rfl
theorem trpslf61 (o1 o2 : OD) : Statement (.trpslf61 o1 o2) := of_map rfl rfl
theorem trpslf62 (o1 o2 : OD) : Statement (.trpslf62 o1 o2) := of_map rfl rfl
theorem trpslf63 (o1 o2 : OD) : Statement (.trpslf63 o1 o2) := of_map rfl rfl
theorem trpexe0 (o1 o2 : OD) : Statement (.trpexe0 o1 o2) := of_map rfl rfl
theorem trpexe1 (o1 o2 : OD) : Statement (.trpexe1 o1 o2) := of_map rfl rfl
theorem trpexe2 (o1 o2 : OD) : Statement (.trpexe2 o1 o2) := of_map rfl rfl
theorem trpexe3 (o1 o2 : OD) : Statement (.trpexe3 o1 o2) := of_map rfl rfl
theorem trpexe4 (o1 o2 : OD) : Statement (.trpexe4 o1 o2) := of_map rfl rfl
theorem trpexe5 (o1 o2 : OD) : Statement (.trpexe5 o1 o2) := of_map rfl rfl
theorem trpexe6 (o1 o2 : OD) : Statement (.trpexe6 o1 o2) := of_map rfl rfl
theorem trpexe7 (o1 o2 : OD) : Statement (.trpexe7 o1 o2) := of_map rfl rfl
theorem trpexe8 (o1 o2 : OD) : Statement (.trpexe8 o1 o2) := of_map rfl rfl
theorem trpexe9 (o1 o2 : OD) : Statement (.trpexe9 o1 o2) := of_map rfl rfl
theorem trpexe10 (o1 o2 : OD) : Statement (.trpexe10 o1 o2) := of_map rfl rfl
theorem trpexe11 (o1 o2 : OD) : Statement (.trpexe11 o1 o2) := of_map rfl rfl
theorem trpexe12 (o1 o2 : OD) : Statement (.trpexe12 o1 o2) := of_map rfl rfl
theorem trpexe13 (o1 o2 : OD) : Statement (.trpexe13 o1 o2) := of_map rfl rfl
theorem trpexe14 (o1 o2 : OD) : Statement (.trpexe14 o1 o2) := of_map rfl rfl
theorem trpexe15 (o1 o2 : OD) : Statement (.trpexe15 o1 o2) := of_map rfl rfl
theorem trpexe16 (o1 o2 : OD) : Statement (.trpexe16 o1 o2) := of_map rfl rfl
theorem trpexe17 (o1 o2 : OD) : Statement (.trpexe17 o1 o2) := of_map rfl rfl
theorem trpexe18 (o1 o2 : OD) : Statement (.trpexe18 o1 o2) := of_map rfl rfl
theorem trpexe19 (o1 o2 : OD) : Statement (.trpexe19 o1 o2) := of_map rfl rfl
theorem trpexe20 (o1 o2 : OD) : Statement (.trpexe20 o1 o2) := of_map rfl rfl
theorem trpexe21 (o1 o2 : OD) : Statement (.trpexe21 o1 o2) := of_map rfl rfl
theorem trpexe22 (o1 o2 : OD) : Statement (.trpexe22 o1 o2) := of_map rfl rfl
theorem trpexe23 (o1 o2 : OD) : Statement (.trpexe23 o1 o2) := of_map rfl rfl
theorem trpexe24 (o1 o2 : OD) : Statement (.trpexe24 o1 o2) := of_map rfl rfl
theorem trpexe25 (o1 o2 : OD) : Statement (.trpexe25 o1 o2) := of_map rfl rfl
theorem trpexe26 (o1 o2 : OD) : Statement (.trpexe26 o1 o2) := of_map rfl rfl
theorem trpexe27 (o1 o2 : OD) : Statement (.trpexe27 o1 o2) := of_map rfl rfl
theorem trpexe28 (o1 o2 : OD) : Statement (.trpexe28 o1 o2) := of_map rfl rfl
theorem trpexe29 (o1 o2 : OD) : Statement (.trpexe29 o1 o2) := of_map rfl rfl
theorem trpexe30 (o1 o2 : OD) : Statement (.trpexe30 o1 o2) := of_map rfl rfl
theorem trpexe31 (o1 o2 : OD) : Statement (.trpexe31 o1 o2) := of_map rfl rfl
theorem trpexe32 (o1 o2 : OD) : Statement (.trpexe32 o1 o2) := of_map rfl rfl
theorem trpexe33 (o1 o2 : OD) : Statement (.trpexe33 o1 o2) := of_map rfl rfl
theorem trpexe34 (o1 o2 : OD) : Statement (.trpexe34 o1 o2) := of_map rfl rfl
theorem trpexe35 (o1 o2 : OD) : Statement (.trpexe35 o1 o2) := of_map rfl rfl
theorem trpexe36 (o1 o2 : OD) : Statement (.trpexe36 o1 o2) := of_map rfl rfl
theorem trpexe37 (o1 o2 : OD) : Statement (.trpexe37 o1 o2) := of_map rfl rfl
theorem trpexe38 (o1 o2 : OD) : Statement (.trpexe38 o1 o2) := of_map rfl rfl
theorem trpexe39 (o1 o2 : OD) : Statement (.trpexe39 o1 o2) := of_map rfl rfl
theorem trpexe40 (o1 o2 : OD) : Statement (.trpexe40 o1 o2) := of_map rfl rfl
theorem trpexe41 (o1 o2 : OD) : Statement (.trpexe41 o1 o2) := of_map rfl rfl
theorem trpexe42 (o1 o2 : OD) : Statement (.trpexe42 o1 o2) := of_map rfl rfl
theorem trpexe43 (o1 o2 : OD) : Statement (.trpexe43 o1 o2) := of_map rfl rfl
theorem trpexe44 (o1 o2 : OD) : Statement (.trpexe44 o1 o2) := of_map rfl rfl
theorem trpexe45 (o1 o2 : OD) : Statement (.trpexe45 o1 o2) := of_map rfl rfl
theorem trpexe46 (o1 o2 : OD) : Statement (.trpexe46 o1 o2) := of_map rfl rfl
theorem trpexe47 (o1 o2 : OD) : Statement (.trpexe47 o1 o2) := of_map rfl rfl
theorem trpexe48 (o1 o2 : OD) : Statement (.trpexe48 o1 o2) := of_map rfl rfl
theorem trpexe49 (o1 o2 : OD) : Statement (.trpexe49 o1 o2) := of_map rfl rfl
theorem trpexe50 (o1 o2 : OD) : Statement (.trpexe50 o1 o2) := of_map rfl rfl
theorem trpexe51 (o1 o2 : OD) : Statement (.trpexe51 o1 o2) := of_map rfl rfl
theorem trpexe52 (o1 o2 : OD) : Statement (.trpexe52 o1 o2) := of_map rfl rfl
theorem trpexe53 (o1 o2 : OD) : Statement (.trpexe53 o1 o2) := of_map rfl rfl
theorem trpexe54 (o1 o2 : OD) : Statement (.trpexe54 o1 o2) := of_map rfl rfl
theorem trpexe55 (o1 o2 : OD) : Statement (.trpexe55 o1 o2) := of_map rfl rfl
theorem trpexe56 (o1 o2 : OD) : Statement (.trpexe56 o1 o2) := of_map rfl rfl
theorem trpexe57 (o1 o2 : OD) : Statement (.trpexe57 o1 o2) := of_map rfl rfl
theorem trpexe58 (o1 o2 : OD) : Statement (.trpexe58 o1 o2) := of_map rfl rfl
theorem trpexe59 (o1 o2 : OD) : Statement (.trpexe59 o1 o2) := of_map rfl rfl
theorem trpexe60 (o1 o2 : OD) : Statement (.trpexe60 o1 o2) := of_map rfl rfl
theorem trpexe61 (o1 o2 : OD) : Statement (.trpexe61 o1 o2) := of_map rfl rfl
theorem trpexe62 (o1 o2 : OD) : Statement (.trpexe62 o1 o2) := of_map rfl rfl
theorem trpexe63 (o1 o2 : OD) : Statement (.trpexe63 o1 o2) := of_map rfl rfl
theorem adjspUp (o1 o2 : OD) : Statement (.adjspUp o1 o2) := of_map rfl rfl
theorem adjspDn (o1 o2 : OD) : Statement (.adjspDn o1 o2) := of_map rfl rfl
theorem pushUpQ (o1 o2 : OD) : Statement (.pushUpQ o1 o2) := of_map rfl rfl
theorem pushUpH (o1 o2 : OD) : Statement (.pushUpH o1 o2) := of_map rfl rfl
theorem pushUpS (o1 o2 : OD) : Statement (.pushUpS o1 o2) := of_map rfl rfl
theorem pushUpD (o1 o2 : OD) : Statement (.pushUpD o1 o2) := of_map rfl rfl
theorem pushDnQ (o1 o2 : OD) : Statement (.pushDnQ o1 o2) := of_map rfl rfl
theorem pushDnH (o1 o2 : OD) : Statement (.pushDnH o1 o2) := of_map rfl rfl
theorem pushDnS (o1 o2 : OD) : Statement (.pushDnS o1 o2) := of_map rfl rfl
theorem pushDnD (o1 o2 : OD) : Statement (.pushDnD o1 o2) := of_map rfl rfl
theorem popUpQ (o1 o2 : OD) : Statement (.popUpQ o1 o2) := of_map rfl rfl
theorem popUpH (o1 o2 : OD) : Statement (.popUpH o1 o2) := of_map rfl rfl
theorem popUpS (o1 o2 : OD) : Statement (.popUpS o1 o2) := of_map rfl rfl
theorem popUpD (o1 o2 : OD) : Statement (.popUpD o1 o2) := of_map rfl rfl
theorem popDnQ (o1 o2 : OD) : Statement (.popDnQ o1 o2) := of_map rfl rfl
theorem popDnH (o1 o2 : OD) : Statement (.popDnH o1 o2) := of_map rfl rfl
theorem popDnS (o1 o2 : OD) : Statement (.popDnS o1 o2) := of_map rfl rfl
theorem popDnD (o1 o2 : OD) : Statement (.popDnD o1 o2) := of_map rfl rfl
theorem lbytS (o1 o2 : OD) : Statement (.lbytS o1 o2) := of_map rfl rfl
theorem lbytD (o1 o2 : OD) : Statement (.lbytD o1 o2) := of_map rfl rfl
theorem libytS (t : TMode) (o1 o2 : OD) : Statement (.libytS t o1 o2) := of_map rfl rfl
theorem libytD (t : TMode) (o1 o2 : OD) : Statement (.libytD t o1 o2) := of_map rfl rfl
theorem lsbytS (o1 o2 : OD) : Statement (.lsbytS o1 o2) := of_map rfl rfl
theorem lsbytD (o1 o2 : OD) : Statement (.lsbytD o1 o2) := of_map rfl rfl
theorem lisbytS (t : TMode) (o1 o2 : OD) : Statement (.lisbytS t o1 o2) := of_map rfl rfl
theorem lisbytD (t : TMode) (o1 o2 : OD) : Statement (.lisbytD t o1 o2) := of_map rfl rfl
theorem dbytS (o1 o2 : OD) : Statement (.dbytS o1 o2) := of_map rfl rfl
theorem dbytD (o1 o2 : OD) : Statement (.dbytD o1 o2) := of_map rfl rfl
theorem dibytS (t : TMode) (o1 o2 : OD) : Statement (.dibytS t o1 o2) := of_map rfl rfl
theorem dibytD (t : TMode) (o1 o2 : OD) : Statement (.dibytD t o1 o2) := of_map rfl rfl
theorem adjbpS (t : TMode) (o1 o2 : OD) : Statement (.adjbpS t o1 o2) := of_map rfl rfl
theorem adjbpD (t : TMode) (o1 o2 : OD) : Statement (.adjbpD t o1 o2) := of_map rfl rfl
theorem bitrvQ (t : TMode) (o1 o2 : OD) : Statement (.bitrvQ t o1 o2) := of_map rfl rfl
theorem bitrvH (t : TMode) (o1 o2 : OD) : Statement (.bitrvH t o1 o2) := of_map rfl rfl
theorem bitrvS (t : TMode) (o1 o2 : OD) : Statement (.bitrvS t o1 o2) := of_map rfl rfl
theorem bitrvD (t : TMode) (o1 o2 : OD) : Statement (.bitrvD t o1 o2) := of_map rfl rfl
theorem bitrvvQ (t : TMode) (o1 o2 : OD) : Statement (.bitrvvQ t o1 o2) := of_map rfl rfl
theorem bitrvvH (t : TMode) (o1 o2 : OD) : Statement (.bitrvvH t o1 o2) := of_map rfl rfl
theorem bitrvvS (t : TMode) (o1 o2 : OD) : Statement (.bitrvvS t o1 o2) := of_map rfl rfl
theorem bitrvvD (t : TMode) (o1 o2 : OD) : Statement (.bitrvvD t o1 o2) := of_map rfl rfl
theorem bitexQ (t : TMode) (o1 o2 : OD) : Statement (.bitexQ t o1 o2) := of_map rfl rfl
theorem bitexH (t : TMode) (o1 o2 : OD) : Statement (.bitexH t o1 o2) := of_map rfl rfl
theorem bitexS (t : TMode) (o1 o2 : OD) : Statement (.bitexS t o1 o2) := of_map rfl rfl
theorem bitexD (t : TMode) (o1 o2 : OD) : Statement (.bitexD t o1 o2) := of_map rfl rfl
theorem bitexvQ (t : TMode) (o1 o2 : OD) : Statement (.bitexvQ t o1 o2) := of_map rfl rfl
theorem bitexvH (t : TMode) (o1 o2 : OD) : Statement (.bitexvH t o1 o2) := of_map rfl rfl
theorem bitexvS (t : TMode) (o1 o2 : OD) : Statement (.bitexvS t o1 o2) := of_map rfl rfl
theorem bitexvD (t : TMode) (o1 o2 : OD) : Statement (.bitexvD t o1 o2) := of_map rfl rfl
theorem bitcntQ (o1 o2 : OD) : Statement (.bitcntQ o1 o2) := of_map rfl rfl
theorem bitcntH (o1 o2 : OD) : Statement (.bitcntH o1 o2) := of_map rfl rfl
theorem bitcntS (o1 o2 : OD) : Statement (.bitcntS o1 o2) := of_map rfl rfl
theorem bitcntD (o1 o2 : OD) : Statement (.bitcntD o1 o2) := of_map rfl rfl
theorem bitfstQ (o1 o2 : OD) : Statement (.bitfstQ o1 o2) := of_map rfl rfl
theorem bitfstH (o1 o2 : OD) : Statement (.bitfstH o1 o2) := of_map rfl rfl
theorem bitfstS (o1 o2 : OD) : Statement (.bitfstS o1 o2) := of_map rfl rfl
theorem bitfstD (o1 o2 : OD) : Statement (.bitfstD o1 o2) := of_map rfl rfl
theorem strcmpRta (o1 o2 : OD) : Statement (.strcmpRta o1 o2) := of_map rfl rfl
theorem strcmpRtb (o1 o2 : OD) : Statement (.strcmpRtb o1 o2) := of_map rfl rfl
theorem blkmovRta (o1 o2 : OD) : Statement (.blkmovRta o1 o2) := of_map rfl rfl
theorem blkmovRtb (o1 o2 : OD) : Statement (.blkmovRtb o1 o2) := of_map rfl rfl
theorem blkiniRtaQ (o1 o2 : OD) : Statement (.blkiniRtaQ o1 o2) := of_map rfl rfl
theorem blkiniRtaH (o1 o2 : OD) : Statement (.blkiniRtaH o1 o2) := of_map rfl rfl
theorem blkiniRtaS (o1 o2 : OD) : Statement (.blkiniRtaS o1 o2) := of_map rfl rfl
theorem blkiniRtaD (o1 o2 : OD) : Statement (.blkiniRtaD o1 o2) := of_map rfl rfl
theorem blkiniRtbQ (o1 o2 : OD) : Statement (.blkiniRtbQ o1 o2) := of_map rfl rfl
theorem blkiniRtbH (o1 o2 : OD) : Statement (.blkiniRtbH o1 o2) := of_map rfl rfl
theorem blkiniRtbS (o1 o2 : OD) : Statement (.blkiniRtbS o1 o2) := of_map rfl rfl
theorem blkiniRtbD (o1 o2 : OD) : Statement (.blkiniRtbD o1 o2) := of_map rfl rfl
theorem blkidRta (o1 o2 : OD) : Statement (.blkidRta o1 o2) := of_map rfl rfl
theorem blkidRtb (o1 o2 : OD) : Statement (.blkidRtb o1 o2) := of_map rfl rfl
theorem blkdiRta (o1 o2 : OD) : Statement (.blkdiRta o1 o2) := of_map rfl rfl
theorem blkdiRtb (o1 o2 : OD) : Statement (.blkdiRtb o1 o2) := of_map rfl rfl
theorem rus (o1 o2 : OD) : Statement (.rus o1 o2) := of_map rfl rfl
theorem jusclrNon (o1 : OD) (j : JDest) : Statement (.jusclrNon o1 j) := of_map rfl rfl
theorem jusclrAll (o1 : OD) (j : JDest) : Statement (.jusclrAll o1 j) := of_map rfl rfl
theorem jusclrNal (o1 : OD) (j : JDest) : Statement (.jusclrNal o1 j) := of_map rfl rfl
theorem jusclrAny (o1 : OD) (j : JDest) : Statement (.jusclrAny o1 j) := of_map rfl rfl
theorem jusNon (o1 : OD) (j : JDest) : Statement (.jusNon o1 j) := of_map rfl rfl
theorem jusAll (o1 : OD) (j : JDest) : Statement (.jusAll o1 j) := of_map rfl rfl
theorem jusNal (o1 : OD) (j : JDest) : Statement (.jusNal o1 j) := of_map rfl rfl
theorem jusAny (o1 : OD) (j : JDest) : Statement (.jusAny o1 j) := of_map rfl rfl
theorem wusjmp (o1 : OD) (j : JDest) : Statement (.wusjmp o1 j) := of_map rfl rfl
theorem setus (o1 o2 : OD) : Statement (.setus o1 o2) := of_map rfl rfl
theorem clrus (o1 o2 : OD) : Statement (.clrus o1 o2) := of_map rfl rfl
theorem rspid (o1 o2 : OD) : Statement (.rspid o1 o2) := of_map rfl rfl
theorem wspid (o1 o2 : OD) : Statement (.wspid o1 o2) := of_map rfl rfl
theorem rrndmd (o1 o2 : OD) : Statement (.rrndmd o1 o2) := of_map rfl rfl
theorem wrndmd (o1 o2 : OD) : Statement (.wrndmd o1 o2) := of_map rfl rfl
theorem rps (o1 o2 : OD) : Statement (.rps o1 o2) := of_map rfl rfl
theorem wfsjmp (o1 : OD) (j : JDest) : Statement (.wfsjmp o1 j) := of_map rfl rfl
theorem rcfile (o1 o2 : OD) : Statement (.rcfile o1 o2) := of_map rfl rfl
theorem wcfile (o1 o2 : OD) : Statement (.wcfile o1 o2) := of_map rfl rfl
theorem rpfile (o1 o2 : OD) : Statement (.rpfile o1 o2) := of_map rfl rfl
theorem wpfile (o1 o2 : OD) : Statement (.wpfile o1 o2) := of_map rfl rfl
theorem rpid (o1 o2 : OD) : Statement (.rpid o1 o2) := of_map rfl rfl
theorem swpicRtaV (o1 o2 : OD) : Statement (.swpicRtaV o1 o2) := of_map rfl rfl
theorem swpicRtaP (o1 o2 : OD) : Statement (.swpicRtaP o1 o2) := of_map rfl rfl
theorem swpicRtbV (o1 o2 : OD) : Statement (.swpicRtbV o1 o2) := of_map rfl rfl
theorem swpicRtbP (o1 o2 : OD) : Statement (.swpicRtbP o1 o2) := of_map rfl rfl
theorem swpdcRtaVU (o1 o2 : OD) : Statement (.swpdcRtaVU o1 o2) := of_map rfl rfl
theorem swpdcRtaVUk (o1 o2 : OD) : Statement (.swpdcRtaVUk o1 o2) := of_map rfl rfl
theorem swpdcRtaPU (o1 o2 : OD) : Statement (.swpdcRtaPU o1 o2) := of_map rfl rfl
theorem swpdcRtaPUk (o1 o2 : OD) : Statement (.swpdcRtaPUk o1 o2) := of_map rfl rfl
theorem swpdcRtbVU (o1 o2 : OD) : Statement (.swpdcRtbVU o1 o2) := of_map rfl rfl
theorem swpdcRtbVUk (o1 o2 : OD) : Statement (.swpdcRtbVUk o1 o2) := of_map rfl rfl
theorem swpdcRtbPU (o1 o2 : OD) : Statement (.swpdcRtbPU o1 o2) := of_map rfl rfl
theorem swpdcRtbPUk (o1 o2 : OD) : Statement (.swpdcRtbPUk o1 o2) := of_map rfl rfl
theorem swpimE (o1 o2 : OD) : Statement (.swpimE o1 o2) := of_map rfl rfl
theorem swpimU (o1 o2 : OD) : Statement (.swpimU o1 o2) := of_map rfl rfl
theorem swpdmE (o1 o2 : OD) : Statement (.swpdmE o1 o2) := of_map rfl rfl
theorem swpdmU (o1 o2 : OD) : Statement (.swpdmU o1 o2) := of_map rfl rfl
theorem wupjmp (o1 : OD) (j : JDest) : Statement (.wupjmp o1 j) := of_map rfl rfl
theorem wepjmp (o1 : OD) (j : JDest) : Statement (.wepjmp o1 j) := of_map rfl rfl
theorem rien (o1 o2 : OD) : Statement (.rien o1 o2) := of_map rfl rfl
theorem wien (o1 o2 : OD) : Statement (.wien o1 o2) := of_map rfl rfl
theorem sien (o1 o2 : OD) : Statement (.sien o1 o2) := of_map rfl rfl
theorem cien (o1 o2 : OD) : Statement (.cien o1 o2) := of_map rfl rfl
theorem ripnd (o1 o2 : OD) : Statement (.ripnd o1 o2) := of_map rfl rfl
theorem wipnd (o1 o2 : OD) : Statement (.wipnd o1 o2) := of_map rfl rfl
theorem sipnd (o1 o2 : OD) : Statement (.sipnd o1 o2) := of_map rfl rfl
theorem cipnd (o1 o2 : OD) : Statement (.cipnd o1 o2) := of_map rfl rfl
theorem ripar (o1 o2 : OD) : Statement (.ripar o1 o2) := of_map rfl rfl
theorem wipar (o1 o2 : OD) : Statement (.wipar o1 o2) := of_map rfl rfl
theorem blkiorRtaB (o1 o2 : OD) : Statement (.blkiorRtaB o1 o2) := of_map rfl rfl
theorem blkiorRtaQ (o1 o2 : OD) : Statement (.blkiorRtaQ o1 o2) := of_map rfl rfl
theorem blkiorRtaH (o1 o2 : OD) : Statement (.blkiorRtaH o1 o2) := of_map rfl rfl
theorem blkiorRtaS (o1 o2 : OD) : Statement (.blkiorRtaS o1 o2) := of_map rfl rfl
theorem blkiorRtbB (o1 o2 : OD) : Statement (.blkiorRtbB o1 o2) := of_map rfl rfl
theorem blkiorRtbQ (o1 o2 : OD) : Statement (.blkiorRtbQ o1 o2) := of_map rfl rfl
theorem blkiorRtbH (o1 o2 : OD) : Statement (.blkiorRtbH o1 o2) := of_map rfl rfl
theorem blkiorRtbS (o1 o2 : OD) : Statement (.blkiorRtbS o1 o2) := of_map rfl rfl
theorem blkiowRtaB (o1 o2 : OD) : Statement (.blkiowRtaB o1 o2) := of_map rfl rfl
theorem blkiowRtaQ (o1 o2 : OD) : Statement (.blkiowRtaQ o1 o2) := of_map rfl rfl
theorem blkiowRtaH (o1 o2 : OD) : Statement (.blkiowRtaH o1 o2) := of_map rfl rfl
theorem blkiowRtaS (o1 o2 : OD) : Statement (.blkiowRtaS o1 o2) := of_map rfl rfl
theorem blkiowRtbB (o1 o2 : OD) : Statement (.blkiowRtbB o1 o2) := of_map rfl rfl
theorem blkiowRtbQ (o1 o2 : OD) : Statement (.blkiowRtbQ o1 o2) := of_map rfl rfl
theorem blkiowRtbH (o1 o2 : OD) : Statement (.blkiowRtbH o1 o2) := of_map rfl rfl
theorem blkiowRtbS (o1 o2 : OD) : Statement (.blkiowRtbS o1 o2) := of_map rfl rfl
theorem intiop (o1 o2 : OD) : Statement (.intiop o1 o2) := of_map rfl rfl
theorem rctr (o1 o2 : OD) : Statement (.rctr o1 o2) := of_map rfl rfl
theorem wctr (o1 o2 : OD) : Statement (.wctr o1 o2) := of_map rfl rfl
theorem rectr (o1 o2 : OD) : Statement (.rectr o1 o2) := of_map rfl rfl
theorem wectr (o1 o2 : OD) : Statement (.wectr o1 o2) := of_map rfl rfl
theorem nop (o1 o2 : OD) : Statement (.nop o1 o2) := of_map rfl rfl
theorem xct (o1 o2 : OD) : Statement (.xct o1 o2) := of_map rfl rfl
theorem rmw (t : TMode) (o1 o2 : OD) : Statement (.rmw t o1 o2) := of_map rfl rfl
theorem wait (o1 o2 : OD) : Statement (.wait o1 o2) := of_map rfl rfl
theorem halt (o1 : OD) (j : JDest) : Statement (.halt o1 j) := of_map rfl rfl

end Sys2Proof.Laws.Mapped
end

