-- ==== Sys2Proof/Laws/Words.lean ====
section
/-! SUPPORT. One word for every instruction, written out from its row of the opcode table (R264, R268): the opcode, register 4 in the
first descriptor and, in the second, the short constant 5 or, as a jump destination, the word two single-words above register 8
(short-indexed); T = 10, a skip distance of 3. Every word decodes to its instruction. -/

namespace Sys2Proof.Laws.Words

/-- Register 4. -/
def rA : OD := .short (.reg 4)
/-- The short constant 5. -/
def c5 : OD := .short (.const 5)
/-- The word two single-words above the address in register 8. -/
def x8 : OD := .short (.indexed 8 2)

/-- Every word of the list decodes to its instruction. -/
def Decode : List (SW × Instr) → Prop
  | [] => True
  | (w, i) :: t => decodeWords w 0 0 = .ok i ∧ Decode t

theorem words0 : Decode [
  (0o400200040105, .addQ .t10 rA c5), (0o400600040105, .addH .t10 rA c5), (0o401200040105, .addS .t10 rA c5),
  (0o401600040105, .addD .t10 rA c5), (0o402200040105, .addcQ .t10 rA c5), (0o402600040105, .addcH .t10 rA c5),
  (0o403200040105, .addcS .t10 rA c5), (0o403600040105, .addcD .t10 rA c5), (0o404200040105, .subQ .t10 rA c5),
  (0o404600040105, .subH .t10 rA c5), (0o405200040105, .subS .t10 rA c5), (0o405600040105, .subD .t10 rA c5),
  (0o406200040105, .subvQ .t10 rA c5), (0o406600040105, .subvH .t10 rA c5), (0o407200040105, .subvS .t10 rA c5),
  (0o407600040105, .subvD .t10 rA c5), (0o410200040105, .subcQ .t10 rA c5), (0o410600040105, .subcH .t10 rA c5),
  (0o411200040105, .subcS .t10 rA c5), (0o411600040105, .subcD .t10 rA c5), (0o412200040105, .subcvQ .t10 rA c5),
  (0o412600040105, .subcvH .t10 rA c5), (0o413200040105, .subcvS .t10 rA c5), (0o413600040105, .subcvD .t10 rA c5),
  (0o414200040105, .multQ .t10 rA c5), (0o414600040105, .multH .t10 rA c5), (0o415200040105, .multS .t10 rA c5),
  (0o415600040105, .multD .t10 rA c5), (0o416200040105, .multlQ .t10 rA c5), (0o416600040105, .multlH .t10 rA c5),
  (0o417200040105, .multlS .t10 rA c5), (0o417600040105, .quoQ .t10 rA c5), (0o420200040105, .quoH .t10 rA c5),
  (0o420600040105, .quoS .t10 rA c5), (0o421200040105, .quoD .t10 rA c5), (0o421600040105, .quovQ .t10 rA c5),
  (0o422200040105, .quovH .t10 rA c5), (0o422600040105, .quovS .t10 rA c5), (0o423200040105, .quovD .t10 rA c5),
  (0o423600040105, .quolQ .t10 rA c5), (0o424200040105, .quolH .t10 rA c5), (0o424600040105, .quolS .t10 rA c5),
  (0o425200040105, .quolvQ .t10 rA c5), (0o425600040105, .quolvH .t10 rA c5), (0o426200040105, .quolvS .t10 rA c5),
  (0o426600040105, .quo2Q .t10 rA c5), (0o427200040105, .quo2H .t10 rA c5), (0o427600040105, .quo2S .t10 rA c5)] := by
  repeat (first | exact trivial | refine ⟨rfl, ?_⟩)

theorem words1 : Decode [
  (0o430200040105, .quo2D .t10 rA c5), (0o430600040105, .quo2vQ .t10 rA c5), (0o431200040105, .quo2vH .t10 rA c5),
  (0o431600040105, .quo2vS .t10 rA c5), (0o432200040105, .quo2vD .t10 rA c5), (0o432600040105, .quo2lQ .t10 rA c5),
  (0o433200040105, .quo2lH .t10 rA c5), (0o433600040105, .quo2lS .t10 rA c5), (0o434200040105, .quo2lvQ .t10 rA c5),
  (0o434600040105, .quo2lvH .t10 rA c5), (0o435200040105, .quo2lvS .t10 rA c5), (0o435600040105, .remQ .t10 rA c5),
  (0o436200040105, .remH .t10 rA c5), (0o436600040105, .remS .t10 rA c5), (0o437200040105, .remD .t10 rA c5),
  (0o437600040105, .remvQ .t10 rA c5), (0o440200040105, .remvH .t10 rA c5), (0o440600040105, .remvS .t10 rA c5),
  (0o441200040105, .remvD .t10 rA c5), (0o441600040105, .remlQ .t10 rA c5), (0o442200040105, .remlH .t10 rA c5),
  (0o442600040105, .remlS .t10 rA c5), (0o443200040105, .remlvQ .t10 rA c5), (0o443600040105, .remlvH .t10 rA c5),
  (0o444200040105, .remlvS .t10 rA c5), (0o444600040105, .modQ .t10 rA c5), (0o445200040105, .modH .t10 rA c5),
  (0o445600040105, .modS .t10 rA c5), (0o446200040105, .modD .t10 rA c5), (0o446600040105, .modvQ .t10 rA c5),
  (0o447200040105, .modvH .t10 rA c5), (0o447600040105, .modvS .t10 rA c5), (0o450200040105, .modvD .t10 rA c5),
  (0o450600040105, .modlQ .t10 rA c5), (0o451200040105, .modlH .t10 rA c5), (0o451600040105, .modlS .t10 rA c5),
  (0o452200040105, .modlvQ .t10 rA c5), (0o452600040105, .modlvH .t10 rA c5), (0o453200040105, .modlvS .t10 rA c5),
  (0o453600040105, .divQ .t10 rA c5), (0o454200040105, .divH .t10 rA c5), (0o454600040105, .divS .t10 rA c5),
  (0o455200040105, .divD .t10 rA c5), (0o455600040105, .divvQ .t10 rA c5), (0o456200040105, .divvH .t10 rA c5),
  (0o456600040105, .divvS .t10 rA c5), (0o457200040105, .divvD .t10 rA c5), (0o457600040105, .divlQ .t10 rA c5)] := by
  repeat (first | exact trivial | refine ⟨rfl, ?_⟩)

theorem words2 : Decode [
  (0o460200040105, .divlH .t10 rA c5), (0o460600040105, .divlS .t10 rA c5), (0o461200040105, .divlvQ .t10 rA c5),
  (0o461600040105, .divlvH .t10 rA c5), (0o462200040105, .divlvS .t10 rA c5), (0o010000040105, .incQ rA c5),
  (0o010100040105, .incH rA c5), (0o010200040105, .incS rA c5), (0o010300040105, .incD rA c5),
  (0o010400040105, .decQ rA c5), (0o010500040105, .decH rA c5), (0o010600040105, .decS rA c5),
  (0o010700040105, .decD rA c5), (0o011000040105, .transQQ rA c5), (0o011100040105, .transQH rA c5),
  (0o011200040105, .transQS rA c5), (0o011300040105, .transQD rA c5), (0o011400040105, .transHQ rA c5),
  (0o011500040105, .transHH rA c5), (0o011600040105, .transHS rA c5), (0o011700040105, .transHD rA c5),
  (0o012000040105, .transSQ rA c5), (0o012100040105, .transSH rA c5), (0o012200040105, .transSS rA c5),
  (0o012300040105, .transSD rA c5), (0o012400040105, .transDQ rA c5), (0o012500040105, .transDH rA c5),
  (0o012600040105, .transDS rA c5), (0o012700040105, .transDD rA c5), (0o013000040105, .negQ rA c5),
  (0o013100040105, .negH rA c5), (0o013200040105, .negS rA c5), (0o013300040105, .negD rA c5),
  (0o013400040105, .absQ rA c5), (0o013500040105, .absH rA c5), (0o013600040105, .absS rA c5),
  (0o013700040105, .absD rA c5), (0o462600040105, .minQ .t10 rA c5), (0o463200040105, .minH .t10 rA c5),
  (0o463600040105, .minS .t10 rA c5), (0o464200040105, .minD .t10 rA c5), (0o464600040105, .maxQ .t10 rA c5),
  (0o465200040105, .maxH .t10 rA c5), (0o465600040105, .maxS .t10 rA c5), (0o466200040105, .maxD .t10 rA c5),
  (0o466600040105, .umultQ .t10 rA c5), (0o467200040105, .umultH .t10 rA c5), (0o467600040105, .umultS .t10 rA c5)] := by
  repeat (first | exact trivial | refine ⟨rfl, ?_⟩)

theorem words3 : Decode [
  (0o470200040105, .umultD .t10 rA c5), (0o470600040105, .umultlQ .t10 rA c5), (0o471200040105, .umultlH .t10 rA c5),
  (0o471600040105, .umultlS .t10 rA c5), (0o472200040105, .udivQ .t10 rA c5), (0o472600040105, .udivH .t10 rA c5),
  (0o473200040105, .udivS .t10 rA c5), (0o473600040105, .udivD .t10 rA c5), (0o474200040105, .udivlQ .t10 rA c5),
  (0o474600040105, .udivlH .t10 rA c5), (0o475200040105, .udivlS .t10 rA c5), (0o475600040105, .faddH .t10 rA c5),
  (0o476200040105, .faddS .t10 rA c5), (0o476600040105, .faddD .t10 rA c5), (0o477200040105, .fsubH .t10 rA c5),
  (0o477600040105, .fsubS .t10 rA c5), (0o500200040105, .fsubD .t10 rA c5), (0o500600040105, .fsubvH .t10 rA c5),
  (0o501200040105, .fsubvS .t10 rA c5), (0o501600040105, .fsubvD .t10 rA c5), (0o502200040105, .fmultH .t10 rA c5),
  (0o502600040105, .fmultS .t10 rA c5), (0o503200040105, .fmultD .t10 rA c5), (0o503600040105, .fmultlH .t10 rA c5),
  (0o504200040105, .fmultlS .t10 rA c5), (0o504600040105, .fdivH .t10 rA c5), (0o505200040105, .fdivS .t10 rA c5),
  (0o505600040105, .fdivD .t10 rA c5), (0o506200040105, .fdivvH .t10 rA c5), (0o506600040105, .fdivvS .t10 rA c5),
  (0o507200040105, .fdivvD .t10 rA c5), (0o507600040105, .fdivlH .t10 rA c5), (0o510200040105, .fdivlS .t10 rA c5),
  (0o510600040105, .fdivlvH .t10 rA c5), (0o511200040105, .fdivlvS .t10 rA c5), (0o511600040105, .fscH .t10 rA c5),
  (0o512200040105, .fscS .t10 rA c5), (0o512600040105, .fscD .t10 rA c5), (0o513200040105, .fscvH .t10 rA c5),
  (0o513600040105, .fscvS .t10 rA c5), (0o514200040105, .fscvD .t10 rA c5), (0o014000040105, .fixFlQH rA c5),
  (0o014100040105, .fixFlQS rA c5), (0o014200040105, .fixFlQD rA c5), (0o014300040105, .fixFlHH rA c5),
  (0o014400040105, .fixFlHS rA c5), (0o014500040105, .fixFlHD rA c5), (0o014600040105, .fixFlSH rA c5)] := by
  repeat (first | exact trivial | refine ⟨rfl, ?_⟩)

theorem words4 : Decode [
  (0o014700040105, .fixFlSS rA c5), (0o015000040105, .fixFlSD rA c5), (0o015100040105, .fixFlDH rA c5),
  (0o015200040105, .fixFlDS rA c5), (0o015300040105, .fixFlDD rA c5), (0o015400040105, .fixClQH rA c5),
  (0o015500040105, .fixClQS rA c5), (0o015600040105, .fixClQD rA c5), (0o015700040105, .fixClHH rA c5),
  (0o016000040105, .fixClHS rA c5), (0o016100040105, .fixClHD rA c5), (0o016200040105, .fixClSH rA c5),
  (0o016300040105, .fixClSS rA c5), (0o016400040105, .fixClSD rA c5), (0o016500040105, .fixClDH rA c5),
  (0o016600040105, .fixClDS rA c5), (0o016700040105, .fixClDD rA c5), (0o017000040105, .fixDmQH rA c5),
  (0o017100040105, .fixDmQS rA c5), (0o017200040105, .fixDmQD rA c5), (0o017300040105, .fixDmHH rA c5),
  (0o017400040105, .fixDmHS rA c5), (0o017500040105, .fixDmHD rA c5), (0o017600040105, .fixDmSH rA c5),
  (0o017700040105, .fixDmSS rA c5), (0o020000040105, .fixDmSD rA c5), (0o020100040105, .fixDmDH rA c5),
  (0o020200040105, .fixDmDS rA c5), (0o020300040105, .fixDmDD rA c5), (0o020400040105, .fixHpQH rA c5),
  (0o020500040105, .fixHpQS rA c5), (0o020600040105, .fixHpQD rA c5), (0o020700040105, .fixHpHH rA c5),
  (0o021000040105, .fixHpHS rA c5), (0o021100040105, .fixHpHD rA c5), (0o021200040105, .fixHpSH rA c5),
  (0o021300040105, .fixHpSS rA c5), (0o021400040105, .fixHpSD rA c5), (0o021500040105, .fixHpDH rA c5),
  (0o021600040105, .fixHpDS rA c5), (0o021700040105, .fixHpDD rA c5), (0o022000040105, .fixUsQH rA c5),
  (0o022100040105, .fixUsQS rA c5), (0o022200040105, .fixUsQD rA c5), (0o022300040105, .fixUsHH rA c5),
  (0o022400040105, .fixUsHS rA c5), (0o022500040105, .fixUsHD rA c5), (0o022600040105, .fixUsSH rA c5)] := by
  repeat (first | exact trivial | refine ⟨rfl, ?_⟩)

theorem words5 : Decode [
  (0o022700040105, .fixUsSS rA c5), (0o023000040105, .fixUsSD rA c5), (0o023100040105, .fixUsDH rA c5),
  (0o023200040105, .fixUsDS rA c5), (0o023300040105, .fixUsDD rA c5), (0o023400040105, .floatHQ rA c5),
  (0o023500040105, .floatHH rA c5), (0o023600040105, .floatHS rA c5), (0o023700040105, .floatHD rA c5),
  (0o024000040105, .floatSQ rA c5), (0o024100040105, .floatSH rA c5), (0o024200040105, .floatSS rA c5),
  (0o024300040105, .floatSD rA c5), (0o024400040105, .floatDQ rA c5), (0o024500040105, .floatDH rA c5),
  (0o024600040105, .floatDS rA c5), (0o024700040105, .floatDD rA c5), (0o025000040105, .ftransHH rA c5),
  (0o025100040105, .ftransHS rA c5), (0o025200040105, .ftransHD rA c5), (0o025300040105, .ftransSH rA c5),
  (0o025400040105, .ftransSS rA c5), (0o025500040105, .ftransSD rA c5), (0o025600040105, .ftransDH rA c5),
  (0o025700040105, .ftransDS rA c5), (0o026000040105, .ftransDD rA c5), (0o026100040105, .fnegH rA c5),
  (0o026200040105, .fnegS rA c5), (0o026300040105, .fnegD rA c5), (0o026400040105, .fabsH rA c5),
  (0o026500040105, .fabsS rA c5), (0o026600040105, .fabsD rA c5), (0o514600040105, .fminH .t10 rA c5),
  (0o515200040105, .fminS .t10 rA c5), (0o515600040105, .fminD .t10 rA c5), (0o516200040105, .fmaxH .t10 rA c5),
  (0o516600040105, .fmaxS .t10 rA c5), (0o517200040105, .fmaxD .t10 rA c5), (0o026700040105, .movQQ rA c5),
  (0o027000040105, .movQH rA c5), (0o027100040105, .movQS rA c5), (0o027200040105, .movQD rA c5),
  (0o027300040105, .movHQ rA c5), (0o027400040105, .movHH rA c5), (0o027500040105, .movHS rA c5),
  (0o027600040105, .movHD rA c5), (0o027700040105, .movSQ rA c5), (0o030000040105, .movSH rA c5)] := by
  repeat (first | exact trivial | refine ⟨rfl, ?_⟩)

theorem words6 : Decode [
  (0o030100040105, .movSS rA c5), (0o030200040105, .movSD rA c5), (0o030300040105, .movDQ rA c5),
  (0o030400040105, .movDH rA c5), (0o030500040105, .movDS rA c5), (0o030600040105, .movDD rA c5),
  (0o030700040105, .movmq2 rA c5), (0o031000040105, .movmq3 rA c5), (0o031100040105, .movmq4 rA c5),
  (0o031200040105, .movmq5 rA c5), (0o031300040105, .movmq6 rA c5), (0o031400040105, .movmq7 rA c5),
  (0o031500040105, .movmq8 rA c5), (0o031600040105, .movmq9 rA c5), (0o031700040105, .movmq10 rA c5),
  (0o032000040105, .movmq11 rA c5), (0o032100040105, .movmq12 rA c5), (0o032200040105, .movmq13 rA c5),
  (0o032300040105, .movmq14 rA c5), (0o032400040105, .movmq15 rA c5), (0o032500040105, .movmq16 rA c5),
  (0o032600040105, .movmq17 rA c5), (0o032700040105, .movmq18 rA c5), (0o033000040105, .movmq19 rA c5),
  (0o033100040105, .movmq20 rA c5), (0o033200040105, .movmq21 rA c5), (0o033300040105, .movmq22 rA c5),
  (0o033400040105, .movmq23 rA c5), (0o033500040105, .movmq24 rA c5), (0o033600040105, .movmq25 rA c5),
  (0o033700040105, .movmq26 rA c5), (0o034000040105, .movmq27 rA c5), (0o034100040105, .movmq28 rA c5),
  (0o034200040105, .movmq29 rA c5), (0o034300040105, .movmq30 rA c5), (0o034400040105, .movmq31 rA c5),
  (0o034500040105, .movmq32 rA c5), (0o034600040105, .movmq64 rA c5), (0o034700040105, .movmq128 rA c5),
  (0o035000040105, .movms2 rA c5), (0o035100040105, .movms3 rA c5), (0o035200040105, .movms4 rA c5),
  (0o035300040105, .movms5 rA c5), (0o035400040105, .movms6 rA c5), (0o035500040105, .movms7 rA c5),
  (0o035600040105, .movms8 rA c5), (0o035700040105, .movms9 rA c5), (0o036000040105, .movms10 rA c5)] := by
  repeat (first | exact trivial | refine ⟨rfl, ?_⟩)

theorem words7 : Decode [
  (0o036100040105, .movms11 rA c5), (0o036200040105, .movms12 rA c5), (0o036300040105, .movms13 rA c5),
  (0o036400040105, .movms14 rA c5), (0o036500040105, .movms15 rA c5), (0o036600040105, .movms16 rA c5),
  (0o036700040105, .movms17 rA c5), (0o037000040105, .movms18 rA c5), (0o037100040105, .movms19 rA c5),
  (0o037200040105, .movms20 rA c5), (0o037300040105, .movms21 rA c5), (0o037400040105, .movms22 rA c5),
  (0o037500040105, .movms23 rA c5), (0o037600040105, .movms24 rA c5), (0o037700040105, .movms25 rA c5),
  (0o040000040105, .movms26 rA c5), (0o040100040105, .movms27 rA c5), (0o040200040105, .movms28 rA c5),
  (0o040300040105, .movms29 rA c5), (0o040400040105, .movms30 rA c5), (0o040500040105, .movms31 rA c5),
  (0o040600040105, .movms32 rA c5), (0o040700040105, .exchQ rA c5), (0o041000040105, .exchH rA c5),
  (0o041100040105, .exchS rA c5), (0o041200040105, .exchD rA c5), (0o041300040105, .slr0 rA c5),
  (0o041400040105, .slr1 rA c5), (0o041500040105, .slr2 rA c5), (0o041600040105, .slr3 rA c5),
  (0o041700040105, .slr4 rA c5), (0o042000040105, .slr5 rA c5), (0o042100040105, .slr6 rA c5),
  (0o042200040105, .slr7 rA c5), (0o042300040105, .slr8 rA c5), (0o042400040105, .slr9 rA c5),
  (0o042500040105, .slr10 rA c5), (0o042600040105, .slr11 rA c5), (0o042700040105, .slr12 rA c5),
  (0o043000040105, .slr13 rA c5), (0o043100040105, .slr14 rA c5), (0o043200040105, .slr15 rA c5),
  (0o043300040105, .slr16 rA c5), (0o043400040105, .slr17 rA c5), (0o043500040105, .slr18 rA c5),
  (0o043600040105, .slr19 rA c5), (0o043700040105, .slr20 rA c5), (0o044000040105, .slr21 rA c5)] := by
  repeat (first | exact trivial | refine ⟨rfl, ?_⟩)

theorem words8 : Decode [
  (0o044100040105, .slr22 rA c5), (0o044200040105, .slr23 rA c5), (0o044300040105, .slr24 rA c5),
  (0o044400040105, .slr25 rA c5), (0o044500040105, .slr26 rA c5), (0o044600040105, .slr27 rA c5),
  (0o044700040105, .slr28 rA c5), (0o045000040105, .slr29 rA c5), (0o045100040105, .slr30 rA c5),
  (0o045200040105, .slr31 rA c5), (0o045300040105, .slradr0 rA c5), (0o045400040105, .slradr1 rA c5),
  (0o045500040105, .slradr2 rA c5), (0o045600040105, .slradr3 rA c5), (0o045700040105, .slradr4 rA c5),
  (0o046000040105, .slradr5 rA c5), (0o046100040105, .slradr6 rA c5), (0o046200040105, .slradr7 rA c5),
  (0o046300040105, .slradr8 rA c5), (0o046400040105, .slradr9 rA c5), (0o046500040105, .slradr10 rA c5),
  (0o046600040105, .slradr11 rA c5), (0o046700040105, .slradr12 rA c5), (0o047000040105, .slradr13 rA c5),
  (0o047100040105, .slradr14 rA c5), (0o047200040105, .slradr15 rA c5), (0o047300040105, .slradr16 rA c5),
  (0o047400040105, .slradr17 rA c5), (0o047500040105, .slradr18 rA c5), (0o047600040105, .slradr19 rA c5),
  (0o047700040105, .slradr20 rA c5), (0o050000040105, .slradr21 rA c5), (0o050100040105, .slradr22 rA c5),
  (0o050200040105, .slradr23 rA c5), (0o050300040105, .slradr24 rA c5), (0o050400040105, .slradr25 rA c5),
  (0o050500040105, .slradr26 rA c5), (0o050600040105, .slradr27 rA c5), (0o050700040105, .slradr28 rA c5),
  (0o051000040105, .slradr29 rA c5), (0o051100040105, .slradr30 rA c5), (0o051200040105, .slradr31 rA c5),
  (0o051300040105, .movadr rA c5), (0o051400040105, .movphy rA c5), (0o517600040105, .cmpsfGtrQ .t10 rA c5),
  (0o520200040105, .cmpsfGtrH .t10 rA c5), (0o520600040105, .cmpsfGtrS .t10 rA c5),
  (0o521200040105, .cmpsfGtrD .t10 rA c5)] := by
  repeat (first | exact trivial | refine ⟨rfl, ?_⟩)

theorem words9 : Decode [
  (0o521600040105, .cmpsfEqlQ .t10 rA c5), (0o522200040105, .cmpsfEqlH .t10 rA c5),
  (0o522600040105, .cmpsfEqlS .t10 rA c5), (0o523200040105, .cmpsfEqlD .t10 rA c5),
  (0o523600040105, .cmpsfGeqQ .t10 rA c5), (0o524200040105, .cmpsfGeqH .t10 rA c5),
  (0o524600040105, .cmpsfGeqS .t10 rA c5), (0o525200040105, .cmpsfGeqD .t10 rA c5),
  (0o525600040105, .cmpsfLssQ .t10 rA c5), (0o526200040105, .cmpsfLssH .t10 rA c5),
  (0o526600040105, .cmpsfLssS .t10 rA c5), (0o527200040105, .cmpsfLssD .t10 rA c5),
  (0o527600040105, .cmpsfNeqQ .t10 rA c5), (0o530200040105, .cmpsfNeqH .t10 rA c5),
  (0o530600040105, .cmpsfNeqS .t10 rA c5), (0o531200040105, .cmpsfNeqD .t10 rA c5),
  (0o531600040105, .cmpsfLeqQ .t10 rA c5), (0o532200040105, .cmpsfLeqH .t10 rA c5),
  (0o532600040105, .cmpsfLeqS .t10 rA c5), (0o533200040105, .cmpsfLeqD .t10 rA c5),
  (0o533600040105, .bndsfBQ .t10 rA c5), (0o534200040105, .bndsfBH .t10 rA c5), (0o534600040105, .bndsfBS .t10 rA c5),
  (0o535200040105, .bndsfBD .t10 rA c5), (0o535600040105, .bndsfMinQ .t10 rA c5),
  (0o536200040105, .bndsfMinH .t10 rA c5), (0o536600040105, .bndsfMinS .t10 rA c5),
  (0o537200040105, .bndsfMinD .t10 rA c5), (0o537600040105, .bndsfM1Q .t10 rA c5),
  (0o540200040105, .bndsfM1H .t10 rA c5), (0o540600040105, .bndsfM1S .t10 rA c5),
  (0o541200040105, .bndsfM1D .t10 rA c5), (0o541600040105, .bndsf0Q .t10 rA c5), (0o542200040105, .bndsf0H .t10 rA c5),
  (0o542600040105, .bndsf0S .t10 rA c5), (0o543200040105, .bndsf0D .t10 rA c5), (0o543600040105, .bndsf1Q .t10 rA c5),
  (0o544200040105, .bndsf1H .t10 rA c5), (0o544600040105, .bndsf1S .t10 rA c5), (0o545200040105, .bndsf1D .t10 rA c5),
  (0o051500040105, .notQ rA c5), (0o051600040105, .notH rA c5), (0o051700040105, .notS rA c5),
  (0o052000040105, .notD rA c5), (0o545600040105, .andQ .t10 rA c5), (0o546200040105, .andH .t10 rA c5),
  (0o546600040105, .andS .t10 rA c5), (0o547200040105, .andD .t10 rA c5)] := by
  repeat (first | exact trivial | refine ⟨rfl, ?_⟩)

theorem words10 : Decode [
  (0o547600040105, .andtcQ .t10 rA c5), (0o550200040105, .andtcH .t10 rA c5), (0o550600040105, .andtcS .t10 rA c5),
  (0o551200040105, .andtcD .t10 rA c5), (0o551600040105, .andctQ .t10 rA c5), (0o552200040105, .andctH .t10 rA c5),
  (0o552600040105, .andctS .t10 rA c5), (0o553200040105, .andctD .t10 rA c5), (0o553600040105, .orQ .t10 rA c5),
  (0o554200040105, .orH .t10 rA c5), (0o554600040105, .orS .t10 rA c5), (0o555200040105, .orD .t10 rA c5),
  (0o555600040105, .ortcQ .t10 rA c5), (0o556200040105, .ortcH .t10 rA c5), (0o556600040105, .ortcS .t10 rA c5),
  (0o557200040105, .ortcD .t10 rA c5), (0o557600040105, .orctQ .t10 rA c5), (0o560200040105, .orctH .t10 rA c5),
  (0o560600040105, .orctS .t10 rA c5), (0o561200040105, .orctD .t10 rA c5), (0o561600040105, .nandQ .t10 rA c5),
  (0o562200040105, .nandH .t10 rA c5), (0o562600040105, .nandS .t10 rA c5), (0o563200040105, .nandD .t10 rA c5),
  (0o563600040105, .norQ .t10 rA c5), (0o564200040105, .norH .t10 rA c5), (0o564600040105, .norS .t10 rA c5),
  (0o565200040105, .norD .t10 rA c5), (0o565600040105, .xorQ .t10 rA c5), (0o566200040105, .xorH .t10 rA c5),
  (0o566600040105, .xorS .t10 rA c5), (0o567200040105, .xorD .t10 rA c5), (0o567600040105, .eqvQ .t10 rA c5),
  (0o570200040105, .eqvH .t10 rA c5), (0o570600040105, .eqvS .t10 rA c5), (0o571200040105, .eqvD .t10 rA c5),
  (0o571600040105, .shfLfQ .t10 rA c5), (0o572200040105, .shfLfH .t10 rA c5), (0o572600040105, .shfLfS .t10 rA c5),
  (0o573200040105, .shfLfD .t10 rA c5), (0o573600040105, .shfRtQ .t10 rA c5), (0o574200040105, .shfRtH .t10 rA c5),
  (0o574600040105, .shfRtS .t10 rA c5), (0o575200040105, .shfRtD .t10 rA c5), (0o575600040105, .shfvLfQ .t10 rA c5),
  (0o576200040105, .shfvLfH .t10 rA c5), (0o576600040105, .shfvLfS .t10 rA c5), (0o577200040105, .shfvLfD .t10 rA c5)] := by
  repeat (first | exact trivial | refine ⟨rfl, ?_⟩)

theorem words11 : Decode [
  (0o577600040105, .shfvRtQ .t10 rA c5), (0o600200040105, .shfvRtH .t10 rA c5), (0o600600040105, .shfvRtS .t10 rA c5),
  (0o601200040105, .shfvRtD .t10 rA c5), (0o601600040105, .dshfLfQ .t10 rA c5), (0o602200040105, .dshfLfH .t10 rA c5),
  (0o602600040105, .dshfLfS .t10 rA c5), (0o603200040105, .dshfRtQ .t10 rA c5), (0o603600040105, .dshfRtH .t10 rA c5),
  (0o604200040105, .dshfRtS .t10 rA c5), (0o604600040105, .dshfvLfQ .t10 rA c5),
  (0o605200040105, .dshfvLfH .t10 rA c5), (0o605600040105, .dshfvLfS .t10 rA c5),
  (0o606200040105, .dshfvRtQ .t10 rA c5), (0o606600040105, .dshfvRtH .t10 rA c5),
  (0o607200040105, .dshfvRtS .t10 rA c5), (0o607600040105, .shfaLfQ .t10 rA c5), (0o610200040105, .shfaLfH .t10 rA c5),
  (0o610600040105, .shfaLfS .t10 rA c5), (0o611200040105, .shfaLfD .t10 rA c5), (0o611600040105, .shfaRtQ .t10 rA c5),
  (0o612200040105, .shfaRtH .t10 rA c5), (0o612600040105, .shfaRtS .t10 rA c5), (0o613200040105, .shfaRtD .t10 rA c5),
  (0o613600040105, .shfavLfQ .t10 rA c5), (0o614200040105, .shfavLfH .t10 rA c5),
  (0o614600040105, .shfavLfS .t10 rA c5), (0o615200040105, .shfavLfD .t10 rA c5),
  (0o615600040105, .shfavRtQ .t10 rA c5), (0o616200040105, .shfavRtH .t10 rA c5),
  (0o616600040105, .shfavRtS .t10 rA c5), (0o617200040105, .shfavRtD .t10 rA c5), (0o617600040105, .rotLfQ .t10 rA c5),
  (0o620200040105, .rotLfH .t10 rA c5), (0o620600040105, .rotLfS .t10 rA c5), (0o621200040105, .rotLfD .t10 rA c5),
  (0o621600040105, .rotRtQ .t10 rA c5), (0o622200040105, .rotRtH .t10 rA c5), (0o622600040105, .rotRtS .t10 rA c5),
  (0o623200040105, .rotRtD .t10 rA c5), (0o623600040105, .rotvLfQ .t10 rA c5), (0o624200040105, .rotvLfH .t10 rA c5),
  (0o624600040105, .rotvLfS .t10 rA c5), (0o625200040105, .rotvLfD .t10 rA c5), (0o625600040105, .rotvRtQ .t10 rA c5),
  (0o626200040105, .rotvRtH .t10 rA c5), (0o626600040105, .rotvRtS .t10 rA c5), (0o627200040105, .rotvRtD .t10 rA c5)] := by
  repeat (first | exact trivial | refine ⟨rfl, ?_⟩)

theorem words12 : Decode [
  (0o200300040105, .skpGtrQ 3 rA c5), (0o202300040105, .skpGtrH 3 rA c5), (0o204300040105, .skpGtrS 3 rA c5),
  (0o206300040105, .skpGtrD 3 rA c5), (0o210300040105, .skpEqlQ 3 rA c5), (0o212300040105, .skpEqlH 3 rA c5),
  (0o214300040105, .skpEqlS 3 rA c5), (0o216300040105, .skpEqlD 3 rA c5), (0o220300040105, .skpGeqQ 3 rA c5),
  (0o222300040105, .skpGeqH 3 rA c5), (0o224300040105, .skpGeqS 3 rA c5), (0o226300040105, .skpGeqD 3 rA c5),
  (0o230300040105, .skpLssQ 3 rA c5), (0o232300040105, .skpLssH 3 rA c5), (0o234300040105, .skpLssS 3 rA c5),
  (0o236300040105, .skpLssD 3 rA c5), (0o240300040105, .skpNeqQ 3 rA c5), (0o242300040105, .skpNeqH 3 rA c5),
  (0o244300040105, .skpNeqS 3 rA c5), (0o246300040105, .skpNeqD 3 rA c5), (0o250300040105, .skpLeqQ 3 rA c5),
  (0o252300040105, .skpLeqH 3 rA c5), (0o254300040105, .skpLeqS 3 rA c5), (0o256300040105, .skpLeqD 3 rA c5),
  (0o260300040105, .skpNonQ 3 rA c5), (0o262300040105, .skpNonH 3 rA c5), (0o264300040105, .skpNonS 3 rA c5),
  (0o266300040105, .skpNonD 3 rA c5), (0o270300040105, .skpAllQ 3 rA c5), (0o272300040105, .skpAllH 3 rA c5),
  (0o274300040105, .skpAllS 3 rA c5), (0o276300040105, .skpAllD 3 rA c5), (0o300300040105, .skpNalQ 3 rA c5),
  (0o302300040105, .skpNalH 3 rA c5), (0o304300040105, .skpNalS 3 rA c5), (0o306300040105, .skpNalD 3 rA c5),
  (0o310300040105, .skpAnyQ 3 rA c5), (0o312300040105, .skpAnyH 3 rA c5), (0o314300040105, .skpAnyS 3 rA c5),
  (0o316300040105, .skpAnyD 3 rA c5), (0o320300040105, .iskpGtr 3 rA c5), (0o322300040105, .iskpEql 3 rA c5),
  (0o324300040105, .iskpGeq 3 rA c5), (0o326300040105, .iskpLss 3 rA c5), (0o330300040105, .iskpNeq 3 rA c5),
  (0o332300040105, .iskpLeq 3 rA c5), (0o334300040105, .dskpGtr 3 rA c5), (0o336300040105, .dskpEql 3 rA c5)] := by
  repeat (first | exact trivial | refine ⟨rfl, ?_⟩)

theorem words13 : Decode [
  (0o340300040105, .dskpGeq 3 rA c5), (0o342300040105, .dskpLss 3 rA c5), (0o344300040105, .dskpNeq 3 rA c5),
  (0o346300040105, .dskpLeq 3 rA c5), (0o140000041002, .jmpGtr rA (.gen x8)), (0o140200041002, .jmpEql rA (.gen x8)),
  (0o140400041002, .jmpGeq rA (.gen x8)), (0o140600041002, .jmpLss rA (.gen x8)),
  (0o141000041002, .jmpNeq rA (.gen x8)), (0o141200041002, .jmpLeq rA (.gen x8)),
  (0o141400041002, .jmpzGtrQ rA (.gen x8)), (0o141600041002, .jmpzGtrH rA (.gen x8)),
  (0o142000041002, .jmpzGtrS rA (.gen x8)), (0o142200041002, .jmpzGtrD rA (.gen x8)),
  (0o142400041002, .jmpzEqlQ rA (.gen x8)), (0o142600041002, .jmpzEqlH rA (.gen x8)),
  (0o143000041002, .jmpzEqlS rA (.gen x8)), (0o143200041002, .jmpzEqlD rA (.gen x8)),
  (0o143400041002, .jmpzGeqQ rA (.gen x8)), (0o143600041002, .jmpzGeqH rA (.gen x8)),
  (0o144000041002, .jmpzGeqS rA (.gen x8)), (0o144200041002, .jmpzGeqD rA (.gen x8)),
  (0o144400041002, .jmpzLssQ rA (.gen x8)), (0o144600041002, .jmpzLssH rA (.gen x8)),
  (0o145000041002, .jmpzLssS rA (.gen x8)), (0o145200041002, .jmpzLssD rA (.gen x8)),
  (0o145400041002, .jmpzNeqQ rA (.gen x8)), (0o145600041002, .jmpzNeqH rA (.gen x8)),
  (0o146000041002, .jmpzNeqS rA (.gen x8)), (0o146200041002, .jmpzNeqD rA (.gen x8)),
  (0o146400041002, .jmpzLeqQ rA (.gen x8)), (0o146600041002, .jmpzLeqH rA (.gen x8)),
  (0o147000041002, .jmpzLeqS rA (.gen x8)), (0o147200041002, .jmpzLeqD rA (.gen x8)),
  (0o147400041002, .jmpa rA (.gen x8)), (0o147600041002, .ijmpGtr rA (.gen x8)),
  (0o150000041002, .ijmpEql rA (.gen x8)), (0o150200041002, .ijmpGeq rA (.gen x8)),
  (0o150400041002, .ijmpLss rA (.gen x8)), (0o150600041002, .ijmpNeq rA (.gen x8)),
  (0o151000041002, .ijmpLeq rA (.gen x8)), (0o151200041002, .ijmpzGtr rA (.gen x8)),
  (0o151400041002, .ijmpzEql rA (.gen x8)), (0o151600041002, .ijmpzGeq rA (.gen x8)),
  (0o152000041002, .ijmpzLss rA (.gen x8)), (0o152200041002, .ijmpzNeq rA (.gen x8)),
  (0o152400041002, .ijmpzLeq rA (.gen x8)), (0o152600041002, .ijmpa rA (.gen x8))] := by
  repeat (first | exact trivial | refine ⟨rfl, ?_⟩)

theorem words14 : Decode [
  (0o153000041002, .djmpGtr rA (.gen x8)), (0o153200041002, .djmpEql rA (.gen x8)),
  (0o153400041002, .djmpGeq rA (.gen x8)), (0o153600041002, .djmpLss rA (.gen x8)),
  (0o154000041002, .djmpNeq rA (.gen x8)), (0o154200041002, .djmpLeq rA (.gen x8)),
  (0o154400041002, .djmpzGtr rA (.gen x8)), (0o154600041002, .djmpzEql rA (.gen x8)),
  (0o155000041002, .djmpzGeq rA (.gen x8)), (0o155200041002, .djmpzLss rA (.gen x8)),
  (0o155400041002, .djmpzNeq rA (.gen x8)), (0o155600041002, .djmpzLeq rA (.gen x8)),
  (0o156000041002, .djmpa rA (.gen x8)), (0o052100040105, .bndtrpBQ rA c5), (0o052200040105, .bndtrpBH rA c5),
  (0o052300040105, .bndtrpBS rA c5), (0o052400040105, .bndtrpBD rA c5), (0o052500040105, .bndtrpMinQ rA c5),
  (0o052600040105, .bndtrpMinH rA c5), (0o052700040105, .bndtrpMinS rA c5), (0o053000040105, .bndtrpMinD rA c5),
  (0o053100040105, .bndtrpM1Q rA c5), (0o053200040105, .bndtrpM1H rA c5), (0o053300040105, .bndtrpM1S rA c5),
  (0o053400040105, .bndtrpM1D rA c5), (0o053500040105, .bndtrp0Q rA c5), (0o053600040105, .bndtrp0H rA c5),
  (0o053700040105, .bndtrp0S rA c5), (0o054000040105, .bndtrp0D rA c5), (0o054100040105, .bndtrp1Q rA c5),
  (0o054200040105, .bndtrp1H rA c5), (0o054300040105, .bndtrp1S rA c5), (0o054400040105, .bndtrp1D rA c5),
  (0o000100012345, .jpatch 0o12345), (0o156200041002, .jsr rA (.gen x8)), (0o054500040105, .jcr rA c5),
  (0o054600040105, .alloc1 rA c5), (0o054700040105, .alloc2 rA c5), (0o055000040105, .alloc3 rA c5),
  (0o055100040105, .alloc4 rA c5), (0o055200040105, .alloc5 rA c5), (0o055300040105, .alloc6 rA c5),
  (0o055400040105, .alloc7 rA c5), (0o055500040105, .alloc8 rA c5), (0o055600040105, .alloc9 rA c5),
  (0o055700040105, .alloc10 rA c5), (0o056000040105, .alloc11 rA c5), (0o056100040105, .alloc12 rA c5)] := by
  repeat (first | exact trivial | refine ⟨rfl, ?_⟩)

theorem words15 : Decode [
  (0o056200040105, .alloc13 rA c5), (0o056300040105, .alloc14 rA c5), (0o056400040105, .alloc15 rA c5),
  (0o056500040105, .alloc16 rA c5), (0o056600040105, .alloc17 rA c5), (0o056700040105, .alloc18 rA c5),
  (0o057000040105, .alloc19 rA c5), (0o057100040105, .alloc20 rA c5), (0o057200040105, .alloc21 rA c5),
  (0o057300040105, .alloc22 rA c5), (0o057400040105, .alloc23 rA c5), (0o057500040105, .alloc24 rA c5),
  (0o057600040105, .alloc25 rA c5), (0o057700040105, .alloc26 rA c5), (0o060000040105, .alloc27 rA c5),
  (0o060100040105, .alloc28 rA c5), (0o060200040105, .alloc29 rA c5), (0o060300040105, .alloc30 rA c5),
  (0o060400040105, .alloc31 rA c5), (0o060500040105, .alloc32 rA c5), (0o060600040105, .retsr rA c5),
  (0o060700040105, .ret rA c5), (0o061000040105, .retus rA c5), (0o061100040105, .retfs rA c5),
  (0o061200040105, .trpslf0 rA c5), (0o061300040105, .trpslf1 rA c5), (0o061400040105, .trpslf2 rA c5),
  (0o061500040105, .trpslf3 rA c5), (0o061600040105, .trpslf4 rA c5), (0o061700040105, .trpslf5 rA c5),
  (0o062000040105, .trpslf6 rA c5), (0o062100040105, .trpslf7 rA c5), (0o062200040105, .trpslf8 rA c5),
  (0o062300040105, .trpslf9 rA c5), (0o062400040105, .trpslf10 rA c5), (0o062500040105, .trpslf11 rA c5),
  (0o062600040105, .trpslf12 rA c5), (0o062700040105, .trpslf13 rA c5), (0o063000040105, .trpslf14 rA c5),
  (0o063100040105, .trpslf15 rA c5), (0o063200040105, .trpslf16 rA c5), (0o063300040105, .trpslf17 rA c5),
  (0o063400040105, .trpslf18 rA c5), (0o063500040105, .trpslf19 rA c5), (0o063600040105, .trpslf20 rA c5),
  (0o063700040105, .trpslf21 rA c5), (0o064000040105, .trpslf22 rA c5), (0o064100040105, .trpslf23 rA c5)] := by
  repeat (first | exact trivial | refine ⟨rfl, ?_⟩)

theorem words16 : Decode [
  (0o064200040105, .trpslf24 rA c5), (0o064300040105, .trpslf25 rA c5), (0o064400040105, .trpslf26 rA c5),
  (0o064500040105, .trpslf27 rA c5), (0o064600040105, .trpslf28 rA c5), (0o064700040105, .trpslf29 rA c5),
  (0o065000040105, .trpslf30 rA c5), (0o065100040105, .trpslf31 rA c5), (0o065200040105, .trpslf32 rA c5),
  (0o065300040105, .trpslf33 rA c5), (0o065400040105, .trpslf34 rA c5), (0o065500040105, .trpslf35 rA c5),
  (0o065600040105, .trpslf36 rA c5), (0o065700040105, .trpslf37 rA c5), (0o066000040105, .trpslf38 rA c5),
  (0o066100040105, .trpslf39 rA c5), (0o066200040105, .trpslf40 rA c5), (0o066300040105, .trpslf41 rA c5),
  (0o066400040105, .trpslf42 rA c5), (0o066500040105, .trpslf43 rA c5), (0o066600040105, .trpslf44 rA c5),
  (0o066700040105, .trpslf45 rA c5), (0o067000040105, .trpslf46 rA c5), (0o067100040105, .trpslf47 rA c5),
  (0o067200040105, .trpslf48 rA c5), (0o067300040105, .trpslf49 rA c5), (0o067400040105, .trpslf50 rA c5),
  (0o067500040105, .trpslf51 rA c5), (0o067600040105, .trpslf52 rA c5), (0o067700040105, .trpslf53 rA c5),
  (0o070000040105, .trpslf54 rA c5), (0o070100040105, .trpslf55 rA c5), (0o070200040105, .trpslf56 rA c5),
  (0o070300040105, .trpslf57 rA c5), (0o070400040105, .trpslf58 rA c5), (0o070500040105, .trpslf59 rA c5),
  (0o070600040105, .trpslf60 rA c5), (0o070700040105, .trpslf61 rA c5), (0o071000040105, .trpslf62 rA c5),
  (0o071100040105, .trpslf63 rA c5), (0o071200040105, .trpexe0 rA c5), (0o071300040105, .trpexe1 rA c5),
  (0o071400040105, .trpexe2 rA c5), (0o071500040105, .trpexe3 rA c5), (0o071600040105, .trpexe4 rA c5),
  (0o071700040105, .trpexe5 rA c5), (0o072000040105, .trpexe6 rA c5), (0o072100040105, .trpexe7 rA c5)] := by
  repeat (first | exact trivial | refine ⟨rfl, ?_⟩)

theorem words17 : Decode [
  (0o072200040105, .trpexe8 rA c5), (0o072300040105, .trpexe9 rA c5), (0o072400040105, .trpexe10 rA c5),
  (0o072500040105, .trpexe11 rA c5), (0o072600040105, .trpexe12 rA c5), (0o072700040105, .trpexe13 rA c5),
  (0o073000040105, .trpexe14 rA c5), (0o073100040105, .trpexe15 rA c5), (0o073200040105, .trpexe16 rA c5),
  (0o073300040105, .trpexe17 rA c5), (0o073400040105, .trpexe18 rA c5), (0o073500040105, .trpexe19 rA c5),
  (0o073600040105, .trpexe20 rA c5), (0o073700040105, .trpexe21 rA c5), (0o074000040105, .trpexe22 rA c5),
  (0o074100040105, .trpexe23 rA c5), (0o074200040105, .trpexe24 rA c5), (0o074300040105, .trpexe25 rA c5),
  (0o074400040105, .trpexe26 rA c5), (0o074500040105, .trpexe27 rA c5), (0o074600040105, .trpexe28 rA c5),
  (0o074700040105, .trpexe29 rA c5), (0o075000040105, .trpexe30 rA c5), (0o075100040105, .trpexe31 rA c5),
  (0o075200040105, .trpexe32 rA c5), (0o075300040105, .trpexe33 rA c5), (0o075400040105, .trpexe34 rA c5),
  (0o075500040105, .trpexe35 rA c5), (0o075600040105, .trpexe36 rA c5), (0o075700040105, .trpexe37 rA c5),
  (0o076000040105, .trpexe38 rA c5), (0o076100040105, .trpexe39 rA c5), (0o076200040105, .trpexe40 rA c5),
  (0o076300040105, .trpexe41 rA c5), (0o076400040105, .trpexe42 rA c5), (0o076500040105, .trpexe43 rA c5),
  (0o076600040105, .trpexe44 rA c5), (0o076700040105, .trpexe45 rA c5), (0o077000040105, .trpexe46 rA c5),
  (0o077100040105, .trpexe47 rA c5), (0o077200040105, .trpexe48 rA c5), (0o077300040105, .trpexe49 rA c5),
  (0o077400040105, .trpexe50 rA c5), (0o077500040105, .trpexe51 rA c5), (0o077600040105, .trpexe52 rA c5),
  (0o077700040105, .trpexe53 rA c5), (0o100000040105, .trpexe54 rA c5), (0o100100040105, .trpexe55 rA c5)] := by
  repeat (first | exact trivial | refine ⟨rfl, ?_⟩)

theorem words18 : Decode [
  (0o100200040105, .trpexe56 rA c5), (0o100300040105, .trpexe57 rA c5), (0o100400040105, .trpexe58 rA c5),
  (0o100500040105, .trpexe59 rA c5), (0o100600040105, .trpexe60 rA c5), (0o100700040105, .trpexe61 rA c5),
  (0o101000040105, .trpexe62 rA c5), (0o101100040105, .trpexe63 rA c5), (0o101200040105, .adjspUp rA c5),
  (0o101300040105, .adjspDn rA c5), (0o101400040105, .pushUpQ rA c5), (0o101500040105, .pushUpH rA c5),
  (0o101600040105, .pushUpS rA c5), (0o101700040105, .pushUpD rA c5), (0o102000040105, .pushDnQ rA c5),
  (0o102100040105, .pushDnH rA c5), (0o102200040105, .pushDnS rA c5), (0o102300040105, .pushDnD rA c5),
  (0o102400040105, .popUpQ rA c5), (0o102500040105, .popUpH rA c5), (0o102600040105, .popUpS rA c5),
  (0o102700040105, .popUpD rA c5), (0o103000040105, .popDnQ rA c5), (0o103100040105, .popDnH rA c5),
  (0o103200040105, .popDnS rA c5), (0o103300040105, .popDnD rA c5), (0o103400040105, .lbytS rA c5),
  (0o103500040105, .lbytD rA c5), (0o627600040105, .libytS .t10 rA c5), (0o630200040105, .libytD .t10 rA c5),
  (0o103600040105, .lsbytS rA c5), (0o103700040105, .lsbytD rA c5), (0o630600040105, .lisbytS .t10 rA c5),
  (0o631200040105, .lisbytD .t10 rA c5), (0o104000040105, .dbytS rA c5), (0o104100040105, .dbytD rA c5),
  (0o631600040105, .dibytS .t10 rA c5), (0o632200040105, .dibytD .t10 rA c5), (0o632600040105, .adjbpS .t10 rA c5),
  (0o633200040105, .adjbpD .t10 rA c5), (0o633600040105, .bitrvQ .t10 rA c5), (0o634200040105, .bitrvH .t10 rA c5),
  (0o634600040105, .bitrvS .t10 rA c5), (0o635200040105, .bitrvD .t10 rA c5), (0o635600040105, .bitrvvQ .t10 rA c5),
  (0o636200040105, .bitrvvH .t10 rA c5), (0o636600040105, .bitrvvS .t10 rA c5), (0o637200040105, .bitrvvD .t10 rA c5)] := by
  repeat (first | exact trivial | refine ⟨rfl, ?_⟩)

theorem words19 : Decode [
  (0o637600040105, .bitexQ .t10 rA c5), (0o640200040105, .bitexH .t10 rA c5), (0o640600040105, .bitexS .t10 rA c5),
  (0o641200040105, .bitexD .t10 rA c5), (0o641600040105, .bitexvQ .t10 rA c5), (0o642200040105, .bitexvH .t10 rA c5),
  (0o642600040105, .bitexvS .t10 rA c5), (0o643200040105, .bitexvD .t10 rA c5), (0o104200040105, .bitcntQ rA c5),
  (0o104300040105, .bitcntH rA c5), (0o104400040105, .bitcntS rA c5), (0o104500040105, .bitcntD rA c5),
  (0o104600040105, .bitfstQ rA c5), (0o104700040105, .bitfstH rA c5), (0o105000040105, .bitfstS rA c5),
  (0o105100040105, .bitfstD rA c5), (0o105200040105, .strcmpRta rA c5), (0o105300040105, .strcmpRtb rA c5),
  (0o105400040105, .blkmovRta rA c5), (0o105500040105, .blkmovRtb rA c5), (0o105600040105, .blkiniRtaQ rA c5),
  (0o105700040105, .blkiniRtaH rA c5), (0o106000040105, .blkiniRtaS rA c5), (0o106100040105, .blkiniRtaD rA c5),
  (0o106200040105, .blkiniRtbQ rA c5), (0o106300040105, .blkiniRtbH rA c5), (0o106400040105, .blkiniRtbS rA c5),
  (0o106500040105, .blkiniRtbD rA c5), (0o106600040105, .blkidRta rA c5), (0o106700040105, .blkidRtb rA c5),
  (0o107000040105, .blkdiRta rA c5), (0o107100040105, .blkdiRtb rA c5), (0o107200040105, .rus rA c5),
  (0o156400041002, .jusclrNon rA (.gen x8)), (0o156600041002, .jusclrAll rA (.gen x8)),
  (0o157000041002, .jusclrNal rA (.gen x8)), (0o157200041002, .jusclrAny rA (.gen x8)),
  (0o157400041002, .jusNon rA (.gen x8)), (0o157600041002, .jusAll rA (.gen x8)),
  (0o160000041002, .jusNal rA (.gen x8)), (0o160200041002, .jusAny rA (.gen x8)),
  (0o160400041002, .wusjmp rA (.gen x8)), (0o107300040105, .setus rA c5), (0o107400040105, .clrus rA c5),
  (0o107500040105, .rspid rA c5), (0o107600040105, .wspid rA c5), (0o107700040105, .rrndmd rA c5),
  (0o110000040105, .wrndmd rA c5)] := by
  repeat (first | exact trivial | refine ⟨rfl, ?_⟩)

theorem words20 : Decode [
  (0o110100040105, .rps rA c5), (0o160600041002, .wfsjmp rA (.gen x8)), (0o110200040105, .rcfile rA c5),
  (0o110300040105, .wcfile rA c5), (0o110400040105, .rpfile rA c5), (0o110500040105, .wpfile rA c5),
  (0o110600040105, .rpid rA c5), (0o110700040105, .swpicRtaV rA c5), (0o111000040105, .swpicRtaP rA c5),
  (0o111100040105, .swpicRtbV rA c5), (0o111200040105, .swpicRtbP rA c5), (0o111300040105, .swpdcRtaVU rA c5),
  (0o111400040105, .swpdcRtaVUk rA c5), (0o111500040105, .swpdcRtaPU rA c5), (0o111600040105, .swpdcRtaPUk rA c5),
  (0o111700040105, .swpdcRtbVU rA c5), (0o112000040105, .swpdcRtbVUk rA c5), (0o112100040105, .swpdcRtbPU rA c5),
  (0o112200040105, .swpdcRtbPUk rA c5), (0o112300040105, .swpimE rA c5), (0o112400040105, .swpimU rA c5),
  (0o112500040105, .swpdmE rA c5), (0o112600040105, .swpdmU rA c5), (0o161000041002, .wupjmp rA (.gen x8)),
  (0o161200041002, .wepjmp rA (.gen x8)), (0o112700040105, .rien rA c5), (0o113000040105, .wien rA c5),
  (0o113100040105, .sien rA c5), (0o113200040105, .cien rA c5), (0o113300040105, .ripnd rA c5),
  (0o113400040105, .wipnd rA c5), (0o113500040105, .sipnd rA c5), (0o113600040105, .cipnd rA c5),
  (0o113700040105, .ripar rA c5), (0o114000040105, .wipar rA c5), (0o114100040105, .blkiorRtaB rA c5),
  (0o114200040105, .blkiorRtaQ rA c5), (0o114300040105, .blkiorRtaH rA c5), (0o114400040105, .blkiorRtaS rA c5),
  (0o114500040105, .blkiorRtbB rA c5), (0o114600040105, .blkiorRtbQ rA c5), (0o114700040105, .blkiorRtbH rA c5),
  (0o115000040105, .blkiorRtbS rA c5), (0o115100040105, .blkiowRtaB rA c5), (0o115200040105, .blkiowRtaQ rA c5),
  (0o115300040105, .blkiowRtaH rA c5), (0o115400040105, .blkiowRtaS rA c5), (0o115500040105, .blkiowRtbB rA c5)] := by
  repeat (first | exact trivial | refine ⟨rfl, ?_⟩)

theorem words21 : Decode [
  (0o115600040105, .blkiowRtbQ rA c5), (0o115700040105, .blkiowRtbH rA c5), (0o116000040105, .blkiowRtbS rA c5),
  (0o116100040105, .intiop rA c5), (0o116200040105, .rctr rA c5), (0o116300040105, .wctr rA c5),
  (0o116400040105, .rectr rA c5), (0o116500040105, .wectr rA c5), (0o116600040105, .nop rA c5),
  (0o116700040105, .xct rA c5), (0o643600040105, .rmw .t10 rA c5), (0o117000040105, .wait rA c5),
  (0o161400041002, .halt rA (.gen x8))] := by
  repeat (first | exact trivial | refine ⟨rfl, ?_⟩)

end Sys2Proof.Laws.Words
end

