-- ==== Sys2Proof/Tests/Slice0.lean ====
section
/-! SUPPORT. Tests: single steps on small states with the spec's printed results, the checks of `WellFormed`, and for every
statement that has hypotheses a named witness that its hypotheses can be met together. -/

namespace Sys2Proof.Tests

set_option Elab.async false

open Sys2Proof.Machine

/-! ### Small states -/

/-- The state after reset with other status words, some registers of the current file, and some single-words of memory. -/
def small (ps us : SW) (regs : List (RegNum × SW)) (ws : List (PAddr × SW)) : State :=
  ws.foldl (fun s w => s.putS w.1 w.2) (regs.foldl (fun s r => s.putReg r.1 r.2) { State.reset with ps := ps, us := us })

/-- Does the outcome meet the test as a next state? -/
def nextHas (o : Res) (f : State → Bool) : Bool :=
  match o with
  | .next t => f t
  | .fault _ => false
  | .refused _ => false

/-- A register operand. -/
abbrev r (n : RegNum) : OD := .short (.reg n)
/-- A short constant. -/
abbrev k (n : BitVec 6) : OD := .short (.const n)
/-- A long constant, zero-extended. -/
abbrev lc (w : SW) : OD := .longConst .zx w
/-- A fixed-based operand. -/
abbrev at' (a : VAddr) : OD := .based0 (.fixedBased false false 0 false a)

/-- `USER_STATUS` with every mode zero: every soft trap is taken. -/
abbrev usTrap : SW := 0o740000000000
/-- Executive mode, file 1, `PRIO` 0. -/
abbrev psExec : SW := 0o042003000000
/-- User mode, file 1, previous mode user. -/
abbrev psUser : SW := 0o042000000000

/-- Registers and words most tests share: SP = 1000, SL = 2000 (octal), a few small numbers. -/
def regs : List (RegNum × SW) :=
  [(30, 0o1000), (31, 0o2000), (4, 7), (5, 9), (6, 0o10), (8, 0o4000), (9, 3), (10, 5), (11, 6), (12, 0o6000), (13, 0o6100)]
/-- Words of memory most tests share. -/
def words : List (PAddr × SW) := [(0o4000, 0o123456701234), (0o4004, 0o40000), (0o3000, 5)]

/-- Executive mode, nothing traps. -/
def exe : State := small psExec State.reset.us regs words
/-- Executive mode, everything traps. -/
def trp : State := small psExec usTrap regs words
/-- User mode. -/
def usr : State := small psUser State.reset.us regs words

/-! ### Words written out from the spec's encodings -/

/-- `ADD.Q RTA,#<333>,#<777>` (R310). -/
theorem test_decode_add : decodeWords 0o400241024102 0o777 0o333 = .ok (.addQ .t10 (lc 0o333) (lc 0o777)) := by decide +kernel
/-- `ADD RTA1,RTA,#6` (R806), and T = 11 and T = 00 (R207). -/
theorem test_decode_top_modes : decodeWords 0o401100050106 0 0 = .ok (.addS .t01 (r 5) (k 6)) ∧
    decodeWords 0o401300040101 0 0 = .ok (.addS .t11 (r 4) (k 1)) ∧ decodeWords 0o401000040101 0 0 = .ok (.addS .t00 (r 4) (k 1)) := by
  decide +kernel
/-- `MOV.Q.Q RTA,<23>` (R472). -/
theorem test_decode_mov : decodeWords 0o026700044100 0o23 0 = .ok (.movQQ (r 4) (at' 0o23)) := by decide +kernel
/-- `JSR RTA,BAZ` (R620). -/
theorem test_decode_jsr : decodeWords 0o156300040100 0 0 = .ok (.jsr (r 4) (.rel 0o100)) := by decide +kernel
/-- `RETFS #3,(SP)` (R950). -/
theorem test_decode_retfs : decodeWords 0o061101033600 0 0 = .ok (.retfs (k 3) (.short (.indexed 30 0))) := by decide +kernel
/-- `JUSCLR.ALL` (R754). -/
theorem test_decode_jusclr : decodeWords 0o156741020005 0o200000000 0 = .ok (.jusclrAll (lc 0o200000000) (.rel 5)) := by
  decide +kernel

/-! ### Well-formedness refuses what no word encodes -/

theorem test_wf_short_base : Instr.wellFormed (.movSS (.short (.indexed 2 0)) (r 4)) = false := by decide +kernel
theorem test_wf_illegalF : Instr.wellFormed (.movSS (r 4) (.illegalF 3 0)) = false := by decide +kernel
theorem test_wf_based_const : Instr.wellFormed (.movSS (r 4) (.based (.const 1) (.fixedBased false false 0 false 0))) = false := by
  decide +kernel
theorem test_wf_based_short :
    Instr.wellFormed (.addS .t10 (.based (.indexed 1 0) (.fixedBased false false 0 false 0)) (r 4)) = false := by decide +kernel
theorem test_wf_jump : Instr.wellFormed (.jmpa (r 0) (.gen (.illegalF 0 0))) = false := by decide +kernel
theorem test_wf_accepts : Instr.wellFormed (.skpEqlS 2 (r 4) (.short (.mode2 63))) = true := by decide +kernel

/-! ### Single steps with the spec's printed results -/

/-- `ADD.Q RTA,#<333>,#<777>`: RTA<0:8> = 332, `CARRY` = 1, `INT_OVFL` = 0 (R310), from the words in memory. -/
theorem test_step_add : nextHas (step (State.reset.withFetchWord 108 (0o400241024102 + 0o777 * 2 ^ 36 + 0o333 * 2 ^ 72)))
    (fun t => t.reg 4 == 0o332000000000 && Us.carry t.us && !Us.intOvfl t.us && t.pc == 0o26014) = true := by decide +kernel

/-- `MOV.Q.Q RTA,<23>` with RTA = 111222333444 leaves 444222333444 (R472). -/
theorem test_exec_mov : nextHas (exec (.movQQ (r 4) (at' 0o23)) (exe.putReg 4 0o111222333444))
    (fun t => t.reg 4 == 0o444222333444 && t.reg 5 == 9) = true := by decide +kernel

/-- `MOV.D.S RTA,#-1` stores 0 in RTA and all ones in RTA1 (R472). -/
theorem test_exec_mov_wide : nextHas (exec (.movDS (r 4) (k 0o77)) exe)
    (fun t => t.reg 4 == 0 && t.reg 5 == 0o777777777777) = true := by decide +kernel

/-- `JSR RTA,BAZ` (R620). -/
theorem test_exec_jsr : nextHas (exec (.jsr (r 4) (.rel 0o100)) (exe.setPc 0o40000))
    (fun t => t.physS 0o1000 == 7 && t.physS 0o1004 == 0o40004 && t.reg 30 == 0o1010 && t.pc == 0o40400) = true := by decide +kernel

/-- The user program of R950. -/
def p950 : State :=
  let s : State := { State.reset with ps := 0o142701000000, us := 0o740053400000, pc := 0o40000 }
  (([(0o40000, 0o110100040000), (0o14124, 0o30000), (0o14130, 0o740000000000), (0o14134, 0o100002000000),
      (0o21474, 0o31000), (0o21500, 0o740000000000), (0o21504, 0o200202000000)] : List (PAddr × SW)).foldl
    (fun s w => s.putS w.1 w.2) s).setReg 2 30 0o100000 |>.setReg 2 31 0o101000 |>.setReg 4 30 0o110000 |>.setReg 4 31 0o111000

/-- The hard trap of R950. -/
theorem test_step_hard_trap : nextHas (step p950) (fun t =>
    t.us == 0o740000000000 && t.ps == 0o106002000000 && t.physS 0o100000 == 0o110100040000 && t.physS 0o100004 == 0o40000 &&
    t.physS 0o100010 == 0 && t.physS 0o100014 == 0o740053400000 && t.physS 0o100020 == 0o142701000000 &&
    t.physS 0o100024 == 0o40000 && t.getReg 2 30 == 0o100030 && t.pc == 0o30000 && t.getReg 3 4 == 0) = true := by decide +kernel

/-- The return that R950 describes takes it back. -/
theorem test_step_return : nextHas (step p950) (fun t => nextHas (exec (.retfs (k 3) (.short (.indexed 30 0))) t)
    (fun u => u.ps == 0o142701000000 && u.us == 0o740053400000 && u.getReg 2 30 == 0o100000 && u.pc == 0o40000)) = true := by
  decide +kernel

/-- The interrupt of R952. -/
theorem test_step_interrupt :
    nextHas (step ({ p950 with intEnb := p950.intEnb.set 2 0o010000000000 }.deviceInterrupt 2 5 0o1234)) (fun t =>
      t.physS 0o110000 == 0o1234 && t.physS 0o110004 == 0 && t.physS 0o110010 == 0o740053400000 &&
      t.physS 0o110014 == 0o142701000000 && t.physS 0o110020 == 0o40000 && t.getReg 4 30 == 0o110024 &&
      t.ps == 0o206202000000 && t.intPend[2] == 0 && t.pc == 0o31000) = true := by decide +kernel

/-- The user program of R951, with absolute addressing. -/
def p951 : State :=
  { small 0o142701000000 0o750052400000 [(4, 0o377777777777), (30, 0o200000), (31, 0o201000)]
      [(0o6044, 0o50000), (0o6050, 0o740053400000), (0o40000, 0o401000040101)] with pc := 0o40000 }

/-- The soft trap of R951: what it leaves in the registers. (The save area holds free values, which no evaluation passes.) -/
theorem test_step_soft_trap : nextHas (step p951) (fun t =>
    t.reg 4 == 0o377777777777 && t.reg 30 == 0o200060 && t.us == 0o740053400000 && t.pc == 0o50000 &&
    t.ps == 0o142701000000) = true := by decide +kernel

/-- The user program of vector X1 of 95_test_vectors.md: `TRPEXE.2 RTA,@100004`, whose vector at 10040 holds the handler, the
descriptor, `USER_STATUS` and `PROC_STATUS` in this order (R652, R887). -/
def trpexeX1 : State :=
  let s : State := { State.reset with ps := 0o142701000000, us := 0o740053400000, pc := 0o40000 }
  (([(0o40000, 0o071400044100), (0o40004, 0o100004), (0o10040, 0o60000), (0o10044, 0o3006), (0o10050, 0o740053400000),
      (0o10054, 0o100002000000)] : List (PAddr × SW)).foldl (fun s w => s.putS w.1 w.2) s).setReg 2 30 0o3000
    |>.setReg 2 31 0o4000 |>.setReg 3 4 0o77

/-- What X1 leaves in the registers. (The save area holds free values, which no evaluation passes.) -/
theorem test_step_trpexe : nextHas (step trpexeX1) (fun t =>
    t.us == 0o740053400000 && t.ps == 0o106002000000 && t.getReg 2 30 == 0o3040 && t.getReg 3 4 == 0o77 &&
    t.pc == 0o60000) = true := by decide +kernel

/-! ### Witnesses: encoding and the step -/

theorem witness_DecodeOfEncode : Instr.wellFormed (.addS .t10 (r 4) (k 1)) = true ∧
    12 ≤ 4 * Instr.length (.addS .t10 (r 4) (k 1)) + (List.replicate 8 (0 : QW)).length ∧
    Instr.wellFormed (.addS .t10 (lc 1) (at' 0)) = true ∧
    12 ≤ 4 * Instr.length (.addS .t10 (lc 1) (at' 0)) + ([] : List QW).length := by decide +kernel

theorem witness_EncodeOfDecode : (∃ i, decodeWords 0o107200040000 0 0 = .ok i) ∧
    (∃ i, decodeWords 0o026700044100 0o23 0 = .ok i) ∧ (∃ i, decodeWords 0o400241024102 0o777 0o333 = .ok i) :=
  ⟨⟨_, rfl⟩, ⟨_, rfl⟩, ⟨_, rfl⟩⟩

/-- Does the word begin an instruction? -/
noncomputable def decodes (w : SW) : Bool := (decodeWords w 0 0).toBool

/-- The opcodes at the ends of the ranges of the opcode map. -/
theorem witness_ReservedOpcodesTrap_map :
    decodes 0o000100000000 = true ∧ decodes 0o010000000000 = true ∧ decodes 0o117000000000 = true ∧
    decodes 0o140000000000 = true ∧ decodes 0o161500000000 = true ∧ decodes 0o200000000000 = true ∧
    decodes 0o347700000000 = true ∧ decodes 0o400000000000 = true ∧ decodes 0o643700000000 = true ∧
    decodes 0o000000000000 = false ∧ decodes 0o000200000000 = false ∧ decodes 0o007700000000 = false ∧
    decodes 0o117100000000 = false ∧ decodes 0o137700000000 = false ∧ decodes 0o161600000000 = false ∧
    decodes 0o177700000000 = false ∧ decodes 0o350000000000 = false ∧ decodes 0o377700000000 = false ∧
    decodes 0o644000000000 = false ∧ decodes 0o777700000000 = false :=
  ⟨rfl, rfl, rfl, rfl, rfl, rfl, rfl, rfl, rfl, rfl, rfl, rfl, rfl, rfl, rfl, rfl, rfl, rfl, rfl, rfl⟩

theorem witness_ReservedOpcodesTrap : (∀ i, decodeWords 0 0 0 ≠ .ok i) ∧ State.reset.run = .running ∧
    State.reset.outOfDomain = none ∧ State.reset.pendingInterrupt = none ∧ Ps.tracePend State.reset.ps = false ∧
    State.reset.stage2.fetch3 = .ok (0, 0, 0) :=
  ⟨fun i h => (by
    have : (decodeWords 0 0 0).toBool = false := by decide +kernel
    rw [h] at this
    cases this), rfl, by decide +kernel, by decide +kernel, rfl, rfl⟩

/-- What `StepRunsTheDecodedInstruction` asks of the state. -/
def Steps (s : State) : Prop :=
  s.run = .running ∧ Ps.emulation s.ps = 0 ∧ Us.legal s.us = true ∧
  (∀ j : Fin 8, j.val < (Ps.prio s.ps).toNat → field (s.intPend[j] &&& s.intEnb[j]) 0 32 = 0) ∧ Ps.tracePend s.ps = false

theorem witness_StepRunsTheDecodedInstruction : Steps p950 ∧ p950.stage2.fetch3 = .ok (0o110100040000, 0, 0) ∧
    decodeWords 0o110100040000 0 0 = .ok (.rps (r 4) (r 0)) :=
  ⟨⟨rfl, rfl, rfl, by decide +kernel, rfl⟩, rfl, rfl⟩

/-- A waiting state; and a running one with `TRACE_PEND` (bit 15). -/
theorem witness_StagesBeforeTheInstruction :
    { exe with run := .halted }.run = .halted ∧ exe.run ≠ .halted ∧
    Ps.emulation exe.ps = 0 ∧ Us.legal exe.us = true ∧
    (∀ j : Fin 8, j.val < (Ps.prio exe.ps).toNat → field (exe.intPend[j] &&& exe.intEnb[j]) 0 32 = 0) ∧
    { exe with run := .waiting }.run = .waiting ∧ exe.run = .running ∧ Ps.tracePend 0o042007000000 = true :=
  ⟨rfl, by decide +kernel, rfl, rfl, by decide +kernel, rfl, rfl, rfl⟩

/-- A state with one interrupt vector, that of level `i` bit `j`, usable, and `w` pending and enabled at that level. -/
def interrupted (i : Fin 8) (j : Nat) (w : SW) : State :=
  let s : State := small 0o042703000000 State.reset.us regs
    [(BitVec.ofNat 34 (0o20000 + 12 * (32 * i.val + j)), 0o31000), (BitVec.ofNat 34 (0o20004 + 12 * (32 * i.val + j)), 0o740000000000),
      (BitVec.ofNat 34 (0o20010 + 12 * (32 * i.val + j)), 0o042003000000)]
  { s with intPend := s.intPend.set i w, intEnb := s.intEnb.set i 0o777777777760 }

/-- The hypotheses of `InterruptIsAccepted` for level `i` bit `j`. -/
def Interrupts (s v : State) (i : Fin 8) (j : Nat) (h us ps : SW) (sps : List Span) : Prop :=
  s.run ≠ .halted ∧ Ps.emulation s.ps = 0 ∧ Us.legal s.us = true ∧
  i.val < (Ps.prio s.ps).toNat ∧ j < 32 ∧ bitAt (s.intPend[i] &&& s.intEnb[i]) j = true ∧
  (∀ k : Fin 8, k < i → field (s.intPend[k] &&& s.intEnb[k]) 0 32 = 0) ∧
  (∀ k, k < j → bitAt (s.intPend[i] &&& s.intEnb[i]) k = false) ∧
  s.vecRead (BitVec.ofNat 30 (0o20000 + 12 * (32 * i.val + j))) = .ok h ∧
  s.vecRead (BitVec.ofNat 30 (0o20004 + 12 * (32 * i.val + j))) = .ok us ∧
  s.vecRead (BitVec.ofNat 30 (0o20010 + 12 * (32 * i.val + j))) = .ok ps ∧
  field h 34 2 = 0 ∧ 128 ≤ (addrOfWord h).toNat ∧ Us.legal us = true ∧
  v = (s.setUs us).setPs (Ps.partialLoad s.ps ps) ∧ (v.sp + 20).toInt ≤ v.sl.toInt ∧
  v.locateRun .write .cur .s 5 (addrOfWord v.sp) = .ok sps

theorem witness_InterruptIsAccepted_first : ∃ v h us ps sps, Interrupts (interrupted 0 0 0o400000000000) v 0 0 h us ps sps :=
  ⟨_, _, _, _, _, by decide +kernel, rfl, rfl, by decide +kernel, by decide +kernel, rfl, by decide +kernel, by decide +kernel,
    rfl, rfl, rfl, rfl, by decide +kernel, rfl, rfl, by decide +kernel, rfl⟩

theorem witness_InterruptIsAccepted_last : ∃ v h us ps sps, Interrupts (interrupted 6 31 0o20) v 6 31 h us ps sps :=
  ⟨_, _, _, _, _, by decide +kernel, rfl, rfl, by decide +kernel, by decide +kernel, rfl, by decide +kernel, by decide +kernel,
    rfl, rfl, rfl, rfl, by decide +kernel, rfl, rfl, by decide +kernel, rfl⟩

/-! ### Paged states -/

/-- A state under paging in both spaces: one segment, its page table at 40000, the pages of `pages` mapped to themselves with
their ACCESS bits. -/
def paged (ps : SW) (pages : List (PAddr × BitVec 6)) (ws : List (PAddr × SW)) : State :=
  let s := small ps State.reset.us regs
    ((0o10000, 0o400000000010) :: pages.map (fun p => (0o40000 + 4 * p.1, 1#1 ++ 0#6 ++ p.2 ++ p.1.setWidth 23)) ++ ws)
  { s with execStp := 0o10000, execStl := 0o10004, userStp := 0o10000, userStl := 0o10004 }

/-- The hypotheses on the three words of `StepRunsTheDecodedInstruction`. -/
def ThreeWords (s : State) (pa : Fin 3 → PAddr) (acc : Fin 3 → Option (BitVec 6)) : Prop :=
  128 ≤ s.pc.toNat ∧ s.pc.toNat < 2 ^ 30 - 8 ∧
  ∀ k : Fin 3, s.translate (bitAt s.ps 16) (BitVec.ofNat 30 (s.pc.toNat + 4 * k.val)) = .ok (pa k, acc k) ∧
    (acc k = none ∨ ∃ a, acc k = some a ∧ bitAt a 0 = true) ∧ s.backed (pa k) = true

/-- The last two single-words of page 2 and the first of page 3, which lie in the physical pages 5 and 9. -/
def remapped : State :=
  { paged psExec [] [(0o40010, 1#1 ++ 0#6 ++ 0b110100#6 ++ 5#23), (0o40014, 1#1 ++ 0#6 ++ 0b110100#6 ++ 9#23),
      (0o27770, 0o110100040000)] with pc := 0o13770 }

theorem witness_StepRunsTheDecodedInstruction_paged : ∃ pa acc, Steps remapped ∧ ThreeWords remapped pa acc ∧
    decodeWords (remapped.physS (pa 0)) (remapped.physS (pa 1)) (remapped.physS (pa 2)) = .ok (.rps (r 4) (r 0)) := by
  refine ⟨fun k => if k = 2 then 0o44000 else 0o27770 + 4 * BitVec.ofNat 34 k.val, fun _ => some 0b110100,
    ⟨rfl, rfl, rfl, by decide +kernel, rfl⟩, ⟨by decide +kernel, by decide +kernel, fun k => ?_⟩, rfl⟩
  match k with
  | 0 => exact ⟨rfl, .inr ⟨_, rfl, rfl⟩, rfl⟩
  | 1 => exact ⟨rfl, .inr ⟨_, rfl, rfl⟩, rfl⟩
  | 2 => exact ⟨rfl, .inr ⟨_, rfl, rfl⟩, rfl⟩

theorem witness_StepRunsTheDecodedInstruction_absolute : ∃ pa acc, ThreeWords p950 pa acc :=
  ⟨fun k => 0o40000 + 4 * BitVec.ofNat 34 k.val, fun _ => none, by decide +kernel, by decide +kernel, fun k =>
    match k with
    | 0 => ⟨rfl, .inl rfl, rfl⟩
    | 1 => ⟨rfl, .inl rfl, rfl⟩
    | 2 => ⟨rfl, .inl rfl, rfl⟩⟩

theorem witness_FetchFaultsAreTaken_top : Steps { exe with pc := 0o7777777770 } ∧
    2 ^ 30 - 8 ≤ { exe with pc := 0o7777777770 }.pc.toNat := ⟨⟨rfl, rfl, rfl, by decide +kernel, rfl⟩, by decide +kernel⟩

theorem witness_FetchFaultsAreTaken_registers : Steps { exe with pc := 0o174 } ∧ { exe with pc := 0o174 }.pc.toNat < 128 :=
  ⟨⟨rfl, rfl, rfl, by decide +kernel, rfl⟩, by decide +kernel⟩

/-- The last two words of a page with INSTRUCTIONS, and the first of a page without: the third word (`k` = 2) faults. -/
def crossing : State := { paged psExec [(2, 0b110100), (3, 0b010100)] [] with pc := 0o13770 }

/-- The hypotheses of the last clause of `FetchFaultsAreTaken` for the third word. -/
def ThirdWord (s : State) (va : VAddr) : Prop :=
  Steps s ∧ 128 ≤ s.pc.toNat ∧ s.pc.toNat < 2 ^ 30 - 8 ∧ va = BitVec.ofNat 30 (s.pc.toNat + 4 * 2) ∧
  ∀ m : Fin 3, m < 2 → ∃ w, s.instrFetch (BitVec.ofNat 30 (s.pc.toNat + 4 * m.val)) = .ok w

theorem witness_FetchFaultsAreTaken_access : ∃ pa a, ThirdWord crossing 0o14000 ∧
    crossing.translate (Ps.crntMode crossing.ps) 0o14000 = .ok (pa, some a) ∧ bitAt a 0 = false := by
  refine ⟨_, _, ⟨⟨rfl, rfl, rfl, by decide +kernel, rfl⟩, by decide +kernel, by decide +kernel, rfl, ?_⟩, rfl, rfl⟩
  intro m hm
  match m, hm with
  | 0, _ => exact ⟨_, rfl⟩
  | 1, _ => exact ⟨_, rfl⟩
  | 2, h => exact absurd h (by decide)

/-- The page after the first is not mapped: the third word does not translate. -/
def unmapped : State := { paged psExec [(2, 0b110100)] [] with pc := 0o13770 }

theorem witness_FetchFaultsAreTaken_page : ∃ parm, ThirdWord unmapped 0o14000 ∧
    unmapped.translate (Ps.crntMode unmapped.ps) 0o14000 = .error (.hard .pgFault parm) := by
  refine ⟨_, ⟨⟨rfl, rfl, rfl, by decide +kernel, rfl⟩, by decide +kernel, by decide +kernel, rfl, ?_⟩, rfl⟩
  intro m hm
  match m, hm with
  | 0, _ => exact ⟨_, rfl⟩
  | 1, _ => exact ⟨_, rfl⟩
  | 2, h => exact absurd h (by decide)

/-- No memory behind the first word fetched; and none behind the tables. -/
theorem witness_FetchFaultsAreTaken_absent : ∃ pa f, Steps { exe with physMem := [] } ∧
    128 ≤ exe.pc.toNat ∧ exe.pc.toNat < 2 ^ 30 - 8 ∧
    { exe with physMem := [] }.translate (Ps.crntMode exe.ps) exe.pc = .ok (pa, none) ∧
    { exe with physMem := [] }.backed pa = false ∧
    { unmapped with physMem := [] }.translate (Ps.crntMode unmapped.ps) unmapped.pc = .error (.fault f) :=
  ⟨_, _, ⟨rfl, rfl, rfl, by decide +kernel, rfl⟩, by decide +kernel, by decide +kernel, rfl, rfl, rfl⟩

/-! ### Witnesses: exceptions -/

/-- A state whose vector at `va` holds `h`, `us`, `ps`, and whose `NESTED_VEC` is usable if `n` holds. -/
def vectored (va : PAddr) (h us ps : SW) (n : Bool) : State :=
  small psUser State.reset.us regs
    ([(va, h), (va + 4, us), (va + 8, ps)] ++
      if n then [(0o14000, 0o30000), (0o14004, 0o740000000000), (0o14010, 0o042003000000)] else [])

/-- The hypotheses of `HardTrapEntry`. -/
def Enters (s v : State) (k : Nat) (h us ps : SW) (sps : List Span) : Prop :=
  k < 170 ∧ s.vecRead (BitVec.ofNat 30 (0o14000 + 12 * k)) = .ok h ∧ s.vecRead (BitVec.ofNat 30 (0o14004 + 12 * k)) = .ok us ∧
  s.vecRead (BitVec.ofNat 30 (0o14010 + 12 * k)) = .ok ps ∧ field h 34 2 = 0 ∧ 128 ≤ (addrOfWord h).toNat ∧
  Us.legal us = true ∧ v = { s with us := us, ps := setBit (setField ps 4 (field s.ps 0 4)) 17 (bitAt s.ps 16) } ∧
  (v.sp + 24).toInt ≤ v.sl.toInt ∧ v.locateRun .write .cur .s 6 (addrOfWord v.sp) = .ok sps

theorem witness_HardTrapEntry : ∃ v us ps sps,
    Enters (vectored 0o14124 0o30000 0o740000000000 0o042003000000 false) v 7 0o30000 us ps sps :=
  ⟨_, _, _, _, by decide +kernel, rfl, rfl, rfl, rfl, by decide +kernel, rfl, rfl, by decide +kernel, rfl⟩

/-- The lowest handler address, and the last vector. -/
theorem witness_HardTrapEntry_last : ∃ v us ps sps,
    Enters (vectored 0o17754 0o200 0o740000000000 0o042003000000 false) v 169 0o200 us ps sps :=
  ⟨_, _, _, _, by decide +kernel, rfl, rfl, rfl, rfl, by decide +kernel, rfl, rfl, by decide +kernel, rfl⟩

/-- The hypotheses of `NestedTrapAndDoubleFault`: the vector that cannot be used. -/
def Fails (s : State) (k : Nat) (h us ps : SW) : Prop :=
  k < 170 ∧ s.vecRead (BitVec.ofNat 30 (0o14000 + 12 * k)) = .ok h ∧ s.vecRead (BitVec.ofNat 30 (0o14004 + 12 * k)) = .ok us ∧
  s.vecRead (BitVec.ofNat 30 (0o14010 + 12 * k)) = .ok ps ∧
  (field h 34 2 ≠ 0 ∨ (addrOfWord h).toNat < 128 ∨ Us.legal us = false)

/-- A misaligned handler, with a usable `NESTED_VEC`; a handler in the registers; an illegal `USER_STATUS`; `k` = 0. -/
theorem witness_NestedTrapAndDoubleFault : ∃ us ps v us0 ps0 sps,
    Fails (vectored 0o14124 0o30001 0o740000000000 0 true) 7 0o30001 us ps ∧
    Enters (vectored 0o14124 0o30001 0o740000000000 0 true) v 0 0o30000 us0 ps0 sps :=
  ⟨_, _, _, _, _, _, ⟨by decide +kernel, rfl, rfl, rfl, by decide +kernel⟩,
    by decide +kernel, rfl, rfl, rfl, rfl, by decide +kernel, rfl, rfl, by decide +kernel, rfl⟩

theorem witness_NestedTrapAndDoubleFault_each : ∃ us ps us' ps' us'' ps'',
    Fails (vectored 0o14124 0o174 0o740000000000 0 false) 7 0o174 us ps ∧
    Fails (vectored 0o14124 0o30000 0o760000000000 0 false) 7 0o30000 us' ps' ∧
    Fails (vectored 0o14000 0o174 0 0 false) 0 0o174 us'' ps'' :=
  ⟨_, _, _, _, _, _, ⟨by decide +kernel, rfl, rfl, rfl, by decide +kernel⟩,
    ⟨by decide +kernel, rfl, rfl, rfl, by decide +kernel⟩, ⟨by decide +kernel, rfl, rfl, rfl, by decide +kernel⟩⟩

/-- The hypotheses of `SoftTrapEntry` for a vector that can be used (index 5) and the words of a save area. -/
def EntersSoft (s v : State) (us : SW) (ws : List (Option SW)) (sps : List Span) : Prop :=
  s.memRead .cur (BitVec.ofNat 30 (0o6000 + 12 * SoftVec.bndChk.index)) .s = .ok 0o50000 ∧
  s.memRead .cur (BitVec.ofNat 30 (0o6004 + 12 * SoftVec.bndChk.index)) .s = .ok us ∧
  field (0o50000 : SW) 34 2 = 0 ∧ 128 ≤ (addrOfWord 0o50000).toNat ∧ Us.legal us = true ∧
  v = { s with us := us, freeCount := (Rule.filled s.freeCount ws).2 } ∧
  (v.sp + 48).toInt ≤ v.sl.toInt ∧ v.locateRun .write .cur .s 12 (addrOfWord v.sp) = .ok sps

/-- A destination and two double-word sources (two undefined words); no destination, no S1 and a quarter-word (six). -/
theorem witness_SoftTrapEntry : ∃ v v' us sps sps',
    EntersSoft (vectored 0o6074 0o50000 0o740000000000 0 false) v us
      [some 0o100, none, none, some 1, some 2, some 3, some 4, some 0, some 0, some 0, some 0, some 0] sps ∧
    EntersSoft (vectored 0o6074 0o50000 0o740000000000 0 false) v' us
      [none, none, none, none, none, some 0o777000000000, none, some 0, some 0, some 0, some 0, some 0] sps' ∧
    v.freeCount = 2 ∧ v'.freeCount = 6 :=
  ⟨_, _, _, _, _, ⟨rfl, rfl, rfl, by decide +kernel, rfl, rfl, by decide +kernel, rfl⟩,
    ⟨rfl, rfl, rfl, by decide +kernel, rfl, rfl, by decide +kernel, rfl⟩, rfl, rfl⟩

theorem witness_SoftTrapEntry_fatal :
    exe.memRead .cur (BitVec.ofNat 30 (0o6000 + 12 * SoftVec.fltOvfl.index)) .s = .ok 0 ∧
    exe.memRead .cur (BitVec.ofNat 30 (0o6004 + 12 * SoftVec.fltOvfl.index)) .s = .ok 0 ∧ (addrOfWord 0).toNat < 128 :=
  ⟨rfl, rfl, by decide +kernel⟩

/-- Words that end at the stack limit. -/
theorem witness_PushedWordsLieInOrder : ∃ t, Memory.wf exe.mem = true ∧
    (if Ps.crntMode exe.ps then exe.execStp else exe.userStp).toNat < 128 ∧ 128 ≤ (addrOfWord exe.sp).toNat ∧
    (addrOfWord exe.sp).toNat + 4 * ([1, 2, 3] : List SW).length ≤ 2 ^ 30 ∧ exe.pushWords [1, 2, 3] = .ok t :=
  ⟨_, rfl, by decide +kernel, by decide +kernel, by decide +kernel, rfl⟩

theorem witness_PrivilegedInstructionsTrap : Ps.crntMode usr.ps = false := rfl

theorem witness_UnusedDescriptorsTrap : k 1 ≠ noOD ∧ Ps.crntMode exe.ps = true := by decide +kernel

theorem witness_EveryStepKeepsInv : p950.Inv ∧ nextHas (step p950) (fun _ => true) = true :=
  ⟨⟨by decide +kernel, rfl, rfl, rfl, rfl, by decide +kernel, rfl, rfl, rfl, rfl⟩, by decide +kernel⟩

/-- A user's step that stays in user mode, and one that leaves it. -/
theorem witness_UserStepKeepsPrivilegedRegisters : Ps.crntMode p951.ps = false ∧
    nextHas (step p951) (fun _ => true) = true := ⟨rfl, by decide +kernel⟩

theorem witness_UserModeIsLeftThroughVectors : Ps.crntMode p950.ps = false ∧
    nextHas (step p950) (fun t => Ps.crntMode t.ps) = true := ⟨rfl, by decide +kernel⟩

/-! ### Witnesses: memory and operands -/

/-- Places in memory and in registers, double-words included; the last word before register 31's. -/
theorem witness_StorageReadsBack : Memory.wf exe.mem = true ∧ (∃ sp, exe.locate .write .cur 0o4000 .q = .ok sp) ∧
    (∃ sp, exe.locate .write .cur 0o4000 .d = .ok sp ∧ sp.fst ≠ sp.snd) ∧
    (∃ sp, exe.locate .write .cur 0o170 .d = .ok sp ∧ sp.fst ≠ sp.snd) ∧
    (∃ sp, exe.locate .read .cur 0o4000 .s = .ok sp) ∧ (∃ q, exe.locate .read .cur (vaAdd 0o4000 3) .q = .ok q) ∧
    (∃ h, exe.locate .read .cur (vaAdd 0o4000 2) .h = .ok h) :=
  ⟨rfl, ⟨_, rfl⟩, ⟨_, rfl, by decide +kernel⟩, ⟨_, rfl, by decide +kernel⟩, ⟨_, rfl⟩, ⟨_, rfl⟩, ⟨_, rfl⟩⟩

/-- Executive mode under paging, page 2 (10000 to 13777) for instructions only, page 3 not mapped. -/
def codePage : State := paged psExec [(2, 0b100000)] []

/-- A misaligned address, a user's use of the previous context, a page fault, and an address without memory. -/
theorem witness_AccessFaultsInOrder : (0o4001 : VAddr).toNat % 2 ≠ 0 ∧ Ps.crntMode usr.ps = false ∧
    (∃ e, codePage.translate true 0o14000 = .error e) ∧
    (∃ pa, { exe with physMem := [] }.translate true 0o4000 = .ok (pa, none) ∧ { exe with physMem := [] }.backed pa = false) :=
  ⟨by decide +kernel, rfl, ⟨_, rfl⟩, ⟨_, rfl, rfl⟩⟩

/-- Does a reference of a kind fail on a page with these ACCESS bits (R147)? -/
def refuses (acc : Access) (a : BitVec 6) : Bool :=
  match (paged psExec [(2, a)] []).locate acc .cur 0o12000 .s with
  | .error (.hard .addressMd _) => true
  | _ => false

/-- The rows of the table of R147: for instructions only, for data read-only, write-only, by either write bit, and an I/O page. -/
theorem test_access_bits :
    [Access.fetch, .read, .write, .codeRead, .codeWrite, .io].map (fun acc =>
      [0b100000, 0b010000, 0b010100, 0b010001, 0b010110, 0b100100, 0b000100].map (refuses acc)) =
    [[false, true, true, true, true, false, true], [true, false, false, false, true, true, true],
     [true, true, false, false, false, true, true], [false, true, true, true, true, false, true],
     [true, true, true, true, true, false, true], [true, true, true, true, true, true, false]] := by decide +kernel

/-- A permitted reference names the translated address (R150): pages 2 and 3 lie in the physical pages 5 and 9. -/
theorem test_locate_translated : remapped.locate .read .cur 0o13774 .d = .ok ⟨.phys 0o27774, .phys 0o44000⟩ ∧
    remapped.locate .write .cur 0o10002 .h = .ok ⟨.phys 0o24002, .phys 0o24002⟩ ∧
    remapped.locate .read .cur 0o174 .s = .ok ⟨.reg 1 0o174, .reg 1 0o174⟩ := ⟨rfl, rfl, rfl⟩

/-- All of the physical address space is backed in the small states. -/
theorem backed_of_reset {s : State} (h : s.physMem = Config.resetPhysMem) (b : PAddr) : s.backed b = true := by
  have := b.isLt
  simp [State.backed, h, Config.resetPhysMem]
  omega

theorem witness_TranslationWalksTheTables : (∀ b : PAddr, codePage.backed b = true) ∧ exe.execStp.toNat < 128 ∧
    ¬ codePage.execStp.toNat < 128 :=
  ⟨backed_of_reset rfl, by decide +kernel, by decide +kernel⟩

/-- Shadow registers (`USE_SHADOW_PREV`, bit 8) and none. -/
theorem witness_LowAddressesAreRegisters : Ps.crntMode exe.ps = true ∧ bitAt exe.ps 8 = false ∧ bitAt (0o043003000000 : SW) 8 = true ∧
    (if bitAt (0o043003000000 : SW) 17 then exe.execStp else exe.userStp).toNat < 128 ∧ (∀ b : PAddr, exe.backed b = true) :=
  ⟨rfl, rfl, rfl, by decide +kernel, backed_of_reset rfl⟩

theorem witness_BasedOperands : ∃ l ix, exe.evalOD (.short (.indexed 8 1)) = .ok (.loc l) ∧ l.rd = false ∧
    exe.memRead .cur l.va .s = .ok ix ∧ Ps.crntMode usr.ps = false := ⟨_, _, rfl, rfl, rfl, rfl⟩

/-- Index register 0, the PC (3) and another (8); with the P-bit of the pointer too. -/
theorem witness_IndirectOperands :
    (exe.putS 0o4000 0o3000).memRead .cur 0o4000 .s = .ok 0o3000 ∧ field (0o3000 : SW) 1 5 = 0 ∧
    (exe.putS 0o4000 0o030000003000).memRead .cur 0o4000 .s = .ok 0o030000003000 ∧ field (0o030000003000 : SW) 1 5 = 3 ∧
    (exe.putS 0o4000 0o500000003000).memRead .cur 0o4000 .s = .ok 0o500000003000 ∧
    bitAt (0o500000003000 : SW) 0 = true ∧ field (0o500000003000 : SW) 1 5 = 8 ∧
    exe.memRead .cur (BitVec.ofNat 30 (4 * (field (0o500000003000 : SW) 1 5).toNat)) .s = .ok 0o4000 :=
  ⟨rfl, rfl, rfl, rfl, rfl, rfl, rfl, rfl⟩

/-- The address of the pointer at 4000 in every form: variable-based on register 8, indexed by register 12 and by the
single-word of memory that register 8 points to, scaled by 2; and a user, who may not use the P-bit of the word. -/
theorem witness_IndirectOperands_forms :
    (0o4000 : VAddr) = BitVec.ofInt 30 ((exe.getReg exe.file 8).toNat + (0 : BitVec 25).toInt) ∧
    (∃ n, (.reg 12 : Short) = .reg n ∧ (0o6000 : SW) = if n = 3 then pcWord exe.pc else exe.getReg exe.file n) ∧
    (0o4000 : VAddr) = BitVec.ofInt 30 ((0o7777776000 : VAddr).toNat + (0o6000 : SW).toNat * 2 ^ (0 : BitVec 2).toNat) ∧
    (∃ l so', (exe.putS 0o4000 0o1000).evalOD (.short (.indexed 8 0)) = .ok (.loc l) ∧ l.rd = false ∧
      (exe.putS 0o4000 0o1000).memRead .cur l.va .s = .ok so' ∧
      (0o4000 : VAddr) = BitVec.ofInt 30 ((0o2000 : VAddr).toNat + so'.toNat * 2 ^ (1 : BitVec 2).toNat)) ∧
    Ps.crntMode usr.ps = false :=
  ⟨by decide +kernel, ⟨12, rfl, rfl⟩, by decide +kernel, ⟨_, 0o1000, rfl, rfl, rfl, by decide +kernel⟩, rfl⟩

/-- `ADD RTB,X,Y` (T = 11) and `ADD X,RTA,Y` (T = 01): the operands of each argument (R207). -/
theorem test_top_arguments : exe.evalTop .t11 (r 5) (k 1) = .ok ⟨.loc (regLoc 6), .loc (regLoc 5), .imm .sx 1⟩ ∧
    exe.evalTop .t01 (r 5) (k 1) = .ok ⟨.loc (regLoc 5), .loc (regLoc 4), .imm .sx 1⟩ := ⟨rfl, rfl⟩

/-- A double-word at register 31 passes the end of the registers, one at register 30 does not. -/
theorem witness_OperandAccess : (regLoc 31).rd = true ∧ 128 < (regLoc 31).va.toNat + Prec.d.qws ∧
    (regLoc 30).va.toNat + Prec.d.qws ≤ 128 := by decide +kernel

theorem witness_JumpDestinations : (∃ x, exe.evalOD (k 1) = .ok x) ∧ (∃ x, exe.evalOD (at' 0o200) = .ok x) ∧
    (∃ x, exe.evalOD (at' 0o174) = .ok x) ∧ (∃ x, exe.evalOD (.based0 (.fixedBased true false 0 false 0o4000)) = .ok x) :=
  ⟨⟨_, rfl⟩, ⟨_, rfl⟩, ⟨_, rfl⟩, ⟨_, rfl⟩⟩

/-! ### Witnesses: three-address and two-address instructions -/

/-- The hypotheses of `Top3Gives`. -/
def Met3 (s : State) (pd p1 p2 : Prec) (t : TMode) (o1 o2 : OD) (a : TopArgs) (d : Span) (x : BitVec p1.bits)
    (y : BitVec p2.bits) : Prop :=
  Memory.wf s.mem = true ∧ Us.legal s.us = true ∧ s.evalTop t o1 o2 = .ok a ∧ s.checkWrite a.dest pd = .ok d ∧
  s.readOp a.s1 p1 = .ok x ∧ s.readOp a.s2 p2 = .ok y

/-- The hypotheses of `Xop2Gives`. -/
def Met2 (s : State) (p1 p2 : Prec) (o1 o2 : OD) (x1 x2 : Operand) (d : Span) (y : BitVec p2.bits) : Prop :=
  Memory.wf s.mem = true ∧ Us.legal s.us = true ∧ s.evalOD o1 = .ok x1 ∧ s.evalOD o2 = .ok x2 ∧
  s.checkWrite x1 p1 = .ok d ∧ s.readOp x2 p2 = .ok y

/-- Long constants are three-address sources of every precision, with RTA as destination, whether traps are taken or not. -/
theorem met3_consts (s : State) (hs : s = exe ∨ s = trp) (pd p1 p2 : Prec) (w1 w2 : SW) :
    ∃ a d, Met3 s pd p1 p2 .t10 (lc w1) (lc w2) a d (immValue .zx w1 p1) (immValue .zx w2 p2) := by
  rcases hs with rfl | rfl <;> cases pd <;> exact ⟨_, _, rfl, rfl, rfl, rfl, rfl, rfl⟩

/-- As two-address sources. -/
theorem met2_consts (s : State) (hs : s = exe ∨ s = trp) (p1 p2 : Prec) (w : SW) :
    ∃ x1 x2 d, Met2 s p1 p2 (r 4) (lc w) x1 x2 d (immValue .zx w p2) := by
  rcases hs with rfl | rfl <;> cases p1 <;> exact ⟨_, _, _, rfl, rfl, rfl, rfl, rfl, rfl⟩

/-- The hypotheses of `Top3Gives` with a source register, a source in memory, and a destination in memory. -/
theorem met3_memory : ∃ a d x y, Met3 exe .s .s .s .t00 (at' 0o4000) (.short (.indexed 8 1)) a d x y :=
  ⟨_, _, _, _, rfl, rfl, rfl, rfl, rfl, rfl⟩

/-- The answer is a value. -/
def isValue {α : Type} : Answer α → Bool
  | .value _ => true
  | .trap _ => false

/-- MAXNUM + 1 traps or overflows, the sum of R310 does neither. -/
theorem witness_IntegerSums : ∃ a d b e c f, Met3 exe .q .q .q .t10 (lc 0o333) (lc 0o777) a d 0o333 0o777 ∧
    isValue (Rule.sum exe.us (0o333 : QW) 0o777 false) = true ∧
    Met3 trp .s .s .s .t10 (lc 0o377777777777) (lc 1) b e 0o377777777777 1 ∧
    isValue (Rule.sum trp.us (0o377777777777 : SW) 1 false) = false ∧
    Met3 exe .s .s .s .t10 (lc 0o377777777777) (lc 1) c f 0o377777777777 1 ∧
    isValue (Rule.sum exe.us (0o377777777777 : SW) 1 false) = true :=
  ⟨_, _, _, _, _, _, ⟨rfl, rfl, rfl, rfl, rfl, rfl⟩, rfl, ⟨rfl, rfl, rfl, rfl, rfl, rfl⟩, rfl, ⟨rfl, rfl, rfl, rfl, rfl, rfl⟩, rfl⟩

/-- The most negative number negated, MAXNUM incremented, and 1000 to a quarter-word trap; the others are values. -/
theorem witness_IntegerUnaryOperations : ∃ x1 x2 d z1 z2 e, Met2 trp .q .q (r 4) (lc 0o400) x1 x2 d 0o400 ∧
    isValue (Rule.abs trp.us (0o400 : QW)) = false ∧ isValue (Rule.sum trp.us (0 : QW) (~~~0o400) true) = false ∧
    isValue (Rule.abs exe.us (0o400 : QW)) = true ∧ Met2 trp .q .s (r 4) (lc 0o1000) z1 z2 e 0o1000 ∧
    isValue (Rule.int trp.us 9 (0o1000 : SW).toInt) = false ∧ isValue (Rule.int trp.us 9 (0o377 : SW).toInt) = true :=
  ⟨_, _, _, _, _, _, ⟨rfl, rfl, rfl, rfl, rfl, rfl⟩, by decide +kernel, by decide +kernel, by decide +kernel,
    ⟨rfl, rfl, rfl, rfl, rfl, rfl⟩, by decide +kernel, by decide +kernel⟩

theorem witness_IntegerProducts : ∃ a d b e, Met3 trp .q .q .q .t10 (lc 0o20) (lc 0o20) a d 0o20 0o20 ∧
    isValue (Rule.int trp.us 9 ((0o20 : QW).toInt * (0o20 : QW).toInt)) = false ∧
    isValue (Rule.umult trp.us (0o20 : QW) 0o20) = false ∧ isValue (Rule.umult trp.us (0o777 : QW) 1) = true ∧
    Met3 exe .h .q .q .t10 (lc 0o20) (lc 0o20) b e 0o20 0o20 :=
  ⟨_, _, _, _, ⟨rfl, rfl, rfl, rfl, rfl, rfl⟩, by decide +kernel, by decide +kernel, by decide +kernel, rfl, rfl, rfl, rfl, rfl, rfl⟩

/-- A zero divisor, with and without the trap; MINNUM by -1; an ordinary division. -/
theorem witness_QuotientsAndRemainders : ∃ a d b e, Met3 trp .s .s .s .t10 (lc 7) (lc 0) a d 7 0 ∧
    isValue (Rule.divQuo trp.us 36 7 0) = false ∧ isValue (Rule.divQuo exe.us 36 7 0) = true ∧
    Met3 trp .s .s .s .t10 (lc 0o400000000000) (lc 0o777777777777) b e 0o400000000000 0o777777777777 ∧
    isValue (Rule.divQuo trp.us 36 (0o400000000000 : SW).toInt (0o777777777777 : SW).toInt) = false ∧
    isValue (Rule.divQuo trp.us 36 (-7) 2) = true ∧ isValue (Rule.divRem Rule.rem trp.us 36 (-7) 2) = true :=
  ⟨_, _, _, _, ⟨rfl, rfl, rfl, rfl, rfl, rfl⟩, by decide +kernel, by decide +kernel, ⟨rfl, rfl, rfl, rfl, rfl, rfl⟩,
    by decide +kernel, by decide +kernel, by decide +kernel⟩

/-- A division into two registers: with a value and with a trap. -/
theorem witness_Divisions : ∃ a l d e, Memory.wf trp.mem = true ∧ Us.legal trp.us = true ∧
    trp.evalTop .t10 (lc 7) (lc 2) = .ok a ∧ a.dest = .loc l ∧ trp.checkWriteLoc l .s = .ok d ∧
    trp.checkWriteLoc (l.next .s) .s = .ok e ∧ trp.readOp a.s1 .s = .ok 7 ∧ trp.readOp a.s2 .s = .ok 2 ∧
    isValue (Rule.divBoth trp.us 36 7 2) = true ∧ isValue (Rule.divBoth trp.us 36 7 0) = false ∧
    isValue (Rule.udiv trp.us (0o777777777777 : SW) (1 : QW)) = false ∧ isValue (Rule.udiv trp.us (7 : SW) (2 : SW)) = true :=
  ⟨_, _, _, _, rfl, rfl, rfl, rfl, rfl, rfl, rfl, rfl, by decide +kernel, by decide +kernel, by decide +kernel,
    by decide +kernel⟩

/-- Exponents 0, -1 and one beyond the width. -/
theorem witness_QuotientsByPowersOfTwo : ∃ a d, Met3 trp .q .q .q .t10 (lc 0o377) (lc 0o777) a d 0o377 0o777 ∧
    isValue (Rule.quo2 trp.us 9 (0o377 : QW).toInt (0o777 : QW).toInt) = false ∧
    isValue (Rule.quo2 trp.us 9 (0o377 : QW).toInt 0) = true ∧ isValue (Rule.quo2 trp.us 9 (0o377 : QW).toInt 0o377) = true :=
  ⟨_, _, ⟨rfl, rfl, rfl, rfl, rfl, rfl⟩, by decide +kernel, by decide +kernel, by decide +kernel⟩

/-- Two ordinary numbers, whose entry is the exact expression; zeros; and NAN (400..0), which traps when its mode is 0. -/
theorem witness_FloatSums : ∃ a d b e c f,
    Met3 exe .s .s .s .t10 (lc 0o201400000000) (lc 0o200400000000) a d 0o201400000000 0o200400000000 ∧
    fclass (0o201400000000 : SW) = .pos ∧ Rule.lookup Rule.addTable .pos .pos = .expr ∧
    Met3 exe .s .s .s .t10 (lc 0) (lc 0) b e 0 0 ∧ isValue (Rule.fadd .s exe.us (0 : SW) 0) = true ∧
    Met3 trp .s .s .s .t10 (lc 0o400000000000) (lc 0) c f 0o400000000000 0 ∧ fclass (0o400000000000 : SW) = .nan ∧
    isValue (Rule.deliverSym trp.us true 36 .nan) = false :=
  ⟨_, _, _, _, _, _, ⟨rfl, rfl, rfl, rfl, rfl, rfl⟩, by decide +kernel, by decide +kernel, ⟨rfl, rfl, rfl, rfl, rfl, rfl⟩,
    by decide +kernel, ⟨rfl, rfl, rfl, rfl, rfl, rfl⟩, by decide +kernel, by decide +kernel⟩

/-- The long forms: a double-word dividend, a half-word divisor of a single-word, a zero divisor. -/
theorem witness_FloatProductsAndQuotients : ∃ a d b e,
    Met3 exe .d .s .s .t10 (lc 0o201400000000) (lc 0o200400000000) a d 0o201400000000 0o200400000000 ∧
    Met3 trp .h .s .h .t10 (lc 0o201400000000) (lc 0) b e 0o201400000000 0 ∧ fclass (0 : HW) = .zero ∧
    Rule.lookup Rule.divTable .pos .zero = .NAN ∧ isValue (Rule.deliverSym trp.us true 18 .nan) = false ∧
    Rule.lookup Rule.mulTable .pos .neg = .expr :=
  ⟨_, _, _, _, ⟨rfl, rfl, rfl, rfl, rfl, rfl⟩, ⟨rfl, rfl, rfl, rfl, rfl, rfl⟩, by decide +kernel, by decide +kernel,
    by decide +kernel, by decide +kernel⟩

theorem witness_FloatScalesAndConversions : ∃ a d x1 x2 e z1 z2 f,
    Met3 exe .s .s .s .t10 (lc 0o201400000000) (lc 3) a d 0o201400000000 3 ∧
    Met2 exe .h .s (r 4) (lc 0o201400000000) x1 x2 e 0o201400000000 ∧ Met2 exe .s .q (r 4) (lc 5) z1 z2 f 5 ∧
    isValue (Rule.deliverWord exe.us (0o201400000000 : SW)) = true ∧ isValue (Rule.deliverWord trp.us (0o400000000000 : SW)) = false :=
  ⟨_, _, _, _, _, _, _, _, ⟨rfl, rfl, rfl, rfl, rfl, rfl⟩, ⟨rfl, rfl, rfl, rfl, rfl, rfl⟩, ⟨rfl, rfl, rfl, rfl, rfl, rfl⟩,
    by decide +kernel, by decide +kernel⟩

theorem witness_FloatsToIntegers : ∃ x1 x2 d, Met2 exe .q .s (r 4) (lc 0) x1 x2 d 0 ∧
    isValue (Rule.fix 0 9 .s exe.us 0) = true ∧ isValue (Rule.fix 0 9 .s exe.us (0o400000000000 : SW)) = true ∧
    isValue (Rule.fix 0 9 .s trp.us (0o400000000000 : SW)) = false :=
  ⟨_, _, _, ⟨rfl, rfl, rfl, rfl, rfl, rfl⟩, by decide +kernel, by decide +kernel, by decide +kernel⟩

/-! ### Witnesses: moves, flags, booleans, shifts -/

theorem witness_SingleMoves : ∃ x1 x2 d l e pa acc, Met2 exe .q .d (r 4) (at' 0o4000) x1 x2 d 0o123456701234000000040000 ∧
    exe.evalOD (at' 0o4000) = .ok (.loc l) ∧ (∃ y, exe.evalOD (lc 1) = .ok (.imm .zx y)) ∧ Ps.crntMode exe.ps = true ∧
    exe.checkWrite x1 .s = .ok e ∧ exe.translate (exe.space l.ctx) l.va = .ok (pa, acc) :=
  ⟨_, _, _, _, _, _, _, ⟨rfl, rfl, rfl, rfl, rfl, by decide +kernel⟩, rfl, ⟨_, rfl⟩, rfl, rfl, rfl⟩

/-- The hypotheses of `MovesMany`. -/
def MetMany (s : State) (p : Prec) (n : Nat) (o1 o2 : OD) (dst src : List Span) : Prop :=
  ∃ l1 l2, Memory.wf s.mem = true ∧ s.evalOD o1 = .ok (.loc l1) ∧ s.evalOD o2 = .ok (.loc l2) ∧
    l1.within (p.qws * n) ∧ l2.within (p.qws * n) ∧
    s.locateRun .write l1.ctx p n l1.va = .ok dst ∧ s.locateRun .read l2.ctx p n l2.va = .ok src

set_option maxRecDepth 8000 in
/-- Regions apart; regions that share storage; 32 registers, the whole file; a block of 128 quarter-words. -/
theorem witness_MultipleMoves : (∃ dst src, MetMany exe .s 2 (at' 0o5000) (at' 0o4000) dst src ∧
      (dst.all fun a => src.all fun b => a.fst != b.fst) = true) ∧
    (∃ dst src, MetMany exe .s 2 (at' 0o4004) (at' 0o4000) dst src ∧
      (dst.any fun a => src.any fun b => a.fst == b.fst) = true) ∧
    (∃ dst src, MetMany exe .s 32 (at' 0o5000) (r 0) dst src) ∧ (∃ dst src, MetMany exe .q 128 (at' 0o5000) (r 0) dst src) :=
  ⟨⟨_, _, ⟨_, _, rfl, rfl, rfl, nofun, nofun, rfl, rfl⟩, by decide +kernel⟩,
    ⟨_, _, ⟨_, _, rfl, rfl, rfl, nofun, nofun, rfl, rfl⟩, by decide +kernel⟩,
    ⟨_, _, _, _, rfl, rfl, rfl, nofun, fun _ => by decide +kernel, rfl, rfl⟩,
    ⟨_, _, _, _, rfl, rfl, rfl, nofun, fun _ => by decide +kernel, rfl, rfl⟩⟩

/-- `EXCH`, `SLR` and `SLRADR`: two locations of the same precision; an immediate. -/
theorem witness_MultipleMoves_exchange : ∃ x1 x2 d1 d2 a b l, Memory.wf exe.mem = true ∧ exe.evalOD (r 4) = .ok x1 ∧
    exe.evalOD (at' 0o4000) = .ok x2 ∧ exe.checkWrite x1 .s = .ok d1 ∧ exe.checkWrite x2 .s = .ok d2 ∧
    exe.readOp x1 .s = .ok a ∧ exe.readOp x2 .s = .ok b ∧ x2 = .loc l ∧ exe.evalOD (lc 1) = .ok (.imm .zx 1) :=
  ⟨_, _, _, _, _, _, _, rfl, rfl, rfl, rfl, rfl, rfl, rfl, rfl, rfl⟩

/-- `BNDSF.B` with its bounds in RTB and the next register, and with an immediate. -/
theorem witness_FlagResults : (∃ a l d lo v hi, Memory.wf exe.mem = true ∧ exe.evalTop .t10 (r 6) (k 5) = .ok a ∧
      a.s1 = .loc l ∧ exe.checkWrite a.dest .s = .ok d ∧ exe.readLoc l .s = .ok lo ∧ exe.readOp a.s2 .s = .ok v ∧
      exe.readLoc (l.next .s) .s = .ok hi) ∧
    (∃ a c w, exe.evalTop .t10 (k 1) (k 5) = .ok a ∧ a.s1 = .imm c w) ∧
    ∃ a d, Met3 exe .s .q .q .t10 (lc 7) (lc 0o400) a d 7 0o400 :=
  ⟨⟨_, _, _, _, _, _, rfl, rfl, rfl, rfl, rfl, rfl, rfl⟩, ⟨_, _, _, rfl, rfl⟩, ⟨_, _, rfl, rfl, rfl, rfl, rfl, rfl⟩⟩

theorem witness_LogicalOperations : ∃ a d x1 x2 e, Met3 exe .d .d .d .t10 (lc 7) (lc 5) a d 7 5 ∧
    Met2 exe .d .d (r 4) (lc 5) x1 x2 e 5 := ⟨_, _, _, _, _, ⟨rfl, rfl, rfl, rfl, rfl, rfl⟩, rfl, rfl, rfl, rfl, rfl, rfl⟩

/-- Shift counts 0, the width, beyond it and the most negative; an arithmetic shift that overflows. -/
theorem witness_ShiftsAndRotates : ∃ a d b e, Met3 trp .q .q .s .t10 (lc 0o377) (lc 0) a d 0o377 0 ∧
    Met3 trp .q .q .s .t10 (lc 0o377) (lc 0o400000000000) b e 0o377 0o400000000000 ∧
    isValue (Rule.ashift trp.us (0o377 : QW) 1) = false ∧ isValue (Rule.ashift trp.us (0o377 : QW) 0) = true ∧
    isValue (Rule.ashift trp.us (0o377 : QW) (-9)) = true ∧ isValue (Rule.ashift trp.us (0 : QW) 9) = true :=
  ⟨_, _, _, _, ⟨rfl, rfl, rfl, rfl, rfl, rfl⟩, ⟨rfl, rfl, rfl, rfl, rfl, rfl⟩, by decide +kernel, by decide +kernel,
    by decide +kernel, by decide +kernel⟩

/-- `DSHF` of a pair in registers, and of an immediate pair. -/
theorem witness_ShiftsAndRotates_double : (∃ a dst cnt l hi lo, Memory.wf exe.mem = true ∧
      exe.evalTop .t10 (r 8) (k 3) = .ok a ∧ exe.checkWrite a.dest .s = .ok dst ∧ exe.readOp a.s2 .s = .ok cnt ∧
      a.s1 = .loc l ∧ exe.readLoc l .s = .ok hi ∧ exe.readLoc (l.next .s) .s = .ok lo) ∧
    ∃ a dst cnt c w, Memory.wf exe.mem = true ∧ exe.evalTop .t10 (k 3) (lc 7) = .ok a ∧ exe.checkWrite a.dest .s = .ok dst ∧
      exe.readOp a.s1 .s = .ok cnt ∧ a.s2 = .imm c w :=
  ⟨⟨_, _, _, _, _, _, rfl, rfl, rfl, rfl, rfl, rfl, rfl⟩, _, _, _, _, _, rfl, rfl, rfl, rfl, rfl⟩

/-! ### Witnesses: skips and jumps -/

/-- The first word beyond the registers: a skip forward and one backward into the registers. -/
theorem witness_Skips : (∃ x1 x2 w a b, Memory.wf exe.mem = true ∧ exe.evalOD (r 4) = .ok x1 ∧ exe.evalOD (k 7) = .ok x2 ∧
      128 ≤ (Rule.target exe.pc (2 : BitVec 4).toInt).toNat ∧ exe.checkWrite x1 .s = .ok w ∧ exe.readOp x1 .s = .ok a ∧
      exe.readOp x2 .s = .ok b ∧ isValue (Rule.int exe.us 36 (a.toInt + 1)) = true) ∧
    (Rule.target 0o200 (0b1111 : BitVec 4).toInt).toNat < 128 ∧ 128 ≤ (Rule.target 0o200 (0 : BitVec 4).toInt).toNat ∧
    (trp.putReg 4 0o377777777777).readOp (.loc (regLoc 4)) .s = .ok 0o377777777777 ∧
    isValue (Rule.int trp.us 36 ((0o377777777777 : SW).toInt + 1)) = false ∧
    isValue (Rule.int trp.us 36 ((0o400000000000 : SW).toInt + -1)) = false :=
  ⟨⟨_, _, _, _, _, rfl, rfl, rfl, by decide +kernel, rfl, rfl, rfl, by decide +kernel⟩, by decide +kernel, by decide +kernel, rfl,
    by decide +kernel, by decide +kernel⟩

/-- Jumps both ways, a comparison of two registers, a hop, and values inside and outside bounds. -/
theorem witness_Jumps : (∃ l d d' a b, exe.evalOD (r 4) = .ok (.loc l) ∧ exe.jumpDest (.rel 0o7776) = .ok d ∧
      exe.jumpDest (.gen (at' 0o200)) = .ok d' ∧ exe.readLoc l .s = .ok a ∧ exe.readLoc (l.next .s) .s = .ok b) ∧
    (∃ x a, exe.evalOD (r 4) = .ok x ∧ exe.readOp x .q = .ok a) ∧
    (Rule.target 0o26000 (0o77777777 : BitVec 24).toInt).toNat ≥ 128 ∧ (Rule.target 0o200 (0o77777777 : BitVec 24).toInt).toNat < 128 ∧
    (∃ x1 x2 hi v v', exe.evalOD (k 5) = .ok x1 ∧ exe.evalOD (k 6) = .ok x2 ∧ exe.readOp x1 .s = .ok hi ∧ exe.readOp x2 .s = .ok v ∧
      hi.toInt < v.toInt ∧ exe.readOp x1 .s = .ok v' ∧ v'.toInt ≤ hi.toInt) ∧
    (∃ l x2 lo v hi, exe.evalOD (r 10) = .ok (.loc l) ∧ exe.evalOD (k 6) = .ok x2 ∧ exe.readLoc l .s = .ok lo ∧
      exe.readOp x2 .s = .ok v ∧ exe.readLoc (l.next .s) .s = .ok hi ∧ lo.toInt ≤ v.toInt ∧ v.toInt ≤ hi.toInt) :=
  ⟨⟨_, _, _, _, _, rfl, rfl, rfl, rfl, rfl⟩, ⟨_, _, rfl, rfl⟩, by decide +kernel, by decide +kernel,
    ⟨_, _, _, _, _, rfl, rfl, rfl, rfl, by decide +kernel, rfl, by decide +kernel⟩,
    _, _, _, _, _, rfl, rfl, rfl, rfl, rfl, by decide +kernel, by decide +kernel⟩

/-- A counter that goes on, and one at each end that traps. -/
theorem witness_CountingJumps : (∃ l d w a b, Memory.wf exe.mem = true ∧ exe.evalOD (r 4) = .ok (.loc l) ∧
      exe.jumpDest (.rel 2) = .ok d ∧ exe.checkWriteLoc l .s = .ok w ∧ exe.readLoc l .s = .ok a ∧
      exe.readLoc (l.next .s) .s = .ok b ∧ isValue (Rule.int exe.us 36 (a.toInt + 1)) = true) ∧
    (∃ l d w, (trp.putReg 4 0o377777777777).evalOD (r 4) = .ok (.loc l) ∧ (trp.putReg 4 0o377777777777).jumpDest (.rel 2) = .ok d ∧
      (trp.putReg 4 0o377777777777).checkWriteLoc l .s = .ok w ∧
      (trp.putReg 4 0o377777777777).readLoc l .s = .ok 0o377777777777) ∧
    isValue (Rule.int trp.us 36 ((0o377777777777 : SW).toInt + 1)) = false :=
  ⟨⟨_, _, _, _, _, rfl, rfl, rfl, rfl, rfl, rfl, by decide +kernel⟩, ⟨_, _, _, rfl, rfl, rfl, rfl⟩, by decide +kernel⟩

/-! ### Witnesses: routine linkage -/

/-- `JSR` with room to the limit exactly, and without; `JCR` to 200, to the registers, and to a misaligned address. -/
theorem witness_Calls : (∃ x d a sps, Memory.wf exe.mem = true ∧ exe.evalOD (r 4) = .ok x ∧ exe.jumpDest (.rel 2) = .ok d ∧
      exe.readOp x .s = .ok a ∧ (exe.putReg 31 0o1010).sl.toInt = ((exe.putReg 31 0o1010).sp + 8).toInt ∧
      exe.locateRun .write .cur .s 2 (addrOfWord exe.sp) = .ok sps) ∧
    (exe.putReg 31 0o1007).sl.toInt < ((exe.putReg 31 0o1007).sp + 8).toInt ∧
    (∃ x l d1 d2 dn a b t, exe.evalOD (r 4) = .ok x ∧ exe.evalOD (at' 0o4000) = .ok (.loc l) ∧ exe.checkWrite x .s = .ok d1 ∧
      exe.checkWriteLoc l .s = .ok d2 ∧ exe.checkWriteLoc (l.next .s) .s = .ok dn ∧ exe.readOp x .s = .ok a ∧
      exe.readLoc l .s = .ok b ∧ exe.readLoc (l.next .s) .s = .ok t ∧ t.toNat % 4 = 0 ∧ ¬ (addrOfWord t).toNat < 128) ∧
    ((exe.putS 0o4004 0o174).readLoc ⟨.cur, 0o4004, false⟩ .s = .ok 0o174 ∧ (addrOfWord 0o174).toNat < 128) ∧
    ((exe.putS 0o4004 0o4001).readLoc ⟨.cur, 0o4004, false⟩ .s = .ok 0o4001 ∧ (0o4001 : SW).toNat % 4 ≠ 0) :=
  ⟨⟨_, _, _, _, rfl, rfl, rfl, rfl, by decide +kernel, rfl⟩, by decide +kernel,
    ⟨_, _, _, _, _, _, _, _, rfl, rfl, rfl, rfl, rfl, rfl, rfl, rfl, by decide +kernel, by decide +kernel⟩,
    ⟨rfl, by decide +kernel⟩, rfl, by decide +kernel⟩

/-- The hypotheses of `AllocGives`. -/
def Allocs (s : State) (n : Nat) (o1 o2 : OD) (b : SW) (dst src : List Span) : Prop :=
  ∃ l x2, Memory.wf s.mem = true ∧ s.evalOD o1 = .ok (.loc l) ∧ s.evalOD o2 = .ok x2 ∧ l.within (4 * n) ∧
    s.readOp x2 .s = .ok b ∧ s.locateRun .write .cur .s n (addrOfWord s.sp) = .ok dst ∧
    s.locateRun .read l.ctx .s n l.va = .ok src

/-- Growth to the limit and past it, shrinking, a source apart from the stack and one that overlaps it. -/
theorem witness_Calls_alloc : (∃ dst src, Allocs exe 2 (r 8) (lc 0o1000) 0o1000 dst src ∧
      (dst.all fun a => src.all fun b => a.fst != b.fst) = true ∧ ¬ exe.sl.toInt < (exe.sp + 0o1000).toInt) ∧
    exe.sl.toInt < (exe.sp + 0o1001).toInt ∧
    (∃ dst src, Allocs exe 2 (at' 0o1004) (k 0o70) 0o777777777770 dst src ∧
      (dst.any fun a => src.any fun b => a.fst == b.fst) = true ∧ ¬ exe.sl.toInt < (exe.sp + 0o777777777770).toInt) ∧
    (∃ dst src, Allocs exe 32 (r 0) (k 4) 4 dst src) :=
  ⟨⟨_, _, ⟨_, _, rfl, rfl, rfl, fun _ => by decide +kernel, rfl, rfl, rfl⟩, by decide +kernel, by decide +kernel⟩, by decide +kernel,
    ⟨_, _, ⟨_, _, rfl, rfl, rfl, nofun, rfl, rfl, rfl⟩, by decide +kernel, by decide +kernel⟩,
    ⟨_, _, _, _, rfl, rfl, rfl, fun _ => by decide +kernel, rfl, rfl, rfl⟩⟩

/-- A save area below 1000 (octal), with a legal `USER_STATUS` and an illegal one. -/
def returning (us : SW) : State :=
  small psExec State.reset.us regs [(0o774, 0o4000), (0o770, us), (0o764, us)]

theorem witness_Returns : (∃ x l d, Memory.wf (returning usTrap).mem = true ∧ (returning usTrap).evalOD (r 4) = .ok x ∧
      (returning usTrap).evalOD (.short (.indexed 30 0)) = .ok (.loc l) ∧
      (returning usTrap).memRead l.ctx (l.va - 4) .s = .ok 0o4000 ∧ (0o4000 : SW).toNat % 4 = 0 ∧ 128 ≤ (addrOfWord 0o4000).toNat ∧
      (returning usTrap).checkWrite x .s = .ok d ∧ (returning usTrap).memRead l.ctx (l.va - 8) .s = .ok usTrap ∧
      (returning usTrap).readOp x .s = .ok 7 ∧ (returning usTrap).memRead l.ctx (l.va - 12) .s = .ok usTrap ∧
      Us.legal usTrap = true ∧ Ps.crntMode (returning usTrap).ps = true) ∧
    (returning 0).memRead .cur 0o770 .s = .ok 0 ∧ Us.legal 0o760000000000 = false ∧
    (returning 0o760000000000).memRead .cur 0o764 .s = .ok 0o760000000000 :=
  ⟨⟨_, _, _, rfl, rfl, rfl, rfl, by decide +kernel, by decide +kernel, rfl, rfl, rfl, rfl, rfl, rfl⟩, rfl, rfl, rfl⟩

/-- The vector of `TRPSLF.63` with trap modes 6 and 1, and that of `TRPEXE.0` with trap modes 7 and 0. -/
def trapping : State := small psUser State.reset.us regs
  [(0o4770, 0o200), (0o4774, 0o001006), (0o10000, 0o30000), (0o10004, 0o000007), (0o10010, usTrap), (0o10014, psExec),
    (0o4000, 5), (0o4004, 6)]

theorem witness_ProgrammedTraps_self : ∃ h d p q sps, Memory.wf trapping.mem = true ∧
    trapping.memRead .cur (BitVec.ofNat 30 (0o4000 + 8 * 63)) .s = .ok h ∧
    trapping.memRead .cur (BitVec.ofNat 30 (0o4004 + 8 * 63)) .s = .ok d ∧ field d 0 18 = 0 ∧
    trapping.trapParm (field d 27 9) (r 4) false = .ok p ∧ trapping.trapParm (field d 18 9) (r 5) false = .ok q ∧
    field h 34 2 = 0 ∧ 128 ≤ (addrOfWord h).toNat ∧ (trapping.sp + 24).toInt ≤ trapping.sl.toInt ∧
    trapping.locateRun .write .cur .s 6 (addrOfWord trapping.sp) = .ok sps ∧ (trpslfs[63]?).isSome = true :=
  ⟨_, _, _, _, _, rfl, rfl, rfl, rfl, rfl, rfl, rfl, by decide +kernel, by decide +kernel, rfl, rfl⟩

theorem witness_ProgrammedTraps_executive : ∃ v h d us ps p q sps, v = (trapping.setUs us).setPs (Ps.partialLoad trapping.ps ps) ∧
    trapping.vecRead (BitVec.ofNat 30 (0o10000 + 16 * 0)) = .ok h ∧ trapping.vecRead (BitVec.ofNat 30 (0o10004 + 16 * 0)) = .ok d ∧
    trapping.vecRead (BitVec.ofNat 30 (0o10010 + 16 * 0)) = .ok us ∧ trapping.vecRead (BitVec.ofNat 30 (0o10014 + 16 * 0)) = .ok ps ∧
    field d 0 18 = 0 ∧ trapping.trapParm (field d 27 9) (at' 0o4000) true = .ok p ∧
    trapping.trapParm (field d 18 9) (r 0) true = .ok q ∧ field h 34 2 = 0 ∧ 128 ≤ (addrOfWord h).toNat ∧ Us.legal us = true ∧
    (v.sp + 32).toInt ≤ v.sl.toInt ∧ v.locateRun .write .cur .s 8 (addrOfWord v.sp) = .ok sps ∧ (trpexes[0]?).isSome = true :=
  ⟨_, _, _, _, _, _, _, _, rfl, rfl, rfl, rfl, rfl, rfl, rfl, rfl, rfl, by decide +kernel, rfl, by decide +kernel, rfl, rfl⟩

/-- Trap modes outside 0 to 7, and operands that every other mode can deliver. -/
theorem witness_ProgrammedTraps_modes : (8 : BitVec 9).toInt > 7 ∧ (0o777 : BitVec 9).toInt < 0 ∧
    (∃ x, exe.evalOD (r 4) = .ok x ∧ (∃ v, exe.readOp x .q = .ok v) ∧ (∃ v, exe.readOp x .h = .ok v) ∧
      (∃ v, exe.readOp x .s = .ok v) ∧ ∃ v, exe.readOp x .d = .ok v) :=
  ⟨by decide +kernel, by decide +kernel, _, rfl, ⟨_, rfl⟩, ⟨_, rfl⟩, ⟨_, rfl⟩, ⟨_, rfl⟩⟩

/-! ### Witnesses: stacks, bytes and bits -/

/-- Explicit stacks whose pointer and limit are registers 12 and 13, as both directions read them: in bounds, and past the limit. -/
theorem witness_ExplicitStacks : (∃ l x2 w ptr limit a, Memory.wf exe.mem = true ∧ exe.evalOD (r 12) = .ok (.loc l) ∧
      exe.evalOD (k 4) = .ok x2 ∧ exe.checkWriteLoc (l.pointer .up) .s = .ok w ∧ exe.readLoc (l.pointer .up) .s = .ok ptr ∧
      exe.readLoc (l.limit .up) .s = .ok limit ∧ exe.readOp x2 .s = .ok a ∧
      ¬ limit.toInt < (Rule.grown .up ptr a).toInt ∧ limit.toInt < (Rule.grown .up ptr 0o101).toInt) ∧
    (∃ l x2 w ptr limit a, exe.evalOD (r 12) = .ok (.loc l) ∧ exe.evalOD (k 4) = .ok x2 ∧
      exe.checkWriteLoc (l.pointer .dn) .s = .ok w ∧ exe.readLoc (l.pointer .dn) .s = .ok ptr ∧
      exe.readLoc (l.limit .dn) .s = .ok limit ∧ exe.readOp x2 .s = .ok a ∧
      ¬ (Rule.grown .dn ptr a).toInt < limit.toInt ∧ (Rule.grown .dn ptr 0o101).toInt < limit.toInt) :=
  ⟨⟨_, _, _, _, _, _, rfl, rfl, rfl, rfl, rfl, rfl, rfl, by decide +kernel, by decide +kernel⟩,
    _, _, _, _, _, _, rfl, rfl, rfl, rfl, rfl, rfl, by decide +kernel, by decide +kernel⟩

/-- A push and a pop in each direction; a pop may go below any limit. -/
theorem witness_ExplicitStacks_items : (∃ l x2 v w i, exe.evalOD (r 12) = .ok (.loc l) ∧ exe.evalOD (k 4) = .ok x2 ∧
      exe.readOp x2 .d = .ok v ∧ exe.readLoc (l.pointer .up) .s = .ok 0o6000 ∧ exe.readLoc (l.limit .up) .s = .ok 0o6100 ∧
      ¬ (0o6100 : SW).toInt < (Rule.grown .up 0o6000 8).toInt ∧ exe.checkWriteLoc (l.pointer .up) .s = .ok w ∧
      exe.checkWriteLoc ⟨l.ctx, addrOfWord 0o6000, false⟩ .d = .ok i) ∧
    (∃ l i, exe.evalOD (r 12) = .ok (.loc l) ∧ exe.readLoc (l.pointer .dn) .s = .ok 0o6100 ∧
      exe.checkWriteLoc ⟨l.ctx, addrOfWord (Rule.grown .dn 0o6100 8), false⟩ .d = .ok i) ∧
    (∃ l x2 o w v, exe.evalOD (r 12) = .ok (.loc l) ∧ exe.evalOD (r 4) = .ok x2 ∧ l.within 8 ∧ exe.checkWrite x2 .q = .ok o ∧
      exe.readLoc (l.pointer .up) .s = .ok 0o6000 ∧ exe.readLoc ⟨l.ctx, addrOfWord (0o6000 - 1), false⟩ .q = .ok v ∧
      exe.checkWriteLoc (l.pointer .up) .s = .ok w) ∧
    (∃ l x2 o w v, exe.evalOD (r 12) = .ok (.loc l) ∧ exe.evalOD (r 4) = .ok x2 ∧ l.within 8 ∧ exe.checkWrite x2 .q = .ok o ∧
      exe.readLoc (l.pointer .dn) .s = .ok 0o6100 ∧ exe.readLoc ⟨l.ctx, addrOfWord 0o6100, false⟩ .q = .ok v ∧
      exe.checkWriteLoc (l.pointer .dn) .s = .ok w) :=
  ⟨⟨_, _, _, _, _, rfl, rfl, rfl, rfl, rfl, by decide +kernel, rfl, rfl⟩, ⟨_, _, rfl, rfl, rfl⟩,
    ⟨_, _, _, _, _, rfl, rfl, fun _ => by decide +kernel, rfl, rfl, rfl, rfl⟩,
    _, _, _, _, _, rfl, rfl, fun _ => by decide +kernel, rfl, rfl, rfl, rfl⟩

/-- Byte pointers in registers 8 and 9 (address, then selector): a byte that ends with the word, and one that passes its end. -/
def bytes (sel : SW) : State := exe.putReg 9 sel

theorem witness_Bytes_pointer : (∃ x1 x2 d bp l w, Memory.wf (bytes 0o32000012).mem = true ∧ (bytes 0o32000012).evalOD (r 4) = .ok x1 ∧
      (bytes 0o32000012).evalOD (r 8) = .ok x2 ∧ (bytes 0o32000012).checkWrite x1 .s = .ok d ∧
      (bytes 0o32000012).readOp x2 .d = .ok bp ∧ ¬ Prec.s.bits < Rule.pos (field bp 36 36) + Rule.len (field bp 36 36) ∧
      (bytes 0o32000012).iapLoc x2.ctx (field bp 0 36) = .ok l ∧ (bytes 0o32000012).readLoc l .s = .ok w) ∧
    Prec.s.bits < Rule.pos 0o33000012 + Rule.len 0o33000012 ∧
    (∃ x1 x2 bp v l d w, (bytes 0o32000012).evalOD (r 8) = .ok x1 ∧ (bytes 0o32000012).evalOD (r 4) = .ok x2 ∧
      (bytes 0o32000012).readOp x1 .d = .ok bp ∧ (bytes 0o32000012).readOp x2 .s = .ok v ∧
      (bytes 0o32000012).iapLoc x1.ctx (field bp 0 36) = .ok l ∧ (bytes 0o32000012).checkWriteLoc l .s = .ok d ∧
      (bytes 0o32000012).readLoc l .s = .ok w) :=
  ⟨⟨_, _, _, _, _, _, rfl, rfl, rfl, rfl, rfl, by decide +kernel, rfl, rfl⟩, by decide +kernel,
    _, _, _, _, _, _, _, rfl, rfl, rfl, rfl, rfl, rfl, rfl⟩

theorem witness_Bytes_selector : ∃ a d w, Met3 exe .s .s .s .t10 (lc 7) (lc 0o32000012) a d 7 0o32000012 ∧
    exe.readOp a.dest .s = .ok w ∧ ¬ Prec.s.bits < Rule.pos 0o32000012 + Rule.len 0o32000012 ∧
    Prec.s.bits < Rule.pos 1 + Rule.len 0o45 :=
  ⟨_, _, _, ⟨rfl, rfl, rfl, rfl, rfl, rfl⟩, rfl, by decide +kernel, by decide +kernel⟩

theorem witness_Bytes_adjust : ∃ a d bp cnt, Memory.wf (bytes 0o32000012).mem = true ∧
    (bytes 0o32000012).evalTop .t10 (r 8) (k 0o77) = .ok a ∧ (bytes 0o32000012).checkWrite a.dest .d = .ok d ∧
    (bytes 0o32000012).readOp a.s1 .d = .ok bp ∧ (bytes 0o32000012).readOp a.s2 .s = .ok cnt ∧
    ¬ Prec.s.bits < Rule.pos (field bp 36 36) + Rule.len (field bp 36 36) :=
  ⟨_, _, _, _, rfl, rfl, rfl, rfl, rfl, by decide +kernel⟩

/-- Counts 0, the width, one more and -1; the zero word and a word with one bit. -/
theorem witness_BitOperations : ∃ a d x1 x2 e, Met3 exe .q .q .s .t10 (lc 0o123) (lc 9) a d 0o123 9 ∧
    ¬ ((9 : SW).toInt < 0 ∨ Prec.q.bits < (9 : SW).toInt) ∧ Prec.q.bits < (10 : SW).toInt ∧ (0o777777777777 : SW).toInt < 0 ∧
    Met2 exe .s .d (r 4) (lc 0) x1 x2 e 0 :=
  ⟨_, _, _, _, _, ⟨rfl, rfl, rfl, rfl, rfl, rfl⟩, by decide +kernel, by decide +kernel, by decide +kernel, rfl, rfl, rfl, rfl, rfl,
    rfl⟩

/-! ### Witnesses: blocks, status words, registers, input and output -/

/-- Blocks of 7 quarter-words in memory and registers, an immediate source of 4, an empty block. -/
theorem witness_Blocks : (∃ x1 x2 x3 as bs cs, Memory.wf exe.mem = true ∧ exe.evalOD (at' 0o4000) = .ok x1 ∧
      exe.evalOD (r 8) = .ok x2 ∧ exe.evalOD (k 3) = .ok x3 ∧ exe.sourceBlock .read x1 (exe.blockLength 4) = .ok as ∧
      exe.sourceBlock .read x2 (exe.blockLength 4) = .ok bs ∧
      (exe.putReg 4 4).sourceBlock .read x3 ((exe.putReg 4 4).blockLength 4) = .ok cs) ∧
    (∃ l x2 vs ds, exe.evalOD (at' 0o4001) = .ok (.loc l) ∧ exe.evalOD (at' 0o4000) = .ok x2 ∧ l.within (exe.blockLength 4) ∧
      exe.sourceBlock .read x2 (exe.blockLength 4) = .ok vs ∧ exe.locateRun .write l.ctx .q (exe.blockLength 4) l.va = .ok ds ∧
      exe.sourceBlock .codeRead x2 (exe.blockLength 4) = .ok vs ∧
      exe.locateRun .codeWrite l.ctx .q (exe.blockLength 4) l.va = .ok ds) ∧
    (exe.putReg 4 0o777777777777).blockLength 4 = 0 ∧ exe.blockLength 4 = 7 :=
  ⟨⟨_, _, _, _, _, _, rfl, rfl, rfl, rfl, rfl, rfl, rfl⟩, ⟨_, _, _, _, rfl, rfl, nofun, rfl, rfl, rfl, rfl⟩, by decide +kernel, by decide +kernel⟩

/-- A fill of two single-words; a count and an address that do not suit. -/
theorem witness_Blocks_fill : (∃ l x2 v ds, Memory.wf exe.mem = true ∧ exe.evalOD (at' 0o4000) = .ok (.loc l) ∧ exe.evalOD (k 3) = .ok x2 ∧
      ¬ (exe.blockLength 6 % Prec.s.qws ≠ 0 ∨ l.va.toNat % min Prec.s.qws 4 ≠ 0) ∧ exe.readOp x2 .s = .ok v ∧
      l.within (exe.blockLength 6) ∧ exe.locateRun .write l.ctx .s (exe.blockLength 6 / Prec.s.qws) l.va = .ok ds) ∧
    exe.blockLength 4 % Prec.s.qws ≠ 0 ∧ (0o4001 : VAddr).toNat % min Prec.s.qws 4 ≠ 0 :=
  ⟨⟨_, _, _, _, rfl, rfl, rfl, by decide +kernel, rfl, nofun, rfl⟩, by decide +kernel, by decide +kernel⟩

/-- A destination and a source; legal and illegal values; numbers at and past the ends of 0 to 31. -/
theorem witness_UserStatusInstructions : (∃ x d d' v, Memory.wf exe.mem = true ∧ exe.mayRun false ∧ exe.evalOD (r 4) = .ok x ∧
      exe.checkWrite x .s = .ok d ∧ exe.readOp x .s = .ok v ∧ exe.jumpDest (.rel 2) = .ok d') ∧
    (∃ x, exe.evalOD (lc 31) = .ok x ∧ exe.readOp x .s = .ok 31) ∧ (∃ x, exe.evalOD (lc 32) = .ok x ∧ exe.readOp x .s = .ok 32) ∧
    Us.legal (exe.us ||| 0) = true ∧ Us.legal (exe.us ||| 0o777777777777) = false ∧ Us.legal (exe.us &&& ~~~0) = true ∧
    Us.legal (0o160000000000 &&& ~~~0o100000000000) = false :=
  ⟨⟨_, _, _, _, rfl, nofun, rfl, rfl, rfl, rfl⟩, ⟨_, rfl, rfl⟩, ⟨_, rfl, rfl⟩, by decide +kernel, by decide +kernel, by decide +kernel,
    by decide +kernel⟩

theorem witness_ProcessorStatusInstructions : (∃ x d, Memory.wf exe.mem = true ∧ exe.mayRun true ∧ exe.evalOD (r 4) = .ok x ∧
      exe.checkWrite x .s = .ok d) ∧
    (∃ x, exe.evalOD (lc 15) = .ok x ∧ exe.readOp x .s = .ok 15) ∧ (∃ x, exe.evalOD (lc 16) = .ok x ∧ exe.readOp x .s = .ok 16) ∧
    (∃ l d, Ps.crntMode (returning usTrap).ps = true ∧ (returning usTrap).evalOD (at' 0o764) = .ok (.loc l) ∧
      (returning usTrap).jumpDest (.rel 2) = .ok d ∧ (returning usTrap).readLoc l .s = .ok usTrap ∧
      (returning usTrap).readLoc (l.next .s) .s = .ok usTrap ∧ Us.legal usTrap = true) ∧
    (returning 0o760000000000).readLoc ⟨.cur, 0o764, false⟩ .s = .ok 0o760000000000 :=
  ⟨⟨_, _, rfl, fun _ => rfl, rfl, rfl⟩, ⟨_, rfl, rfl⟩, ⟨_, rfl, rfl⟩, ⟨_, _, rfl, rfl, rfl, rfl, rfl, rfl⟩, rfl⟩

/-- A count of 8 (register 6), of 7 (register 4); segment values 4000 and 4001. -/
theorem witness_SweepsAndSegments : (∃ l, exe.mayRun true ∧ exe.evalOD (at' 0o4000) = .ok (.loc l) ∧ exe.blockLength 6 % 4 = 0 ∧
      l.within (exe.blockLength 6)) ∧ exe.blockLength 4 % 4 ≠ 0 ∧
    (∃ x v, exe.evalOD (lc 0) = .ok x ∧ exe.readOp x .s = .ok v) ∧
    (∃ l d, exe.evalOD (at' 0o5000) = .ok (.loc l) ∧ exe.jumpDest (.rel 2) = .ok d ∧ exe.readLoc l .s = .ok 0 ∧
      exe.readLoc (l.next .s) .s = .ok 0) ∧
    ((exe.putS 0o5000 0o4001).readLoc ⟨.cur, 0o5000, false⟩ .s = .ok 0o4001 ∧ ¬ ((0o4001 : SW).toNat % 4 = 0)) :=
  ⟨⟨_, fun _ => rfl, rfl, by decide +kernel, nofun⟩, by decide +kernel, ⟨_, _, rfl, rfl⟩, ⟨_, _, rfl, rfl, rfl, rfl⟩, rfl, by decide +kernel⟩

/-- Numbers in and out of range, values with and without bits 32 to 35, counter 0 and no other. -/
theorem witness_InterruptRegistersAndCounters : (∃ x1 x2 d, Memory.wf exe.mem = true ∧ exe.mayRun true ∧ exe.evalOD (r 4) = .ok x1 ∧
      exe.evalOD (lc 7) = .ok x2 ∧ exe.checkWrite x1 .s = .ok d ∧ exe.readOp x2 .s = .ok 7) ∧
    (∃ x1 d, exe.evalOD (at' 0o4000) = .ok x1 ∧ exe.checkWrite x1 .d = .ok d) ∧
    (∃ x, exe.evalOD (lc 8) = .ok x ∧ exe.readOp x .s = .ok 8) ∧ (∃ x, exe.evalOD (lc 256) = .ok x ∧ exe.readOp x .s = .ok 256) ∧
    (∃ x, exe.evalOD (lc 0) = .ok x ∧ exe.readOp x .s = .ok 0) ∧ (0o20 : SW).toNat % 16 = 0 ∧ (0o17 : SW).toNat % 16 ≠ 0 :=
  ⟨⟨_, _, _, rfl, fun _ => rfl, rfl, rfl, rfl, rfl⟩, ⟨_, _, rfl, rfl⟩, ⟨_, rfl, rfl⟩, ⟨_, rfl, rfl⟩, ⟨_, rfl, rfl⟩, by decide +kernel,
    by decide +kernel⟩

/-- A page for input and output (no ACCESS bits) at virtual 10000, absolute addressing, an element of each kind of 8 quarter-words,
and a count of 7 that does not suit. -/
theorem witness_InputAndOutput : (∃ pa a, (paged psExec [(2, 0)] []).translate
        ((paged psExec [(2, 0)] []).space .cur) 0o10000 = .ok (pa, a)) ∧
    (∃ l1 l2 ks ds vs, Memory.wf exe.mem = true ∧ exe.evalOD (at' 0o5000) = .ok (.loc l1) ∧ exe.evalOD (at' 0o3777) = .ok (.loc l2) ∧
      ¬ (exe.blockLength 6 % IoKind.s.prec.qws ≠ 0 ∨ (exe.blockLength 6 ≠ 0 ∧ l1.va.toNat % IoKind.s.prec.qws ≠ 0)) ∧
      l1.within (exe.blockLength 6) ∧
      exe.ioBufRun .cur ((exe.blockLength 6 / IoKind.s.prec.qws * IoKind.s.bits + 31) / 32) 0 = .ok ks ∧
      exe.locateRun .write l1.ctx IoKind.s.prec (exe.blockLength 6 / IoKind.s.prec.qws) l1.va = .ok ds ∧
      exe.ioSource .s (.loc l1) (exe.blockLength 6) = .ok vs) ∧
    exe.blockLength 4 % IoKind.s.prec.qws ≠ 0 ∧ exe.ioBufLoc .cur 0o3777 = .ok 2047 ∧
    exe.ioBufLoc .cur 0o4000 = .error (.fatal .iobufRange) :=
  ⟨⟨_, _, rfl⟩, ⟨_, _, _, _, _, rfl, rfl, rfl, by decide +kernel, nofun, rfl, rfl, rfl⟩, by decide +kernel, rfl, rfl⟩

theorem witness_MiscellaneousInstructions : ∃ a w2 wd x old d, Memory.wf exe.mem = true ∧ exe.evalTop .t10 (k 3) (at' 0o4000) = .ok a ∧
    exe.readOp a.s1 .s = .ok x ∧ exe.checkWrite a.s2 .s = .ok w2 ∧ exe.checkWrite a.dest .s = .ok wd ∧
    exe.readOp a.s2 .s = .ok old ∧ Ps.crntMode exe.ps = true ∧ exe.jumpDest (.rel 2) = .ok d :=
  ⟨_, _, _, _, _, _, rfl, rfl, rfl, rfl, rfl, rfl, rfl, rfl⟩

/-- An `ADD`, a `NOP`, an `XCT` of itself, and zeros to execute; an immediate; the previous context. -/
theorem witness_ExecuteInstruction : (∃ x l w0 w1 w2, (exe.putS 0o4000 0o401201600101).evalOD (at' 0o4000) = .ok x ∧ x = .loc l ∧
      l.ctx ≠ .prev ∧ (exe.putS 0o4000 0o401201600101).readLoc l .s = .ok w0 ∧
      (exe.putS 0o4000 0o401201600101).readLoc (l.next .s) .s = .ok w1 ∧
      (exe.putS 0o4000 0o401201600101).readLoc ((l.next .s).next .s) .s = .ok w2 ∧ decodes w0 = true) ∧
    (exe.readLoc ⟨.cur, 0o5000, false⟩ .s = .ok 0 ∧ decodes 0 = false) ∧ (∃ x, exe.evalOD (k 1) = .ok (.imm .sx x)) ∧
    (∃ l, exe.evalOD (.based0 (.fixedBased true false 0 false 0o4000)) = .ok (.loc l) ∧ l.ctx = .prev) :=
  ⟨⟨_, _, _, _, _, rfl, rfl, by decide +kernel, rfl, rfl, rfl, rfl⟩, ⟨rfl, rfl⟩, ⟨_, rfl⟩, _, rfl, rfl⟩

/-- The words of `NOP`, and of an `XCT` of its own address, as the instruction `XCT` finds them. -/
theorem witness_ExecuteInstruction_links : ∃ p q o, decodeWords (encode (.nop p q))[0]! 0 0 = .ok (.nop p q) ∧
    (encode (.xct (at' 0o4000) noOD)).length = 2 ∧
    decodeWords (encode (.xct (at' 0o4000) noOD))[0]! (encode (.xct (at' 0o4000) noOD))[1]! 0 = .ok (.xct o noOD) :=
  ⟨r 0, r 0, _, rfl, rfl, rfl⟩

end Sys2Proof.Tests
end

namespace Sys2Proof.Machine

/-! What every step keeps: the invariant of the machine, and in user mode the privileged state.

A transition is `Safe` when it keeps both. Most instructions are `Quiet`: they leave the privileged state as it is
whatever the mode, so one rule for each store of the model (registers, memory, the PC, `USER_STATUS`) shows them safe.
The rest are executive-only, where the invariant alone is asked for, or enter the executive through a vector. -/

/-! ### Fields of words -/

theorem getLsbD_field {n : Nat} (w : BitVec n) (i l k : Nat) :
    (field w i l).getLsbD k = (decide (k < l) && w.getLsbD (n - i - l + k)) := by
  simp [field]

theorem getLsbD_setField {n len : Nat} (w : BitVec n) {i : Nat} (v : BitVec len) (hi : i + len ≤ n) (k : Nat) :
    (setField w i v).getLsbD k =
      if n - i - len ≤ k ∧ k < n - i then v.getLsbD (k - (n - i - len)) else w.getLsbD k := by
  by_cases hk : k < n
  · simp [setField, hk]
    grind
  · grind

/-- A field that is set reads back. -/
theorem field_setField_same {n len : Nat} (w : BitVec n) {i : Nat} (v : BitVec len) (hi : i + len ≤ n) :
    field (setField w i v) i len = v := by
  apply BitVec.eq_of_getLsbD_eq
  intro k hk
  rw [getLsbD_field, getLsbD_setField w v hi, if_pos (by omega), Nat.add_sub_cancel_left]
  simp [hk]

/-- Setting a field leaves every field beside it alone. -/
theorem field_setField_disjoint {n len : Nat} (w : BitVec n) {i j l : Nat} (v : BitVec len) (hi : i + len ≤ n)
    (hj : j + l ≤ n) (h : i + len ≤ j ∨ j + l ≤ i) : field (setField w i v) j l = field w j l := by
  apply BitVec.eq_of_getLsbD_eq
  intro k hk
  rw [getLsbD_field, getLsbD_field, getLsbD_setField w v hi, if_neg (by omega)]

theorem bitAt_eq_getLsbD {n : Nat} (w : BitVec n) {i : Nat} (hi : i < n) : bitAt w i = w.getLsbD (n - 1 - i) := by
  simp [bitAt, BitVec.getMsbD, hi]

/-- Setting a field leaves every bit outside it alone. -/
theorem bitAt_setField_disjoint {n len : Nat} (w : BitVec n) {i j : Nat} (v : BitVec len) (hi : i + len ≤ n)
    (hj : j < n) (h : i + len ≤ j ∨ j < i) : bitAt (setField w i v) j = bitAt w j := by
  rw [bitAt_eq_getLsbD _ hj, bitAt_eq_getLsbD _ hj, getLsbD_setField w v hi, if_neg (by omega)]

/-- A bit that is set reads back. -/
theorem bitAt_setBit_same {n : Nat} (w : BitVec n) {i : Nat} (b : Bool) (hi : i < n) : bitAt (setBit w i b) i = b := by
  rw [bitAt_eq_getLsbD _ hi, setBit, getLsbD_setField w _ hi, if_pos (by omega)]
  simp [show n - 1 - i - (n - i - 1) = 0 by omega]

/-- The low two bits of a word, as the spec writes the test for a multiple of four (R123). -/
theorem field_low_two {n : Nat} (w : BitVec n) (hn : 2 ≤ n) : field w (n - 2) 2 = 0 ↔ w.toNat % 4 = 0 := by
  rw [← BitVec.toNat_inj]
  simp [field, show n - (n - 2) - 2 = 0 by omega]

/-! ### Addresses that are multiples of four -/

theorem aligned_s_iff {a : VAddr} : aligned .s a = true ↔ field a 28 2 = 0 := beq_iff_eq

/-- Multiples of four are closed under addition. -/
theorem field_low_two_add {a b : VAddr} (ha : field a 28 2 = 0) (hb : field b 28 2 = 0) : field (a + b) 28 2 = 0 := by
  rw [field_low_two _ (by decide)] at *
  rw [BitVec.toNat_add]
  omega

/-- A displacement in single-words is a multiple of four (R209 to R211). -/
theorem field_low_two_shiftLeft (a : VAddr) : field (a <<< 2) 28 2 = 0 := by
  rw [field_low_two _ (by decide), BitVec.toNat_shiftLeft, Nat.shiftLeft_eq]
  omega

theorem field_low_two_vaAdd {a : VAddr} (ha : field a 28 2 = 0) (k : Nat) : field (vaAdd a (4 * k)) 28 2 = 0 := by
  refine field_low_two_add ha ?_
  rw [field_low_two _ (by decide), BitVec.toNat_ofNat]
  omega

theorem field_low_two_ite {c : Prop} [Decidable c] {a b : VAddr} (ha : field a 28 2 = 0) (hb : field b 28 2 = 0) :
    field (if c then a else b) 28 2 = 0 := by
  split
  · exact ha
  · exact hb

/-- The address in a word that is a multiple of four (R804). -/
theorem field_low_two_field {p : SW} (h : field p 34 2 = 0) : field (field p 2 34 : PAddr) 32 2 = 0 := by
  rw [field_low_two _ (by decide)] at *
  simp only [field, BitVec.extractLsb'_toNat]
  omega

/-! ### The status words -/

theorem Ps.crntMode_setTracePend (w : SW) (b : Bool) : Ps.crntMode (Ps.setTracePend w b) = Ps.crntMode w :=
  bitAt_setField_disjoint w _ (by decide) (by decide) (by decide)
theorem Ps.prevMode_setTracePend (w : SW) (b : Bool) : Ps.prevMode (Ps.setTracePend w b) = Ps.prevMode w :=
  bitAt_setField_disjoint w _ (by decide) (by decide) (by decide)
theorem Ps.crntFile_setTracePend (w : SW) (b : Bool) : Ps.crntFile (Ps.setTracePend w b) = Ps.crntFile w :=
  field_setField_disjoint w _ (by decide) (by decide) (by decide)
theorem Ps.prevFile_setTracePend (w : SW) (b : Bool) : Ps.prevFile (Ps.setTracePend w b) = Ps.prevFile w :=
  field_setField_disjoint w _ (by decide) (by decide) (by decide)

/-- After a partial load the previous mode is the one that was current (R58). -/
theorem Ps.prevMode_partialLoad (old new : SW) : Ps.prevMode (Ps.partialLoad old new) = Ps.crntMode old :=
  bitAt_setBit_same _ _ (by decide)
/-- After a partial load the previous file is the one that was current (R58). -/
theorem Ps.prevFile_partialLoad (old new : SW) : Ps.prevFile (Ps.partialLoad old new) = Ps.crntFile old :=
  (field_setField_disjoint _ _ (by decide) (by decide) (by decide)).trans (field_setField_same _ _ (by decide))

/-- The fields whose value decides whether a `USER_STATUS` is legal: `SP_ID` and the three floating-point modes
(R71). -/
theorem Us.legal_congr {u w : SW} (h0 : field u 0 5 = field w 0 5) (h1 : field u 11 2 = field w 11 2)
    (h2 : field u 13 2 = field w 13 2) (h3 : field u 15 2 = field w 15 2) : Us.legal u = Us.legal w := by
  simp only [Us.legal, Us.spId, Us.fltOvflMode, Us.fltUnflMode, Us.fltNanMode, h0, h1, h2, h3]

/-- A side-effect bit (bits 5 to 10) may hold any value. -/
theorem Us.legal_setBit (w : SW) (b : Bool) {i : Nat} (h5 : 5 ≤ i) (h10 : i ≤ 10) :
    Us.legal (setBit w i b) = Us.legal w := by
  apply Us.legal_congr <;>
    exact field_setField_disjoint w _ (by omega) (by decide) (by omega)

theorem Us.legal_setRndMode (w : SW) (m : BitVec 5) : Us.legal (Us.setRndMode w m) = Us.legal w := by
  apply Us.legal_congr <;>
    exact field_setField_disjoint w _ (by decide) (by decide) (by decide)

theorem Us.legal_setSpId {w : SW} {r : RegNum} (hw : Us.legal w = true) (hr : ¬ (r = 3 ∨ r = 31)) :
    Us.legal (Us.setSpId w r) = true := by
  have keep : ∀ j, 5 ≤ j → j + 2 ≤ 36 → field (Us.setSpId w r) j 2 = field w j 2 := fun j h5 hj =>
    field_setField_disjoint w r (by decide) hj (.inl h5)
  simp only [Us.legal, Us.spId, Us.fltOvflMode, Us.fltUnflMode, Us.fltNanMode, Bool.and_eq_true] at hw ⊢
  rw [keep 11 (by decide) (by decide), keep 13 (by decide) (by decide), keep 15 (by decide) (by decide),
    show field (Us.setSpId w r) 0 5 = r from field_setField_same w r (by decide)]
  obtain ⟨hsp, hmodes⟩ := not_or.1 hr
  simp_all

/-! ### What an instruction that is not privileged may change -/

/-- The part of the state that no unprivileged instruction writes: `PROC_STATUS`, the segment registers, the counter
enables, `PROC_ID`, the set of backed memory, and `RUN` (R53, R75, R82, R83, R93, R940). -/
def State.guarded (s : State) :
    SW × PAddr × PAddr × PAddr × PAddr × Vector DW Config.nCtr × SW × List (Nat × Nat) × RunState :=
  (s.ps, s.execStp, s.execStl, s.userStp, s.userStl, s.ctrEnb, s.procId, s.physMem, s.run)

theorem State.guarded_eq_iff {s t : State} : t.guarded = s.guarded ↔
    t.ps = s.ps ∧ t.execStp = s.execStp ∧ t.execStl = s.execStl ∧ t.userStp = s.userStp ∧ t.userStl = s.userStl ∧
      t.ctrEnb = s.ctrEnb ∧ t.procId = s.procId ∧ t.physMem = s.physMem ∧ t.run = s.run := by
  simp only [State.guarded, Prod.mk.injEq]

/-- `t` comes from `s` by changes that every instruction may make: the guarded part is as it was, and the invariant is
kept. -/
structure Quiet (s t : State) : Prop where
  guarded : t.guarded = s.guarded
  inv : s.Inv → t.Inv

namespace Quiet

variable {s t : State}

theorem refl (s : State) : Quiet s s := ⟨rfl, id⟩

theorem writeSpan (h : Quiet s t) (p : Prec) (sp : Span) (v : BitVec p.bits) : Quiet s (t.writeSpan p sp v) where
  guarded := by rw [← h.guarded, State.writeSpan_eq]; rfl
  inv hs := by
    obtain ⟨hmem, hio, hpc, hus, his, hint, hseg⟩ := h.inv hs
    have hwf := State.mem_wf_writeSpan (sp := sp) (v := v) hmem
    rw [State.writeSpan_eq]
    exact ⟨hwf, hio, hpc, hus, his, hint, hseg⟩

theorem writeRun (h : Quiet s t) (p : Prec) (sps : List Span) (vs : List (BitVec p.bits)) :
    Quiet s (t.writeRun p sps vs) := by
  induction sps generalizing t vs with
  | nil => exact h
  | cons sp sps ih =>
    cases vs with
    | nil => exact h
    | cons v vs => exact ih (h.writeSpan p sp v) vs

theorem putReg (h : Quiet s t) (n : RegNum) (v : SW) : Quiet s (t.putReg n v) := by
  rw [State.putReg_store]
  exact h.writeSpan _ _ _

theorem setUs (h : Quiet s t) {w : SW} (hw : Us.legal s.us = true → Us.legal w = true) : Quiet s (t.setUs w) where
  guarded := h.guarded
  inv hs := { h.inv hs with us := hw hs.us }

theorem setPc (h : Quiet s t) {a : VAddr} (ha : s.Inv → field a 28 2 = 0) : Quiet s (t.setPc a) where
  guarded := h.guarded
  inv hs := { h.inv hs with pc := ha hs }

/-- Free values have been drawn (R28). -/
theorem setFreeCount (h : Quiet s t) (k : Nat) : Quiet s { t with freeCount := k } where
  guarded := h.guarded
  inv hs := { h.inv hs with }

theorem pushWords {u : State} (h : Quiet s t) {ws : List SW} (hp : t.pushWords ws = .ok u) : Quiet s u := by
  obtain ⟨-, sps, -, rfl⟩ := State.pushWords_ok.1 hp
  exact (h.writeRun _ _ _).putReg _ _

theorem loadUs (h : Quiet s t) {w : SW} {u : State} (hl : t.loadUs w = .ok u) : Quiet s u := by
  simp only [State.loadUs, M.bind_ok, checkUS_ok, Except.ok.injEq] at hl
  obtain ⟨-, hw, rfl⟩ := hl
  exact h.setUs fun _ => hw

end Quiet

/-! ### What a step of a user may do -/

/-- The addresses of the vectors in the executive space: of `TRPEXE`, of hard traps and of interrupts (R190). -/
def ExecVector (va : VAddr) : Prop := 0o10000 ≤ va.toNat ∧ va.toNat < 0o26000

/-- `t` is a state right after the executive was entered from `s` through one of its vectors (R58, R895). -/
def EntersExec (s t : State) : Prop :=
  Ps.prevMode t.ps = Ps.crntMode s.ps ∧ Ps.prevFile t.ps = Ps.crntFile s.ps ∧
    ∃ (va : VAddr) (h : SW), ExecVector va ∧ s.vecRead va = .ok h ∧ t.pc = addrOfWord h

/-- What may have happened to the privileged state when `t` follows `s` in user mode. -/
structure UserStep (s t : State) : Prop where
  execStp : t.execStp = s.execStp
  execStl : t.execStl = s.execStl
  userStp : t.userStp = s.userStp
  userStl : t.userStl = s.userStl
  ctrEnb : t.ctrEnb = s.ctrEnb
  procId : t.procId = s.procId
  physMem : t.physMem = s.physMem
  run : t.run = .waiting → s.run = .waiting
  mode : Ps.crntMode t.ps = true → EntersExec s t

/-- What every transition of the machine keeps: the invariant, and in user mode the privileged state. -/
structure Safe (s t : State) : Prop where
  inv : s.Inv → t.Inv
  user : Ps.crntMode s.ps = false → UserStep s t

theorem Quiet.safe {s t : State} (h : Quiet s t) : Safe s t where
  inv := h.inv
  user hu := by
    obtain ⟨hps, h1, h2, h3, h4, h5, h6, h7, hrun⟩ := State.guarded_eq_iff.1 h.guarded
    refine ⟨h1, h2, h3, h4, h5, h6, h7, fun hw => hrun ▸ hw, fun hm => ?_⟩
    rw [hps, hu] at hm
    contradiction

/-- In executive mode only the invariant is asked for. -/
theorem Safe.of_exec {s t : State} (hm : Ps.crntMode s.ps = true) (h : s.Inv → t.Inv) : Safe s t where
  inv := h
  user hu := by
    rw [hm] at hu
    contradiction

/-- Stage 6 writes `TRACE_PEND` only (R871). -/
theorem Safe.stage6 {s t : State} (h : Safe s t) : Safe s t.stage6 where
  inv hs := { h.inv hs with }
  user hu := by
    obtain ⟨h1, h2, h3, h4, h5, h6, h7, hrun, hmode⟩ := h.user hu
    refine ⟨h1, h2, h3, h4, h5, h6, h7, hrun, fun hm => ?_⟩
    simp only [EntersExec, State.stage6_ps, Ps.crntMode_setTracePend, Ps.prevMode_setTracePend,
      Ps.prevFile_setTracePend, State.stage6_pc] at hm ⊢
    exact hmode hm

/-- A transition may be said to start at a state that differs in `TRACE_PEND`, `TRACE_ENB_OLD` and the free values
drawn. -/
theorem Safe.of_start {s s' t : State}
    (hs : s' = { s with ps := s'.ps, traceEnbOld := s'.traceEnbOld, freeCount := s'.freeCount })
    (hmode : Ps.crntMode s'.ps = Ps.crntMode s.ps) (hfile : Ps.crntFile s'.ps = Ps.crntFile s.ps) (h : Safe s' t) :
    Safe s t where
  inv hi := by
    refine h.inv ?_
    rw [hs]
    exact { hi with }
  user hu := by
    obtain ⟨h1, h2, h3, h4, h5, h6, h7, hrun, hm⟩ := h.user (hmode.trans hu)
    have hvec : ∀ va, s'.vecRead va = s.vecRead va := fun va => by rw [hs]; rfl
    simp only [EntersExec, hmode, hfile, hvec] at hm
    rw [hs] at h1 h2 h3 h4 h5 h6 h7 hrun
    exact ⟨h1, h2, h3, h4, h5, h6, h7, hrun, hm⟩

theorem Safe.of_stage4 {s t : State} (h : Safe s.stage4 t) : Safe s t := .of_start (s' := s.stage4) rfl rfl rfl h
theorem Safe.of_drawn {s t : State} (h : Safe s.drawn t) : Safe s t := .of_start (s' := s.drawn) rfl rfl rfl h
theorem Safe.of_stage2 {s t : State} (h : Safe s.stage2 t) : Safe s t :=
  .of_start (s' := s.stage2) rfl (Ps.crntMode_setTracePend _ _) (Ps.crntFile_setTracePend _ _) h
theorem Safe.of_stage6 {s t : State} (h : Safe s.stage6 t) : Safe s t :=
  .of_start (s' := s.stage6) rfl (Ps.crntMode_setTracePend _ _) (Ps.crntFile_setTracePend _ _) h

/-! ### Exceptions -/

section
variable {s t : State}

/-- A load of both status words from a vector of the executive (R890) keeps what every transition keeps. -/
theorem Safe.loadAndPush {va : VAddr} {h nus nps : SW} {ws : List SW} (hva : ExecVector va)
    (hread : s.vecRead va = .ok h) (hpc : aligned .s (addrOfWord h) = true) (hus : Us.legal nus = true)
    (hl : s.loadAndPush h nus nps ws = .ok t) : Safe s t := by
  obtain ⟨u, hpush, rfl⟩ := State.loadAndPush_ok.1 hl
  have hq := (Quiet.refl _).pushWords hpush
  obtain ⟨hps, h1, h2, h3, h4, h5, h6, h7, -⟩ := State.guarded_eq_iff.1 hq.guarded
  refine ⟨fun hs => ?_, fun hu => ⟨h1, h2, h3, h4, h5, h6, h7, nofun, fun _ => ?_⟩⟩
  · have hstart : ((s.setUs nus).setPs (Ps.partialLoad s.ps nps)).Inv := { hs with us := hus }
    exact { hq.inv hstart with pc := aligned_s_iff.1 hpc }
  · refine ⟨?_, ?_, va, h, hva, hread, rfl⟩
    · simp only [State.setRun_ps, State.setPc_ps, hps, State.setPs_ps, Ps.prevMode_partialLoad]
    · simp only [State.setRun_ps, State.setPc_ps, hps, State.setPs_ps, Ps.prevFile_partialLoad]

theorem Safe.initiateFull {va : VAddr} {ws : List SW} (hva : ExecVector va) (h : s.initiateFull va ws = .ok t) :
    Safe s t := by
  obtain ⟨w, nus, nps, hread, -, -, hpc, -, hus, hl⟩ := State.initiateFull_ok.1 h
  exact .loadAndPush hva hread hpc hus hl

/-- The vectors of the hard traps, of which there are 170 (R888). -/
theorem execVector_hrdVecAddr {k : Nat} (hk : k < 170) : ExecVector (hrdVecAddr k) := by
  rw [ExecVector, hrdVecAddr, BitVec.toNat_ofNat, Config.hrderrStride, Nat.mod_eq_of_lt (by omega)]
  omega

/-- The vectors of the 256 interrupts (R889). -/
theorem execVector_intVecAddr {v : Nat} (hv : v < 256) : ExecVector (intVecAddr v) := by
  rw [ExecVector, intVecAddr, BitVec.toNat_ofNat, Config.intuptStride, Nat.mod_eq_of_lt (by omega)]
  omega

/-- The vectors of the 64 `TRPEXE` instructions (R887). -/
theorem execVector_trpexeVecAddr {n : Nat} (hn : n < 64) : ExecVector (trpexeVecAddr n) := by
  rw [ExecVector, trpexeVecAddr, BitVec.toNat_ofNat, Config.trpexeStride, Nat.mod_eq_of_lt (by omega)]
  omega

/-- A nested hard trap, the halt of a double fault included (R930, R932). -/
theorem Safe.nested {va : VAddr} (h : s.nested va = .next t) : Safe s t := by
  obtain hi | ⟨-, rfl⟩ := State.nested_next h
  · exact .initiateFull (execVector_hrdVecAddr (by decide)) hi
  · refine ⟨fun hs => { hs with }, fun hu => ⟨rfl, rfl, rfl, rfl, rfl, rfl, rfl, nofun, fun hm => ?_⟩⟩
    rw [show Ps.crntMode s.ps = true from hm] at hu
    contradiction

theorem Safe.enterHard {k : Nat} {w : SW} (hk : k < 170) (h : s.enterHard k w = .next t) : Safe s t := by
  obtain hi | hn := State.enterHard_next h
  · exact .initiateFull (execVector_hrdVecAddr hk) hi
  · exact .nested hn

theorem Safe.enterFatal {n : Fatal} (h : s.enterFatal n = .next t) : Safe s t := .enterHard (by decide) h

theorem State.fillUndefined_snd (s : State) (l : List (Option SW)) :
    ∃ k, (s.fillUndefined l).2 = { s with freeCount := k } := by
  obtain ⟨ws, k, -, -, hfill⟩ := s.fillUndefined_eq l
  exact ⟨_, congrArg Prod.snd (hfill s rfl)⟩

/-- A soft trap stays in its mode (R908). -/
theorem Quiet.initiateSoft {k : SoftVec} {i : SoftInfo} (h : s.initiateSoft k i = .ok t) : Quiet s t := by
  obtain ⟨w, nus, u, -, -, hpc, -, hus, hpush, rfl⟩ := State.initiateSoft_ok.1 h
  obtain ⟨c, hc⟩ := s.fillUndefined_snd (s.softSaveArea k i)
  rw [hc] at hpush
  exact ((((Quiet.refl s).setFreeCount c).setUs fun _ => hus).pushWords hpush).setPc fun _ => aligned_s_iff.1 hpc

theorem Safe.enterSoft {k : SoftVec} {i : SoftInfo} (h : s.enterSoft k i = .next t) : Safe s t := by
  obtain hi | hf := State.enterSoft_next h
  · exact (Quiet.initiateSoft hi).safe
  · exact .enterFatal hf

theorem HardVec.index_lt (v : HardVec) : v.index < 170 := by cases v <;> decide

/-- Every exception of an instruction. -/
theorem Safe.takeExc {e : Exc} (h : s.takeExc e = .next t) : Safe s t := by
  cases e with
  | hard v parm => exact .enterHard v.index_lt h
  | fatal n => exact .enterFatal h
  | drawnFatal n => exact .of_drawn (.enterFatal h)
  | soft k i => exact .of_stage6 (.enterSoft h)
  | nested va => exact .nested h
  | stuck =>
    cases h
    exact (Quiet.refl s).safe
  | fault f => exact nomatch h
  | refuse r => exact nomatch h

end

/-! ### Computations leave `USER_STATUS` legal -/

/-- Wherever the computation answers a result, the `USER_STATUS` in it (read by `st`) is legal if `us` was. -/
def Alu.LegalAfter {α : Type} (st : α → SW) (us : SW) (x : Alu α) : Prop :=
  Us.legal us = true → ∀ r, x = .ok r → Us.legal (st r) = true

namespace Alu.LegalAfter

variable {α β : Type} {st : α → SW} {us : SW}

theorem ok {a : α} (h : Us.legal us = true → Us.legal (st a) = true) : LegalAfter st us (.ok a) := by
  rintro hus r ⟨⟩
  exact h hus

theorem error {e : AluStop} : LegalAfter st us (.error e) := fun _ _ h => nomatch h

theorem ite {c : Prop} [Decidable c] {x y : Alu α} (hx : LegalAfter st us x) (hy : LegalAfter st us y) :
    LegalAfter st us (if c then x else y) := by
  split
  · exact hx
  · exact hy

/-- A check before the computation. -/
theorem after_check {x : Alu Unit} {f : Unit → Alu α} (hf : ∀ u, LegalAfter st us (f u)) :
    LegalAfter st us (x >>= f) := by
  cases x with
  | error e => exact error
  | ok u => exact hf u

/-- A step that answers a new `USER_STATUS`, from which the computation goes on. -/
theorem bind {x : Alu SW} {f : SW → Alu α} (hx : LegalAfter id us x) (hf : ∀ us1, LegalAfter st us1 (f us1)) :
    LegalAfter st us (x >>= f) := by
  intro hus r hr
  cases x with
  | error e => exact nomatch hr
  | ok us1 => exact hf us1 (hx hus us1 rfl) r hr

end Alu.LegalAfter

open Alu (LegalAfter)

/-- The overflow step writes `INT_OVFL` only (R303). -/
theorem intOvf_legal (us : SW) (ov : Bool) : LegalAfter id us (intOvf us ov) :=
  .ite .error (.ok (by simp [Us.setIntOvfl, Us.legal_setBit]))

/-- The zero-divide step writes `INT_Z_DIV` only (R308). -/
theorem intZDiv_legal (us : SW) (z : Bool) : LegalAfter id us (intZDiv us z) :=
  .ite .error (.ok (by simp [Us.setIntZDiv, Us.legal_setBit]))

section
variable (us : SW) {n m : Nat}

theorem pureAlu_legal {α β γ : Type} (f : α → β → γ) (x : α) (y : β) :
    LegalAfter Prod.snd us (pureAlu f us x y) := .ok id
theorem pureAlu1_legal {α γ : Type} (f : α → γ) (x : α) : LegalAfter Prod.snd us (pureAlu1 f us x) := .ok id

theorem deliverSum_legal (r : Sum n) : LegalAfter Prod.snd us (deliverSum us r) :=
  (intOvf_legal us r.ov).bind fun _ => .ok (by simp [Us.setCarry, Us.legal_setBit])
theorem deliverInt_legal (v : Int) : LegalAfter Prod.snd us (deliverInt us n v) :=
  (intOvf_legal us _).bind fun _ => .ok id

theorem divideQuo_legal (a b : Int) : LegalAfter Prod.snd us (divideQuo us n a b) :=
  (intZDiv_legal us _).bind fun us1 =>
    .ite (.ok (by simp [Us.setIntOvfl, Us.legal_setBit])) ((intOvf_legal us1 _).bind fun _ => .ok id)
theorem divideRem_legal (r : Int → Int → Int) (a b : Int) : LegalAfter Prod.snd us (divideRem r us n a b) :=
  (intZDiv_legal us _).bind fun _ => .ite (.ok id) (.ok id)
theorem divideBoth_legal (a b : Int) : LegalAfter (·.2.2) us (divideBoth us n a b) :=
  (intZDiv_legal us _).bind fun us1 =>
    .ite (.ok (by simp [Us.setIntOvfl, Us.legal_setBit])) ((intOvf_legal us1 _).bind fun _ => .ok id)

theorem quo2_legal (x k : Int) : LegalAfter Prod.snd us (quo2 us m n x k) :=
  .ite (deliverInt_legal us _) (.ite ((intOvf_legal us _).bind fun _ => .ok id) (deliverInt_legal us _))

theorem aluAbs_legal (y : BitVec n) : LegalAfter Prod.snd us (aluAbs us y) :=
  (intOvf_legal us _).bind fun _ => .ok (by simp [Us.setCarry, Us.legal_setBit])
theorem aluUmult_legal (x y : BitVec n) : LegalAfter Prod.snd us (aluUmult us x y) :=
  (intOvf_legal us _).bind fun _ => .ok id
theorem aluUdiv_legal (x : BitVec m) (y : BitVec n) : LegalAfter (·.2.2) us (aluUdiv us x y) :=
  (intZDiv_legal us _).bind fun us1 =>
    .ite (.ok (by simp [Us.setIntOvfl, Us.legal_setBit])) ((intOvf_legal us1 _).bind fun _ => .ok id)

theorem shfa_legal (d : ShiftDir) (x : BitVec n) (cnt : SW) : LegalAfter Prod.snd us (shfa d us x cnt) :=
  (intOvf_legal us _).bind fun _ => .ok id
theorem incDec_legal (up : Bool) (a : SW) : LegalAfter Prod.snd us (incDec up us a) :=
  (intOvf_legal us _).bind fun _ => .ok id

/-! Floating point -/

theorem legal_setFltFlags (wn : Bool) (c : FClass) : Us.legal (setFltFlags us wn c) = Us.legal us := by
  unfold setFltFlags
  split <;> simp [Us.setFltNan, Us.setFltUnfl, Us.setFltOvfl, Us.legal_setBit]

/-- A floating-point result whose flags are those of a class (R419). -/
theorem flags_legal {α : Type} (a : α) (wn : Bool) (c : FClass) :
    LegalAfter Prod.snd us (.ok (a, setFltFlags us wn c)) := .ok fun h => (legal_setFltFlags us wn c).trans h

theorem deliverSym_legal (wn : Bool) (c : FClass) : LegalAfter Prod.snd us (deliverSym us wn n c) :=
  .after_check fun _ => flags_legal us _ _ _
theorem deliverWord_legal (w : BitVec n) : LegalAfter Prod.snd us (deliverWord us w) := flags_legal us _ _ _

theorem deliverNum_legal (wn : Bool) (p : Prec) (r : Exact) : LegalAfter Prod.snd us (deliverNum us wn p r) :=
  .ite (deliverSym_legal us wn _)
    (.ite (.after_check fun _ => flags_legal us _ _ _)
      (.ite (.after_check fun _ => flags_legal us _ _ _) (flags_legal us _ _ _)))

variable (p pd pa pb : Prec)

theorem fAdd_legal (x y : BitVec p.bits) : LegalAfter Prod.snd us (fAdd p us x y) := by
  unfold fAdd
  split
  · exact deliverSym_legal us _ _
  · exact deliverWord_legal us _
  · exact deliverWord_legal us _
  · exact deliverNum_legal us _ _ _
theorem fMul_legal (x y : BitVec p.bits) : LegalAfter Prod.snd us (fMul pd p us x y) := by
  unfold fMul
  split
  · exact deliverSym_legal us _ _
  · exact deliverNum_legal us _ _ _
theorem fDiv_legal (x : BitVec pa.bits) (y : BitVec pb.bits) : LegalAfter Prod.snd us (fDiv pd pa pb us x y) := by
  unfold fDiv
  split
  · exact deliverSym_legal us _ _
  · exact deliverNum_legal us _ _ _
theorem fFix_legal (rnd : FixRnd) (y : BitVec p.bits) : LegalAfter Prod.snd us (fFix rnd n p us y) := by
  unfold fFix
  split
  · exact deliverInt_legal us _
  · exact deliverInt_legal us _
  · exact deliverInt_legal us _
  · exact .after_check fun _ => .ok (by simp [Us.setIntOvfl, Us.legal_setBit])
theorem fSc_legal (x : BitVec p.bits) (k : SW) : LegalAfter Prod.snd us (fSc p us x k) :=
  .ite (deliverNum_legal us _ _ _) (deliverSym_legal us _ _)
theorem fTrans_legal (y : BitVec p.bits) : LegalAfter Prod.snd us (fTrans pd p us y) :=
  .ite (deliverNum_legal us _ _ _) (deliverSym_legal us _ _)
theorem fNeg_legal (y : BitVec n) : LegalAfter Prod.snd us (fNeg us y) :=
  .ite (deliverWord_legal us _) (deliverSym_legal us _ _)
theorem fAbs_legal (y : BitVec n) : LegalAfter Prod.snd us (fAbs us y) :=
  .ite (deliverWord_legal us _) (deliverSym_legal us _ _)
theorem deliverPick_legal (w : BitVec n) : LegalAfter Prod.snd us (deliverPick us w) :=
  .ite (deliverWord_legal us _) (deliverSym_legal us _ _)
theorem fMin_legal (x y : BitVec n) : LegalAfter Prod.snd us (fMin us x y) :=
  .ite (deliverSym_legal us _ _) (deliverPick_legal us _)
theorem fMax_legal (x y : BitVec n) : LegalAfter Prod.snd us (fMax us x y) :=
  .ite (deliverSym_legal us _ _) (deliverPick_legal us _)

end

/-! ### Jump destinations are multiples of four -/

section
variable {s : State}

theorem State.jumpDest_aligned {j : JDest} {d : VAddr} (h : s.jumpDest j = .ok d) (hs : s.Inv) : field d 28 2 = 0 := by
  cases j with
  | rel j =>
    simp only [State.jumpDest, M.bind_ok, Except.ok.injEq] at h
    obtain ⟨-, -, rfl⟩ := h
    exact field_low_two_add hs.pc (field_low_two_shiftLeft _)
  | gen od =>
    simp only [State.jumpDest, M.bind_ok, checkPC_ok, Except.ok.injEq] at h
    obtain ⟨-, -, l, -, -, -, -, ⟨hl, -⟩, rfl⟩ := h
    exact aligned_s_iff.1 hl

theorem State.skipDest_aligned {k : BitVec 4} {d : VAddr} (h : s.skipDest k = .ok d) (hs : s.Inv) :
    field d 28 2 = 0 := by
  simp only [State.skipDest, M.bind_ok, Except.ok.injEq] at h
  obtain ⟨-, -, rfl⟩ := h
  exact field_low_two_add hs.pc (field_low_two_shiftLeft _)

theorem State.hopDest_aligned {k : BitVec 24} {d : VAddr} (h : s.hopDest k = .ok d) (hs : s.Inv) :
    field d 28 2 = 0 := by
  simp only [State.hopDest, M.bind_ok, Except.ok.injEq] at h
  obtain ⟨-, -, rfl⟩ := h
  exact field_low_two_add hs.pc (field_low_two_shiftLeft _)

theorem State.privileged_ok {env : Env} {u : Unit} : s.privileged env = .ok u ↔ Ps.crntMode s.ps = true := by
  unfold State.privileged
  split <;> simp_all

end

/-! ### Bodies of instructions -/

/-- A body that keeps what every transition keeps, when the address after the instruction is a multiple of four. -/
def Body.Sound (b : Body) : Prop :=
  ∀ ⦃env : Env⦄ ⦃s t : State⦄, (s.Inv → field env.next 28 2 = 0) → b env s = .ok t → Safe s t

section
variable {o1 o2 : OD} {j : JDest} {p pd p1 p2 : Prec}

theorem top3_sound {m : TMode} {op : SW → BitVec p1.bits → BitVec p2.bits → Alu (BitVec pd.bits × SW)}
    (hop : ∀ us x y, LegalAfter Prod.snd us (op us x y)) : (top3 pd p1 p2 op m o1 o2).Sound := by
  intro env s t hn h
  obtain ⟨a, d, x, y, r, -, -, -, -, hr, rfl⟩ := top3_ok.1 h
  exact ((((Quiet.refl s).writeSpan _ _ _).setUs fun hus => hop _ _ _ hus _ hr).setPc hn).safe

theorem top3Next_sound {m : TMode}
    {op : SW → BitVec p1.bits → BitVec p2.bits → Alu (BitVec pd.bits × BitVec pd.bits × SW)}
    (hop : ∀ us x y, LegalAfter (·.2.2) us (op us x y)) : (top3Next pd p1 p2 op m o1 o2).Sound := by
  intro env s t hn h
  obtain ⟨a, l, d, d2, x, y, r, -, -, -, -, -, -, hr, rfl⟩ := top3Next_ok.1 h
  exact (((((Quiet.refl s).writeSpan _ _ _).writeSpan _ _ _).setUs fun hus => hop _ _ _ hus _ hr).setPc hn).safe

theorem top3Trap_sound {m : TMode} {op : BitVec p1.bits → BitVec p2.bits → M (BitVec pd.bits)} :
    (top3Trap pd p1 p2 op m o1 o2).Sound := by
  intro env s t hn h
  obtain ⟨a, d, x, y, r, -, -, -, -, -, rfl⟩ := top3Trap_ok.1 h
  exact (((Quiet.refl s).writeSpan _ _ _).setPc hn).safe

theorem xop2_sound {op : SW → BitVec p2.bits → Alu (BitVec p1.bits × SW)}
    (hop : ∀ us y, LegalAfter Prod.snd us (op us y)) : (xop2 p1 p2 op o1 o2).Sound := by
  intro env s t hn h
  obtain ⟨x1, x2, d, y, r, -, -, -, -, hr, rfl⟩ := xop2_ok.1 h
  exact ((((Quiet.refl s).writeSpan _ _ _).setUs fun hus => hop _ _ hus _ hr).setPc hn).safe

/-! Logic, shifts and moves -/

theorem bndsfB_sound {m : TMode} : (bndsfB p m o1 o2).Sound := by
  intro env s t hn h
  simp only [bndsfB, M.bind_ok, Except.ok.injEq] at h
  obtain ⟨-, -, -, -, -, -, -, -, -, -, -, -, rfl⟩ := h
  exact (((Quiet.refl s).writeSpan _ _ _).setPc hn).safe

theorem doubleShift_sound {m : TMode} {d : ShiftDir} {rev : Bool} : (doubleShift p d rev m o1 o2).Sound := by
  intro env s t hn h
  have stored : ∀ sp v, Safe s ((s.writeSpan p sp v).setPc env.next) := fun sp v =>
    (((Quiet.refl s).writeSpan _ _ _).setPc hn).safe
  cases rev with
  | false =>
    simp only [doubleShift, M.bind_ok, Bool.false_eq_true, if_false] at h
    obtain ⟨_, -, _, -, h⟩ := h
    split at h <;> simp only [M.bind_ok, Except.ok.injEq] at h
    · obtain ⟨-, -, rfl⟩ := h
      exact stored _ _
    · obtain ⟨-, -, -, -, -, -, -, -, rfl⟩ := h
      exact stored _ _
  | true =>
    simp only [doubleShift, M.bind_ok, if_true] at h
    obtain ⟨_, -, _, -, h⟩ := h
    split at h <;> simp only [M.bind_ok, Except.ok.injEq] at h
    · obtain ⟨-, -, rfl⟩ := h
      exact stored _ _
    · obtain ⟨-, -, -, -, -, -, -, -, rfl⟩ := h
      exact stored _ _

theorem moveMany_sound {n : Nat} : (moveMany p n o1 o2).Sound := by
  intro env s t hn h
  simp only [moveMany, M.bind_ok, State.freeList_eq] at h
  obtain ⟨_, -, _, -, _, -, _, -, _, -, _, -, _, -, _, -, h⟩ := h
  split at h <;> cases h
  · exact ((((Quiet.refl s).setFreeCount _).writeRun _ _ _).setPc hn).safe
  · exact (((Quiet.refl s).writeRun _ _ _).setPc hn).safe

theorem exchange_sound : (exchange p o1 o2).Sound := by
  intro env s t hn h
  simp only [exchange, M.bind_ok, Except.ok.injEq] at h
  obtain ⟨-, -, -, -, -, -, -, -, -, -, -, -, rfl⟩ := h
  exact ((((Quiet.refl s).writeSpan _ _ _).writeSpan _ _ _).setPc hn).safe

theorem saveLoadReg_sound {n : RegNum} : (saveLoadReg n o1 o2).Sound := by
  intro env s t hn h
  simp only [saveLoadReg, M.bind_ok, Except.ok.injEq] at h
  obtain ⟨-, -, -, -, -, -, -, -, rfl⟩ := h
  exact ((((Quiet.refl s).putReg _ _).writeSpan _ _ _).setPc hn).safe

theorem saveLoadRegAddr_sound {n : RegNum} : (saveLoadRegAddr n o1 o2).Sound := by
  intro env s t hn h
  simp only [saveLoadRegAddr, M.bind_ok, Except.ok.injEq] at h
  obtain ⟨-, -, -, -, -, -, -, -, rfl⟩ := h
  exact ((((Quiet.refl s).putReg _ _).writeSpan _ _ _).setPc hn).safe

theorem moveAddr_sound : (moveAddr o1 o2).Sound := by
  intro env s t hn h
  simp only [moveAddr, M.bind_ok, Except.ok.injEq] at h
  obtain ⟨-, -, -, -, -, -, -, -, rfl⟩ := h
  exact (((Quiet.refl s).writeSpan _ _ _).setPc hn).safe

theorem movePhys_sound : (movePhys o1 o2).Sound := by
  intro env s t hn h
  simp only [movePhys, M.bind_ok, Except.ok.injEq] at h
  obtain ⟨-, -, -, -, -, -, -, -, -, -, -, -, rfl⟩ := h
  exact (((Quiet.refl s).writeSpan _ _ _).setPc hn).safe

/-! Skips and jumps -/

theorem skipIf_sound {rel : BitVec p.bits → BitVec p.bits → Bool} {skp : BitVec 4} :
    (skipIf p rel skp o1 o2).Sound := by
  intro env s t hn h
  simp only [skipIf, M.bind_ok, Except.ok.injEq] at h
  obtain ⟨-, -, -, -, d, hd, -, -, -, -, rfl⟩ := h
  exact ((Quiet.refl s).setPc fun hs => field_low_two_ite (State.skipDest_aligned hd hs) (hn hs)).safe

theorem countSkip_sound {up : Bool} {c : ACond} {skp : BitVec 4} : (countSkip up c skp o1 o2).Sound := by
  intro env s t hn h
  simp only [countSkip, M.bind_ok, liftAlu_ok, Except.ok.injEq] at h
  obtain ⟨-, -, -, -, d, hd, -, -, a, -, -, -, r, hr, rfl⟩ := h
  exact ((((Quiet.refl s).writeSpan _ _ _).setUs fun hus => incDec_legal _ up a hus _ hr).setPc
    fun hs => field_low_two_ite (State.skipDest_aligned hd hs) (hn hs)).safe

theorem jumpIfNext_sound {c : ACond} : (jumpIfNext c o1 j).Sound := by
  intro env s t hn h
  simp only [jumpIfNext, M.bind_ok, Except.ok.injEq] at h
  obtain ⟨-, -, d, hd, -, -, -, -, -, -, rfl⟩ := h
  exact ((Quiet.refl s).setPc fun hs => field_low_two_ite (State.jumpDest_aligned hd hs) (hn hs)).safe

theorem jumpIfZero_sound {c : ACond} : (jumpIfZero p c o1 j).Sound := by
  intro env s t hn h
  simp only [jumpIfZero, M.bind_ok, Except.ok.injEq] at h
  obtain ⟨-, -, d, hd, -, -, rfl⟩ := h
  exact ((Quiet.refl s).setPc fun hs => field_low_two_ite (State.jumpDest_aligned hd hs) (hn hs)).safe

theorem jumpAlways_sound : (jumpAlways o1 j).Sound := by
  intro env s t hn h
  simp only [jumpAlways, M.bind_ok, Except.ok.injEq] at h
  obtain ⟨-, -, d, hd, rfl⟩ := h
  exact ((Quiet.refl s).setPc (State.jumpDest_aligned hd)).safe

theorem countJumpNext_sound {up : Bool} {c : ACond} : (countJumpNext up c o1 j).Sound := by
  intro env s t hn h
  simp only [countJumpNext, M.bind_ok, liftAlu_ok, Except.ok.injEq] at h
  obtain ⟨-, -, d, hd, -, -, -, -, a, -, -, -, r, hr, rfl⟩ := h
  exact ((((Quiet.refl s).writeSpan _ _ _).setUs fun hus => incDec_legal _ up a hus _ hr).setPc
    fun hs => field_low_two_ite (State.jumpDest_aligned hd hs) (hn hs)).safe

theorem countJump_sound {up : Bool} {cond : SW → Bool} : (countJump up cond o1 j).Sound := by
  intro env s t hn h
  simp only [countJump, M.bind_ok, liftAlu_ok, Except.ok.injEq] at h
  obtain ⟨-, -, d, hd, -, -, a, -, r, hr, rfl⟩ := h
  exact ((((Quiet.refl s).writeSpan _ _ _).setUs fun hus => incDec_legal _ up a hus _ hr).setPc
    fun hs => field_low_two_ite (State.jumpDest_aligned hd hs) (hn hs)).safe

theorem boundTrap_sound {k : BoundKind} : (boundTrap p k o1 o2).Sound := by
  intro env s t hn h
  simp only [boundTrap, M.bind_ok] at h
  obtain ⟨_, -, _, -, _, -, _, -, h⟩ := h
  split at h <;> cases h
  exact ((Quiet.refl s).setPc hn).safe

theorem boundTrapB_sound : (boundTrapB p o1 o2).Sound := by
  intro env s t hn h
  simp only [boundTrapB, M.bind_ok] at h
  obtain ⟨_, -, _, -, _, -, _, -, _, -, _, -, h⟩ := h
  split at h <;> cases h
  exact ((Quiet.refl s).setPc hn).safe

theorem jumpPatch_sound {disp : BitVec 24} : (jumpPatch disp).Sound := by
  intro env s t hn h
  simp only [jumpPatch, M.bind_ok, Except.ok.injEq] at h
  obtain ⟨d, hd, rfl⟩ := h
  exact ((Quiet.refl s).setPc (State.hopDest_aligned hd)).safe

/-! Routine linkage -/

theorem jumpSub_sound : (jumpSub o1 j).Sound := by
  intro env s t hn h
  simp only [jumpSub, M.bind_ok, Except.ok.injEq] at h
  obtain ⟨-, -, d, hd, _, -, u, hu, rfl⟩ := h
  exact (((Quiet.refl s).pushWords hu).setPc (State.jumpDest_aligned hd)).safe

theorem jumpCoroutine_sound : (jumpCoroutine o1 o2).Sound := by
  intro env s t hn h
  simp only [jumpCoroutine, M.bind_ok, checkPC_ok, Except.ok.injEq] at h
  obtain ⟨_, -, _, -, _, -, _, -, _, -, _, -, _, -, _, -, _, -, _, ⟨hpc, -⟩, rfl⟩ := h
  exact (((((Quiet.refl s).writeSpan _ _ _).writeSpan _ _ _).writeSpan _ _ _).setPc
    fun _ => aligned_s_iff.1 hpc).safe

theorem allocStack_sound {n : Nat} : (allocStack n o1 o2).Sound := by
  intro env s t hn h
  simp only [allocStack, M.bind_ok, State.freeList_eq] at h
  obtain ⟨_, -, _, -, _, -, _, -, _, -, _, -, _, -, _, -, h⟩ := h
  split at h <;> cases h
  · exact (((((Quiet.refl s).setFreeCount _).writeRun _ _ _).putReg _ _).setPc hn).safe
  · exact ((((Quiet.refl s).writeRun _ _ _).putReg _ _).setPc hn).safe

/-- A return that does not load `PROC_STATUS` (R632). -/
theorem Quiet.returnTo {s : State} {sp : SW} {us : Option SW} {pc : VAddr}
    (hus : ∀ w ∈ us, Us.legal w = true) (hpc : s.Inv → field pc 28 2 = 0) : Quiet s (s.returnTo sp us none pc) := by
  cases us with
  | none => exact ((Quiet.refl s).putReg _ sp).setPc hpc
  | some w => exact (((Quiet.refl s).putReg _ sp).setUs fun _ => hus w rfl).setPc hpc

theorem returnSub_sound : (returnSub o1 o2).Sound := by
  intro env s t hn h
  simp only [returnSub, M.bind_ok, checkPC_ok, Except.ok.injEq] at h
  obtain ⟨_, -, _, -, _, -, _, -, _, -, _, -, _, ⟨hpc, -⟩, rfl⟩ := h
  exact (((Quiet.returnTo (by simp) State.Inv.pc).writeSpan _ _ _).setPc fun _ => aligned_s_iff.1 hpc).safe

theorem returnPop_sound : (returnPop o1 o2).Sound := by
  intro env s t hn h
  simp only [returnPop, M.bind_ok, checkPC_ok, Except.ok.injEq] at h
  obtain ⟨_, -, _, -, _, -, _, -, _, -, _, ⟨hpc, -⟩, rfl⟩ := h
  exact (Quiet.returnTo (by simp) fun _ => aligned_s_iff.1 hpc).safe

theorem returnUser_sound : (returnUser o1 o2).Sound := by
  intro env s t hn h
  simp only [returnUser, M.bind_ok, checkPC_ok, checkUS_ok, Except.ok.injEq] at h
  obtain ⟨_, -, _, -, _, -, _, -, us, -, _, -, _, ⟨hpc, -⟩, _, hus, rfl⟩ := h
  refine (Quiet.returnTo ?_ fun _ => aligned_s_iff.1 hpc).safe
  rintro w ⟨⟩
  exact hus

theorem returnFull_sound : (returnFull o1 o2).Sound := by
  intro env s t hn h
  simp only [returnFull, M.bind_ok, State.privileged_ok, checkPC_ok, checkUS_ok, Except.ok.injEq] at h
  obtain ⟨_, hm, _, -, _, -, l, -, k, -, us, -, ps, -, _, -, _, ⟨hpc, -⟩, _, hus, rfl⟩ := h
  have hq := (Quiet.refl s).putReg (Us.spId s.us) (poppedSp l 12 k)
  exact .of_exec hm fun hs => { hq.inv hs with us := hus, pc := aligned_s_iff.1 hpc }

theorem trapSelf_sound {n : Nat} : (trapSelf n o1 o2).Sound := by
  intro env s t hn h
  simp only [trapSelf, M.bind_ok, checkPC_ok, Except.ok.injEq] at h
  obtain ⟨_, -, _, -, _, -, p1, -, p2, -, _, ⟨hpc, -⟩, u, hu, rfl⟩ := h
  obtain ⟨c, hc⟩ := s.fillUndefined_snd [p1.1, p1.2, p2.1, p2.2, some (pcWord s.pc), some (pcWord env.next)]
  rw [hc] at hu
  exact ((((Quiet.refl s).setFreeCount c).pushWords hu).setPc fun _ => aligned_s_iff.1 hpc).safe

theorem trapExec_sound {n : Nat} (hlt : n < 64) : (trapExec n o1 o2).Sound := by
  intro env s t hn h
  simp only [trapExec, M.bind_ok, checkPC_ok, checkUS_ok] at h
  obtain ⟨w, hw, _, -, nus, -, nps, -, _, -, p1, -, p2, -, _, ⟨hpc, -⟩, _, hus, h⟩ := h
  obtain ⟨c, hc⟩ := s.fillUndefined_snd
    [p1.1, p1.2, p2.1, p2.2, some (pcWord s.pc), some s.us, some s.ps, some (pcWord env.next)]
  rw [hc] at h
  split at h <;> cases h
  next hl =>
    exact .of_start (s' := { s with freeCount := c }) rfl rfl rfl
      (.loadAndPush (execVector_trpexeVecAddr hlt) hw hpc hus hl)

end

section
variable {o1 o2 : OD} {j : JDest} {p : Prec}

/-! Stacks, bytes and blocks -/

theorem adjustStack_sound {d : StackDir} : (adjustStack d o1 o2).Sound := by
  intro env s t hn h
  cases d <;> simp only [adjustStack, M.bind_ok, Except.ok.injEq] at h <;>
    obtain ⟨_, -, _, -, _, -, _, -, _, -, _, -, _, -, _, -, rfl⟩ := h <;>
    exact (((Quiet.refl s).writeSpan _ _ _).setPc hn).safe

theorem pushItem_sound {d : StackDir} : (pushItem d p o1 o2).Sound := by
  intro env s t hn h
  cases d <;> simp only [pushItem, M.bind_ok, Except.ok.injEq] at h <;>
    obtain ⟨_, -, _, -, _, -, _, -, _, -, _, -, _, -, _, -, _, -, rfl⟩ := h <;>
    exact ((((Quiet.refl s).writeSpan _ _ _).writeSpan _ _ _).setPc hn).safe

theorem popItem_sound {d : StackDir} : (popItem d p o1 o2).Sound := by
  intro env s t hn h
  cases d <;> simp only [popItem, M.bind_ok, Except.ok.injEq] at h <;>
    obtain ⟨_, -, _, -, _, -, _, -, _, -, _, -, _, -, _, -, rfl⟩ := h <;>
    exact ((((Quiet.refl s).writeSpan _ _ _).writeSpan _ _ _).setPc hn).safe

theorem loadByteOf_sound {op : BitVec p.bits → ByteField → BitVec p.bits} : (loadByteOf p op o1 o2).Sound := by
  intro env s t hn h
  simp only [loadByteOf, M.bind_ok, Except.ok.injEq] at h
  obtain ⟨_, -, _, -, _, -, _, -, _, -, rfl⟩ := h
  exact (((Quiet.refl s).writeSpan _ _ _).setPc hn).safe

theorem depositByteIn_sound : (depositByteIn p o1 o2).Sound := by
  intro env s t hn h
  simp only [depositByteIn, M.bind_ok, Except.ok.injEq] at h
  obtain ⟨_, -, _, -, _, -, _, -, _, -, _, -, _, -, _, -, rfl⟩ := h
  exact (((Quiet.refl s).writeSpan _ _ _).setPc hn).safe

theorem depositImmByte_sound {m : TMode} : (depositImmByte p m o1 o2).Sound := by
  intro env s t hn h
  simp only [depositImmByte, M.bind_ok, Except.ok.injEq] at h
  obtain ⟨_, -, _, -, _, -, _, -, _, -, _, -, rfl⟩ := h
  exact (((Quiet.refl s).writeSpan _ _ _).setPc hn).safe

theorem stringCompare_sound {cnt : RegNum} : (stringCompare cnt o1 o2).Sound := by
  intro env s t hn h
  simp only [stringCompare, M.bind_ok, Except.ok.injEq] at h
  obtain ⟨_, -, _, -, _, -, rfl⟩ := h
  exact (((Quiet.refl s).putReg _ _).setPc hn).safe

theorem blockMove_sound {src dst : Access} {cnt : RegNum} : (blockMove src dst cnt o1 o2).Sound := by
  intro env s t hn h
  simp only [blockMove, M.bind_ok, Except.ok.injEq] at h
  obtain ⟨_, -, _, -, _, -, _, -, _, -, rfl⟩ := h
  exact (((Quiet.refl s).writeRun _ _ _).setPc hn).safe

theorem blockInit_sound {cnt : RegNum} : (blockInit cnt p o1 o2).Sound := by
  intro env s t hn h
  simp only [blockInit, M.bind_ok, Except.ok.injEq] at h
  obtain ⟨_, -, _, -, _, -, _, -, _, -, _, -, _, -, _, -, rfl⟩ := h
  exact (((Quiet.refl s).writeRun _ _ _).setPc hn).safe

/-! Status words -/

theorem jumpUs_sound {c : LCond} : (jumpUs c o1 j).Sound := by
  intro env s t hn h
  simp only [jumpUs, M.bind_ok, Except.ok.injEq] at h
  obtain ⟨_, -, d, hd, _, -, rfl⟩ := h
  exact ((Quiet.refl s).setPc fun hs => field_low_two_ite (State.jumpDest_aligned hd hs) (hn hs)).safe

theorem jumpUsClear_sound {c : LCond} : (jumpUsClear c o1 j).Sound := by
  intro env s t hn h
  simp only [jumpUsClear, M.bind_ok, Except.ok.injEq] at h
  obtain ⟨_, -, d, hd, _, -, _, hu, rfl⟩ := h
  exact (((Quiet.refl s).loadUs hu).setPc
    fun hs => field_low_two_ite (State.jumpDest_aligned hd hs) (hn hs)).safe

theorem writeUsJump_sound : (writeUsJump o1 j).Sound := by
  intro env s t hn h
  simp only [writeUsJump, M.bind_ok, Except.ok.injEq] at h
  obtain ⟨_, -, d, hd, _, -, _, hu, rfl⟩ := h
  exact (((Quiet.refl s).loadUs hu).setPc (State.jumpDest_aligned hd)).safe

theorem writeFullJump_sound : (writeFullJump o1 j).Sound := by
  intro env s t hn h
  simp only [writeFullJump, M.bind_ok, State.privileged_ok, Except.ok.injEq] at h
  obtain ⟨_, hm, _, -, d, hd, _, -, _, -, _, -, _, hu, rfl⟩ := h
  exact .of_exec hm fun hs => { ((Quiet.refl s).loadUs hu).inv hs with pc := State.jumpDest_aligned hd hs }

/-- The check of the instructions that are executive-only in some of their forms (R940). -/
theorem privilegedIf_ok {priv : Bool} {s t : State} {env : Env} {x : M State} :
    (if priv = true then s.privileged env >>= fun _ => x else x) = .ok t ↔
      (priv = true → Ps.crntMode s.ps = true) ∧ x = .ok t := by
  cases priv <;> simp [M.bind_ok, State.privileged_ok]

/-- What the change of one part of the state must keep: in an executive-only instruction, the invariant alone. -/
def PartSafe (priv : Bool) (s t : State) : Prop := if priv then s.Inv → t.Inv else Quiet s t

theorem Quiet.partSafe {priv : Bool} {s t : State} (h : Quiet s t) : PartSafe priv s t := by
  cases priv
  · exact h
  · exact h.inv

theorem PartSafe.setPc {priv : Bool} {s t : State} (ht : PartSafe priv s t)
    (hpriv : priv = true → Ps.crntMode s.ps = true) {a : VAddr} (ha : s.Inv → field a 28 2 = 0) :
    Safe s (t.setPc a) := by
  cases priv with
  | false => exact (Quiet.setPc ht ha).safe
  | true => exact .of_exec (hpriv rfl) fun hs => { ht hs with pc := ha hs }

theorem storeStatus_sound {priv : Bool} {f : State → SW} : (storeStatus priv f o1 o2).Sound := by
  intro env s t hn h
  simp only [storeStatus, privilegedIf_ok, M.bind_ok, Except.ok.injEq] at h
  obtain ⟨-, _, -, _, -, _, -, rfl⟩ := h
  exact (((Quiet.refl s).writeSpan _ _ _).setPc hn).safe

theorem loadStatus_sound {priv : Bool} {f : SW → State → M State}
    (hf : ∀ v s t, f v s = .ok t → PartSafe priv s t) : (loadStatus priv f o1 o2).Sound := by
  intro env s t hn h
  simp only [loadStatus, privilegedIf_ok, M.bind_ok, Except.ok.injEq] at h
  obtain ⟨hpriv, _, -, _, -, _, -, u, hu, rfl⟩ := h
  exact (hf _ _ _ hu).setPc hpriv hn

section
variable {s t : State} {v : SW}

theorem setUserBits_quiet (h : setUserBits v s = .ok t) : Quiet s t := (Quiet.refl s).loadUs h
theorem clearUserBits_quiet (h : clearUserBits v s = .ok t) : Quiet s t := (Quiet.refl s).loadUs h

theorem writeSpId_quiet (h : writeSpId v s = .ok t) : Quiet s t := by
  simp only [writeSpId] at h
  split at h
  · split at h <;> cases h
    next hr => exact (Quiet.refl s).setUs fun hus => Us.legal_setSpId hus hr
  · split at h <;> cases h
    next hr => exact ((Quiet.refl s).setFreeCount _).setUs fun hus => Us.legal_setSpId hus hr

theorem writeRndMode_quiet (h : writeRndMode v s = .ok t) : Quiet s t := by
  unfold writeRndMode at h
  split at h <;> cases h
  · exact (Quiet.refl s).setUs fun hus => (Us.legal_setRndMode _ _).trans hus
  · exact ((Quiet.refl s).setFreeCount _).setUs fun hus => (Us.legal_setRndMode _ _).trans hus

theorem writeFile_inv {set : SW → FileNum → SW} (h : writeFile set v s = .ok t) (hs : s.Inv) : t.Inv := by
  unfold writeFile at h
  split at h <;> cases h <;> exact { hs with }

end

/-! Caches, maps and segment registers -/

theorem sweepCache_sound {phys : Bool} {cnt : RegNum} : (sweepCache phys cnt o1 o2).Sound := by
  intro env s t hn h
  simp only [sweepCache, privilegedIf_ok, M.bind_ok, Except.ok.injEq] at h
  obtain ⟨-, _, -, _, -, _, -, _, -, _, -, rfl⟩ := h
  exact ((Quiet.refl s).setPc hn).safe

theorem sweepMap_sound : (sweepMap o1 o2).Sound := by
  intro env s t hn h
  simp only [sweepMap, M.bind_ok, Except.ok.injEq] at h
  obtain ⟨_, -, _, -, _, -, _, -, rfl⟩ := h
  exact ((Quiet.refl s).setPc hn).safe

/-- The segment registers are loaded with words that are multiples of four (R804). -/
theorem writeSegment_sound {set : State → PAddr → PAddr → State}
    (hset : ∀ s p l, s.Inv → field p 32 2 = 0 → field l 32 2 = 0 → (set s p l).Inv) :
    (writeSegment set o1 j).Sound := by
  intro env s t hn h
  simp only [writeSegment, M.bind_ok, State.privileged_ok, fatalIf_ok, Bool.or_eq_false_iff, bne_eq_false_iff_eq,
    Except.ok.injEq] at h
  obtain ⟨_, hm, _, -, d, hd, _, -, p, -, q, -, _, ⟨hp, hq⟩, rfl⟩ := h
  exact .of_exec hm fun hs =>
    { hset s _ _ hs (field_low_two_field hp) (field_low_two_field hq) with pc := State.jumpDest_aligned hd hs }

theorem setUserSegment_inv {s : State} {p l : PAddr} (hs : s.Inv) (hp : field p 32 2 = 0) (hl : field l 32 2 = 0) :
    (s.setUserSegment p l).Inv := { hs with segments := ⟨hs.segments.1, hs.segments.2.1, hp, hl⟩ }
theorem setExecSegment_inv {s : State} {p l : PAddr} (hs : s.Inv) (hp : field p 32 2 = 0) (hl : field l 32 2 = 0) :
    (s.setExecSegment p l).Inv := { hs with segments := ⟨hp, hl, hs.segments.2.2⟩ }

/-! Interrupt registers and counters -/

/-- Bits 32 to 35 of every interrupt register are zero (R76, R77). -/
theorem State.intClean_iff {s : State} :
    s.intClean = true ↔ ∀ i : Fin 8, field s.intPend[i] 32 4 = 0 ∧ field s.intEnb[i] 32 4 = 0 := by
  simp [State.intClean]

theorem field_and {n : Nat} (x y : BitVec n) (i l : Nat) : field (x &&& y) i l = field x i l &&& field y i l :=
  BitVec.extractLsb'_and
theorem field_or {n : Nat} (x y : BitVec n) (i l : Nat) : field (x ||| y) i l = field x i l ||| field y i l :=
  BitVec.extractLsb'_or

theorem field_levelMask (v : SW) : field (levelMask v) 32 4 = 0 := by
  apply BitVec.eq_of_getLsbD_eq
  intro k hk
  rw [getLsbD_field, show (levelMask v).getLsbD (36 - 32 - 4 + k) = _ from BitVec.getLsbD_append]
  simp [hk]

/-- A write of an enable register whose last four bits are zero (R77). -/
theorem Quiet.setEnb {s t : State} (h : Quiet s t) {i : BitVec 3} {v : SW}
    (hv : t.intClean = true → field v 32 4 = 0) : Quiet s (t.setEnb i v) where
  guarded := h.guarded
  inv hs := by
    refine { h.inv hs with intClean := State.intClean_iff.2 fun k => ?_ }
    have hclean := (h.inv hs).intClean
    obtain ⟨hpend, henb⟩ := State.intClean_iff.1 hclean k
    refine ⟨hpend, ?_⟩
    simp only [State.setEnb, Fin.getElem_fin, Vector.getElem_set]
    split
    · exact hv hclean
    · exact henb

/-- A write of a pending register whose last four bits are zero (R76). -/
theorem Quiet.setPend {s t : State} (h : Quiet s t) {i : BitVec 3} {v : SW}
    (hv : t.intClean = true → field v 32 4 = 0) : Quiet s (t.setPend i v) where
  guarded := h.guarded
  inv hs := by
    refine { h.inv hs with intClean := State.intClean_iff.2 fun k => ?_ }
    have hclean := (h.inv hs).intClean
    obtain ⟨hpend, henb⟩ := State.intClean_iff.1 hclean k
    refine ⟨?_, henb⟩
    simp only [State.setPend, Fin.getElem_fin, Vector.getElem_set]
    split
    · exact hv hclean
    · exact hpend

theorem storePart_sound {priv : Bool} {f : SW → State → M (BitVec p.bits × State)}
    (hf : ∀ k s r, f k s = .ok r → Quiet s r.2) : (storePart priv p f o1 o2).Sound := by
  intro env s t hn h
  simp only [storePart, privilegedIf_ok, M.bind_ok, Except.ok.injEq] at h
  obtain ⟨-, _, -, _, -, _, -, _, -, r, hr, rfl⟩ := h
  exact (((hf _ _ _ hr).writeSpan _ _ _).setPc hn).safe

theorem loadPart_sound {priv : Bool} {f : SW → BitVec p.bits → State → M State}
    (hf : ∀ k v s t, f k v s = .ok t → PartSafe priv s t) : (loadPart priv p f o1 o2).Sound := by
  intro env s t hn h
  simp only [loadPart, privilegedIf_ok, M.bind_ok, Except.ok.injEq] at h
  obtain ⟨hpriv, _, -, _, -, _, -, _, -, u, hu, rfl⟩ := h
  exact (hf _ _ _ _ hu).setPc hpriv hn

section
variable {s t : State} {k v : SW} {d : DW}

/-- A part of the state is only read. -/
theorem read_quiet {α β : Type} {x : M α} {g : α → β} {r : β × State}
    (h : (x >>= fun i => .ok (g i, s)) = .ok r) : Quiet s r.2 := by
  simp only [M.bind_ok, Except.ok.injEq] at h
  obtain ⟨_, -, rfl⟩ := h
  exact .refl s

theorem readEnb_quiet {r : SW × State} (h : readEnb k s = .ok r) : Quiet s r.2 := read_quiet h
theorem readPend_quiet {r : SW × State} (h : readPend k s = .ok r) : Quiet s r.2 := read_quiet h
theorem readParm_quiet {r : SW × State} (h : readParm k s = .ok r) : Quiet s r.2 := read_quiet h
theorem readCounterEnb_quiet {r : DW × State} (h : readCounterEnb k s = .ok r) : Quiet s r.2 := read_quiet h

theorem Quiet.advanceClock (s : State) : Quiet s s.advanceClock := ⟨rfl, fun hs => { hs with }⟩

theorem readCounter_quiet {r : DW × State} (h : readCounter k s = .ok r) : Quiet s r.2 := by
  simp only [readCounter, M.bind_ok, Except.ok.injEq] at h
  obtain ⟨_, -, rfl⟩ := h
  dsimp only
  split
  · exact .advanceClock s
  · exact .refl s

theorem writeEnb_quiet (h : writeEnb k v s = .ok t) : Quiet s t := by
  simp only [writeEnb, M.bind_ok, fatalIf_ok, bne_eq_false_iff_eq, Except.ok.injEq] at h
  obtain ⟨_, -, _, hv, rfl⟩ := h
  exact (Quiet.refl s).setEnb fun _ => hv
theorem writePend_quiet (h : writePend k v s = .ok t) : Quiet s t := by
  simp only [writePend, M.bind_ok, fatalIf_ok, bne_eq_false_iff_eq, Except.ok.injEq] at h
  obtain ⟨_, -, _, hv, rfl⟩ := h
  exact (Quiet.refl s).setPend fun _ => hv

/-- An enable register of a state with clean interrupt registers. -/
theorem State.field_enb (hs : s.intClean = true) (i : BitVec 3) : field (s.enb i) 32 4 = 0 :=
  (State.intClean_iff.1 hs i.toFin).2
/-- A pending register of a state with clean interrupt registers. -/
theorem State.field_pend (hs : s.intClean = true) (i : BitVec 3) : field (s.pend i) 32 4 = 0 :=
  (State.intClean_iff.1 hs i.toFin).1

theorem setEnbBits_quiet (h : setEnbBits k v s = .ok t) : Quiet s t := by
  simp only [setEnbBits, M.bind_ok, Except.ok.injEq] at h
  obtain ⟨i, -, rfl⟩ := h
  exact (Quiet.refl s).setEnb fun hc => by simp [field_or, State.field_enb hc, field_levelMask]
theorem clearEnbBits_quiet (h : clearEnbBits k v s = .ok t) : Quiet s t := by
  simp only [clearEnbBits, M.bind_ok, Except.ok.injEq] at h
  obtain ⟨i, -, rfl⟩ := h
  exact (Quiet.refl s).setEnb fun hc => by simp [field_and, State.field_enb hc]
theorem setPendBits_quiet (h : setPendBits k v s = .ok t) : Quiet s t := by
  simp only [setPendBits, M.bind_ok, Except.ok.injEq] at h
  obtain ⟨i, -, rfl⟩ := h
  exact (Quiet.refl s).setPend fun hc => by simp [field_or, State.field_pend hc, field_levelMask]
theorem clearPendBits_quiet (h : clearPendBits k v s = .ok t) : Quiet s t := by
  simp only [clearPendBits, M.bind_ok, Except.ok.injEq] at h
  obtain ⟨i, -, rfl⟩ := h
  exact (Quiet.refl s).setPend fun hc => by simp [field_and, State.field_pend hc]

theorem writeParm_quiet (h : writeParm k v s = .ok t) : Quiet s t := by
  simp only [writeParm, M.bind_ok, Except.ok.injEq] at h
  obtain ⟨_, -, rfl⟩ := h
  exact ⟨rfl, fun hs => { hs with }⟩
theorem writeCounter_quiet (h : writeCounter k d s = .ok t) : Quiet s t := by
  simp only [writeCounter, M.bind_ok, Except.ok.injEq] at h
  obtain ⟨_, -, rfl⟩ := h
  exact ⟨rfl, fun hs => { hs with }⟩
theorem writeCounterEnb_inv (h : writeCounterEnb k d s = .ok t) (hs : s.Inv) : t.Inv := by
  simp only [writeCounterEnb, M.bind_ok, Except.ok.injEq] at h
  obtain ⟨_, -, rfl⟩ := h
  exact { hs with }

end

/-! Input and output, and the rest -/

theorem ioRead_sound {cnt : RegNum} {k : IoKind} : (ioRead cnt k o1 o2).Sound := by
  intro env s t hn h
  simp only [ioRead, M.bind_ok, Except.ok.injEq] at h
  obtain ⟨_, -, _, -, _, -, _, -, _, -, _, -, _, -, _, -, _, -, rfl⟩ := h
  exact (((Quiet.refl s).writeRun _ _ _).setPc hn).safe

theorem ioWrite_sound {cnt : RegNum} {k : IoKind} : (ioWrite cnt k o1 o2).Sound := by
  intro env s t hn h
  simp only [ioWrite, M.bind_ok, Except.ok.injEq] at h
  obtain ⟨_, -, _, -, _, -, _, -, vs, -, ks, -, rfl⟩ := h
  have hq : Quiet s { s with iobuf := s.iobuf.store ks (bufferWords k vs) } :=
    ⟨rfl, fun hs => { hs with iobuf := IoBuffers.wf_store hs.iobuf }⟩
  exact (hq.setPc hn).safe

theorem interruptIop_sound : (interruptIop o1 o2).Sound := by
  intro env s t hn h
  simp only [interruptIop, M.bind_ok, Except.ok.injEq] at h
  obtain ⟨_, -, _, -, _, -, k, -, rfl⟩ := h
  have hq : Quiet s { s with iopOut := s.iopOut ++ [BitVec.ofNat 9 (k / Config.iobufSize)] } :=
    ⟨rfl, fun hs => { hs with }⟩
  exact (hq.setPc hn).safe

theorem noOperation_sound : (noOperation o1 o2).Sound := by
  intro env s t hn h
  simp only [noOperation, M.bind_ok, Except.ok.injEq] at h
  obtain ⟨_, -, _, -, rfl⟩ := h
  exact ((Quiet.refl s).setPc hn).safe

theorem readModifyWrite_sound {m : TMode} : (readModifyWrite m o1 o2).Sound := by
  intro env s t hn h
  simp only [readModifyWrite, M.bind_ok, Except.ok.injEq] at h
  obtain ⟨_, -, _, -, _, -, _, -, _, -, _, -, _, -, rfl⟩ := h
  exact ((((Quiet.refl s).writeSpan _ _ _).writeSpan _ _ _).setPc hn).safe

theorem waitInterrupt_sound : (waitInterrupt o1 o2).Sound := by
  intro env s t hn h
  simp only [waitInterrupt, M.bind_ok, State.privileged_ok, Except.ok.injEq] at h
  obtain ⟨_, hm, _, -, _, -, rfl⟩ := h
  exact .of_exec hm fun hs => { hs with pc := hn hs }

theorem haltAt_sound : (haltAt o1 j).Sound := by
  intro env s t hn h
  simp only [haltAt, M.bind_ok, State.privileged_ok, Except.ok.injEq] at h
  obtain ⟨_, hm, _, -, d, hd, rfl⟩ := h
  exact .of_exec hm fun hs => { hs with pc := State.jumpDest_aligned hd hs }

theorem bodyIllegal_sound : Body.Sound bodyIllegal := fun _ _ _ _ h => nomatch h

/-- A link of an `XCT` chain keeps what the bodies it runs keep (R862). -/
theorem xctLink_sound {run : Form → Body} (hrun : ∀ f, (run f).Sound) : (xctLink run o1 o2).Sound := by
  intro env s t hn h
  simp only [xctLink, M.bind_ok] at h
  obtain ⟨_, -, _, -, _, -, _, -, w0, -, _, -, _, -, h⟩ := h
  split at h
  · cases h
  · exact hrun _ (env := ⟨w0, env.next⟩) hn h

end

/-! ### The bodies of the opcode map -/

theorem xopBodies0_sound : ∀ b ∈ xopBodies0, ∀ o1 o2, (b o1 o2).Sound := by
  simp only [xopBodies0, List.forall_mem_cons, List.not_mem_nil, false_implies, implies_true, and_true]
  and_intros
  iterate 8 exact fun _ _ => xop2_sound fun us _ => deliverSum_legal us _
  iterate 16 exact fun _ _ => xop2_sound fun us _ => deliverInt_legal us _
  iterate 4 exact fun _ _ => xop2_sound fun us _ => deliverSum_legal us _
  iterate 4 exact fun _ _ => xop2_sound fun us _ => aluAbs_legal us _
  iterate 8 exact fun _ _ => xop2_sound fun us _ => fFix_legal us _ _ _

theorem xopBodies1_sound : ∀ b ∈ xopBodies1, ∀ o1 o2, (b o1 o2).Sound := by
  simp only [xopBodies1, List.forall_mem_cons, List.not_mem_nil, false_implies, implies_true, and_true]
  and_intros
  iterate 40 exact fun _ _ => xop2_sound fun us _ => fFix_legal us _ _ _

theorem xopBodies2_sound : ∀ b ∈ xopBodies2, ∀ o1 o2, (b o1 o2).Sound := by
  simp only [xopBodies2, List.forall_mem_cons, List.not_mem_nil, false_implies, implies_true, and_true]
  and_intros
  iterate 12 exact fun _ _ => xop2_sound fun us _ => fFix_legal us _ _ _
  iterate 12 exact fun _ _ => xop2_sound fun us _ => deliverNum_legal us _ _ _
  iterate 9 exact fun _ _ => xop2_sound fun us _ => fTrans_legal us _ _ _
  iterate 3 exact fun _ _ => xop2_sound fun us _ => fNeg_legal us _
  iterate 3 exact fun _ _ => xop2_sound fun us _ => fAbs_legal us _
  exact fun _ _ => xop2_sound fun us _ => pureAlu1_legal us _ _

theorem xopBodies3_sound : ∀ b ∈ xopBodies3, ∀ o1 o2, (b o1 o2).Sound := by
  simp only [xopBodies3, List.forall_mem_cons, List.not_mem_nil, false_implies, implies_true, and_true]
  and_intros
  iterate 15 exact fun _ _ => xop2_sound fun us _ => pureAlu1_legal us _ _
  iterate 25 exact fun _ _ => moveMany_sound

theorem xopBodies4_sound : ∀ b ∈ xopBodies4, ∀ o1 o2, (b o1 o2).Sound := by
  simp only [xopBodies4, List.forall_mem_cons, List.not_mem_nil, false_implies, implies_true, and_true]
  and_intros
  iterate 39 exact fun _ _ => moveMany_sound
  exact fun _ _ => exchange_sound

theorem xopBodies5_sound : ∀ b ∈ xopBodies5, ∀ o1 o2, (b o1 o2).Sound := by
  simp only [xopBodies5, List.forall_mem_cons, List.not_mem_nil, false_implies, implies_true, and_true]
  and_intros
  iterate 3 exact fun _ _ => exchange_sound
  iterate 32 exact fun _ _ => saveLoadReg_sound
  iterate 5 exact fun _ _ => saveLoadRegAddr_sound

theorem xopBodies6_sound : ∀ b ∈ xopBodies6, ∀ o1 o2, (b o1 o2).Sound := by
  simp only [xopBodies6, List.forall_mem_cons, List.not_mem_nil, false_implies, implies_true, and_true]
  and_intros
  iterate 27 exact fun _ _ => saveLoadRegAddr_sound
  exact fun _ _ => moveAddr_sound
  exact fun _ _ => movePhys_sound
  iterate 4 exact fun _ _ => xop2_sound fun us _ => pureAlu1_legal us _ _
  iterate 4 exact fun _ _ => boundTrapB_sound
  iterate 3 exact fun _ _ => boundTrap_sound

theorem xopBodies7_sound : ∀ b ∈ xopBodies7, ∀ o1 o2, (b o1 o2).Sound := by
  simp only [xopBodies7, List.forall_mem_cons, List.not_mem_nil, false_implies, implies_true, and_true]
  and_intros
  iterate 13 exact fun _ _ => boundTrap_sound
  exact fun _ _ => jumpCoroutine_sound
  iterate 26 exact fun _ _ => allocStack_sound

theorem xopBodies8_sound : ∀ b ∈ xopBodies8, ∀ o1 o2, (b o1 o2).Sound := by
  simp only [xopBodies8, List.forall_mem_cons, List.not_mem_nil, false_implies, implies_true, and_true]
  and_intros
  iterate 6 exact fun _ _ => allocStack_sound
  exact fun _ _ => returnSub_sound
  exact fun _ _ => returnPop_sound
  exact fun _ _ => returnUser_sound
  exact fun _ _ => returnFull_sound
  iterate 30 exact fun _ _ => trapSelf_sound

theorem xopBodies9_sound : ∀ b ∈ xopBodies9, ∀ o1 o2, (b o1 o2).Sound := by
  simp only [xopBodies9, List.forall_mem_cons, List.not_mem_nil, false_implies, implies_true, and_true]
  and_intros
  iterate 34 exact fun _ _ => trapSelf_sound
  iterate 6 exact fun _ _ => trapExec_sound (by decide)

theorem xopBodies10_sound : ∀ b ∈ xopBodies10, ∀ o1 o2, (b o1 o2).Sound := by
  simp only [xopBodies10, List.forall_mem_cons, List.not_mem_nil, false_implies, implies_true, and_true]
  and_intros
  iterate 40 exact fun _ _ => trapExec_sound (by decide)

theorem xopBodies11_sound : ∀ b ∈ xopBodies11, ∀ o1 o2, (b o1 o2).Sound := by
  simp only [xopBodies11, List.forall_mem_cons, List.not_mem_nil, false_implies, implies_true, and_true]
  and_intros
  iterate 18 exact fun _ _ => trapExec_sound (by decide)
  iterate 2 exact fun _ _ => adjustStack_sound
  iterate 8 exact fun _ _ => pushItem_sound
  iterate 8 exact fun _ _ => popItem_sound
  iterate 4 exact fun _ _ => loadByteOf_sound

theorem xopBodies12_sound : ∀ b ∈ xopBodies12, ∀ o1 o2, (b o1 o2).Sound := by
  simp only [xopBodies12, List.forall_mem_cons, List.not_mem_nil, false_implies, implies_true, and_true]
  and_intros
  iterate 2 exact fun _ _ => depositByteIn_sound
  iterate 8 exact fun _ _ => xop2_sound fun us _ => pureAlu1_legal us _ _
  iterate 2 exact fun _ _ => stringCompare_sound
  iterate 2 exact fun _ _ => blockMove_sound
  iterate 8 exact fun _ _ => blockInit_sound
  iterate 4 exact fun _ _ => blockMove_sound
  exact fun _ _ => storeStatus_sound
  exact fun _ _ => loadStatus_sound fun _ _ _ h => (setUserBits_quiet h).partSafe
  exact fun _ _ => loadStatus_sound fun _ _ _ h => (clearUserBits_quiet h).partSafe
  exact fun _ _ => storeStatus_sound
  exact fun _ _ => loadStatus_sound fun _ _ _ h => (writeSpId_quiet h).partSafe
  exact fun _ _ => storeStatus_sound
  exact fun _ _ => loadStatus_sound fun _ _ _ h => (writeRndMode_quiet h).partSafe
  iterate 2 exact fun _ _ => storeStatus_sound
  exact fun _ _ => loadStatus_sound fun _ _ _ h => writeFile_inv h
  exact fun _ _ => storeStatus_sound
  exact fun _ _ => loadStatus_sound fun _ _ _ h => writeFile_inv h
  exact fun _ _ => storeStatus_sound
  exact fun _ _ => sweepCache_sound

theorem xopBodies13_sound : ∀ b ∈ xopBodies13, ∀ o1 o2, (b o1 o2).Sound := by
  simp only [xopBodies13, List.forall_mem_cons, List.not_mem_nil, false_implies, implies_true, and_true]
  and_intros
  iterate 11 exact fun _ _ => sweepCache_sound
  iterate 4 exact fun _ _ => sweepMap_sound
  exact fun _ _ => storePart_sound fun _ _ _ h => readEnb_quiet h
  exact fun _ _ => loadPart_sound fun _ _ _ _ h => (writeEnb_quiet h).partSafe
  exact fun _ _ => loadPart_sound fun _ _ _ _ h => (setEnbBits_quiet h).partSafe
  exact fun _ _ => loadPart_sound fun _ _ _ _ h => (clearEnbBits_quiet h).partSafe
  exact fun _ _ => storePart_sound fun _ _ _ h => readPend_quiet h
  exact fun _ _ => loadPart_sound fun _ _ _ _ h => (writePend_quiet h).partSafe
  exact fun _ _ => loadPart_sound fun _ _ _ _ h => (setPendBits_quiet h).partSafe
  exact fun _ _ => loadPart_sound fun _ _ _ _ h => (clearPendBits_quiet h).partSafe
  exact fun _ _ => storePart_sound fun _ _ _ h => readParm_quiet h
  exact fun _ _ => loadPart_sound fun _ _ _ _ h => (writeParm_quiet h).partSafe
  iterate 8 exact fun _ _ => ioRead_sound
  iterate 7 exact fun _ _ => ioWrite_sound

theorem xopBodies14_sound {xct : OD → OD → Body} (hx : ∀ o1 o2, (xct o1 o2).Sound) :
    ∀ b ∈ xopBodies14 xct, ∀ o1 o2, (b o1 o2).Sound := by
  simp only [xopBodies14, List.forall_mem_cons, List.not_mem_nil, false_implies, implies_true, and_true]
  and_intros
  exact fun _ _ => ioWrite_sound
  exact fun _ _ => interruptIop_sound
  exact fun _ _ => storePart_sound fun _ _ _ h => readCounter_quiet h
  exact fun _ _ => loadPart_sound fun _ _ _ _ h => (writeCounter_quiet h).partSafe
  exact fun _ _ => storePart_sound fun _ _ _ h => readCounterEnb_quiet h
  exact fun _ _ => loadPart_sound fun _ _ _ _ h => writeCounterEnb_inv h
  exact fun _ _ => noOperation_sound
  exact hx
  exact fun _ _ => waitInterrupt_sound

theorem jopBodies0_sound : ∀ b ∈ jopBodies0, ∀ o1 j, (b o1 j).Sound := by
  simp only [jopBodies0, List.forall_mem_cons, List.not_mem_nil, false_implies, implies_true, and_true]
  and_intros
  iterate 6 exact fun _ _ => jumpIfNext_sound
  iterate 24 exact fun _ _ => jumpIfZero_sound
  exact fun _ _ => jumpAlways_sound
  iterate 6 exact fun _ _ => countJumpNext_sound
  iterate 3 exact fun _ _ => countJump_sound

theorem jopBodies1_sound : ∀ b ∈ jopBodies1, ∀ o1 j, (b o1 j).Sound := by
  simp only [jopBodies1, List.forall_mem_cons, List.not_mem_nil, false_implies, implies_true, and_true]
  and_intros
  iterate 4 exact fun _ _ => countJump_sound
  iterate 6 exact fun _ _ => countJumpNext_sound
  iterate 7 exact fun _ _ => countJump_sound
  exact fun _ _ => jumpSub_sound
  iterate 4 exact fun _ _ => jumpUsClear_sound
  iterate 4 exact fun _ _ => jumpUs_sound
  exact fun _ _ => writeUsJump_sound
  exact fun _ _ => writeFullJump_sound
  exact fun _ _ => writeSegment_sound fun _ _ _ => setUserSegment_inv
  exact fun _ _ => writeSegment_sound fun _ _ _ => setExecSegment_inv
  exact fun _ _ => haltAt_sound

theorem sopBodies0_sound : ∀ b ∈ sopBodies0, ∀ k o1 o2, (b k o1 o2).Sound := by
  simp only [sopBodies0, List.forall_mem_cons, List.not_mem_nil, false_implies, implies_true, and_true]
  and_intros
  iterate 40 exact fun _ _ _ => skipIf_sound

theorem sopBodies1_sound : ∀ b ∈ sopBodies1, ∀ k o1 o2, (b k o1 o2).Sound := by
  simp only [sopBodies1, List.forall_mem_cons, List.not_mem_nil, false_implies, implies_true, and_true]
  and_intros
  iterate 12 exact fun _ _ _ => countSkip_sound

theorem topBodies0_sound : ∀ b ∈ topBodies0, ∀ m o1 o2, (b m o1 o2).Sound := by
  simp only [topBodies0, List.forall_mem_cons, List.not_mem_nil, false_implies, implies_true, and_true]
  and_intros
  iterate 24 exact fun _ _ _ => top3_sound fun us _ _ => deliverSum_legal us _
  iterate 4 exact fun _ _ _ => top3_sound fun us _ _ => deliverInt_legal us _
  iterate 3 exact fun _ _ _ => top3_sound fun us _ _ => pureAlu_legal us _ _ _
  iterate 9 exact fun _ _ _ => top3_sound fun us _ _ => divideQuo_legal us _ _

theorem topBodies1_sound : ∀ b ∈ topBodies1, ∀ m o1 o2, (b m o1 o2).Sound := by
  simp only [topBodies1, List.forall_mem_cons, List.not_mem_nil, false_implies, implies_true, and_true]
  and_intros
  iterate 5 exact fun _ _ _ => top3_sound fun us _ _ => divideQuo_legal us _ _
  iterate 14 exact fun _ _ _ => top3_sound fun us _ _ => quo2_legal us _ _
  iterate 21 exact fun _ _ _ => top3_sound fun us _ _ => divideRem_legal us _ _ _

theorem topBodies2_sound : ∀ b ∈ topBodies2, ∀ m o1 o2, (b m o1 o2).Sound := by
  simp only [topBodies2, List.forall_mem_cons, List.not_mem_nil, false_implies, implies_true, and_true]
  and_intros
  iterate 7 exact fun _ _ _ => top3_sound fun us _ _ => divideRem_legal us _ _ _
  iterate 14 exact fun _ _ _ => top3Next_sound fun us _ _ => divideBoth_legal us _ _
  iterate 8 exact fun _ _ _ => top3_sound fun us _ _ => pureAlu_legal us _ _ _
  iterate 4 exact fun _ _ _ => top3_sound fun us _ _ => aluUmult_legal us _ _
  iterate 3 exact fun _ _ _ => top3_sound fun us _ _ => pureAlu_legal us _ _ _
  iterate 4 exact fun _ _ _ => top3Next_sound fun us _ _ => aluUdiv_legal us _ _

theorem topBodies3_sound : ∀ b ∈ topBodies3, ∀ m o1 o2, (b m o1 o2).Sound := by
  simp only [topBodies3, List.forall_mem_cons, List.not_mem_nil, false_implies, implies_true, and_true]
  and_intros
  iterate 3 exact fun _ _ _ => top3Next_sound fun us _ _ => aluUdiv_legal us _ _
  iterate 9 exact fun _ _ _ => top3_sound fun us _ _ => fAdd_legal us _ _ _
  iterate 5 exact fun _ _ _ => top3_sound fun us _ _ => fMul_legal us _ _ _ _
  iterate 10 exact fun _ _ _ => top3_sound fun us _ _ => fDiv_legal us _ _ _ _ _
  iterate 6 exact fun _ _ _ => top3_sound fun us _ _ => fSc_legal us _ _ _
  iterate 3 exact fun _ _ _ => top3_sound fun us _ _ => fMin_legal us _ _
  iterate 3 exact fun _ _ _ => top3_sound fun us _ _ => fMax_legal us _ _
  exact fun _ _ _ => top3_sound fun us _ _ => pureAlu_legal us _ _ _

theorem topBodies4_sound : ∀ b ∈ topBodies4, ∀ m o1 o2, (b m o1 o2).Sound := by
  simp only [topBodies4, List.forall_mem_cons, List.not_mem_nil, false_implies, implies_true, and_true]
  and_intros
  iterate 23 exact fun _ _ _ => top3_sound fun us _ _ => pureAlu_legal us _ _ _
  iterate 4 exact fun _ _ _ => bndsfB_sound
  iterate 13 exact fun _ _ _ => top3_sound fun us _ _ => pureAlu_legal us _ _ _

theorem topBodies5_sound : ∀ b ∈ topBodies5, ∀ m o1 o2, (b m o1 o2).Sound := by
  simp only [topBodies5, List.forall_mem_cons, List.not_mem_nil, false_implies, implies_true, and_true]
  and_intros
  iterate 40 exact fun _ _ _ => top3_sound fun us _ _ => pureAlu_legal us _ _ _

theorem topBodies6_sound : ∀ b ∈ topBodies6, ∀ m o1 o2, (b m o1 o2).Sound := by
  simp only [topBodies6, List.forall_mem_cons, List.not_mem_nil, false_implies, implies_true, and_true]
  and_intros
  iterate 19 exact fun _ _ _ => top3_sound fun us _ _ => pureAlu_legal us _ _ _
  iterate 12 exact fun _ _ _ => doubleShift_sound
  iterate 9 exact fun _ _ _ => top3_sound fun us _ _ => shfa_legal us _ _ _

theorem topBodies7_sound : ∀ b ∈ topBodies7, ∀ m o1 o2, (b m o1 o2).Sound := by
  simp only [topBodies7, List.forall_mem_cons, List.not_mem_nil, false_implies, implies_true, and_true]
  and_intros
  iterate 7 exact fun _ _ _ => top3_sound fun us _ _ => shfa_legal us _ _ _
  iterate 16 exact fun _ _ _ => top3_sound fun us _ _ => pureAlu_legal us _ _ _
  iterate 4 exact fun _ _ _ => top3Trap_sound
  iterate 2 exact fun _ _ _ => depositImmByte_sound
  iterate 10 exact fun _ _ _ => top3Trap_sound
  exact fun _ _ _ => top3_sound fun us _ _ => pureAlu_legal us _ _ _

theorem topBodies8_sound : ∀ b ∈ topBodies8, ∀ m o1 o2, (b m o1 o2).Sound := by
  simp only [topBodies8, List.forall_mem_cons, List.not_mem_nil, false_implies, implies_true, and_true]
  and_intros
  iterate 7 exact fun _ _ _ => top3_sound fun us _ _ => pureAlu_legal us _ _ _
  exact fun _ _ _ => readModifyWrite_sound

/-! ### Every instruction -/

/-- What holds of every entry of a table holds of the entry that a number names. -/
theorem tableGet_forall {α : Type} {t : List (List α)} {k : Nat} {b : α} {P : α → Prop} (h : ∀ l ∈ t, ∀ b ∈ l, P b)
    (hb : tableGet t k = some b) : P b := by
  unfold tableGet at hb
  split at hb
  next l hl => exact h l (List.mem_of_getElem? hl) b (List.mem_of_getElem? hb)
  next => contradiction

section
variable {xct : OD → OD → Body}

theorem xopBodies_sound (hx : ∀ o1 o2, (xct o1 o2).Sound) :
    ∀ l ∈ xopBodies xct, ∀ b ∈ l, ∀ o1 o2, (b o1 o2).Sound := by
  simp only [xopBodies, List.forall_mem_cons, List.not_mem_nil, false_implies, implies_true, and_true]
  exact ⟨xopBodies0_sound, xopBodies1_sound, xopBodies2_sound, xopBodies3_sound, xopBodies4_sound, xopBodies5_sound,
    xopBodies6_sound, xopBodies7_sound, xopBodies8_sound, xopBodies9_sound, xopBodies10_sound, xopBodies11_sound,
    xopBodies12_sound, xopBodies13_sound, xopBodies14_sound hx⟩

theorem jopBodies_sound : ∀ l ∈ jopBodies, ∀ b ∈ l, ∀ o1 j, (b o1 j).Sound := by
  simp only [jopBodies, List.forall_mem_cons, List.not_mem_nil, false_implies, implies_true, and_true]
  exact ⟨jopBodies0_sound, jopBodies1_sound⟩

theorem sopBodies_sound : ∀ l ∈ sopBodies, ∀ b ∈ l, ∀ k o1 o2, (b k o1 o2).Sound := by
  simp only [sopBodies, List.forall_mem_cons, List.not_mem_nil, false_implies, implies_true, and_true]
  exact ⟨sopBodies0_sound, sopBodies1_sound⟩

theorem topBodies_sound : ∀ l ∈ topBodies, ∀ b ∈ l, ∀ m o1 o2, (b m o1 o2).Sound := by
  simp only [topBodies, List.forall_mem_cons, List.not_mem_nil, false_implies, implies_true, and_true]
  exact ⟨topBodies0_sound, topBodies1_sound, topBodies2_sound, topBodies3_sound, topBodies4_sound, topBodies5_sound,
    topBodies6_sound, topBodies7_sound, topBodies8_sound⟩

/-- Whatever word the opcode map is asked for, its body is sound if the body of `XCT` is. -/
theorem perform_sound (hx : ∀ o1 o2, (xct o1 o2).Sound) (f : Form) : (perform xct f).Sound := by
  cases f with
  | hop k d => exact jumpPatch_sound
  | xop k o1 o2 =>
    dsimp only [perform]
    cases hb : tableGet (xopBodies xct) k with
    | none => exact bodyIllegal_sound
    | some b => exact tableGet_forall (xopBodies_sound hx) hb o1 o2
  | jop k o1 j =>
    dsimp only [perform]
    cases hb : tableGet jopBodies k with
    | none => exact bodyIllegal_sound
    | some b => exact tableGet_forall jopBodies_sound hb o1 j
  | sop k skp o1 o2 =>
    dsimp only [perform]
    cases hb : tableGet sopBodies k with
    | none => exact bodyIllegal_sound
    | some b => exact tableGet_forall sopBodies_sound hb skp o1 o2
  | top k m o1 o2 =>
    dsimp only [perform]
    cases hb : tableGet topBodies k with
    | none => exact bodyIllegal_sound
    | some b => exact tableGet_forall topBodies_sound hb m o1 o2

end

/-- Along a chain of `XCT`, by its length (R862, R863). -/
theorem xctChain_sound (n : Nat) : ∀ o1 o2, (xctChain n o1 o2).Sound := by
  induction n with
  | zero => exact fun _ _ _ _ _ _ h => nomatch h
  | succ n ih => exact fun _ _ => xctLink_sound (perform_sound ih)

theorem bodyXct_sound (o1 o2 : OD) : (bodyXct o1 o2).Sound := xctChain_sound _ o1 o2

/-- Every instruction, wherever it leads: to its completion, to an exception, or nowhere. -/
theorem exec_safe {i : Instr} {s t : State} (h : exec i s = .next t) : Safe s t := by
  rw [exec_eq i s] at h
  obtain ⟨u, hu, rfl⟩ | ⟨e, -, -, he⟩ | rfl := runInstr_cases h
  · have hnext : s.stage4.Inv → field (s.envOf i.form).next 28 2 = 0 := fun hs => field_low_two_vaAdd hs.pc _
    exact (Safe.of_stage4 (perform_sound bodyXct_sound _ hnext hu)).stage6
  · exact .of_stage4 (.takeExc he)
  · exact (Quiet.refl _).safe

/-! ### Every step -/

theorem runAtPc_safe {s t : State} (h : runAtPc s = .next t) : Safe s t := by
  unfold runAtPc at h
  split at h
  next => exact .of_stage4 (.takeExc h)
  next =>
    split at h
    next => exact .of_stage4 (.enterFatal h)
    next => exact exec_safe h

/-- The search for the first one stops at a one that lies in its range. -/
theorem firstOne_lt {w : BitVec 32} {n j k : Nat} (hj : j ≤ k) (hk : k < j + n) (hw : bitAt w k = true) :
    firstOne w n j < j + n := by
  induction n generalizing j with
  | zero => omega
  | succ n ih =>
    unfold firstOne
    split
    · omega
    next hbit =>
      have hne : j ≠ k := fun he => hbit (he ▸ hw)
      have := ih (j := j + 1) (by omega) (by omega)
      omega

/-- A word that is not zero has a bit that is one. -/
theorem exists_bitAt {n : Nat} {w : BitVec n} (hw : w ≠ 0) : ∃ k < n, bitAt w k = true := by
  by_contra hno
  push Not at hno
  refine hw (BitVec.eq_of_getMsbD_eq fun i hi => ?_)
  simpa [bitAt] using hno i hi

/-- The bit number of an interrupt to accept is one of a register of 32 requests (R920). -/
theorem State.pendingInterrupt_lt {s : State} {i : Fin 8} {j : Nat} (h : s.pendingInterrupt = some (i, j)) :
    j < 32 := by
  unfold State.pendingInterrupt at h
  split at h
  next k hk =>
    cases h
    have hreq := List.find?_some hk
    simp only [Bool.and_eq_true, bne_iff_ne] at hreq
    obtain ⟨b, hb, hbit⟩ := exists_bitAt hreq.2
    simpa using firstOne_lt (Nat.zero_le b) (by simpa using hb) hbit
  next => contradiction

theorem Safe.acceptInterrupt {s t : State} {i : Fin 8} {j : Nat} (hj : j < 32)
    (h : s.acceptInterrupt i j = .next t) : Safe s t := by
  obtain ⟨u, hu, rfl⟩ | hn := State.acceptInterrupt_next h
  · have hvec : ExecVector (intVecAddr (32 * i.val + j)) := execVector_intVecAddr (by omega)
    obtain ⟨hinv, huser⟩ := Safe.initiateFull hvec hu
    refine ⟨fun hs => { hinv hs with intClean := State.intClean_iff.2 fun k => ?_ }, fun hm => { huser hm with }⟩
    obtain ⟨hpend, henb⟩ := State.intClean_iff.1 (hinv hs).intClean k
    refine ⟨?_, henb⟩
    simp only [Fin.getElem_fin, Vector.getElem_set]
    split
    next hik =>
      rw [setBit, field_setField_disjoint _ _ (by omega) (by decide) (by omega)]
      exact (State.intClean_iff.1 (hinv hs).intClean i).1
    next => exact hpend
  · exact .nested hn

/-- Every step keeps what every transition keeps. -/
theorem step_safe {s t : State} (h : step s = .next t) : Safe s t := by
  unfold step at h
  split at h
  next => cases h; exact (Quiet.refl _).safe
  split at h
  next => contradiction
  split at h
  next hp => exact .acceptInterrupt (State.pendingInterrupt_lt hp) h
  split at h
  next => cases h; exact (Quiet.refl _).safe
  split at h
  next => exact .of_stage2 (.enterHard (HardVec.index_lt _) h)
  next => exact .of_stage2 (runAtPc_safe h)

/-- Settles O15: a step is a transition that keeps the invariant. -/
theorem everyStepKeepsInv : Obligations.EveryStepKeepsInv := fun _ _ hs h => (step_safe h).inv hs

/-- Settles O18: no body that writes these registers runs in user mode, and no exception entry writes them. -/
theorem userStepKeepsPrivilegedRegisters : Obligations.UserStepKeepsPrivilegedRegisters := by
  intro s t hu h
  obtain ⟨h1, h2, h3, h4, h5, h6, h7, hrun, -⟩ := (step_safe h).user hu
  exact ⟨h1, h2, h3, h4, h5, h6, h7, hrun⟩

/-- Settles O19: `PROC_STATUS` changes in user mode only by a partial load from a vector. -/
theorem userModeIsLeftThroughVectors : Obligations.UserModeIsLeftThroughVectors := by
  intro s t hu h hexec
  obtain ⟨hmode, hfile, va, w, ⟨hlo, hhi⟩, hread, hpc⟩ := ((step_safe h).user hu).mode hexec
  exact ⟨hmode.trans hu, hfile, va, w, hlo, hhi, hread, hpc⟩

/-- Settles O16, field by field. -/
theorem resetMeetsInv : Obligations.ResetMeetsInv where
  mem := rfl
  iobuf := rfl
  pc := rfl
  us := rfl
  instructionState := rfl
  intClean := by decide
  segments := by decide

/-- Settles O17, by evaluating the fields of the state after reset. -/
theorem resetValues : Obligations.ResetValues := by
  unfold Obligations.ResetValues
  decide

/-! ### The stages before the instruction -/

/-- With no enabled request below `PRIO`, no interrupt is accepted (R920). -/
theorem State.pendingInterrupt_eq_none {s : State}
    (h : ∀ k : Fin 8, k.val < (Ps.prio s.ps).toNat → s.levelRequests k = 0) : s.pendingInterrupt = none := by
  have hfind : (List.finRange 8).find?
      (fun i => decide (i.val < (Ps.prio s.ps).toNat) && s.levelRequests i != 0) = none := by
    rw [List.find?_eq_none]
    intro k _
    by_cases hk : k.val < (Ps.prio s.ps).toNat
    · simp [h k hk]
    · simp [hk]
  simp only [State.pendingInterrupt, hfind]

theorem State.outOfDomain_eq_none {s : State} (hemu : Ps.emulation s.ps = 0) (hus : Us.legal s.us = true) :
    s.outOfDomain = none := by
  simp [State.outOfDomain, hemu, hus]

theorem step_halted {s : State} (h : s.run = .halted) : step s = .next s := if_pos h

/-- With no interrupt to accept, a waiting processor goes on waiting (R864). -/
theorem step_waiting {s : State} (hrun : s.run = .waiting) (hdom : s.outOfDomain = none)
    (hint : s.pendingInterrupt = none) : step s = .next s := by
  simp [step, hrun, hdom, hint]

/-- With no interrupt to accept, a pending trace trap is taken (R875). -/
theorem step_trace {s : State} (hrun : s.run = .running) (hdom : s.outOfDomain = none)
    (hint : s.pendingInterrupt = none) (htrace : Ps.tracePend s.ps = true) :
    step s = s.stage2.enterHard HardVec.trace.index 0 := by
  simp [step, hrun, hdom, hint, htrace]

theorem State.continue_halted {s : State} (h : s.run = .halted) : s.continue = s.setRun .running := by
  simp only [State.continue, h]

theorem State.continue_not_halted {s : State} (h : s.run ≠ .halted) : s.continue = s := by
  cases hrun : s.run with
  | halted => exact absurd hrun h
  | running => simp only [State.continue, hrun]
  | waiting => simp only [State.continue, hrun]

/-- Settles O6, stage by stage. -/
theorem stagesBeforeTheInstruction : Obligations.StagesBeforeTheInstruction := by
  refine ⟨fun s h => ⟨step_halted h, State.continue_halted h⟩, fun s h => State.continue_not_halted h, ?_⟩
  intro s hemu hus hreq
  have hdom := State.outOfDomain_eq_none hemu hus
  have hint := State.pendingInterrupt_eq_none hreq
  exact ⟨fun hrun => step_waiting hrun hdom hint, fun hrun htrace => step_trace hrun hdom hint htrace⟩

/-! ### The registers as storage -/

section
variable {s : State} {ctx : Ctx} {va : VAddr}

/-- A reference of at most a single-word is one piece (R150). -/
theorem State.memRead_of_resolve {p : Prec} {a : Place} (hp : p ≠ .d) (hal : aligned p va = true)
    (hctx : ctx = .cur ∨ Ps.crntMode s.ps = true) (ha : s.resolve .read ctx va = .ok a) :
    s.memRead ctx va p = .ok (s.readSpan p ⟨a, a⟩) := by
  have huser : (ctx == .prev && !Ps.crntMode s.ps) = false := by
    obtain rfl | hm := hctx
    · rfl
    · simp [hm]
  have hloc : s.locate .read ctx va p = .ok ⟨a, a⟩ := by
    cases p with
    | d => contradiction
    | _ => simp [State.locate, hal, huser, ha, M.bind_ok]
  simp only [State.memRead, M.bind_ok, hloc, Except.ok.injEq, exists_eq_left']

/-- A double-word is two pieces (R150). -/
theorem State.memRead_double {a b : Place} (hal : aligned .d va = true)
    (ha : s.resolve .read .cur va = .ok a) (hb : s.resolve .read .cur (vaAdd va 4) = .ok b) :
    s.memRead .cur va .d = .ok (s.readS a ++ s.readS b) := by
  have hloc : s.locate .read .cur va .d = .ok ⟨a, b⟩ := by
    simp only [State.locate, hal, ha, hb]
    rfl
  simp only [State.memRead, M.bind_ok, hloc, Except.ok.injEq, exists_eq_left']
  rfl

/-- The low addresses of the current context are the registers of the current file (R44). -/
theorem State.resolve_cur {acc : Access} (h : va.toNat < 128) :
    s.resolve acc .cur va = .ok (.reg (field s.ps 0 4) (va.setWidth 7)) :=
  if_pos (by simp [State.isRegAddr, h])

/-- The low addresses of the previous context are the registers of the previous file, unless `USE_SHADOW_PREV` is set
(R128). -/
theorem State.resolve_prev {acc : Access} (h : va.toNat < 128) (hsh : bitAt s.ps 8 = false) :
    s.resolve acc .prev va = .ok (.reg (field s.ps 4 4) (va.setWidth 7)) :=
  if_pos (by simp [State.isRegAddr, h, Ps.useShadowPrev, hsh])

/-- With `USE_SHADOW_PREV` set and absolute addressing, the low addresses of the previous context are memory (R131,
R141). -/
theorem State.resolve_prev_shadow {acc : Access} (hsh : bitAt s.ps 8 = true)
    (habs : (if bitAt s.ps 17 then s.execStp else s.userStp).toNat < 128) (hback : s.backed (va.setWidth 34) = true) :
    s.resolve acc .prev va = .ok (.phys (va.setWidth 34)) := by
  have hreg : s.isRegAddr .prev va = false := by simp [State.isRegAddr, Ps.useShadowPrev, hsh]
  have htr : s.translate (s.space .prev) va = .ok (va.setWidth 34, none) := if_pos habs
  simp [State.resolve, hreg, State.physAddr, htr, checkAccess, hback, M.bind_ok]

end

/-! Quarter-word `k` of register `n` is at address `4 * n + k` (R44). -/

section
variable (n : RegNum) {k : Nat}

theorem regByte_lt (hk : k < 4) : (BitVec.ofNat 30 (4 * n.toNat + k)).toNat < 128 := by
  have := n.isLt
  rw [BitVec.toNat_ofNat]
  omega

theorem regByte_reg (hk : k < 4) : field ((BitVec.ofNat 30 (4 * n.toNat + k)).setWidth 7) 0 5 = n := by
  have := n.isLt
  apply BitVec.eq_of_toNat_eq
  simp only [field, BitVec.extractLsb'_toNat, BitVec.toNat_setWidth, BitVec.toNat_ofNat, Nat.shiftRight_eq_div_pow]
  omega

theorem regByte_byte (hk : k < 4) : (field ((BitVec.ofNat 30 (4 * n.toNat + k)).setWidth 7) 5 2).toNat = k := by
  have := n.isLt
  simp only [field, BitVec.extractLsb'_toNat, BitVec.toNat_setWidth, BitVec.toNat_ofNat, Nat.shiftRight_eq_div_pow]
  omega

theorem regByte_aligned : field (BitVec.ofNat 30 (4 * n.toNat)) 28 2 = 0 := by
  rw [field_low_two _ (by decide), BitVec.toNat_ofNat]
  omega

theorem regByte_even (k : Nat) : aligned .h (BitVec.ofNat 30 (4 * n.toNat + 2 * k)) = true := by
  have heven : field (BitVec.ofNat 30 (4 * n.toNat + 2 * k)) 29 1 = 0 := by
    rw [← BitVec.toNat_inj]
    simp only [field, BitVec.extractLsb'_toNat, BitVec.toNat_ofNat, BitVec.ofNat_eq_ofNat]
    omega
  exact beq_iff_eq.2 heven

/-- The register after register `n` is four quarter-words on. -/
theorem vaAdd_regByte (hn : n ≠ 31) :
    vaAdd (BitVec.ofNat 30 (4 * n.toNat)) 4 = BitVec.ofNat 30 (4 * (n + 1).toNat) := by
  have hlt : n.toNat < 31 := by bv_omega
  apply BitVec.eq_of_toNat_eq
  simp only [vaAdd, BitVec.toNat_add, BitVec.toNat_ofNat, show (1 : RegNum).toNat = 1 from rfl]
  omega

end

/-- Settles O23: the place of each reference, and what is stored there. -/
theorem lowAddressesAreRegisters : Obligations.LowAddressesAreRegisters := by
  intro s n
  have hal := aligned_s_iff.2 (regByte_aligned n)
  have hlt : ∀ m : RegNum, (BitVec.ofNat 30 (4 * m.toNat)).toNat < 128 := fun m => regByte_lt m (k := 0) (by decide)
  have hreg : ∀ m : RegNum, field ((BitVec.ofNat 30 (4 * m.toNat)).setWidth 7) 0 5 = m := fun m =>
    regByte_reg m (k := 0) (by decide)
  refine ⟨?single, fun k => ?quarter, fun k => ?half, fun hn => ?double, fun hm hsh => ?previous,
    fun hm hsh habs hback => ?shadow⟩
  case single =>
    rw [State.memRead_of_resolve (p := .s) nofun hal (.inl rfl) (State.resolve_cur (hlt n))]
    simp only [State.readSpan, State.readS, hreg]
  case quarter =>
    rw [State.memRead_of_resolve (p := .q) nofun rfl (.inl rfl) (State.resolve_cur (regByte_lt n k.isLt))]
    simp only [State.readSpan, State.readQ, regByte_reg n k.isLt, regByte_byte n k.isLt]
  case half =>
    have hk : 2 * k.val < 4 := by omega
    rw [State.memRead_of_resolve (p := .h) nofun (regByte_even n k.val) (.inl rfl)
      (State.resolve_cur (regByte_lt n hk))]
    simp only [State.readSpan, State.readH, regByte_reg n hk, regByte_byte n hk]
    rw [show 9 * (2 * k.val) = 18 * k.val by omega]
  case double =>
    have hnext := State.resolve_cur (s := s) (acc := .read) (hlt (n + 1))
    rw [← vaAdd_regByte n hn] at hnext
    rw [State.memRead_double hal (State.resolve_cur (hlt n)) hnext]
    simp only [State.readS, vaAdd_regByte n hn, hreg]
  case previous =>
    rw [State.memRead_of_resolve (p := .s) nofun hal (.inr hm) (State.resolve_prev (hlt n) hsh)]
    simp only [State.readSpan, State.readS, hreg]
  case shadow =>
    rw [State.memRead_of_resolve (p := .s) nofun hal (.inr hm) (State.resolve_prev_shadow hsh habs (hback _))]
    have hpa : (BitVec.ofNat 30 (4 * n.toNat)).setWidth 34 = BitVec.ofNat 34 (4 * n.toNat) := by
      apply BitVec.eq_of_toNat_eq
      simp only [BitVec.toNat_setWidth, BitVec.toNat_ofNat]
      omega
    simp only [State.readSpan, State.readS, hpa]

end Sys2Proof.Machine

namespace Sys2Proof.Machine

/-! Memory as a program sees it: translation, the checks of a reference, the storage it names, and what a store in that
storage changes. The statements about single references, about the fetch of an instruction and about a push on the implicit
stack rest on the same rules. -/

/-! ### Sequences of computations -/

section
variable {α β : Type}

@[simp] theorem M.ok_bind (a : α) (f : α → M β) : ((.ok a : M α) >>= f) = f a := rfl
@[simp] theorem M.error_bind (e : Exc) (f : α → M β) : ((.error e : M α) >>= f) = .error e := rfl

end

/-! ### Fields of concatenations -/

section
variable {m n : Nat}

theorem toNat_field (w : BitVec n) (i l : Nat) : (field w i l).toNat = w.toNat / 2 ^ (n - i - l) % 2 ^ l := by
  rw [field, BitVec.extractLsb'_toNat, Nat.shiftRight_eq_div_pow]

theorem field_full (w : BitVec n) : field w 0 n = w := by
  apply BitVec.eq_of_toNat_eq
  rw [toNat_field, Nat.sub_zero, Nat.sub_self, Nat.pow_zero, Nat.div_one, Nat.mod_eq_of_lt w.isLt]

/-- A field within the high part of a concatenation. -/
theorem field_append_high (x : BitVec m) (y : BitVec n) {i l : Nat} (h : i + l ≤ m) :
    field (x ++ y) i l = field x i l := by
  apply BitVec.eq_of_getLsbD_eq
  intro k hk
  rw [getLsbD_field, getLsbD_field, BitVec.getLsbD_append, if_neg (by omega),
    show m + n - i - l + k - n = m - i - l + k by omega]

/-- A field within the low part of a concatenation. -/
theorem field_append_low (x : BitVec m) (y : BitVec n) {i l : Nat} (h : i + l ≤ n) :
    field (x ++ y) (m + i) l = field y i l := by
  apply BitVec.eq_of_getLsbD_eq
  intro k hk
  rw [getLsbD_field, getLsbD_field, BitVec.getLsbD_append, if_pos (by omega),
    show m + n - (m + i) - l + k = n - i - l + k by omega]

/-- Two fields side by side make one. -/
theorem field_append_field (w : BitVec n) {i l k : Nat} (h : i + l + k ≤ n) :
    field w i l ++ field w (i + l) k = field w i (l + k) := by
  apply BitVec.eq_of_getLsbD_eq
  intro j hj
  rw [BitVec.getLsbD_append, getLsbD_field, getLsbD_field, getLsbD_field]
  split
  next hjk => simp [hjk, hj, show n - (i + l) - k + j = n - i - (l + k) + j by omega]
  next hjk => simp [hj, show j - k < l by omega, show n - i - l + (j - k) = n - i - (l + k) + j by omega]

/-- A field of a field. -/
theorem field_field (w : BitVec n) {i l j k : Nat} (h : j + k ≤ l) (hi : i + l ≤ n) :
    field (field w i l) j k = field w (i + j) k := by
  apply BitVec.eq_of_getLsbD_eq
  intro b hb
  rw [getLsbD_field, getLsbD_field, getLsbD_field, show n - i - l + (l - j - k + b) = n - (i + j) - k + b by omega]
  simp [show l - j - k + b < l by omega]

/-- Bit 0, the most significant bit, is zero in the lower half of the range. -/
theorem bitAt_zero_eq_false_iff (w : BitVec (n + 1)) : bitAt w 0 = false ↔ w.toNat < 2 ^ n := by
  rw [show bitAt w 0 = w.msb from rfl, BitVec.msb_eq_false_iff_two_mul_lt, Nat.pow_succ]
  omega

end

/-! ### Translation (R141 to R145) -/

section
variable {s : State} {space : Bool} {va : VAddr}

/-- The pointer to the segment table of a space (R74). -/
def State.stp (s : State) (space : Bool) : PAddr := if space then s.execStp else s.userStp

/-- The limit of the segment table of a space (R74). -/
def State.stl (s : State) (space : Bool) : PAddr := if space then s.execStl else s.userStl

/-- The address of the segment-table entry of a virtual address (R143). -/
def State.steAddr (s : State) (space : Bool) (va : VAddr) : PAddr := s.stp space + (field va 0 10 ++ 0#2).setWidth 34

/-- The address of the page-table entry of a virtual address in the page table of a segment (R143). -/
def pteAddr (ste : SW) (va : VAddr) : PAddr := field ste 13 23 ++ field va 10 9 ++ 0#2

/-- Absolute addressing: an address is its own translation (R141). -/
theorem State.translate_absolute (h : (s.stp space).toNat < 128) :
    s.translate space va = .ok (va.setWidth 34, none) := if_pos h

/-- The walk through the two tables (R143). -/
theorem State.translate_paged (h : ¬ (s.stp space).toNat < 128) : s.translate space va =
    if (s.stl space).toNat ≤ (s.steAddr space va).toNat then .error (.hard .pgFault (faultParm space va))
    else s.tableWord (s.steAddr space va) >>= fun ste =>
      if bitAt ste 0 = false then .error (.hard .pgFault (faultParm space va))
      else s.tableWord (pteAddr ste va) >>= fun pte =>
        if bitAt pte 0 = false then .error (.hard .pgFault (faultParm space va))
        else .ok (field pte 13 23 ++ field va 19 11, some (field pte 7 6)) := by
  simp only [← Bool.not_eq_true']
  exact if_neg h

/-- Everything a translation under paging can answer. -/
theorem State.translate_ok_paged (h : ¬ (s.stp space).toNat < 128) {pa : PAddr} {bits : Option (BitVec 6)}
    (ht : s.translate space va = .ok (pa, bits)) :
    (s.steAddr space va).toNat < (s.stl space).toNat ∧ ∃ ste pte, s.tableWord (s.steAddr space va) = .ok ste ∧
      bitAt ste 0 = true ∧ s.tableWord (pteAddr ste va) = .ok pte ∧ bitAt pte 0 = true ∧
      pa = field pte 13 23 ++ field va 19 11 ∧ bits = some (field pte 7 6) := by
  rw [State.translate_paged h] at ht
  split at ht
  next => contradiction
  next hl =>
    obtain ⟨ste, hste, ht⟩ := M.bind_ok.1 ht
    split at ht
    next => contradiction
    next hv =>
      obtain ⟨pte, hpte, ht⟩ := M.bind_ok.1 ht
      split at ht
      next => contradiction
      next hp =>
        cases ht
        exact ⟨by omega, ste, pte, hste, by simpa using hv, hpte, by simpa using hp, rfl, rfl⟩

theorem State.tableWord_error {pa : PAddr} {e : Exc} (h : s.tableWord pa = .error e) : ∃ f, e = .fault f := by
  unfold State.tableWord at h
  split at h
  next => contradiction
  next => cases h; exact ⟨_, rfl⟩

/-- A translation fails with `PG_FAULT_VEC` (R144), or where a table entry has no memory behind it (R120). -/
theorem State.translate_error {e : Exc} (h : s.translate space va = .error e) :
    e = .hard .pgFault (faultParm space va) ∨ ∃ f, e = .fault f := by
  by_cases habs : (s.stp space).toNat < 128
  · rw [State.translate_absolute habs] at h
    contradiction
  rw [State.translate_paged habs] at h
  split at h
  next => cases h; exact .inl rfl
  next =>
    obtain hf | ⟨ste, -, h⟩ := M.bind_error.1 h
    · exact .inr (State.tableWord_error hf)
    split at h
    next => cases h; exact .inl rfl
    next =>
      obtain hf | ⟨pte, -, h⟩ := M.bind_error.1 h
      · exact .inr (State.tableWord_error hf)
      split at h
      next => cases h; exact .inl rfl
      next => contradiction

theorem State.tableWord_of_backed (h : ∀ b, s.backed b = true) (pa : PAddr) : s.tableWord pa = .ok (s.physS pa) := by
  simp [State.tableWord, h]

/-- Two addresses translated by the same entries and with the same offset in the page differ in nothing but the offset. -/
theorem State.translate_congr {va' : VAddr} {pa pa' : PAddr} {bits bits' : Option (BitVec 6)}
    (hpaged : ¬ (s.stp space).toNat < 128) (hseg : field va' 0 10 = field va 0 10) (hpage : field va' 10 9 = field va 10 9)
    (h : s.translate space va = .ok (pa, bits)) (h' : s.translate space va' = .ok (pa', bits')) :
    ∃ page : BitVec 23, pa = page ++ field va 19 11 ∧ pa' = page ++ field va' 19 11 := by
  obtain ⟨-, ste, pte, hste, -, hpte, -, rfl, -⟩ := State.translate_ok_paged hpaged h
  obtain ⟨-, ste', pte', hste', -, hpte', -, rfl, -⟩ := State.translate_ok_paged hpaged h'
  rw [State.steAddr, hseg, ← State.steAddr, hste, Except.ok.injEq] at hste'
  subst hste'
  rw [pteAddr, hpage, ← pteAddr, hpte, Except.ok.injEq] at hpte'
  subst hpte'
  exact ⟨_, rfl, rfl⟩

end

/-! ### The addresses of the walk as numbers -/

theorem State.steAddr_eq (s : State) (space : Bool) (va : VAddr) :
    s.steAddr space va = BitVec.ofNat 34 ((s.stp space).toNat + 4 * (va.toNat / 2 ^ 20)) := by
  have hva := va.isLt
  apply BitVec.eq_of_toNat_eq
  simp only [State.steAddr, BitVec.toNat_add, BitVec.toNat_setWidth, toNat_append_eq, toNat_field, BitVec.toNat_ofNat]
  omega

theorem pteAddr_eq (ste : SW) (va : VAddr) :
    pteAddr ste va = BitVec.ofNat 34 (ste.toNat % 2 ^ 23 * 2 ^ 11 + va.toNat / 2 ^ 11 % 2 ^ 9 * 4) := by
  apply BitVec.eq_of_toNat_eq
  simp only [pteAddr, toNat_append_eq, toNat_field, BitVec.toNat_ofNat]
  omega

/-- The physical address of a page-table entry and an offset in the page (R143). -/
theorem pageAddr_eq (pte : SW) (va : VAddr) : (field pte 13 23 ++ field va 19 11 : PAddr) =
    BitVec.ofNat 34 (pte.toNat % 2 ^ 23 * 2 ^ 11 + va.toNat % 2 ^ 11) := by
  apply BitVec.eq_of_toNat_eq
  simp only [toNat_append_eq, toNat_field, BitVec.toNat_ofNat]
  omega

/-- The ACCESS bits of a page-table entry (R146). -/
theorem accessBits_eq (pte : SW) : field pte 7 6 = BitVec.ofNat 6 (pte.toNat / 2 ^ 23) := by
  apply BitVec.eq_of_toNat_eq
  rw [toNat_field, BitVec.toNat_ofNat]

/-- Settles O22: the model's walk, its addresses written as numbers. -/
theorem translationWalksTheTables : Obligations.TranslationWalksTheTables := by
  intro s space va stp stl a ste pte hstp hstl ha hste hpte hback
  obtain rfl : stp = s.stp space := hstp
  obtain rfl : stl = s.stl space := hstl
  obtain rfl : a = s.steAddr space va := ha.trans (State.steAddr_eq s space va).symm
  obtain rfl : pte = s.physS (pteAddr ste va) := by rw [hpte, pteAddr_eq]
  subst hste
  by_cases habs : (s.stp space).toNat < 128
  · rw [if_pos habs, State.translate_absolute habs, BitVec.ofNat_toNat]
  · rw [if_neg habs, State.translate_paged habs]
    simp only [State.tableWord_of_backed hback, M.ok_bind, bitAt_zero_eq_false_iff, pageAddr_eq, accessBits_eq,
      ite_or, faultParm]

/-! ### The checks of a reference (R147, R154) -/

section
variable {s : State} {acc : Access} {ctx : Ctx} {space : Bool} {va : VAddr}

theorem checkAccess_eq (acc : Access) (space : Bool) (va : VAddr) (bits : Option (BitVec 6)) :
    checkAccess acc space va bits =
      if bits.any (fun b => !acc.permits b) = true then .error (.hard .addressMd (faultParm space va)) else .ok () := by
  cases bits with
  | none => rfl
  | some b => cases h : acc.permits b <;> simp [checkAccess, h]

theorem State.physAddr_of_error {e : Exc} (h : s.translate space va = .error e) :
    s.physAddr acc space va = .error e := by
  rw [State.physAddr, h, M.error_bind]

/-- What the access check and the memory behind the address decide, once the address is translated. -/
theorem State.physAddr_of_translate {pa : PAddr} {bits : Option (BitVec 6)} (h : s.translate space va = .ok (pa, bits)) :
    s.physAddr acc space va =
      if bits.any (fun b => !acc.permits b) = true then .error (.hard .addressMd (faultParm space va))
      else if s.backed pa = true then .ok pa else .error (.fault (.noPhysicalMemory pa)) := by
  rw [State.physAddr, h, M.ok_bind]
  simp only [checkAccess_eq]
  split <;> rfl

/-- A reference that is permitted reaches memory at the translated address. -/
theorem State.physAddr_ok {pa : PAddr} (h : s.physAddr acc space va = .ok pa) :
    s.backed pa = true ∧ ∃ bits, s.translate space va = .ok (pa, bits) := by
  cases ht : s.translate space va with
  | error e =>
    rw [State.physAddr_of_error ht] at h
    contradiction
  | ok t =>
    obtain ⟨pa', bits⟩ := t
    rw [State.physAddr_of_translate ht] at h
    split_ifs at h with _ hb
    cases h
    exact ⟨hb, bits, rfl⟩

theorem State.isRegAddr_iff : s.isRegAddr ctx va = true ↔ va.toNat < 128 ∧ (ctx = .cur ∨ bitAt s.ps 8 = false) := by
  simp [State.isRegAddr, Ps.useShadowPrev]

theorem State.resolve_reg (h : s.isRegAddr ctx va = true) (acc : Access) :
    s.resolve acc ctx va = .ok (.reg (s.ctxFile ctx) (va.setWidth 7)) := if_pos h

theorem State.resolve_phys (h : ¬ s.isRegAddr ctx va = true) (acc : Access) :
    s.resolve acc ctx va = s.physAddr acc (s.space ctx) va >>= fun pa => .ok (.phys pa) := if_neg h

/-- What one piece of a reference names: a register, or memory (R128, R150). -/
theorem State.resolve_ok {x : Place} (h : s.resolve acc ctx va = .ok x) :
    (s.isRegAddr ctx va = true ∧ x = .reg (s.ctxFile ctx) (va.setWidth 7)) ∨
    (¬ s.isRegAddr ctx va = true ∧ ∃ pa bits, s.translate (s.space ctx) va = .ok (pa, bits) ∧ x = .phys pa) := by
  by_cases hreg : s.isRegAddr ctx va = true
  · rw [State.resolve_reg hreg] at h
    cases h
    exact .inl ⟨hreg, rfl⟩
  · rw [State.resolve_phys hreg] at h
    obtain ⟨pa, hpa, hx⟩ := M.bind_ok.1 h
    cases hx
    obtain ⟨-, bits, ht⟩ := State.physAddr_ok hpa
    exact .inr ⟨hreg, pa, bits, ht, rfl⟩

theorem aligned_h_iff : aligned .h va = true ↔ va.toNat % 2 = 0 := by
  simp only [aligned, beq_iff_eq, ← BitVec.toNat_inj, toNat_field]
  simp

theorem aligned_s_iff_mod : aligned .s va = true ↔ va.toNat % 4 = 0 :=
  aligned_s_iff.trans (field_low_two va (by decide))

theorem aligned_iff (p : Prec) (va : VAddr) : aligned p va = true ↔
    ¬ ((p = .h ∧ va.toNat % 2 ≠ 0) ∨ ((p = .s ∨ p = .d) ∧ va.toNat % 4 ≠ 0)) := by
  cases p with
  | q => simp [aligned]
  | h => simp [aligned_h_iff]
  | s => simp [aligned_s_iff_mod]
  | d =>
    rw [show aligned .d va = aligned .s va from rfl]
    simp [aligned_s_iff_mod]

/-- The first check of a reference (R154): alignment. -/
theorem State.locate_misaligned {p : Prec} (h : ¬ aligned p va = true) :
    s.locate acc ctx va p = .error (.fatal .notAligned) := if_pos (by simpa using h)

/-- The second check (R154): a user may not use the previous context. -/
theorem State.locate_user {p : Prec} (hal : aligned p va = true) (h : ctx = .prev ∧ bitAt s.ps 16 = false) :
    s.locate acc ctx va p = .error (.hard .userP (pcWord va)) := by
  obtain ⟨rfl, hmode⟩ := h
  simp [State.locate, hal, Ps.crntMode, hmode]

/-- A reference that passes both: one piece, and for a double-word a second one resolved on its own (R150). -/
theorem State.locate_pieces {p : Prec} (hal : aligned p va = true) (h : ¬ (ctx = .prev ∧ bitAt s.ps 16 = false)) :
    s.locate acc ctx va p = s.resolve acc ctx va >>= fun x =>
      if p = .d then s.resolve acc ctx (vaAdd va 4) >>= fun y => .ok ⟨x, y⟩ else .ok ⟨x, x⟩ := by
  have huser : ¬ (ctx == .prev && !Ps.crntMode s.ps) = true := by simpa [Ps.crntMode] using h
  rw [State.locate, hal, if_neg (by decide), if_neg huser]
  cases p <;> rfl

/-- What a reference names, once its checks are passed (R150). -/
theorem State.locate_ok {p : Prec} {sp : Span} (h : s.locate acc ctx va p = .ok sp) :
    aligned p va = true ∧ s.resolve acc ctx va = .ok sp.fst ∧
      (p = .d → s.resolve acc ctx (vaAdd va 4) = .ok sp.snd) ∧ (p ≠ .d → sp.snd = sp.fst) := by
  by_cases hal : aligned p va = true
  case neg =>
    rw [State.locate_misaligned hal] at h
    contradiction
  by_cases huser : ctx = .prev ∧ bitAt s.ps 16 = false
  · rw [State.locate_user hal huser] at h
    contradiction
  rw [State.locate_pieces hal huser] at h
  obtain ⟨x, hx, h⟩ := M.bind_ok.1 h
  split_ifs at h with hp
  · obtain ⟨y, hy, h⟩ := M.bind_ok.1 h
    cases h
    exact ⟨hal, hx, fun _ => hy, fun hd => absurd hp hd⟩
  · cases h
    exact ⟨hal, hx, fun hd => absurd hd hp, fun _ => rfl⟩

end

theorem vaAdd_eq_ofNat (va : VAddr) (k : Nat) : vaAdd va k = BitVec.ofNat 30 (va.toNat + k) := by
  rw [vaAdd, BitVec.ofNat_add, BitVec.ofNat_toNat, BitVec.setWidth_eq]

/-- Settles O21: a reference fails as its first failing check says, and each piece resolves on its own. -/
theorem accessFaultsInOrder : Obligations.AccessFaultsInOrder := by
  intro s acc ctx va p space file permitted piece
  have hspace : s.space ctx = space := by cases ctx <;> rfl
  have hfile : s.ctxFile ctx = file := by cases ctx <;> rfl
  have hpermits : (fun b => !acc.permits b) = fun b => !permitted b := by cases acc <;> rfl
  have hpiece : ∀ a, piece a = s.resolve acc ctx a := by
    intro a
    by_cases hreg : s.isRegAddr ctx a = true
    · rw [State.resolve_reg hreg, hfile, ← BitVec.ofNat_toNat]
      exact if_pos (State.isRegAddr_iff.1 hreg)
    · rw [State.resolve_phys hreg, hspace]
      refine (if_neg (mt State.isRegAddr_iff.2 hreg)).trans ?_
      cases ht : s.translate space a with
      | error e => rw [State.physAddr_of_error ht, M.error_bind]
      | ok t =>
        obtain ⟨pa, bits⟩ := t
        rw [State.physAddr_of_translate ht, hpermits]
        dsimp only
        split_ifs <;> rfl
  refine ⟨?place, ?value, fun pa => ⟨rfl, rfl, rfl⟩⟩
  case place =>
    rw [hpiece, hpiece, ← vaAdd_eq_ofNat]
    by_cases hal : aligned p va = true
    case neg => rw [State.locate_misaligned hal, if_pos (not_not.1 (mt (aligned_iff p va).2 hal))]
    rw [if_neg ((aligned_iff p va).1 hal)]
    by_cases huser : ctx = .prev ∧ bitAt s.ps 16 = false
    · rw [State.locate_user hal huser, if_pos huser]
    · rw [State.locate_pieces hal huser, if_neg huser]
      cases s.resolve acc ctx va with
      | error e => rfl
      | ok x => by_cases hp : p = .d <;> cases s.resolve acc ctx (vaAdd va 4) <;> simp [hp]
  case value =>
    rw [State.memRead]
    cases s.locate .read ctx va p <;> rfl

/-! ### Fetching the instruction (R251, R252) -/

section
variable {s : State}

/-- With neither an interrupt nor a trace trap before it, the instruction at the PC runs (R871). -/
theorem step_runAtPc (hrun : s.run = .running) (hdom : s.outOfDomain = none) (hint : s.pendingInterrupt = none)
    (htrace : Ps.tracePend s.ps = false) : step s = runAtPc s.stage2 := by
  simp [step, hrun, hdom, hint, htrace]

theorem runAtPc_of_fetch_error {e : Exc} (h : s.fetch3 = .error e) : runAtPc s = s.stage4.takeExc e := by
  simp only [runAtPc, h]

theorem runAtPc_of_decode {w0 w1 w2 : SW} {i : Instr} (h : s.fetch3 = .ok (w0, w1, w2))
    (hi : decodeWords w0 w1 w2 = .ok i) : runAtPc s = exec i s := by
  simp only [runAtPc, h, hi]

/-- `TRACE_PEND` has no part in where the fetch finds a word. -/
theorem State.stage2_instrFetch (s : State) (va : VAddr) : s.stage2.instrFetch va = s.instrFetch va := by
  have hmode : Ps.crntMode s.stage2.ps = Ps.crntMode s.ps := Ps.crntMode_setTracePend _ _
  rw [State.instrFetch, hmode]
  rfl

theorem State.stage2_fetch3 (s : State) : s.stage2.fetch3 = s.fetch3 := by
  simp only [State.fetch3, State.stage2_instrFetch]
  rfl

/-- The address of a word of the fetch (R251). -/
def State.fetchAddr (s : State) (k : Fin 3) : VAddr := BitVec.ofNat 30 (s.pc.toNat + 4 * k.val)

theorem State.fetchAddr_eq (s : State) (k : Fin 3) : s.fetchAddr k = vaAdd s.pc (4 * k.val) := (vaAdd_eq_ofNat _ _).symm

theorem State.fetchAddr_ge {k : Fin 3} (hlo : 128 ≤ s.pc.toNat) (hhi : s.pc.toNat < 2 ^ 30 - 8) :
    128 ≤ (s.fetchAddr k).toNat := by
  rw [State.fetchAddr, BitVec.toNat_ofNat]
  omega

theorem State.fetch3_top (h : 2 ^ 30 - 8 ≤ s.pc.toNat) : s.fetch3 = .error (.fatal .registerBoundary) := by
  rw [State.fetch3, decide_eq_true h]
  rfl

/-- Below the top of the address space, the fetch is that of three words, in order (R251). -/
theorem State.fetch3_eq (h : s.pc.toNat < 2 ^ 30 - 8) :
    s.fetch3 = s.instrFetch (s.fetchAddr 0) >>= fun w0 => s.instrFetch (s.fetchAddr 1) >>= fun w1 =>
      s.instrFetch (s.fetchAddr 2) >>= fun w2 => .ok (w0, w1, w2) := by
  rw [State.fetch3, decide_eq_false (by omega), State.fetchAddr_eq, State.fetchAddr_eq, State.fetchAddr_eq]
  simp [fatalIf, vaAdd]

theorem State.fetch3_ok {w : Fin 3 → SW} (h : s.pc.toNat < 2 ^ 30 - 8) (hw : ∀ k, s.instrFetch (s.fetchAddr k) = .ok (w k)) :
    s.fetch3 = .ok (w 0, w 1, w 2) := by
  simp [State.fetch3_eq h, hw]

/-- The first word that cannot be fetched stops the fetch (R251). -/
theorem State.fetch3_error {k : Fin 3} {e : Exc} (h : s.pc.toNat < 2 ^ 30 - 8)
    (hbefore : ∀ m < k, ∃ w, s.instrFetch (s.fetchAddr m) = .ok w) (hk : s.instrFetch (s.fetchAddr k) = .error e) :
    s.fetch3 = .error e := by
  rw [State.fetch3_eq h]
  match k with
  | 0 => rw [hk, M.error_bind]
  | 1 =>
    obtain ⟨w0, h0⟩ := hbefore 0 (by decide)
    rw [h0, M.ok_bind, hk, M.error_bind]
  | 2 =>
    obtain ⟨w0, h0⟩ := hbefore 0 (by decide)
    obtain ⟨w1, h1⟩ := hbefore 1 (by decide)
    rw [h0, M.ok_bind, h1, M.ok_bind, hk, M.error_bind]

/-- No instruction lies in the registers (R133). -/
theorem State.instrFetch_registers {va : VAddr} (h : va.toNat < 128) :
    s.instrFetch va = .error (.fatal .jumpToRegisters) := if_pos h

/-- A fetch is a reference of its own kind, in the space of `CRNT_MODE` (R147, R152). -/
theorem State.instrFetch_eq {va : VAddr} (h : 128 ≤ va.toNat) :
    s.instrFetch va = s.physAddr .fetch (Ps.crntMode s.ps) va >>= fun pa => .ok (s.physS pa) :=
  if_neg (by omega)

theorem State.instrFetch_of_physAddr {va : VAddr} {pa : PAddr} (h : 128 ≤ va.toNat)
    (hpa : s.physAddr .fetch (Ps.crntMode s.ps) va = .ok pa) : s.instrFetch va = .ok (s.physS pa) := by
  rw [State.instrFetch_eq h, hpa, M.ok_bind]

theorem State.instrFetch_error_of_physAddr {va : VAddr} {e : Exc} (h : 128 ≤ va.toNat)
    (he : s.physAddr .fetch (Ps.crntMode s.ps) va = .error e) : s.instrFetch va = .error e := by
  rw [State.instrFetch_eq h, he, M.error_bind]

end

/-- Settles O5: the stages before the fetch do nothing, and each word is fetched where its address translates to. -/
theorem stepRunsTheDecodedInstruction : Obligations.StepRunsTheDecodedInstruction := by
  intro s hrun hemu hus hreq htrace
  have hstep := step_runAtPc hrun (State.outOfDomain_eq_none hemu hus) (State.pendingInterrupt_eq_none hreq) htrace
  have hdecoded : ∀ (w0 w1 w2 : SW) (i : Instr), s.stage2.fetch3 = .ok (w0, w1, w2) → decodeWords w0 w1 w2 = .ok i →
      step s = exec i s.stage2 := fun _ _ _ _ hf hi => hstep.trans (runAtPc_of_decode hf hi)
  refine ⟨hdecoded, fun hlo hhi pa acc hwords => ?_⟩
  have hfetch : ∀ k, s.instrFetch (s.fetchAddr k) = .ok (s.physS (pa k)) := by
    intro k
    obtain ⟨htr, hacc, hback⟩ := hwords k
    have hpermitted : ¬ (acc k).any (fun b => !Access.fetch.permits b) = true := by
      obtain hnone | ⟨a, ha, hbit⟩ := hacc
      · simp [hnone]
      · simp [ha, Access.permits, hbit]
    refine State.instrFetch_of_physAddr (State.fetchAddr_ge hlo hhi) ?_
    exact (State.physAddr_of_translate htr).trans (by rw [if_neg hpermitted, if_pos hback])
  have hfetch3 := s.stage2_fetch3.trans (State.fetch3_ok hhi hfetch)
  exact ⟨hfetch3, fun i => hdecoded _ _ _ i hfetch3⟩

/-- Settles O8: the first word that cannot be fetched decides, by what stops its reference. -/
theorem fetchFaultsAreTaken : Obligations.FetchFaultsAreTaken := by
  intro s hrun hemu hus hreq htrace
  have hstep := step_runAtPc hrun (State.outOfDomain_eq_none hemu hus) (State.pendingInterrupt_eq_none hreq) htrace
  have hstopped : ∀ {e}, s.fetch3 = .error e → step s = s.stage2.stage4.takeExc e := fun he =>
    hstep.trans (runAtPc_of_fetch_error (s.stage2_fetch3.trans he))
  refine ⟨fun htop => hstopped (State.fetch3_top htop), fun hreg => ?registers, ?word⟩
  case registers =>
    have hfetch : s.instrFetch (s.fetchAddr 0) = .error (.fatal .jumpToRegisters) := by
      rw [State.fetchAddr_eq]
      exact State.instrFetch_registers (by simpa [vaAdd] using hreg)
    exact hstopped (State.fetch3_error (hreg.trans (by decide)) (fun m hm => absurd hm m.not_lt_zero) hfetch)
  case word =>
    intro hlo hhi k va parm hva hparm hbefore
    obtain rfl : va = s.fetchAddr k := hva
    obtain rfl : parm = faultParm (Ps.crntMode s.ps) (s.fetchAddr k) := hparm
    have hstops : ∀ {e}, s.physAddr .fetch (Ps.crntMode s.ps) (s.fetchAddr k) = .error e →
        step s = s.stage2.stage4.takeExc e := fun he =>
      hstopped (State.fetch3_error hhi hbefore
        (State.instrFetch_error_of_physAddr (State.fetchAddr_ge hlo hhi) he))
    cases ht : s.translate (Ps.crntMode s.ps) (s.fetchAddr k) with
    | error e =>
      have hfault := hstops (State.physAddr_of_error ht)
      obtain rfl | ⟨f, rfl⟩ := State.translate_error ht
      · exact ⟨rfl, hfault⟩
      · exact hfault
    | ok t =>
      obtain ⟨pa, bits⟩ := t
      rw [State.physAddr_of_translate ht] at hstops
      dsimp only
      split_ifs with hdenied
      · exact hstops (if_pos hdenied)
      · intro hback
        exact hstops ((if_neg hdenied).trans (if_neg (by simp [hback])))

/-! ### The bytes of stored words (R125) -/

section
variable {s : State}

/-- Distances below the size of memory lead to distinct bytes. -/
theorem paAdd_inj {pa : PAddr} {j k : Nat} (hj : j < 2 ^ 34) (hk : k < 2 ^ 34) (h : paAdd pa j = paAdd pa k) : j = k := by
  have hjk := congrArg BitVec.toNat (add_left_cancel h)
  rwa [BitVec.toNat_ofNat, BitVec.toNat_ofNat, Nat.mod_eq_of_lt hj, Nat.mod_eq_of_lt hk] at hjk

theorem paAdd_zero (pa : PAddr) : paAdd pa 0 = pa := BitVec.add_zero pa

/-- The quarter-words of a half-word in memory, in order from the most significant end. -/
theorem State.physQ_eq_field_physH (s : State) (pa : PAddr) {k : Nat} (hk : k < 2) :
    s.physQ (paAdd pa k) = field (s.physH pa) (9 * k) 9 := by
  match k with
  | 0 => rw [paAdd_zero, State.physH, field_append_high _ _ (by decide), field_full]
  | 1 => rw [State.physH, field_append_low (i := 0) _ _ (by decide), field_full]

/-- The quarter-words of a single-word in memory, in order from the most significant end. -/
theorem State.physQ_eq_field_physS (s : State) (pa : PAddr) {k : Nat} (hk : k < 4) :
    s.physQ (paAdd pa k) = field (s.physS pa) (9 * k) 9 := by
  by_cases hk2 : k < 2
  · rw [State.physS, field_append_high _ _ (by omega), State.physQ_eq_field_physH s pa hk2]
  · obtain ⟨j, rfl⟩ := Nat.exists_eq_add_of_le (Nat.le_of_not_lt hk2)
    rw [State.physS, Nat.mul_add, field_append_low _ _ (by omega), ← State.physQ_eq_field_physH s _ (by omega),
      paAdd_paAdd]

/-- A half-word of a single-word in memory. -/
theorem State.physH_eq_field_physS (s : State) (pa : PAddr) {k : Nat} (hk : k < 3) :
    s.physH (paAdd pa k) = field (s.physS pa) (9 * k) 18 := by
  rw [State.physH, paAdd_paAdd, State.physQ_eq_field_physS s pa (by omega),
    State.physQ_eq_field_physS s pa (by omega), Nat.mul_add, field_append_field _ (by omega)]

/-- The quarter-words of memory that a stored half-word leaves, in order from its most significant end. -/
theorem State.physQ_putH_within (hm : Memory.wf s.mem = true) (pa : PAddr) (v : HW) {k : Nat} (hk : k < 2) :
    (s.putH pa v).physQ (paAdd pa k) = field v (9 * k) 9 := by
  rw [State.putH, State.physQ_putQ (State.mem_wf_putQ hm)]
  match k with
  | 0 =>
    have hne : paAdd pa 0 ≠ paAdd pa 1 := fun h => absurd (paAdd_inj (by decide) (by decide) h) (by decide)
    rw [if_neg hne, State.physQ_putQ hm, if_pos (paAdd_zero pa)]
  | 1 => rw [if_pos rfl]

/-- The quarter-words of memory that a stored single-word leaves, in order from its most significant end. -/
theorem State.physQ_putS_within (hm : Memory.wf s.mem = true) (pa : PAddr) (v : SW) {k : Nat} (hk : k < 4) :
    (s.putS pa v).physQ (paAdd pa k) = field v (9 * k) 9 := by
  rw [State.putS]
  by_cases hk2 : k < 2
  · have hne : ∀ j, 2 ≤ j → j < 4 → paAdd pa k ≠ paAdd pa j := fun j h2 h4 h => by
      have := paAdd_inj (by omega) (by omega) h
      omega
    rw [State.physQ_putH (State.mem_wf_putH hm) (hne 2 (by decide) (by decide))
        (by rw [paAdd_paAdd]; exact hne 3 (by decide) (by decide)),
      State.physQ_putH_within hm pa _ hk2, field_field _ (by omega) (by decide), Nat.zero_add]
  · obtain ⟨j, rfl⟩ := Nat.exists_eq_add_of_le (Nat.le_of_not_lt hk2)
    rw [← paAdd_paAdd, State.physQ_putH_within (State.mem_wf_putH hm) _ _ (by omega),
      field_field _ (by omega) (by decide), Nat.mul_add]

theorem State.physH_putH (hm : Memory.wf s.mem = true) (pa : PAddr) (v : HW) : (s.putH pa v).physH pa = v := by
  have hhigh := State.physQ_putH_within hm pa v (k := 0) (by decide)
  rw [paAdd_zero] at hhigh
  rw [State.physH, hhigh, State.physQ_putH_within hm pa v (by decide)]
  exact (field_append_field v (by decide)).trans (field_full v)

/-- A word whose quarter-words lie in memory in order. -/
theorem State.physS_eq_of_physQ {pa : PAddr} {v : SW} (h : ∀ k < 4, s.physQ (paAdd pa k) = field v (9 * k) 9) :
    s.physS pa = v := by
  have hhalf : ∀ k < 3, s.physH (paAdd pa k) = field v (9 * k) 18 := fun k hk => by
    rw [State.physH, paAdd_paAdd, h k (by omega), h (k + 1) (by omega), Nat.mul_add, field_append_field v (by omega)]
  have hhigh := hhalf 0 (by decide)
  rw [paAdd_zero] at hhigh
  rw [State.physS, hhigh, hhalf 2 (by decide)]
  exact (field_append_field v (by decide)).trans (field_full v)

theorem State.physS_putS (hm : Memory.wf s.mem = true) (pa : PAddr) (v : SW) : (s.putS pa v).physS pa = v :=
  State.physS_eq_of_physQ fun _ hk => State.physQ_putS_within hm pa v hk

end

/-! ### Storage reads back (R150, R151) -/

/-- The number of a place among the quarter-words of its register file, or of physical memory. -/
def Place.addr : Place → Nat
  | .reg _ a => a.toNat
  | .phys pa => pa.toNat

/-- The place `k` quarter-words on. -/
def Place.plus (k : Nat) : Place → Place
  | .reg f a => .reg f (a + BitVec.ofNat 7 k)
  | .phys pa => .phys (paAdd pa k)

section
variable {s : State} {acc : Access} {ctx : Ctx} {va : VAddr}

/-- Translation keeps the offset in the page, so a multiple of 2 or 4 stays one. -/
theorem State.translate_mod {space : Bool} {pa : PAddr} {bits : Option (BitVec 6)} {m : Nat} (hm : m ∣ 4)
    (h : s.translate space va = .ok (pa, bits)) : pa.toNat % m = va.toNat % m := by
  have hmod : pa.toNat % 4 = va.toNat % 4 := by
    by_cases habs : (s.stp space).toNat < 128
    · rw [State.translate_absolute habs] at h
      cases h
      rw [BitVec.toNat_setWidth]
      omega
    · obtain ⟨-, ste, pte, -, -, -, -, rfl, -⟩ := State.translate_ok_paged habs h
      rw [toNat_append_eq, toNat_field, toNat_field]
      omega
  rw [← Nat.mod_mod_of_dvd pa.toNat hm, hmod, Nat.mod_mod_of_dvd _ hm]

/-- The place of a reference has the alignment of its address. -/
theorem State.resolve_mod {x : Place} {m : Nat} (hm : m ∣ 4) (h : s.resolve acc ctx va = .ok x) :
    x.addr % m = va.toNat % m := by
  obtain ⟨-, rfl⟩ | ⟨-, pa, bits, ht, rfl⟩ := State.resolve_ok h
  · rw [Place.addr, BitVec.toNat_setWidth]
    exact Nat.mod_mod_of_dvd _ (hm.trans (by decide))
  · exact State.translate_mod hm ht

end

section
variable {s : State}

theorem field_byte_toNat (a : BitVec 7) : (field a 5 2).toNat = a.toNat % 4 := by
  simp [toNat_field]

theorem State.readQ_writeQ (hm : Memory.wf s.mem = true) (v : QW) (x : Place) : (s.writeQ v x).readQ x = v := by
  cases x with
  | reg f a =>
    have hbyte := field_byte_toNat a
    simp only [State.writeQ, State.readQ, State.getReg_setReg, and_self, if_true]
    exact field_setField_same _ v (by omega)
  | phys pa => exact (State.physQ_putQ hm pa pa v).trans (if_pos rfl)

theorem State.readH_writeH (hm : Memory.wf s.mem = true) (v : HW) {x : Place} (hx : x.addr % 2 = 0) :
    (s.writeH v x).readH x = v := by
  cases x with
  | reg f a =>
    have hbyte := field_byte_toNat a
    have heven : a.toNat % 2 = 0 := hx
    simp only [State.writeH, State.readH, State.getReg_setReg, and_self, if_true]
    exact field_setField_same _ v (by omega)
  | phys pa => exact State.physH_putH hm pa v

theorem State.readS_writeS (hm : Memory.wf s.mem = true) (v : SW) (x : Place) : (s.writeS v x).readS x = v := by
  cases x with
  | reg f a => simp only [State.writeS, State.readS, State.getReg_setReg, and_self, if_true]
  | phys pa => exact State.physS_putS hm pa v

/-- Two aligned single-words are the same storage or share none. -/
theorem State.readS_writeS_ne (hm : Memory.wf s.mem = true) (v : SW) {x y : Place} (hx : x.addr % 4 = 0)
    (hy : y.addr % 4 = 0) (hne : x ≠ y) : (s.writeS v y).readS x = s.readS x := by
  cases x with
  | reg f a =>
    refine State.getReg_writeS s ?_
    cases y with
    | reg g b =>
      refine Place.isReg_reg.2 ?_
      rintro ⟨rfl, hreg⟩
      refine hne (congrArg _ (BitVec.eq_of_toNat_eq ?_))
      have hdiv := congrArg BitVec.toNat hreg
      rw [toNat_field, toNat_field] at hdiv
      simp only [Place.addr] at hx hy
      omega
    | phys pb => rfl
  | phys pa =>
    refine State.physS_eq_of_physQ fun k hk => ?_
    refine Eq.trans (State.physQ_writeS hm ?_) (State.physQ_eq_field_physS s pa hk)
    cases y with
    | reg g b => rfl
    | phys pb =>
      refine Place.covers_phys.2 fun j hj heq => hne (congrArg _ (BitVec.eq_of_toNat_eq ?_))
      have heq' := congrArg BitVec.toNat heq
      simp only [paAdd, BitVec.toNat_add, BitVec.toNat_ofNat] at heq'
      simp only [Place.addr] at hx hy
      omega

/-- What is stored where a reference was located is read there. -/
theorem State.readSpan_writeSpan {acc : Access} {ctx : Ctx} {va : VAddr} {p : Prec} {sp : Span} (v : BitVec p.bits)
    (hm : Memory.wf s.mem = true) (h : s.locate acc ctx va p = .ok sp) (hne : p = .d → sp.fst ≠ sp.snd) :
    (s.writeSpan p sp v).readSpan p sp = v := by
  obtain ⟨hal, hfst, hsnd, -⟩ := State.locate_ok h
  cases p with
  | q => exact State.readQ_writeQ hm v _
  | h => exact State.readH_writeH hm v ((State.resolve_mod (by decide) hfst).trans (aligned_h_iff.1 hal))
  | s => exact State.readS_writeS hm v _
  | d =>
    have hva : va.toNat % 4 = 0 := aligned_s_iff_mod.1 hal
    have hx : sp.fst.addr % 4 = 0 := (State.resolve_mod (by decide) hfst).trans hva
    have hy : sp.snd.addr % 4 = 0 := by
      rw [State.resolve_mod (by decide) (hsnd rfl), vaAdd_eq_ofNat, BitVec.toNat_ofNat]
      omega
    simp only [State.writeSpan, State.readSpan]
    rw [State.readS_writeS_ne (State.mem_wf_writeS hm) _ hx hy (hne rfl), State.readS_writeS hm,
      State.readS_writeS (State.mem_wf_writeS hm)]
    exact (field_append_field v (by decide)).trans (field_full v)

end

/-! ### The parts of a single-word (R125) -/

section
variable {va : VAddr} {k : Nat}

/-- The quarter-words of an aligned single-word are at its address and the three after it. -/
theorem toNat_vaAdd_within (hva : va.toNat % 4 = 0) (hk : k < 4) : (vaAdd va k).toNat = va.toNat + k := by
  rw [vaAdd_eq_ofNat, BitVec.toNat_ofNat]
  omega

/-- They lie in one page: the fields of the address that select the table entries are the same. -/
theorem field_vaAdd_within (hva : va.toNat % 4 = 0) (hk : k < 4) {i l : Nat} (hil : i + l ≤ 28) :
    field (vaAdd va k) i l = field va i l := by
  apply BitVec.eq_of_toNat_eq
  have hdiv : (vaAdd va k).toNat / 4 = va.toNat / 4 := by
    rw [toNat_vaAdd_within hva hk]
    omega
  rw [toNat_field, toNat_field, show 30 - i - l = 2 + (28 - i - l) by omega, Nat.pow_add, ← Nat.div_div_eq_div_mul,
    ← Nat.div_div_eq_div_mul, show 2 ^ 2 = 4 from rfl, hdiv]

variable {s : State} {acc : Access} {ctx : Ctx}

theorem State.translate_within {space : Bool} {pa pa' : PAddr} {bits bits' : Option (BitVec 6)}
    (hva : va.toNat % 4 = 0) (hk : k < 4) (h : s.translate space va = .ok (pa, bits))
    (h' : s.translate space (vaAdd va k) = .ok (pa', bits')) : pa' = paAdd pa k := by
  have hadd := toNat_vaAdd_within hva hk
  apply BitVec.eq_of_toNat_eq
  by_cases habs : (s.stp space).toNat < 128
  · rw [State.translate_absolute habs] at h h'
    cases h
    cases h'
    simp only [paAdd, BitVec.toNat_add, BitVec.toNat_setWidth, BitVec.toNat_ofNat, hadd]
    omega
  · obtain ⟨page, rfl, rfl⟩ := State.translate_congr habs (field_vaAdd_within hva hk (by decide))
      (field_vaAdd_within hva hk (by decide)) h h'
    simp only [paAdd, BitVec.toNat_add, BitVec.toNat_ofNat, toNat_append_eq, toNat_field, hadd]
    omega

/-- The place of part of a single-word is that much after the place of the word. -/
theorem State.resolve_within {x y : Place} (hva : va.toNat % 4 = 0) (hk : k < 4) (h : s.resolve acc ctx va = .ok x)
    (h' : s.resolve acc ctx (vaAdd va k) = .ok y) : y = x.plus k := by
  have hadd := toNat_vaAdd_within hva hk
  have hreg : s.isRegAddr ctx (vaAdd va k) = true ↔ s.isRegAddr ctx va = true := by
    rw [State.isRegAddr_iff, State.isRegAddr_iff, hadd, show va.toNat + k < 128 ↔ va.toNat < 128 by omega]
  obtain ⟨h1, rfl⟩ | ⟨h1, pa, bits, ht, rfl⟩ := State.resolve_ok h <;>
    obtain ⟨h2, rfl⟩ | ⟨h2, pa', bits', ht', rfl⟩ := State.resolve_ok h'
  · refine congrArg _ (BitVec.eq_of_toNat_eq ?_)
    simp only [BitVec.toNat_add, BitVec.toNat_setWidth, BitVec.toNat_ofNat, hadd]
    omega
  · exact absurd (hreg.2 h1) h2
  · exact absurd (hreg.1 h2) h1
  · exact congrArg _ (State.translate_within hva hk ht ht')

/-- Quarter-words 0 to 3 of a register (R44). -/
theorem regQuarter {a : BitVec 7} (ha : a.toNat % 4 = 0) (hk : k < 4) :
    field (a + BitVec.ofNat 7 k) 0 5 = field a 0 5 ∧ (field (a + BitVec.ofNat 7 k) 5 2).toNat = k := by
  have hadd : (a + BitVec.ofNat 7 k).toNat = a.toNat + k := by
    rw [BitVec.toNat_add, BitVec.toNat_ofNat]
    omega
  constructor
  · apply BitVec.eq_of_toNat_eq
    rw [toNat_field, toNat_field, hadd]
    omega
  · rw [field_byte_toNat, hadd]
    omega

/-- The quarter-words of a place, in order from the most significant end. -/
theorem State.readQ_plus (s : State) {x : Place} (hx : x.addr % 4 = 0) (hk : k < 4) :
    s.readQ (x.plus k) = field (s.readS x) (9 * k) 9 := by
  cases x with
  | reg f a =>
    obtain ⟨hreg, hbyte⟩ := regQuarter hx hk
    simp only [Place.plus, State.readQ, State.readS, hreg, hbyte]
  | phys pa => exact State.physQ_eq_field_physS s pa hk

/-- The half-words of a place, in order from the most significant end. -/
theorem State.readH_plus (s : State) {x : Place} (hx : x.addr % 4 = 0) (hk : k < 3) :
    s.readH (x.plus k) = field (s.readS x) (9 * k) 18 := by
  cases x with
  | reg f a =>
    obtain ⟨hreg, hbyte⟩ := regQuarter hx (Nat.lt_succ_of_lt hk)
    simp only [Place.plus, State.readH, State.readS, hreg, hbyte]
  | phys pa => exact State.physH_eq_field_physS s pa hk

end

/-- Settles O20: a store is read back through the place it was located at, and the places of the parts of a word follow one
another in it. -/
theorem storageReadsBack : Obligations.StorageReadsBack := by
  refine ⟨fun s acc ctx va p sp v hm hloc hne => State.readSpan_writeSpan v hm hloc hne, fun s acc ctx va sp hloc => ?_⟩
  obtain ⟨hal, hx, -⟩ := State.locate_ok hloc
  have hva := aligned_s_iff_mod.1 hal
  have hmod : sp.fst.addr % 4 = 0 := (State.resolve_mod (by decide) hx).trans hva
  refine ⟨fun k q hk hq => ?_, fun k h hk hh => ?_⟩
  · obtain ⟨-, hy, -⟩ := State.locate_ok hq
    rw [State.readSpan, State.resolve_within hva hk hx hy]
    exact State.readQ_plus s hmod hk
  · obtain ⟨-, hy, -⟩ := State.locate_ok hh
    rw [State.readSpan, State.resolve_within hva (by omega) hx hy]
    exact State.readH_plus s hmod (by omega)

/-! ### A push on the implicit stack (R610, R613) -/

/-- The spans of `n` single-words of memory, from the byte at `a` on. -/
def wordSpans : (n a : Nat) → List Span
  | 0, _ => []
  | n + 1, a => ⟨.phys (BitVec.ofNat 34 a), .phys (BitVec.ofNat 34 a)⟩ :: wordSpans n (a + 4)

theorem mem_wordSpans {n a : Nat} {sp : Span} (h : sp ∈ wordSpans n a) :
    ∃ i < n, sp.fst = .phys (BitVec.ofNat 34 (a + 4 * i)) := by
  induction n generalizing a with
  | zero => contradiction
  | succ n ih =>
    obtain rfl | h := List.mem_cons.1 h
    · exact ⟨0, by omega, rfl⟩
    · obtain ⟨i, hi, hsp⟩ := ih h
      exact ⟨i + 1, by omega, by rw [hsp, Nat.mul_add]; congr 2; omega⟩

section
variable {s : State}

/-- Under absolute addressing, an address above the registers names the byte of memory of its own number (R141). -/
theorem State.resolve_absolute {acc : Access} {a : Nat} {x : Place} (habs : (s.stp (s.space .cur)).toNat < 128)
    (hlo : 128 ≤ a) (hhi : a < 2 ^ 30) (h : s.resolve acc .cur (BitVec.ofNat 30 a) = .ok x) :
    x = .phys (BitVec.ofNat 34 a) := by
  have ha : (BitVec.ofNat 30 a).toNat = a := by rw [BitVec.toNat_ofNat, Nat.mod_eq_of_lt hhi]
  obtain ⟨hreg, -⟩ | ⟨-, pa, bits, ht, rfl⟩ := State.resolve_ok h
  · have := (State.isRegAddr_iff.1 hreg).1
    omega
  · rw [State.translate_absolute habs, ← BitVec.ofNat_toNat, ha] at ht
    cases ht
    rfl

/-- So a run of single-words lies in memory word after word. -/
theorem State.locateRun_absolute {acc : Access} {n a : Nat} {sps : List Span}
    (habs : (s.stp (s.space .cur)).toNat < 128) (hlo : 128 ≤ a) (hhi : a + 4 * n ≤ 2 ^ 30)
    (h : s.locateRun acc .cur .s n (BitVec.ofNat 30 a) = .ok sps) : sps = wordSpans n a := by
  induction n generalizing a sps with
  | zero => cases h; rfl
  | succ n ih =>
    rw [State.locateRun] at h
    obtain ⟨⟨x, y⟩, hsp, h⟩ := M.bind_ok.1 h
    obtain ⟨rest, hrest, h⟩ := M.bind_ok.1 h
    cases h
    obtain ⟨-, hx, -, hy⟩ := State.locate_ok hsp
    obtain rfl : y = x := hy (by decide)
    obtain rfl := State.resolve_absolute habs hlo (by omega) hx
    have hnext : vaAdd (BitVec.ofNat 30 a) 4 = BitVec.ofNat 30 (a + 4) := (BitVec.ofNat_add ..).symm
    obtain rfl := ih (by omega) (by omega) (hnext ▸ hrest)
    rfl

/-- The bytes outside the stored words. -/
theorem State.physQ_writeRun_outside (hm : Memory.wf s.mem = true) {ws : List SW} {n base : Nat} {a : PAddr}
    (hbase : base + 4 * n ≤ 2 ^ 34) (ha : a.toNat < base ∨ base + 4 * n ≤ a.toNat) :
    (s.writeRun .s (wordSpans n base) ws).physQ a = s.physQ a := by
  refine State.physQ_writeRun hm fun sp hsp => ?_
  obtain ⟨i, hi, hfst⟩ := mem_wordSpans hsp
  rw [Span.touchesByte, hfst, Place.covers_phys]
  intro j hj heq
  rw [heq] at ha
  simp only [paAdd, BitVec.toNat_add, BitVec.toNat_ofNat] at ha
  omega

/-- The bytes of the stored words, each from its most significant end. -/
theorem State.physQ_writeRun_within (hm : Memory.wf s.mem = true) {ws : List SW} {base i b : Nat} {w : SW}
    (hbase : base + 4 * ws.length ≤ 2 ^ 34) (hw : ws[i]? = some w) (hb : b < 4) :
    (s.writeRun .s (wordSpans ws.length base) ws).physQ (BitVec.ofNat 34 (base + 4 * i + b)) = field w (9 * b) 9 := by
  induction ws generalizing s base i with
  | nil => contradiction
  | cons v vs ih =>
    rw [List.length_cons] at hbase ⊢
    rw [wordSpans, State.writeRun]
    cases i with
    | zero =>
      obtain rfl : v = w := Option.some.inj hw
      have hout : (BitVec.ofNat 34 (base + 4 * 0 + b)).toNat < base + 4 := by
        rw [BitVec.toNat_ofNat]
        omega
      rw [State.physQ_writeRun_outside (State.mem_wf_writeSpan hm) (by omega) (.inl hout), Nat.mul_zero, Nat.add_zero,
        BitVec.ofNat_add]
      exact State.physQ_putS_within hm _ v hb
    | succ i =>
      rw [show base + 4 * (i + 1) + b = base + 4 + 4 * i + b by omega]
      exact ih (State.mem_wf_writeSpan hm) (by omega) hw

theorem State.getReg_writeRun_wordSpans (s : State) (n base : Nat) (ws : List SW) (f : FileNum) (r : RegNum) :
    (s.writeRun .s (wordSpans n base) ws).getReg f r = s.getReg f r := by
  refine State.getReg_writeRun s fun sp hsp => ?_
  obtain ⟨i, -, hfst⟩ := mem_wordSpans hsp
  simp only [Span.touchesReg, hfst, Place.isReg]

end

/-- Settles O12: the words are stored one after the other, and then the stack pointer. -/
theorem pushedWordsLieInOrder : Obligations.PushedWordsLieInOrder := by
  intro s t ws hm habs hlo hhi hpush
  obtain ⟨-, sps, hsps, rfl⟩ := State.pushWords_ok.1 hpush
  rw [← BitVec.setWidth_eq (addrOfWord s.sp), ← BitVec.ofNat_toNat] at hsps
  obtain rfl := State.locateRun_absolute habs hlo hhi hsps
  have hfile : ∀ sps, (s.writeRun .s sps ws).file = s.file := fun sps => by rw [State.file, State.writeRun_ps, ← State.file]
  refine ⟨fun i w hw b hb => ?within, fun a ha => ?outside, ?pointer, fun f n hne => ?others, ?rest⟩
  case within => exact State.physQ_writeRun_within hm (by omega) hw hb
  case outside => exact State.physQ_writeRun_outside hm (by omega) ha
  case pointer => rw [State.putReg, hfile, State.getReg_setReg, if_pos ⟨rfl, rfl⟩]
  case others =>
    rw [State.putReg, hfile, State.getReg_setReg, if_neg (by simpa [eq_comm] using hne), State.getReg_writeRun_wordSpans]
  case rest =>
    rw [State.writeRun_eq]
    rfl

end Sys2Proof.Machine

namespace Sys2Proof

open Machine

/-! Encoding and decoding. An instruction word is taken apart in layers: operand descriptors with their extended words, the
opcode with the fields of the class, the opcode map, and the quarter-words. Each layer has one lemma for each direction; the
statements about the encoding compose them. -/

/-! ### Bits of concatenations -/

section
variable {m n : Nat}

theorem bitAt_append_high (x : BitVec m) (y : BitVec n) {i : Nat} (h : i < m) : bitAt (x ++ y) i = bitAt x i := by
  simp [bitAt, BitVec.getMsbD_append, Nat.not_le.2 h]

/-- A bit is the field of length one. -/
theorem ofBool_bitAt (w : BitVec n) {i : Nat} (h : i < n) : BitVec.ofBool (bitAt w i) = field w i 1 := by
  apply BitVec.eq_of_getLsbD_eq
  intro k hk
  obtain rfl : k = 0 := by omega
  rw [getLsbD_field, bitAt_eq_getLsbD w h]
  simp [show n - i - 1 = n - 1 - i by omega]

theorem field_of_bitAt {w : BitVec n} {i : Nat} {b : Bool} (h : i < n) (hw : bitAt w i = b) :
    field w i 1 = BitVec.ofBool b := by
  rw [← ofBool_bitAt w h, hw]

end

/-! ### Short operands (R221) -/

theorem decodeShort_encodeShort {so : Short} (h : so.wellFormed = true) :
    decodeShort (encodeShort so).1 (encodeShort so).2 = so := by
  cases so with
  | reg r => revert r; decide
  | regOut f => revert f; decide
  | const f => rfl
  | mode2 f => rfl
  | indexed base disp =>
    have hb : 3 ≤ base.toNat := by simpa [Short.wellFormed] using h
    simp only [decodeShort, encodeShort]
    split
    case h_4 => rfl
    all_goals omega

/-- The six bits of `F` from bit 0 and the rest. -/
theorem one_append_field {f : BitVec 6} (h : bitAt f 0 = true) : 1#1 ++ field f 1 5 = f := by
  have hf := field_append_field f (i := 0) (l := 1) (k := 5) (by decide)
  rwa [field_of_bitAt (by decide) h, field_full] at hf

theorem zero_append_field {f : BitVec 6} (h : ¬ bitAt f 0 = true) : 0#1 ++ field f 1 5 = f := by
  have hf := field_append_field f (i := 0) (l := 1) (k := 5) (by decide)
  rwa [field_of_bitAt (by decide) (Bool.eq_false_of_not_eq_true h), field_full] at hf

theorem encodeShort_decodeShort (mode : BitVec 5) (f : BitVec 6) : encodeShort (decodeShort mode f) = (mode, f) := by
  unfold decodeShort
  split
  next h =>
    obtain rfl : mode = 0 := BitVec.eq_of_toNat_eq h
    split
    next hf => rw [encodeShort, one_append_field hf]
    next hf => rw [encodeShort, zero_append_field hf]
  next h => rw [encodeShort, show mode = 1 from BitVec.eq_of_toNat_eq h]
  next h => rw [encodeShort, show mode = 2 from BitVec.eq_of_toNat_eq h]
  next => rfl

theorem decodeShort_wellFormed (mode : BitVec 5) (f : BitVec 6) : (decodeShort mode f).wellFormed = true := by
  unfold decodeShort
  split
  next => split <;> rfl
  next => rfl
  next => rfl
  next h0 h1 h2 =>
    have h : mode.toNat ≠ 0 ∧ mode.toNat ≠ 1 ∧ mode.toNat ≠ 2 := ⟨h0, h1, h2⟩
    rw [Short.wellFormed, decide_eq_true_eq]
    omega

theorem Short.isConst_iff {so : Short} (h : so.wellFormed = true) : so.isConst = true ↔ (encodeShort so).1 = 1 := by
  cases so with
  | indexed base disp =>
    simp only [Short.wellFormed, decide_eq_true_eq] at h
    simp only [Short.isConst, encodeShort, Bool.false_eq_true, false_iff]
    rintro rfl
    exact absurd h (by decide)
  | _ => simp [Short.isConst, encodeShort]

/-! ### Extended words (R225) -/

/-- The six bits before the base of an extended word. -/
def ExtWord.head (p i v : Bool) (s : BitVec 2) (spare : Bool) : BitVec 6 :=
  BitVec.ofBool p ++ BitVec.ofBool i ++ BitVec.ofBool v ++ s ++ BitVec.ofBool spare

theorem encodeExtWord_fixedBased (p i spare : Bool) (s : BitVec 2) (addr : VAddr) :
    encodeExtWord (.fixedBased p i s spare addr) = (ExtWord.head p i false s spare ++ addr : BitVec (6 + 30)) := rfl

theorem encodeExtWord_variableBased (p i spare : Bool) (s : BitVec 2) (reg : RegNum) (disp : BitVec 25) :
    encodeExtWord (.variableBased p i s spare reg disp) =
      (ExtWord.head p i true s spare ++ reg ++ disp : BitVec (6 + 5 + 25)) := rfl

theorem ExtWord.head_fields : ∀ (p i v : Bool) (s : BitVec 2) (spare : Bool),
    bitAt (ExtWord.head p i v s spare) 0 = p ∧ bitAt (ExtWord.head p i v s spare) 1 = i ∧
      bitAt (ExtWord.head p i v s spare) 2 = v ∧ field (ExtWord.head p i v s spare) 3 2 = s ∧
      bitAt (ExtWord.head p i v s spare) 5 = spare := by
  decide

theorem ExtWord.head_of_word (w : SW) :
    ExtWord.head (bitAt w 0) (bitAt w 1) (bitAt w 2) (field w 3 2) (bitAt w 5) = field w 0 6 := by
  have h2 := field_append_field w (i := 0) (l := 1) (k := 1) (by decide)
  have h3 := field_append_field w (i := 0) (l := 2) (k := 1) (by decide)
  have h5 := field_append_field w (i := 0) (l := 3) (k := 2) (by decide)
  have h6 := field_append_field w (i := 0) (l := 5) (k := 1) (by decide)
  rw [ExtWord.head, ofBool_bitAt w (by decide), ofBool_bitAt w (by decide), ofBool_bitAt w (by decide),
    ofBool_bitAt w (by decide), h2, h3, h5, h6]

/-- What the decoder reads of a word that begins with a head. -/
theorem decodeExtWord_head_append (p i v : Bool) (s : BitVec 2) (spare : Bool) (base : BitVec 30) :
    decodeExtWord (ExtWord.head p i v s spare ++ base : BitVec (6 + 30)) =
      if v then .variableBased p i s spare (field base 0 5) (field base 5 25) else .fixedBased p i s spare base := by
  obtain ⟨hp, hi, hv, hs, hspare⟩ := ExtWord.head_fields p i v s spare
  have hbase := field_append_low (ExtWord.head p i v s spare) base (i := 0) (l := 30) (by decide)
  have hreg := field_append_low (ExtWord.head p i v s spare) base (i := 0) (l := 5) (by decide)
  have hdisp := field_append_low (ExtWord.head p i v s spare) base (i := 5) (l := 25) (by decide)
  rw [decodeExtWord, hbase, hreg, hdisp, field_full, bitAt_append_high _ _ (by decide), hv,
    bitAt_append_high _ _ (by decide), hp, bitAt_append_high _ _ (by decide), hi, bitAt_append_high _ _ (by decide), hspare,
    field_append_high _ _ (by decide), hs]

theorem decodeExtWord_encodeExtWord (ew : ExtWord) : decodeExtWord (encodeExtWord ew) = ew := by
  cases ew with
  | fixedBased p i s spare addr => exact decodeExtWord_head_append p i false s spare addr
  | variableBased p i s spare reg disp =>
    rw [encodeExtWord_variableBased, BitVec.append_assoc]
    refine (decodeExtWord_head_append p i true s spare (reg ++ disp)).trans ?_
    have hreg := (field_append_high reg disp (i := 0) (l := 5) (by decide)).trans (field_full reg)
    have hdisp := (field_append_low reg disp (i := 0) (l := 25) (by decide)).trans (field_full disp)
    rw [if_pos rfl, hreg, hdisp]

theorem encodeExtWord_decodeExtWord (w : SW) : encodeExtWord (decodeExtWord w) = w := by
  have hhead := ExtWord.head_of_word w
  unfold decodeExtWord
  split
  next h =>
    have hreg := field_append_field w (i := 0) (l := 6) (k := 5) (by decide)
    have hdisp := field_append_field w (i := 0) (l := 11) (k := 25) (by decide)
    rw [h] at hhead
    rw [encodeExtWord_variableBased, hhead, hreg, hdisp, field_full]
  next h =>
    have hbase := field_append_field w (i := 0) (l := 6) (k := 30) (by decide)
    rw [Bool.eq_false_of_not_eq_true h] at hhead
    rw [encodeExtWord_fixedBased, hhead, hbase, field_full]

/-! ### Operand descriptors (R217, R224) -/

/-- The parts of a descriptor. -/
theorem descriptor_fields (x : BitVec 1) (mode : BitVec 5) (f : BitVec 6) :
    field (x ++ mode ++ f) 0 1 = x ∧ field (x ++ mode ++ f) 1 5 = mode ∧ field (x ++ mode ++ f) 6 6 = f := by
  refine ⟨?_, ?_, ?_⟩
  · rw [field_append_high _ _ (by decide), field_append_high _ _ (by decide), field_full]
  · rw [field_append_high _ _ (by decide)]
    exact (field_append_low x mode (i := 0) (by decide)).trans (field_full mode)
  · exact (field_append_low (x ++ mode) f (i := 0) (by decide)).trans (field_full f)

theorem descriptor_of_fields (d : BitVec 12) : field d 0 1 ++ field d 1 5 ++ field d 6 6 = d := by
  have h6 := field_append_field d (i := 0) (l := 1) (k := 5) (by decide)
  have h12 := field_append_field d (i := 0) (l := 6) (k := 6) (by decide)
  rw [h6, h12, field_full]

section
variable (mode : BitVec 5) (f : BitVec 6) (ew : SW)

theorem bitAt_descriptor (x : BitVec 1) : bitAt (x ++ mode ++ f) 0 = bitAt x 0 := by
  rw [bitAt_append_high _ _ (by decide), bitAt_append_high _ _ (by decide)]

theorem decodeOD_short : decodeOD (0#1 ++ mode ++ f) ew = .short (decodeShort mode f) := by
  obtain ⟨-, hm, hf⟩ := descriptor_fields 0#1 mode f
  have hx : bitAt (0#1 ++ mode ++ f) 0 = false := bitAt_descriptor mode f 0#1
  simp only [decodeOD, hx, hm, hf, Bool.false_eq_true, if_false]

theorem decodeOD_based (h : mode ≠ 1) :
    decodeOD (1#1 ++ mode ++ f) ew = .based (decodeShort mode f) (decodeExtWord ew) := by
  obtain ⟨-, hm, hf⟩ := descriptor_fields 1#1 mode f
  have hx : bitAt (1#1 ++ mode ++ f) 0 = true := bitAt_descriptor mode f 1#1
  simp only [decodeOD, hx, hm, hf, if_true, if_neg h]

/-- With `MODE` = 1 the extended word is read as `F` says (R227 to R230). -/
theorem decodeOD_mode_one : decodeOD (1#1 ++ 1#5 ++ f) ew =
    if bitAt f 0 = true then .indexedConst (field f 1 5) ew
    else if f = 0 then .based0 (decodeExtWord ew)
    else if f = 1 then .longConst .sx ew
    else if f = 2 then .longConst .zx ew
    else if f = 3 then .longConst .lj ew
    else .illegalF (field f 1 5) ew := by
  obtain ⟨-, hm, hf⟩ := descriptor_fields 1#1 1#5 f
  have hx : bitAt (1#1 ++ 1#5 ++ f) 0 = true := bitAt_descriptor 1#5 f 1#1
  simp only [decodeOD, hx, hm, hf, if_true, ← BitVec.toNat_inj]
  rw [if_pos (by decide)]
  congr 1
  split <;> simp_all

end

/-- A well-formed descriptor decodes to itself, whatever word follows one that has no extended word. -/
theorem decodeOD_encodeOD {od : OD} {w : SW} {ws : List SW} (h : od.wellFormed = true)
    (hw : (encodeOD od).2.toList <+: w :: ws) : decodeOD (encodeOD od).1 w = od := by
  cases od with
  | short so => exact (decodeOD_short _ _ w).trans (congrArg OD.short (decodeShort_encodeShort h))
  | longConst k v =>
    obtain ⟨rfl, -⟩ := List.cons_prefix_cons.1 hw
    cases k <;> exact decodeOD_mode_one _ v
  | illegalF f v =>
    obtain ⟨rfl, -⟩ := List.cons_prefix_cons.1 hw
    have hF : 4 ≤ f.toNat := by simpa [OD.wellFormed] using h
    have hf : ∀ f : BitVec 5, 4 ≤ f.toNat → bitAt (0#1 ++ f) 0 = false ∧ 0#1 ++ f ≠ 0 ∧ 0#1 ++ f ≠ 1 ∧ 0#1 ++ f ≠ 2 ∧
        0#1 ++ f ≠ 3 ∧ field (0#1 ++ f) 1 5 = f := by decide
    obtain ⟨hbit, h0, h1, h2, h3, hfield⟩ := hf f hF
    refine (decodeOD_mode_one _ v).trans ?_
    rw [hbit, if_neg Bool.false_ne_true, if_neg h0, if_neg h1, if_neg h2, if_neg h3, hfield]
  | indexedConst r v =>
    obtain ⟨rfl, -⟩ := List.cons_prefix_cons.1 hw
    have hr : ∀ r : RegNum, bitAt (1#1 ++ r) 0 = true ∧ field (1#1 ++ r) 1 5 = r := by decide
    obtain ⟨hbit, hfield⟩ := hr r
    refine (decodeOD_mode_one _ v).trans ?_
    rw [if_pos hbit, hfield]
  | based0 ew =>
    obtain ⟨rfl, -⟩ := List.cons_prefix_cons.1 hw
    exact (decodeOD_mode_one 0#6 _).trans (congrArg OD.based0 (decodeExtWord_encodeExtWord ew))
  | based so ew =>
    obtain ⟨rfl, -⟩ := List.cons_prefix_cons.1 hw
    obtain ⟨hso, hconst⟩ : so.wellFormed = true ∧ so.isConst = false := by simpa [OD.wellFormed] using h
    have hmode : (encodeShort so).1 ≠ 1 := mt (Short.isConst_iff hso).2 (by simp [hconst])
    refine (decodeOD_based _ (encodeShort so).2 _ hmode).trans ?_
    rw [decodeShort_encodeShort hso, decodeExtWord_encodeExtWord]

/-- A descriptor as its X, `MODE` and `F`. -/
theorem exists_descriptor (d : BitVec 12) :
    ∃ (mode : BitVec 5) (f : BitVec 6), d = 0#1 ++ mode ++ f ∧ bitAt d 0 = false ∨ d = 1#1 ++ mode ++ f ∧ bitAt d 0 = true := by
  have hd := descriptor_of_fields d
  refine ⟨field d 1 5, field d 6 6, ?_⟩
  cases hx : bitAt d 0 with
  | false =>
    rw [field_of_bitAt (by decide) hx] at hd
    exact .inl ⟨hd.symm, rfl⟩
  | true =>
    rw [field_of_bitAt (by decide) hx] at hd
    exact .inr ⟨hd.symm, rfl⟩

/-- What a descriptor decodes to is encoded by its bits, with the extended word that it has exactly when X = 1. -/
theorem encodeOD_decodeOD (d : BitVec 12) (ew : SW) :
    encodeOD (decodeOD d ew) = (d, if bitAt d 0 then some ew else none) := by
  obtain ⟨mode, f, ⟨rfl, hx⟩ | ⟨rfl, hx⟩⟩ := exists_descriptor d
  · rw [hx, decodeOD_short, encodeOD, encodeShort_decodeShort]
    rfl
  rw [hx, if_pos rfl]
  by_cases hmode : mode = 1#5
  case neg => rw [decodeOD_based _ _ _ hmode, encodeOD, encodeShort_decodeShort, encodeExtWord_decodeExtWord]
  subst hmode
  rw [decodeOD_mode_one]
  split_ifs with hf h0 h1 h2 h3
  · rw [encodeOD, one_append_field hf]
  · rw [h0, encodeOD, encodeExtWord_decodeExtWord]
    rfl
  · rw [h1]; rfl
  · rw [h2]; rfl
  · rw [h3]; rfl
  · rw [encodeOD, zero_append_field hf]

theorem decodeOD_wellFormed (d : BitVec 12) (ew : SW) : (decodeOD d ew).wellFormed = true := by
  obtain ⟨mode, f, ⟨rfl, -⟩ | ⟨rfl, -⟩⟩ := exists_descriptor d
  · rw [decodeOD_short]
    exact decodeShort_wellFormed mode f
  by_cases hmode : mode = 1#5
  case neg =>
    have hso := decodeShort_wellFormed mode f
    have hconst : (decodeShort mode f).isConst ≠ true := fun h =>
      hmode (by simpa [encodeShort_decodeShort] using (Short.isConst_iff hso).1 h)
    rw [decodeOD_based _ _ _ hmode]
    simpa [OD.wellFormed, hso] using hconst
  subst hmode
  rw [decodeOD_mode_one]
  have hF : ∀ f : BitVec 6, ¬ bitAt f 0 = true → f ≠ 0 → f ≠ 1 → f ≠ 2 → f ≠ 3 → 4 ≤ (field f 1 5).toNat := by decide
  split_ifs with hf h0 h1 h2 h3
  case neg => simpa [OD.wellFormed] using hF f hf h0 h1 h2 h3
  all_goals rfl

/-- An operand has an extended word exactly when X = 1 (R224). -/
theorem OD.extended_eq (od : OD) : od.extended = (encodeOD od).2.isSome := by
  cases od <;> rfl

/-! ### Two descriptors and their extended words (R203) -/

section
variable {w1 w2 : SW}

/-- Two well-formed descriptors decode to themselves from the words that begin with their extended words. -/
theorem decodePair_encodeOD {o1 o2 : OD} (h1 : o1.wellFormed = true) (h2 : o2.wellFormed = true)
    (hw : (encodeOD o2).2.toList ++ (encodeOD o1).2.toList <+: [w1, w2]) :
    decodePair (encodeOD o1).1 (encodeOD o2).1 w1 w2 = (o1, o2) := by
  have h2 := decodeOD_encodeOD h2 ((List.prefix_append _ _).trans hw)
  simp only [decodePair, h2, OD.extended_eq]
  cases hx : (encodeOD o2).2 with
  | none =>
    rw [hx] at hw
    exact congrArg (·, o2) (decodeOD_encodeOD h1 hw)
  | some w =>
    rw [hx] at hw
    exact congrArg (·, o2) (decodeOD_encodeOD h1 (List.cons_prefix_cons.1 hw).2)

/-- What two descriptors decode to is encoded by their bits and the words that belong to them. -/
theorem decodePair_eq {d1 d2 : BitVec 12} {o1 o2 : OD} (h : decodePair d1 d2 w1 w2 = (o1, o2)) :
    o1.wellFormed = true ∧ o2.wellFormed = true ∧ (encodeOD o1).1 = d1 ∧ (encodeOD o2).1 = d2 ∧
      (encodeOD o2).2.toList ++ (encodeOD o1).2.toList <+: [w1, w2] := by
  simp only [decodePair, Prod.mk.injEq] at h
  obtain ⟨rfl, rfl⟩ := h
  refine ⟨decodeOD_wellFormed _ _, decodeOD_wellFormed _ _, by rw [encodeOD_decodeOD], by rw [encodeOD_decodeOD], ?_⟩
  rw [OD.extended_eq, encodeOD_decodeOD, encodeOD_decodeOD]
  cases bitAt d1 0 <;> cases bitAt d2 0 <;> simp

end

/-! ### The first word: the opcode and the fields of each class (R202, R205) -/

theorem decodeT_encodeT (t : TMode) : decodeT (encodeT t) = t := by cases t <;> rfl

theorem encodeT_decodeT (t : BitVec 2) : encodeT (decodeT t) = t := by revert t; decide

/-- A first word as its opcode field and its two descriptor fields. -/
theorem exists_opcode_descriptors (w : SW) : ∃ c d1 d2 : BitVec 12, w = c ++ (d1 ++ d2) := by
  have h24 := field_append_field w (i := 12) (l := 12) (k := 12) (by decide)
  have h36 := field_append_field w (i := 0) (l := 12) (k := 24) (by decide)
  exact ⟨field w 0 12, field w 12 12, field w 24 12, by rw [h24, h36, field_full]⟩

section
variable (c d1 d2 : BitVec 12) (w1 w2 : SW)

theorem field_opcode {n : Nat} (fs : BitVec n) : field (c ++ fs) 0 12 = c :=
  (field_append_high c fs (by decide)).trans (field_full c)

theorem field_fields (fs : BitVec 24) : field (c ++ fs) 12 24 = fs :=
  (field_append_low c fs (i := 0) (by decide)).trans (field_full fs)

theorem field_descriptor1 : field (c ++ (d1 ++ d2)) 12 12 = d1 :=
  (field_append_low c (d1 ++ d2) (i := 0) (by decide)).trans
    ((field_append_high d1 d2 (by decide)).trans (field_full d1))

theorem field_descriptor2 : field (c ++ (d1 ++ d2)) 24 12 = d2 :=
  (field_append_low c (d1 ++ d2) (i := 12) (by decide)).trans
    ((field_append_low d1 d2 (i := 0) (by decide)).trans (field_full d2))

theorem splitWords_hop {c : BitVec 12} (fs : BitVec 24) (h : c.toNat < 0o100) :
    splitWords (c ++ fs) w1 w2 = .hop (c.toNat - 1) fs := by
  simp only [splitWords, field_opcode, field_fields]
  rw [if_pos h]

theorem splitWords_xop {c : BitVec 12} (hlo : 0o100 ≤ c.toNat) (hhi : c.toNat < 0o1400) :
    splitWords (c ++ (d1 ++ d2)) w1 w2 =
      .xop (c.toNat - 0o100) (decodePair d1 d2 w1 w2).1 (decodePair d1 d2 w1 w2).2 := by
  simp only [splitWords, field_opcode, field_descriptor1, field_descriptor2]
  rw [if_neg (by omega), if_pos hhi]

theorem splitWords_jop_rel {c : BitVec 12} (hlo : 0o1400 ≤ c.toNat) (hhi : c.toNat < 0o2000) (hpr : bitAt c 11 = true) :
    splitWords (c ++ (d1 ++ d2)) w1 w2 = .jop ((c.toNat - 0o1400) / 2) (decodeOD d1 w1) (.rel d2) := by
  simp only [splitWords, field_opcode, field_descriptor1, field_descriptor2, bitAt_append_high c (d1 ++ d2) (by decide : 11 < 12)]
  rw [if_neg (by omega), if_neg (by omega), if_pos hhi, if_pos hpr]

theorem splitWords_jop_gen {c : BitVec 12} (hlo : 0o1400 ≤ c.toNat) (hhi : c.toNat < 0o2000) (hpr : ¬ bitAt c 11 = true) :
    splitWords (c ++ (d1 ++ d2)) w1 w2 =
      .jop ((c.toNat - 0o1400) / 2) (decodePair d1 d2 w1 w2).1 (.gen (decodePair d1 d2 w1 w2).2) := by
  simp only [splitWords, field_opcode, field_descriptor1, field_descriptor2, bitAt_append_high c (d1 ++ d2) (by decide : 11 < 12)]
  rw [if_neg (by omega), if_neg (by omega), if_pos hhi, if_neg hpr]

theorem splitWords_sop {c : BitVec 12} (hlo : 0o2000 ≤ c.toNat) (hhi : c.toNat < 0o4000) :
    splitWords (c ++ (d1 ++ d2)) w1 w2 = .sop ((c.toNat - 0o2000) / 16) (field c 8 4) (decodePair d1 d2 w1 w2).1
      (decodePair d1 d2 w1 w2).2 := by
  simp only [splitWords, field_opcode, field_descriptor1, field_descriptor2,
    field_append_high c (d1 ++ d2) (by decide : 8 + 4 ≤ 12)]
  rw [if_neg (by omega), if_neg (by omega), if_neg (by omega), if_pos hhi]

theorem splitWords_top {c : BitVec 12} (hlo : 0o4000 ≤ c.toNat) :
    splitWords (c ++ (d1 ++ d2)) w1 w2 = .top ((c.toNat - 0o4000) / 4) (decodeT (field c 10 2)) (decodePair d1 d2 w1 w2).1
      (decodePair d1 d2 w1 w2).2 := by
  simp only [splitWords, field_opcode, field_descriptor1, field_descriptor2,
    field_append_high c (d1 ++ d2) (by decide : 10 + 2 ≤ 12)]
  rw [if_neg (by omega), if_neg (by omega), if_neg (by omega), if_neg (by omega)]

end

/-! ### The opcode and the number within the class (R264) -/

/-- The last bit of the opcode field is PR (R210). -/
theorem bitAt_opcode_last (c : BitVec 12) : bitAt c 11 = decide (c.toNat % 2 = 1) := by
  rw [bitAt_eq_getLsbD c (by decide), BitVec.getLsbD, Nat.testBit_zero]

/-- The numbers of the opcode map fit the opcode field, and none of them is zero. -/
theorem Form.opcode_lt {f : Form} (h : f.number < classCount f) : 0 < f.opcode ∧ f.opcode < 2 ^ 12 := by
  cases f with
  | hop k disp => exact ⟨Nat.one_pos, (by decide : 0o1 < 2 ^ 12)⟩
  | xop k o1 o2 => simp only [Form.number, classCount, Form.opcode] at *; omega
  | jop k o1 j => cases j <;> simp only [Form.number, classCount, Form.opcode] at * <;> omega
  | sop k skp o1 o2 =>
    have hskp := skp.isLt
    simp only [Form.number, classCount, Form.opcode] at *
    omega
  | top k t o1 o2 =>
    have ht := (encodeT t).isLt
    simp only [Form.number, classCount, Form.opcode] at *
    omega

/-- The words of a well-formed form are taken apart into it (R202, R205, R264). -/
theorem splitWords_of_opcode {f : Form} {c : BitVec 12} {w1 w2 : SW} (hwf : f.wellFormed = true)
    (hn : f.number < classCount f) (hc : c.toNat = f.opcode) (hw : f.extWords <+: [w1, w2]) :
    splitWords (c ++ f.fields) w1 w2 = f := by
  cases f with
  | hop k disp =>
    obtain rfl : k = 0 := Nat.lt_one_iff.1 hn
    simp only [Form.opcode] at hc
    refine (splitWords_hop w1 w2 disp (by omega)).trans ?_
    rw [hc]
  | xop k o1 o2 =>
    obtain ⟨h1, h2⟩ := Bool.and_eq_true_iff.1 hwf
    simp only [Form.number, classCount, Form.opcode] at hn hc
    refine (splitWords_xop _ _ w1 w2 (by omega) (by omega)).trans ?_
    rw [decodePair_encodeOD h1 h2 hw, hc, Nat.add_sub_cancel_left]
  | jop k o1 j =>
    obtain ⟨h1, h2⟩ := Bool.and_eq_true_iff.1 hwf
    simp only [Form.number, classCount] at hn
    cases j with
    | rel j =>
      simp only [Form.opcode] at hc
      have hpr : bitAt c 11 = true := by
        rw [bitAt_opcode_last, decide_eq_true_eq]
        omega
      refine (splitWords_jop_rel _ _ w1 w2 (by omega) (by omega) hpr).trans ?_
      rw [decodeOD_encodeOD h1 hw]
      congr 1
      omega
    | gen od =>
      simp only [Form.opcode] at hc
      have hpr : ¬ bitAt c 11 = true := by
        rw [bitAt_opcode_last, decide_eq_true_eq]
        omega
      refine (splitWords_jop_gen _ _ w1 w2 (by omega) (by omega) hpr).trans ?_
      rw [decodePair_encodeOD h1 h2 hw]
      congr 1
      omega
  | sop k skp o1 o2 =>
    obtain ⟨h1, h2⟩ := Bool.and_eq_true_iff.1 hwf
    have hlt := skp.isLt
    simp only [Form.number, classCount, Form.opcode] at hn hc
    have hskp : field c 8 4 = skp := by
      apply BitVec.eq_of_toNat_eq
      rw [toNat_field]
      omega
    refine (splitWords_sop _ _ w1 w2 (by omega) (by omega)).trans ?_
    rw [decodePair_encodeOD h1 h2 hw, hskp]
    congr 1
    omega
  | top k t o1 o2 =>
    obtain ⟨h1, h2⟩ := Bool.and_eq_true_iff.1 hwf
    have hlt := (encodeT t).isLt
    simp only [Form.number, classCount, Form.opcode] at hn hc
    have ht : field c 10 2 = encodeT t := by
      apply BitVec.eq_of_toNat_eq
      rw [toNat_field]
      omega
    refine (splitWords_top _ _ w1 w2 (by omega)).trans ?_
    rw [decodePair_encodeOD h1 h2 hw, ht, decodeT_encodeT]
    congr 1
    omega

section
variable {c d1 d2 : BitVec 12} {w1 w2 : SW}

/-- The form that words are taken apart into is well-formed and has the bits of those of the words that belong to it. -/
theorem splitWords_eq {f : Form} (hf : splitWords (c ++ (d1 ++ d2)) w1 w2 = f) (hc : c ≠ 0)
    (hn : f.number < classCount f) :
    f.wellFormed = true ∧ f.opcode = c.toNat ∧ f.fields = d1 ++ d2 ∧ f.extWords <+: [w1, w2] := by
  obtain ⟨ho1, ho2, hd1, hd2, hw⟩ := decodePair_eq (Prod.mk.eta (p := decodePair d1 d2 w1 w2)).symm
  obtain hlt | hge := Nat.lt_or_ge c.toNat 0o100
  · rw [splitWords_hop w1 w2 _ hlt] at hf
    subst hf
    have h0 : c.toNat ≠ 0 := fun h => hc (BitVec.eq_of_toNat_eq h)
    have h1 : c.toNat - 1 < 1 := hn
    exact ⟨rfl, by simp only [Form.opcode]; omega, rfl, List.nil_prefix⟩
  obtain hlt | hge := Nat.lt_or_ge c.toNat 0o1400
  · rw [splitWords_xop d1 d2 w1 w2 hge hlt] at hf
    subst hf
    exact ⟨Bool.and_eq_true_iff.2 ⟨ho1, ho2⟩, Nat.add_sub_cancel' hge, by rw [Form.fields, hd1, hd2], hw⟩
  obtain hlt | hge := Nat.lt_or_ge c.toNat 0o2000
  · by_cases hpr : bitAt c 11 = true
    · rw [splitWords_jop_rel d1 d2 w1 w2 hge hlt hpr] at hf
      subst hf
      rw [bitAt_opcode_last, decide_eq_true_eq] at hpr
      have hw1 : (encodeOD (decodeOD d1 w1)).2.toList <+: [w1, w2] := by
        rw [encodeOD_decodeOD]
        cases bitAt d1 0 <;> simp
      refine ⟨?_, by simp only [Form.opcode]; omega, by rw [Form.fields, encodeOD_decodeOD], hw1⟩
      exact Bool.and_eq_true_iff.2 ⟨decodeOD_wellFormed d1 w1, rfl⟩
    · rw [splitWords_jop_gen d1 d2 w1 w2 hge hlt hpr] at hf
      subst hf
      rw [bitAt_opcode_last, decide_eq_true_eq] at hpr
      exact ⟨Bool.and_eq_true_iff.2 ⟨ho1, ho2⟩, by simp only [Form.opcode]; omega, by rw [Form.fields, hd1, hd2], hw⟩
  obtain hlt | hge := Nat.lt_or_ge c.toNat 0o4000
  · rw [splitWords_sop d1 d2 w1 w2 hge hlt] at hf
    subst hf
    have hskp : (field c 8 4).toNat = c.toNat % 16 := by simp [toNat_field]
    exact ⟨Bool.and_eq_true_iff.2 ⟨ho1, ho2⟩, by simp only [Form.opcode]; omega, by rw [Form.fields, hd1, hd2], hw⟩
  · rw [splitWords_top d1 d2 w1 w2 hge] at hf
    subst hf
    have ht : (field c 10 2).toNat = c.toNat % 4 := by simp [toNat_field]
    exact ⟨Bool.and_eq_true_iff.2 ⟨ho1, ho2⟩, by simp only [Form.opcode, encodeT_decodeT]; omega,
      by rw [Form.fields, hd1, hd2], hw⟩

/-- Which opcodes have a number of their class (R268). -/
theorem splitWords_number_lt_iff : (c ≠ 0 ∧
    (splitWords (c ++ (d1 ++ d2)) w1 w2).number < classCount (splitWords (c ++ (d1 ++ d2)) w1 w2)) ↔
      c.toNat = 1 ∨ (0o100 ≤ c.toNat ∧ c.toNat ≤ 0o1170) ∨ (0o1400 ≤ c.toNat ∧ c.toNat ≤ 0o1615) ∨
        (0o2000 ≤ c.toNat ∧ c.toNat ≤ 0o3477) ∨ (0o4000 ≤ c.toNat ∧ c.toNat ≤ 0o6437) := by
  have h0 : c ≠ 0 ↔ c.toNat ≠ 0 := not_congr BitVec.toNat_inj.symm
  rw [h0]
  obtain hlt | hge := Nat.lt_or_ge c.toNat 0o100
  · simp only [splitWords_hop w1 w2 _ hlt, Form.number, classCount]
    omega
  obtain hlt | hge := Nat.lt_or_ge c.toNat 0o1400
  · simp only [splitWords_xop d1 d2 w1 w2 hge hlt, Form.number, classCount]
    omega
  obtain hlt | hge := Nat.lt_or_ge c.toNat 0o2000
  · by_cases hpr : bitAt c 11 = true
    · simp only [splitWords_jop_rel d1 d2 w1 w2 hge hlt hpr, Form.number, classCount]
      omega
    · simp only [splitWords_jop_gen d1 d2 w1 w2 hge hlt hpr, Form.number, classCount]
      omega
  obtain hlt | hge := Nat.lt_or_ge c.toNat 0o4000
  · simp only [splitWords_sop d1 d2 w1 w2 hge hlt, Form.number, classCount]
    omega
  · simp only [splitWords_top d1 d2 w1 w2 hge, Form.number, classCount]
    omega

end

/-! ### The opcode map (R264, R268) -/

/-- The numbers below `n` in blocks of 40, as the opcode map is cut. -/
def numberTable (n : Nat) : List (List Nat) :=
  (List.range ((n + 39) / 40)).map fun b => (List.range (min 40 (n - 40 * b))).map (40 * b + ·)

theorem tableGet_numberTable {n k : Nat} : tableGet (numberTable n) k = if k < n then some k else none := by
  by_cases hk : k < n
  · have hblock : k / 40 < (n + 39) / 40 := by omega
    have hentry : k % 40 < min 40 (n - 40 * (k / 40)) := by omega
    simp [tableGet, numberTable, hblock, hentry, hk, Nat.div_add_mod]
  · by_cases hblock : k / 40 < (n + 39) / 40
    · have hentry : min 40 (n - 40 * (k / 40)) ≤ k % 40 := by omega
      simp [tableGet, numberTable, hblock, hk]
      omega
    · simp [tableGet, numberTable, hblock, hk]

theorem tableGet_map {α β : Type} (g : α → β) (t : List (List α)) (k : Nat) :
    tableGet (t.map (List.map g)) k = (tableGet t k).map g := by
  cases h : t[k / 40]? <;> simp [tableGet, h]

/-- A table whose entries have the numbers below `n` in order. -/
theorem tableGet_of_numbered {α β : Type} {t : List (List α)} {g : α → β} {mk : Nat → β} {n : Nat}
    (h : t.map (List.map g) = (numberTable n).map (List.map mk)) (k : Nat) :
    (tableGet t k).map g = if k < n then some (mk k) else none := by
  rw [← tableGet_map, h, tableGet_map, tableGet_numberTable]
  split <;> rfl

/-! Entry `k` of the table of a class is the instruction whose number is `k`. -/

section
variable (o1 o2 : OD)

theorem xopTables_form :
    xopTables.map (List.map fun f => (f o1 o2).form) = (numberTable 569).map (List.map (.xop · o1 o2)) := rfl

theorem jopTables_form (j : JDest) :
    jopTables.map (List.map fun f => (f o1 j).form) = (numberTable 71).map (List.map (.jop · o1 j)) := rfl

theorem sopTables_form (skp : BitVec 4) :
    sopTables.map (List.map fun f => (f skp o1 o2).form) = (numberTable 52).map (List.map (.sop · skp o1 o2)) := rfl

theorem topTables_form (t : TMode) :
    topTables.map (List.map fun f => (f t o1 o2).form) = (numberTable 328).map (List.map (.top · t o1 o2)) := rfl

end

/-- Every instruction is the one that the opcode map has for its form: a row of the map for each constructor. -/
theorem Instr.instr_form (i : Instr) : i.form.instr = some i := by
  cases i <;> rfl

/-- The one hop has the number zero. -/
theorem Instr.hop_number {i : Instr} {k : Nat} {disp : BitVec 24} (h : i.form = .hop k disp) : k = 0 := by
  have hi := i.instr_form
  rw [h] at hi
  obtain rfl : .jpatch disp = i := Option.some.inj hi
  exact (Form.hop.inj h).1.symm

/-- The opcode map has an instruction for the numbers of a class, and it is of the form it was asked for. -/
theorem Form.map_form_instr {f : Form} (hop : ∀ k disp, f = .hop k disp → k = 0) :
    f.instr.map Instr.form = if f.number < classCount f then some f else none := by
  cases f with
  | hop k disp =>
    obtain rfl := hop k disp rfl
    rfl
  | xop k o1 o2 => exact (Option.map_map _ _ _).trans (tableGet_of_numbered (xopTables_form o1 o2) k)
  | jop k o1 j => exact (Option.map_map _ _ _).trans (tableGet_of_numbered (jopTables_form o1 j) k)
  | sop k skp o1 o2 => exact (Option.map_map _ _ _).trans (tableGet_of_numbered (sopTables_form o1 o2 skp) k)
  | top k t o1 o2 => exact (Option.map_map _ _ _).trans (tableGet_of_numbered (topTables_form o1 o2 t) k)

theorem Form.exists_instr {f : Form} (h : f.number < classCount f) : ∃ i, f.instr = some i ∧ i.form = f := by
  have hop : ∀ k disp, f = .hop k disp → k = 0 := by
    rintro k disp rfl
    exact Nat.lt_one_iff.1 h
  have hmap := Form.map_form_instr hop
  rwa [if_pos h, Option.map_eq_some_iff] at hmap

theorem Instr.number_lt (i : Instr) : i.form.number < classCount i.form := by
  have hmap := Form.map_form_instr fun _ _ => i.hop_number
  rw [i.instr_form] at hmap
  by_contra h
  rw [if_neg h] at hmap
  contradiction

/-! ### The words of an instruction -/

section
variable {c d1 d2 : BitVec 12} {w0 w1 w2 : SW}

theorem decodeForm_ok_iff {f : Form} : decodeForm w0 w1 w2 = .ok f ↔
    splitWords w0 w1 w2 = f ∧ field w0 0 12 ≠ 0 ∧ f.number < classCount f := by
  simp only [decodeForm]
  split
  next h =>
    constructor
    · intro hf
      contradiction
    · rintro ⟨rfl, hc, hn⟩
      exact absurd h (not_or.2 ⟨hc, Nat.not_le.2 hn⟩)
  next h =>
    obtain ⟨hc, hn⟩ := not_or.1 h
    constructor
    · intro hf
      cases hf
      exact ⟨rfl, hc, Nat.not_le.1 hn⟩
    · rintro ⟨rfl, -⟩
      rfl

/-- Three words decode to the instruction of the form that they hold. -/
theorem decodeWords_ok_iff {i : Instr} : decodeWords w0 w1 w2 = .ok i ↔ decodeForm w0 w1 w2 = .ok i.form := by
  constructor
  · intro h
    cases hf : decodeForm w0 w1 w2 with
    | error e =>
      simp only [decodeWords, hf] at h
      contradiction
    | ok f =>
      obtain ⟨-, -, hn⟩ := decodeForm_ok_iff.1 hf
      obtain ⟨i', hi', rfl⟩ := Form.exists_instr hn
      simp only [decodeWords, hf, hi'] at h
      cases h
      rfl
  · intro h
    simp only [decodeWords, h, i.instr_form]

/-- The opcodes that hold an instruction (R268). -/
theorem exists_decodeWords_iff : (∃ i, decodeWords w0 w1 w2 = .ok i) ↔
    field w0 0 12 ≠ 0 ∧ (splitWords w0 w1 w2).number < classCount (splitWords w0 w1 w2) := by
  simp only [decodeWords_ok_iff, decodeForm_ok_iff]
  constructor
  · rintro ⟨i, hs, hc, hn⟩
    exact ⟨hc, hs ▸ hn⟩
  · rintro ⟨hc, hn⟩
    obtain ⟨i, -, hi⟩ := Form.exists_instr hn
    exact ⟨i, hi.symm, hc, hi ▸ hn⟩

end

theorem encode_length (i : Instr) : (encode i).length = i.length := Laws.Mapped.form_length i.form

/-- Words that begin with those of a well-formed instruction decode to it. -/
theorem decodeWords_of_encode_prefix {i : Instr} {w0 w1 w2 : SW} (hwf : i.wellFormed = true)
    (hw : encode i <+: [w0, w1, w2]) : decodeWords w0 w1 w2 = .ok i := by
  have hn := i.number_lt
  obtain ⟨hpos, hlt⟩ := Form.opcode_lt hn
  have hc : (BitVec.ofNat 12 i.form.opcode).toNat = i.form.opcode := by rw [BitVec.toNat_ofNat, Nat.mod_eq_of_lt hlt]
  obtain ⟨rfl, hext⟩ := List.cons_prefix_cons.1 hw
  refine decodeWords_ok_iff.2 (decodeForm_ok_iff.2 ⟨splitWords_of_opcode hwf hn hc hext, ?_, hn⟩)
  rw [Instr.firstWord, field_opcode]
  intro h0
  rw [h0] at hc
  exact absurd hc.symm hpos.ne'

/-- The words that an instruction is decoded from begin with those of the instruction, and it is well-formed. -/
theorem encode_prefix_of_decodeWords {i : Instr} {w0 w1 w2 : SW} (h : decodeWords w0 w1 w2 = .ok i) :
    i.wellFormed = true ∧ encode i <+: [w0, w1, w2] := by
  obtain ⟨hs, hc, hn⟩ := decodeForm_ok_iff.1 (decodeWords_ok_iff.1 h)
  obtain ⟨c, d1, d2, rfl⟩ := exists_opcode_descriptors w0
  rw [field_opcode] at hc
  obtain ⟨hwf, hop, hfields, hext⟩ := splitWords_eq hs hc hn
  refine ⟨hwf, List.cons_prefix_cons.2 ⟨?_, hext⟩⟩
  rw [Instr.firstWord, hop, hfields, BitVec.ofNat_toNat, BitVec.setWidth_eq]

/-! ### Quarter-words (R125) -/

theorem wordBytes_append (a b c d : QW) : wordBytes (a ++ b ++ c ++ d) = [a, b, c, d] := by
  have ha : field (a ++ b ++ c ++ d) 0 9 = a := by
    rw [field_append_high _ _ (by decide), field_append_high _ _ (by decide), field_append_high _ _ (by decide), field_full]
  have hb : field (a ++ b ++ c ++ d) 9 9 = b := by
    rw [field_append_high _ _ (by decide), field_append_high _ _ (by decide)]
    exact (field_append_low a b (i := 0) (by decide)).trans (field_full b)
  have hc : field (a ++ b ++ c ++ d) 18 9 = c := by
    rw [field_append_high _ _ (by decide)]
    exact (field_append_low (a ++ b) c (i := 0) (by decide)).trans (field_full c)
  have hd : field (a ++ b ++ c ++ d) 27 9 = d :=
    (field_append_low (a ++ b ++ c) d (i := 0) (by decide)).trans (field_full d)
  simp only [wordBytes]
  rw [ha, hb, hc, hd]

theorem takeWord_wordBytes (w : SW) (rest : List QW) : takeWord (wordBytes w ++ rest) = some (w, rest) := by
  have h18 := field_append_field w (i := 0) (l := 9) (k := 9) (by decide)
  have h27 := field_append_field w (i := 0) (l := 18) (k := 9) (by decide)
  have h36 := field_append_field w (i := 0) (l := 27) (k := 9) (by decide)
  simp only [wordBytes, List.cons_append, List.nil_append, takeWord]
  rw [h18, h27, h36, field_full]

/-- A list of quarter-words that is long enough begins with words. -/
theorem exists_words {n : Nat} {bytes : List QW} (h : 4 * n ≤ bytes.length) :
    ∃ (ws : List SW) (rest : List QW), ws.length = n ∧ bytes = ws.flatMap wordBytes ++ rest := by
  induction n generalizing bytes with
  | zero => exact ⟨[], bytes, rfl, rfl⟩
  | succ n ih =>
    match bytes with
    | a :: b :: c :: d :: t =>
      obtain ⟨ws, rest, rfl, rfl⟩ := ih (bytes := t) (by simp only [List.length_cons] at h; omega)
      exact ⟨(a ++ b ++ c ++ d) :: ws, rest, rfl, by rw [List.flatMap_cons, wordBytes_append]; rfl⟩
    | [] | [_] | [_, _] | [_, _, _] => simp only [List.length_cons, List.length_nil] at h; omega

theorem flatMap_wordBytes_length (ws : List SW) : (ws.flatMap wordBytes).length = 4 * ws.length := by
  induction ws with
  | nil => rfl
  | cons w ws ih => rw [List.flatMap_cons, List.length_append, ih, List.length_cons, wordBytes]; simp; omega

/-- Three words of quarter-words decode as the words do. -/
theorem decode_of_decodeWords {w0 w1 w2 : SW} {i : Instr} (h : decodeWords w0 w1 w2 = .ok i) (rest : List QW) :
    decode ([w0, w1, w2].flatMap wordBytes ++ rest) =
      .ok (i, ([w0, w1, w2].flatMap wordBytes ++ rest).drop (4 * i.length)) := by
  have hbytes : [w0, w1, w2].flatMap wordBytes ++ rest = wordBytes w0 ++ (wordBytes w1 ++ (wordBytes w2 ++ rest)) := by
    simp
  rw [hbytes, decode]
  simp only [takeWord_wordBytes, h]

/-! ### Opcodes that hold no instruction (R272) -/

theorem runAtPc_of_decode_error {s : State} {w0 w1 w2 : SW} (h : s.fetch3 = .ok (w0, w1, w2))
    (hd : ∀ i, decodeWords w0 w1 w2 ≠ .ok i) : runAtPc s = s.stage4.enterFatal .illegalInstruction := by
  cases hw : decodeWords w0 w1 w2 with
  | error e => simp only [runAtPc, h, hw]
  | ok i => exact absurd hw (hd i)

/-! ### The statements about the encoding -/

/-- Settles O2: the quarter-words after the instruction complete its words to the three of the look-ahead, and these decode
to it. -/
theorem decodeOfEncode : Obligations.DecodeOfEncode := by
  intro i rest hwf hlen
  have hbytes := flatMap_wordBytes_length (encode i)
  rw [encode_length] at hbytes
  obtain ⟨ws, rest', hws, hrest⟩ := exists_words (n := 3 - i.length) (bytes := rest) (by omega)
  have hthree : (encode i ++ ws).length = 3 := by
    have hle : i.length ≤ 3 := Laws.Mapped.form_length_le i.form
    rw [List.length_append, encode_length]
    omega
  obtain ⟨w0, w1, w2, hw⟩ := List.length_eq_three.1 hthree
  have hdecode := decode_of_decodeWords (decodeWords_of_encode_prefix hwf ⟨ws, hw⟩) rest'
  have hall : (encode i).flatMap wordBytes ++ rest = [w0, w1, w2].flatMap wordBytes ++ rest' := by
    rw [← hw, List.flatMap_append, List.append_assoc, ← hrest]
  rw [← hall] at hdecode
  rw [hdecode, ← hbytes, List.drop_left']
  rfl

/-- Settles O3: the words decoded begin with the encoding, whose length is that of the instruction. -/
theorem encodeOfDecode : Obligations.EncodeOfDecode := by
  intro w0 w1 w2 i h
  obtain ⟨hwf, hprefix⟩ := encode_prefix_of_decodeWords h
  rw [← encode_length]
  exact ⟨hwf, Nat.succ_pos _, hprefix.length_le, List.prefix_iff_eq_take.1 hprefix⟩

/-- Settles O4: the opcode field tells the class and the number within it, and a step that decodes to nothing takes the trap. -/
theorem reservedOpcodesTrap : Obligations.ReservedOpcodesTrap := by
  intro w0 w1 w2 c
  constructor
  · obtain ⟨c', d1, d2, rfl⟩ := exists_opcode_descriptors w0
    have hc : c = c'.toNat := congrArg BitVec.toNat (field_opcode c' (d1 ++ d2))
    rw [exists_decodeWords_iff, hc, field_opcode]
    exact splitWords_number_lt_iff
  · intro hd s hrun hdom hint htrace hfetch
    exact (step_runAtPc hrun hdom hint htrace).trans (runAtPc_of_decode_error hfetch hd)

/-- Settles O1, word by word. -/
theorem writtenWordsDecode : Obligations.WrittenWordsDecode := by
  refine ⟨?_, ?_, ?_, ?_, ?_, ?_, ?_, ?_, ?_, ?_, ?_, ?_, ?_, ?_⟩ <;> rfl

end Sys2Proof

namespace Sys2Proof.Machine

/-! Operands. Every address of an operand is a sum modulo 2^30: the operations of the model on addresses are brought to
`BitVec.ofInt` of the exact sum, which is how the statements give them. -/

/-! ### Addresses as integers modulo 2^30 (R156) -/

theorem shiftLeft_ofInt {n : Nat} (a : Int) (k : Nat) : BitVec.ofInt n a <<< k = BitVec.ofInt n (a * 2 ^ k) := by
  have htwo : BitVec.ofInt n (2 ^ k) = BitVec.twoPow n k := by
    apply BitVec.eq_of_toNat_eq
    rw [← Nat.cast_ofNat, ← Nat.cast_pow, BitVec.ofInt_natCast, BitVec.toNat_ofNat, BitVec.toNat_twoPow]
  rw [BitVec.ofInt_mul, BitVec.shiftLeft_eq_mul_twoPow, htwo]

theorem ofInt_toNat {n : Nat} (a : BitVec n) : BitVec.ofInt n a.toNat = a := by
  rw [BitVec.ofInt_natCast, BitVec.ofNat_toNat, BitVec.setWidth_eq]

theorem addrOfWord_eq (w : SW) : addrOfWord w = BitVec.ofInt 30 w.toNat := by
  rw [BitVec.ofInt_natCast, BitVec.ofNat_toNat, addrOfWord]

theorem toNat_pcWord (a : VAddr) : (pcWord a).toNat = a.toNat := by
  rw [pcWord, BitVec.toNat_setWidth, Nat.mod_eq_of_lt (by omega)]

/-- A displacement of `j` single-words from an address (R209 to R211, R221). -/
theorem ofInt_add_words {n : Nat} (a : Int) (j : BitVec n) :
    BitVec.ofInt 30 a + (j.signExtend 30 <<< 2) = BitVec.ofInt 30 (a + 4 * j.toInt) := by
  rw [BitVec.signExtend, shiftLeft_ofInt, ← BitVec.ofInt_add, Int.mul_comm]
  rfl

/-! ### Short operands (R221, R231) -/

/-- The address of register `n` as a location. -/
theorem regLoc_eq (n : RegNum) : regLoc n = ⟨.cur, BitVec.ofNat 30 (4 * n.toNat), true⟩ := by
  rw [regLoc, Nat.mul_comm, ← BitVec.ofInt_natCast, Nat.cast_mul, ← ofInt_toNat (n.setWidth 30), shiftLeft_ofInt,
    BitVec.toNat_setWidth, Nat.mod_eq_of_lt (by omega)]
  rfl

theorem State.indexReg_pc (s : State) : s.indexReg 3 = pcWord s.pc := if_pos rfl

theorem State.indexReg_ne {s : State} {n : RegNum} (h : n ≠ 3) : s.indexReg n = s.getReg s.file n := if_neg h

theorem State.shortOperand_indexed (s : State) (b : RegNum) (f : BitVec 6) : s.shortOperand (.indexed b f) =
    .ok (.loc ⟨.cur, BitVec.ofInt 30 ((s.indexReg b).toNat + 4 * f.toInt), false⟩) := by
  rw [State.shortOperand, addrOfWord_eq, ofInt_add_words]

/-- Settles O24, form by form. -/
theorem shortOperands : Obligations.ShortOperands := by
  intro s
  refine ⟨fun r => ?reg, fun _ => rfl, fun _ => rfl, fun _ => rfl, fun f => ?pc, fun b f hb => ?indexed⟩
  case reg => rw [← regLoc_eq]; rfl
  case pc =>
    refine (s.shortOperand_indexed 3 f).trans ?_
    rw [State.indexReg_pc, toNat_pcWord]
    rfl
  case indexed =>
    refine (s.shortOperand_indexed b f).trans ?_
    rw [State.indexReg_ne hb]

/-! ### Access to operands (R241 to R245, R253) -/

/-- A word with zeros after it. -/
theorem append_zero_eq {m : Nat} (v : BitVec m) (n : Nat) : v ++ 0#n = BitVec.ofNat (m + n) (v.toNat * 2 ^ n) := by
  apply BitVec.eq_of_toNat_eq
  rw [toNat_append_eq, BitVec.toNat_ofNat, BitVec.toNat_ofNat, Nat.zero_mod, Nat.add_zero, Nat.mod_eq_of_lt]
  rw [Nat.pow_add]
  exact Nat.mul_lt_mul_of_pos_right v.isLt (Nat.two_pow_pos n)

/-- The value of an immediate at each precision (R228). -/
theorem immValue_eq (k : ConstKind) (w : SW) (p : Prec) : immValue k w p = Rule.imm k w p.bits := by
  have hzero (n : Nat) : w.setWidth n = BitVec.ofNat n w.toNat := (BitVec.ofNat_toNat n w).symm
  have hsign (n : Nat) (hn : n ≤ 36) : w.setWidth n = BitVec.ofInt n w.toInt :=
    (BitVec.signExtend_eq_setWidth_of_le w hn).symm
  have hself : w = w.setWidth 36 := w.setWidth_eq.symm
  cases p with
  | q =>
    cases k with
    | sx => exact hsign 9 (by decide)
    | _ => exact hzero 9
  | h =>
    cases k with
    | sx => exact hsign 18 (by decide)
    | _ => exact hzero 18
  | s =>
    cases k with
    | sx => exact hself.trans (hsign 36 (by decide))
    | _ => exact hself.trans (hzero 36)
  | d =>
    cases k with
    | sx => rfl
    | zx => exact hzero 72
    | lj => exact append_zero_eq w 36

theorem boundaryCheck_past {va : VAddr} {n : Nat} (h : 128 < va.toNat + n) :
    boundaryCheck va n true = .error (.fatal .registerBoundary) := by
  simp [boundaryCheck, fatalIf, h]

section
variable {s : State} {l : Loc} {p : Prec}

theorem State.readOp_past (hrd : l.rd = true) (h : 128 < l.va.toNat + p.qws) :
    s.readOp (.loc l) p = .error (.fatal .registerBoundary) := by
  rw [State.readOp, State.readLoc, hrd, boundaryCheck_past h, M.error_bind]

theorem State.checkWrite_past (hrd : l.rd = true) (h : 128 < l.va.toNat + p.qws) :
    s.checkWrite (.loc l) p = .error (.fatal .registerBoundary) := by
  rw [State.checkWrite, Operand.asLoc, M.ok_bind, State.checkWriteLoc, hrd, boundaryCheck_past h, M.error_bind]

theorem State.readOp_within (h : l.within p.qws) : s.readOp (.loc l) p = s.memRead l.ctx l.va p := by
  rw [State.readOp, State.readLoc, regLoc_within h, M.ok_bind]

theorem State.checkWrite_within (h : l.within p.qws) :
    s.checkWrite (.loc l) p = s.locate .write l.ctx l.va p := by
  rw [State.checkWrite, Operand.asLoc, M.ok_bind, State.checkWriteLoc, regLoc_within h, M.ok_bind]

end

/-- Settles O27: what an operand may be used for, and which operands a three-address instruction has. -/
theorem operandAccess : Obligations.OperandAccess := by
  refine ⟨fun s p k w l => ⟨?imm, rfl, fun hrd h => ⟨State.readOp_past hrd h, State.checkWrite_past hrd h⟩,
    fun h => ?within, ?next⟩, fun s t o1 o2 => ?args⟩
  case imm => rw [← immValue_eq]; rfl
  case within =>
    have hw : l.within p.qws := fun hrd => h.resolve_left (by simp [hrd])
    exact ⟨State.readOp_within hw, State.checkWrite_within hw⟩
  case next => rw [Loc.next, vaAdd_eq_ofNat]
  case args =>
    rw [State.evalTop]
    cases s.evalOD o1 with
    | error e => rfl
    | ok x1 =>
      cases s.evalOD o2 with
      | error e => rfl
      | ok x2 => cases t <;> rfl

/-! ### Jump destinations (R562, R566) -/

theorem fatalIf_bind {α : Type} (c : Bool) (n : Fatal) (x : M α) :
    (fatalIf c n >>= fun _ => x) = if c = true then .error (.fatal n) else x := by
  cases c <;> rfl

theorem checkPC_bind {α : Type} (a : VAddr) (x : M α) : (checkPC a >>= fun _ => x) =
    if a.toNat % 4 ≠ 0 then .error (.fatal .notAligned)
    else if a.toNat < 128 then .error (.fatal .jumpToRegisters) else x := by
  rw [checkPC, bind_assoc, fatalIf_bind, fatalIf_bind]
  simp only [Bool.not_eq_true', ← Bool.not_eq_true, aligned_s_iff_mod, decide_eq_true_eq]

/-- Settles O28: the checks in their order. -/
theorem jumpDestinations : Obligations.JumpDestinations := by
  intro s j od x
  refine ⟨?rel, fun hx => ?gen⟩
  case rel =>
    rw [State.jumpDest, target_rule, fatalIf_bind]
    simp
  case gen =>
    rw [State.jumpDest, hx, M.ok_bind]
    cases x with
    | imm k w => rfl
    | loc l =>
      rw [Operand.asLoc, M.ok_bind, fatalIf_bind, checkPC_bind]
      simp only [beq_iff_eq]

end Sys2Proof.Machine

namespace Sys2Proof.Machine

/-! Based and indirect operands. The address of an extended word is one exact sum modulo 2^30, whichever its form and index; a
based operand is that address in the context of the P-bit, or what the pointer there names. -/

section
variable {s : State}

/-! ### The address of an extended word (R230, R232) -/

/-- The base of an extended word before it is reduced modulo 2^30. -/
def State.baseSum (s : State) : ExtWord → Int
  | .fixedBased _ _ _ _ addr => addr.toNat
  | .variableBased _ _ _ _ reg disp => (s.indexReg reg).toNat + disp.toInt

theorem State.ewBase_eq (s : State) (ew : ExtWord) : s.ewBase ew = BitVec.ofInt 30 (s.baseSum ew) := by
  cases ew with
  | fixedBased p i sc sp addr => exact (ofInt_toNat addr).symm
  | variableBased p i sc sp reg disp =>
    rw [State.ewBase, State.baseSum, addrOfWord_eq, BitVec.ofInt_add]
    rfl

theorem State.basedAddr_eq (s : State) (ix : SW) (ew : ExtWord) :
    s.ewBase ew + (addrOfWord ix <<< (ewS ew).toNat) =
      BitVec.ofInt 30 (s.baseSum ew + ix.toNat * 2 ^ (ewS ew).toNat) := by
  rw [State.ewBase_eq, addrOfWord_eq, shiftLeft_ofInt, ← BitVec.ofInt_add]

/-- The operand of an extended word at its address: the executive-only P-bit, then the location or what the pointer there
names (R235, R238). -/
def State.operandAt (s : State) (ew : ExtWord) (addr : VAddr) : M Operand :=
  if ewP ew = true ∧ Ps.crntMode s.ps = false then .error (.hard .userP (pcWord addr))
  else if ewI ew then s.indirect (if ewP ew then .prev else .cur) addr
  else .ok (.loc ⟨if ewP ew then .prev else .cur, addr, false⟩)

theorem State.basedOperand_eq (s : State) (ix : SW) (ew : ExtWord) :
    s.basedOperand ix ew = s.operandAt ew (BitVec.ofInt 30 (s.baseSum ew + ix.toNat * 2 ^ (ewS ew).toNat)) := by
  rw [State.basedOperand, State.basedAddr_eq, State.usePrev, State.operandAt]
  cases ewP ew with
  | false => rfl
  | true => cases Ps.crntMode s.ps <;> rfl

/-- Without an index the address is the base. -/
theorem State.evalOD_based0 (s : State) (ew : ExtWord) :
    s.evalOD (.based0 ew) = s.operandAt ew (BitVec.ofInt 30 (s.baseSum ew)) := by
  rw [State.evalOD, State.basedOperand_eq, show (0 : SW).toNat = 0 from rfl, Nat.cast_zero, Int.zero_mul, Int.add_zero]

/-! ### The index (R230, R231) -/

theorem State.evalOD_reg (s : State) (n : RegNum) (ew : ExtWord) :
    s.evalOD (.based (.reg n) ew) = s.basedOperand (s.indexReg n) ew := rfl

/-- A short operand that is a location outside the registers is an indexed one, in the current context. -/
theorem State.shortOperand_loc {so : Short} {l : Loc} (h : s.shortOperand so = .ok (.loc l)) (hrd : l.rd = false) :
    l.ctx = .cur ∧ ∀ n, so ≠ .reg n := by
  cases so with
  | reg n =>
    cases h
    contradiction
  | indexed b f =>
    cases h
    exact ⟨rfl, fun n => by simp⟩
  | regOut f | const f | mode2 f => cases h

/-- An index in memory is read as a single-word of the current context. -/
theorem State.evalOD_memory {so : Short} {l : Loc} {ix : SW} (h : s.evalOD (.short so) = .ok (.loc l)) (hrd : l.rd = false)
    (hread : s.memRead .cur l.va .s = .ok ix) (ew : ExtWord) : s.evalOD (.based so ew) = s.basedOperand ix ew := by
  obtain ⟨hctx, hreg⟩ := State.shortOperand_loc h hrd
  have hindex : s.indexValue so = .ok ix := by
    rw [State.evalOD] at h
    rw [State.indexValue, h, M.ok_bind]
    · rw [← hread, ← hctx]
    · exact hreg
  rw [State.evalOD, hindex, M.ok_bind]

/-- Settles O25: every form is `State.operandAt` the one sum. -/
theorem basedOperands : Obligations.BasedOperands := by
  intro s w p sp sc a r d so ix
  refine ⟨fun _ => rfl, fun _ => rfl, rfl, ?fixedBase, ?variableBase, ?register, ?memory⟩
  case fixedBase => exact s.evalOD_based0 (.fixedBased p false sc sp a)
  case variableBase => exact s.evalOD_based0 (.variableBased p false sc sp r d)
  case register =>
    rintro n rfl rfl
    exact ⟨s.basedOperand_eq _ (.fixedBased p false sc sp a), s.basedOperand_eq _ (.variableBased p false sc sp r d)⟩
  case memory =>
    intro l hl hrd hread
    rw [State.evalOD_memory hl hrd hread, State.evalOD_memory hl hrd hread]
    exact ⟨s.basedOperand_eq ix (.fixedBased p false sc sp a), s.basedOperand_eq ix (.variableBased p false sc sp r d)⟩

/-! ### Pointers (R235, R236, R239) -/

/-- The index of a pointer. -/
theorem State.iapIndex_eq {ctx : Ctx} {n : RegNum} {ix : SW}
    (h : if n = 0 then ix = 0 else if n = 3 then ix = pcWord s.pc
      else s.memRead ctx (BitVec.ofNat 30 (4 * n.toNat)) .s = .ok ix) :
    s.iapIndex ctx n = .ok (addrOfWord ix) := by
  have haddr : n.setWidth 30 <<< 2 = BitVec.ofNat 30 (4 * n.toNat) := congrArg Loc.va (regLoc_eq n)
  rw [State.iapIndex]
  split_ifs at h ⊢
  · rw [h]; rfl
  · rw [h, addrOfWord, pcWord]
    simp
  · rw [haddr, h, M.ok_bind]

/-- The address in a pointer, added to its index. -/
theorem iapAddr_eq (ix iap : SW) : addrOfWord ix + field iap 6 30 = BitVec.ofNat 30 (ix.toNat + iap.toNat) := by
  have haddr : field iap 6 30 = BitVec.ofNat 30 iap.toNat := by
    apply BitVec.eq_of_toNat_eq
    rw [toNat_field, BitVec.toNat_ofNat, Nat.pow_zero, Nat.div_one]
  rw [haddr, addrOfWord, ← BitVec.ofNat_toNat, ← BitVec.ofNat_add]

/-- The operand that a pointer names: the P-bit changes the context once. -/
theorem State.indirect_eq {ctx : Ctx} {addr : VAddr} {iap ix : SW} (hiap : s.memRead ctx addr .s = .ok iap)
    (hix : s.iapIndex ctx (field iap 1 5) = .ok (addrOfWord ix)) :
    s.indirect ctx addr =
      if bitAt iap 0 = false then .ok (.loc ⟨ctx, BitVec.ofNat 30 (ix.toNat + iap.toNat), false⟩)
      else if ctx = .prev then .error (.fatal .pBit)
      else if Ps.crntMode s.ps = false then .error (.hard .userP (pcWord (BitVec.ofNat 30 (ix.toNat + iap.toNat))))
      else .ok (.loc ⟨.prev, BitVec.ofNat 30 (ix.toNat + iap.toNat), false⟩) := by
  simp only [State.indirect, hiap, State.iapLoc, hix, M.ok_bind, iapAddr_eq, State.usePrev]
  cases bitAt iap 0 with
  | false => rfl
  | true =>
    cases ctx with
    | prev => rfl
    | cur => cases Ps.crntMode s.ps <;> rfl

/-- Settles O26: the address of the word by its form, then the pointer there. -/
theorem indirectOperands : Obligations.IndirectOperands := by
  intro s p sp sc a addr r d so so' od reg fw vw h
  have heval : ∃ ew, (ew = fw ∨ ew = vw) ∧ s.evalOD od = s.operandAt ew addr := by
    obtain ⟨rfl, rfl⟩ | ⟨rfl, rfl⟩ | ⟨hix, hod⟩ := h
    · refine ⟨fw, .inl rfl, (s.evalOD_based0 fw).trans ?_⟩
      exact congrArg (s.operandAt fw) (ofInt_toNat addr)
    · exact ⟨vw, .inr rfl, s.evalOD_based0 vw⟩
    have hbased (ew : ExtWord) : s.evalOD (.based so ew) = s.basedOperand so' ew := by
      obtain ⟨n, rfl, rfl⟩ | ⟨l, hl, hrd, hread⟩ := hix
      · exact s.evalOD_reg n ew
      · exact State.evalOD_memory hl hrd hread ew
    obtain ⟨rfl, rfl⟩ | ⟨rfl, rfl⟩ := hod
    · exact ⟨fw, .inl rfl, (hbased fw).trans (s.basedOperand_eq so' fw)⟩
    · exact ⟨vw, .inr rfl, (hbased vw).trans (s.basedOperand_eq so' vw)⟩
  obtain ⟨ew, hew, heval⟩ := heval
  have hP : ewP ew = p := by obtain rfl | rfl := hew <;> rfl
  have hI : ewI ew = true := by obtain rfl | rfl := hew <;> rfl
  rw [heval, State.operandAt, hP, hI, if_pos (rfl : true = true)]
  split
  next => rfl
  next =>
    intro ctx iap ix hctx hiap hix
    rw [← hctx, State.indirect_eq hiap (State.iapIndex_eq hix)]
    subst hctx
    cases p <;> rfl

end

end Sys2Proof.Machine

namespace Sys2Proof.Machine

/-! Unused operand descriptors (R218): an instruction that has one checks it before anything but its privilege. -/

section
variable {s : State}

theorem checkUnused_of_ne {od : OD} (h : od ≠ noOD) : checkUnused od = .error (.fatal .unusedOd) := by
  rw [checkUnused, fatalIf, if_pos (bne_iff_ne.2 h)]

/-- An instruction whose body begins with the check of an unused descriptor. -/
theorem trapsFatal_of_checkUnused {i : Instr} {b : Body} {od : OD} {k : Unit → M State} (h : od ≠ noOD)
    (he : exec i s = runInstr i.form b s) (hb : b (s.envOf i.form) s.stage4 = (checkUnused od >>= k)) :
    TrapsFatal s i .unusedOd :=
  trapsFatal_of he (by rw [hb, checkUnused_of_ne h, M.error_bind])

/-- In executive mode the privilege check is passed. -/
theorem State.privileged_bind (hm : Ps.crntMode s.ps = true) (env : Env) (k : Unit → M State) :
    (s.stage4.privileged env >>= k) = k () := by
  rw [State.stage4_privileged, State.privileged, if_pos hm, M.ok_bind]

/-- `WAIT` has two unused descriptors, checked in order. -/
theorem wait_trapsFatal_unused {o1 o2 : OD} (hm : Ps.crntMode s.ps = true) (h : o2 ≠ noOD) :
    TrapsFatal s (.wait o1 o2) .unusedOd := by
  by_cases h1 : o1 = noOD
  case neg => exact trapsFatal_of_checkUnused h1 rfl (State.privileged_bind hm _ _)
  subst h1
  exact trapsFatal_of_checkUnused h rfl (State.privileged_bind hm _ _)

/-- Settles O14: the check of the descriptor comes first, or right after that of the privilege. -/
theorem unusedDescriptorsTrap : Obligations.UnusedDescriptorsTrap := by
  intro o1 o2 j s
  refine ⟨fun h => ?user, fun h hm => ?privileged, fun h => ⟨?jmpa, fun hm => ⟨?halt, ?wait⟩⟩⟩
  case user =>
    simp only [List.forall_mem_cons, List.not_mem_nil, false_imp_iff, implies_true, and_true]
    and_intros <;> exact trapsFatal_of_checkUnused h rfl rfl
  case privileged =>
    simp only [List.forall_mem_cons, List.not_mem_nil, false_imp_iff, implies_true, and_true]
    and_intros
    on_goal 17 => exact wait_trapsFatal_unused hm h
    all_goals exact trapsFatal_of_checkUnused h rfl (State.privileged_bind hm _ _)
  case jmpa => exact trapsFatal_of_checkUnused h rfl rfl
  case halt => exact trapsFatal_of_checkUnused h rfl (State.privileged_bind hm _ _)
  case wait => exact trapsFatal_of_checkUnused h rfl (State.privileged_bind hm _ _)

end

end Sys2Proof.Machine

namespace Sys2Proof.Machine

/-! Soft-trap entry: the vector, the save area and the operand words. -/

/-! ### The words of a save area (R28, R906) -/

theorem Rule.filled_length (n : Nat) (l : List (Option SW)) : (Rule.filled n l).1.length = l.length := by
  induction l generalizing n with
  | nil => rfl
  | cons a l ih => cases a <;> exact congrArg (· + 1) (ih _)

theorem State.fillUndefined_filled (s : State) (l : List (Option SW)) :
    s.fillUndefined l = ((Rule.filled s.freeCount l).1, { s with freeCount := (Rule.filled s.freeCount l).2 }) := by
  induction l generalizing s with
  | nil => rfl
  | cons a l ih =>
    cases a with
    | some w => rw [State.fillUndefined, ih s]; rfl
    | none => rw [State.fillUndefined, ih s.drawn]; rfl

/-! ### The vector (R886, R908, R931) -/

section
variable {s : State} {k : SoftVec} {i : SoftInfo} {h us : SW}

/-- The initiation of a soft trap once its vector is read. -/
theorem State.initiateSoft_eq (hh : s.memRead .cur (BitVec.ofNat 30 (0o6000 + 12 * k.index)) .s = .ok h)
    (hus : s.memRead .cur (BitVec.ofNat 30 (0o6004 + 12 * k.index)) .s = .ok us) :
    s.initiateSoft k i =
      if (addrOfWord h).toNat % 4 ≠ 0 then .error (.fatal .notAligned)
      else if (addrOfWord h).toNat < 128 then .error (.fatal .jumpToRegisters)
      else if Us.legal us = false then .error (.fatal .other)
      else ((s.fillUndefined (s.softSaveArea k i)).2.setUs us).pushWords (s.fillUndefined (s.softSaveArea k i)).1 >>=
        fun t => .ok (t.setPc (addrOfWord h)) := by
  have hva : vaAdd (BitVec.ofNat 30 (0o6000 + 12 * k.index)) 4 = BitVec.ofNat 30 (0o6004 + 12 * k.index) := by
    rw [vaAdd, ← BitVec.ofNat_add, Nat.add_right_comm]
  have hsft : sftVecAddr k.index = BitVec.ofNat 30 (0o6000 + 12 * k.index) := rfl
  simp only [State.initiateSoft, hsft, hva, hh, hus, M.ok_bind, checkPC_bind, checkUS, fatalIf_bind, Bool.not_eq_true']

/-- The last two bits of a word are those of the address in it. -/
theorem addrOfWord_aligned {h : SW} : (addrOfWord h).toNat % 4 = 0 ↔ field h 34 2 = 0 := by
  rw [addrOfWord, BitVec.toNat_setWidth, Nat.mod_mod_of_dvd _ (by decide)]
  exact (field_low_two h (by decide)).symm

/-- An initiation that is a fatal trap is the fatal trap 1 (R931). -/
theorem State.enterSoft_of_fatal {n : Fatal} (hi : s.initiateSoft k i = .error (.fatal n)) :
    s.enterSoft k i = s.enterHard 1 1 := by
  rw [State.enterSoft, hi]
  rfl

theorem State.enterSoft_unusable (hh : s.memRead .cur (BitVec.ofNat 30 (0o6000 + 12 * k.index)) .s = .ok h)
    (hus : s.memRead .cur (BitVec.ofNat 30 (0o6004 + 12 * k.index)) .s = .ok us)
    (hbad : field h 34 2 ≠ 0 ∨ (addrOfWord h).toNat < 128 ∨ Us.legal us = false) :
    s.enterSoft k i = s.enterHard 1 1 := by
  have hi := State.initiateSoft_eq (i := i) hh hus
  rw [ne_eq, ← addrOfWord_aligned] at hbad
  split_ifs at hi with h1 h2 h3
  · exact State.enterSoft_of_fatal hi
  · exact State.enterSoft_of_fatal hi
  · exact State.enterSoft_of_fatal hi
  · exact absurd hbad (by simp [h1, h2, h3])

theorem State.enterSoft_usable {v : State} {sps : List Span}
    (hh : s.memRead .cur (BitVec.ofNat 30 (0o6000 + 12 * k.index)) .s = .ok h)
    (hus : s.memRead .cur (BitVec.ofNat 30 (0o6004 + 12 * k.index)) .s = .ok us)
    (hal : field h 34 2 = 0) (hlow : 128 ≤ (addrOfWord h).toNat) (hlegal : Us.legal us = true)
    (hv : v = { s with us := us, freeCount := (Rule.filled s.freeCount (s.softSaveArea k i)).2 })
    (hsl : (v.sp + 48).toInt ≤ v.sl.toInt) (hsps : v.locateRun .write .cur .s 12 (addrOfWord v.sp) = .ok sps) :
    s.enterSoft k i =
      .next { (v.writeRun .s sps (Rule.filled s.freeCount (s.softSaveArea k i)).1).putReg (Us.spId us) (v.sp + 48) with
        pc := addrOfWord h } := by
  have hlen := Rule.filled_length s.freeCount (s.softSaveArea k i)
  have hpush := State.pushWords_of (s := v) (ws := (Rule.filled s.freeCount (s.softSaveArea k i)).1) (sps := sps)
    (new := v.sp + 48) (by rw [hlen]; rfl) (Int.not_lt.2 hsl) (by rw [hlen]; exact hsps)
  have hload : (s.fillUndefined (s.softSaveArea k i)).2.setUs us = v := by
    rw [State.fillUndefined_filled, hv]
    rfl
  have hi := State.initiateSoft_eq (i := i) hh hus
  rw [addrOfWord_aligned.2 hal, if_neg (by decide), if_neg (Nat.not_lt.2 hlow), hlegal, if_neg (by decide), hload,
    State.fillUndefined_filled, hpush, M.ok_bind] at hi
  rw [State.enterSoft, hi, hv]
  rfl

end

/-! ### The operand words (R647, R907) -/

/-- The words of a source value as numbers. -/
theorem SoftWords.ofValue_eq : ∀ (p : Prec) (v : BitVec p.bits), SoftWords.ofValue p v =
    match p with
    | .q => (some (BitVec.ofNat 36 (v.toNat * 2 ^ 27)), none)
    | .h => (some (BitVec.ofNat 36 (v.toNat * 2 ^ 18)), none)
    | .s => (some (BitVec.ofNat 36 v.toNat), none)
    | .d => (some (BitVec.ofNat 36 (v.toNat / 2 ^ 36)), some (BitVec.ofNat 36 (v.toNat % 2 ^ 36)))
  | .q, v => congrArg (fun w => (some w, none)) (append_zero_eq v 27)
  | .h, v => congrArg (fun w => (some w, none)) (append_zero_eq v 18)
  | .s, v => congrArg (fun w => (some w, none)) (by rw [BitVec.ofNat_toNat]; exact v.setWidth_eq.symm)
  | .d, v => by
    have hhigh : field v 0 36 = BitVec.ofNat 36 (v.toNat / 2 ^ 36) := by
      apply BitVec.eq_of_toNat_eq
      rw [toNat_field, BitVec.toNat_ofNat]
      rfl
    have hlow : field v 36 36 = BitVec.ofNat 36 (v.toNat % 2 ^ 36) := by
      apply BitVec.eq_of_toNat_eq
      rw [toNat_field, BitVec.toNat_ofNat, Nat.mod_mod]
      exact congrArg (· % 2 ^ 36) (Nat.div_one _)
    rw [SoftWords.ofValue, hhigh, hlow]

/-- Settles O11: the entry by its vector, and the operand words one by one. -/
theorem softTrapEntry : Obligations.SoftTrapEntry := by
  constructor
  · intro s v k dest a0 a1 b0 b1 w0 h us next sps hh hus
    refine ⟨fun hbad => State.enterSoft_unusable hh hus hbad, fun hal hlow hlegal => ?_⟩
    intro ws hv hsl hsps
    cases k <;> exact State.enterSoft_usable hh hus hal hlow hlegal hv hsl hsps
  · intro address value s i a x1 p1 p2 x y next
    have hdest (o : Operand) : o.softDest = address o := by
      cases o with
      | imm k w => rfl
      | loc l => exact congrArg some (addrWord_rule l)
    have hvalue (p : Prec) (v : BitVec p.bits) : SoftWords.ofValue p v = value p v := by
      cases p <;> exact SoftWords.ofValue_eq _ v
    have hnext : (s.env i).next = next := vaAdd_eq_ofNat s.pc (4 * i.length)
    refine ⟨hvalue p1 x, ?_, ?_⟩
    · rw [softTop, hdest, hvalue, hvalue, hnext]
      rfl
    · rw [softUnary, hdest, hvalue, hnext]
      rfl

end Sys2Proof.Machine

namespace Sys2Proof.Machine

/-! Integer instructions (40_integer.md): at every width, the machine's computations agree with the rules. -/

section
variable {α : Type} {n m : Nat} {us : SW}

/-! ### Words and the numbers they stand for (R300) -/

theorem one_lt_bits (p : Prec) : 1 < p.bits := by cases p <;> decide

theorem bits_pos (p : Prec) : 0 < p.bits := Nat.zero_lt_of_lt (one_lt_bits p)

theorem two_pow_eq (hn : 0 < n) : (2 : Int) ^ n = 2 * 2 ^ (n - 1) := by
  rw [← pow_succ', Nat.sub_add_cancel hn]

theorem fits_iff {v : Int} : fits n v = true ↔ -2 ^ (n - 1) ≤ v ∧ v < 2 ^ (n - 1) := by
  simp only [fits, Bool.and_eq_true, decide_eq_true_eq, Int.le_sub_one_iff]

theorem not_fits_natCast (a : Nat) : (!fits n a) = decide (2 ^ (n - 1) ≤ a) := by
  have hneg : -2 ^ (n - 1) ≤ (a : Int) := (neg_nonpos.2 (by positivity)).trans a.cast_nonneg
  rw [Bool.eq_iff_iff, Bool.not_eq_true', ← Bool.not_eq_true, fits_iff, and_iff_right hneg, not_lt, decide_eq_true_eq]
  exact_mod_cast Iff.rfl

theorem fits_toInt (x : BitVec n) : fits n x.toInt = true := fits_iff.2 ⟨x.le_toInt, x.toInt_lt⟩

/-- With the sign bit clear, a word is the same number signed and unsigned. -/
theorem toInt_of_msb_false {x : BitVec n} (h : x.msb = false) : x.toInt = x.toNat := by
  rw [BitVec.toInt_eq_msb_cond, h, if_neg Bool.false_ne_true]

theorem toInt_not_eq (hn : 0 < n) (x : BitVec n) : (~~~x).toInt = -x.toInt - 1 := by
  have hx := x.isLt
  have hnot : ((2 ^ n - 1 - x.toNat : Nat) : Int) = 2 ^ n - 1 - x.toNat := by
    rw [Nat.sub_sub, Nat.cast_sub (by omega)]
    push_cast
    omega
  rw [BitVec.toInt_eq_msb_cond, BitVec.toInt_eq_msb_cond, BitVec.msb_not, BitVec.toNat_not, decide_eq_true hn, hnot]
  cases x.msb <;> simp <;> omega

/-- The sign bit of an integer of at most one bit too many is wrong exactly when the integer does not fit. -/
theorem msb_ofInt (hn : 0 < n) {v : Int} (hl : -2 ^ n ≤ v) (hu : v < 2 ^ n) :
    (BitVec.ofInt n v).msb = (decide (v < 0) ^^ !fits n v) := by
  have hp := two_pow_eq hn
  have hpos : (0 : Int) < 2 ^ (n - 1) := by positivity
  have hmod : v % 2 ^ n = if v < 0 then v + 2 ^ n else v := by
    split
    next => rw [← Int.add_emod_right, Int.emod_eq_of_lt (by omega) (by omega)]
    next => exact Int.emod_eq_of_lt (by omega) hu
  have hmsb : (BitVec.ofInt n v).msb = true ↔ 2 ^ (n - 1) ≤ v % 2 ^ n := by
    rw [BitVec.msb_eq_decide, decide_eq_true_eq, BitVec.toNat_ofInt, Int.le_toNat (Int.emod_nonneg _ (by positivity))]
    push_cast
    rfl
  rw [Bool.eq_iff_iff, hmsb, hmod, Bool.xor_iff_ne]
  by_cases hv : v < 0 <;>
    simp only [hv, if_true, if_false, decide_true, decide_false, ne_eq, Bool.true_eq, Bool.false_eq, Bool.not_eq_true',
      ← Bool.not_eq_true, fits_iff] <;>
    omega

/-! ### The overflow and zero-divide steps (R303, R308) -/

theorem agrees_overflow (ov : Bool) (f : SW → α) :
    Agrees (intOvf us ov >>= fun us1 => .ok (f us1)) (Rule.overflow us ov f) := by
  rw [intOvf, Rule.overflow]
  by_cases h : ov = true ∧ Us.intOvflMode us = false
  · rw [if_pos h, if_pos (by simpa using h)]
    rfl
  · rw [if_neg h, if_neg (by simpa using h)]
    rfl

/-- The machine tests the divisor by `c`, the rules by its value `b`. -/
theorem agrees_zeroDivide {c : Prop} [Decidable c] {b : Int} (hc : c ↔ b = 0) (zero : SW → α) {f : SW → Alu α}
    {g : SW → Answer α} (h : ∀ us1, Agrees (f us1) (g us1)) :
    Agrees (intZDiv us (decide c) >>= fun us1 => if c then .ok (zero us1) else f us1)
      (Rule.zeroDivide us b zero g) := by
  rw [Rule.zeroDivide]
  by_cases h0 : c
  · rw [if_pos (hc.1 h0), decide_eq_true h0]
    cases hm : Us.intZDivMode us <;> simp [intZDiv, hm, h0, Agrees, bind, Except.bind]
  · rw [if_neg (mt hc.2 h0), decide_eq_false h0]
    simp only [if_neg h0]
    exact h _

theorem agrees_int (v : Int) : Agrees (deliverInt us n v) (Rule.int us n v) := agrees_overflow _ _

/-! ### Sums and differences (R302, R305, R310 to R315, R354, R355, R360) -/

theorem ofInt_sum (x y : BitVec n) (c : Bool) :
    BitVec.ofInt n (x.toInt + y.toInt + c.toNat) = BitVec.ofNat n (x.toNat + y.toNat + c.toNat) := by
  simp only [BitVec.ofInt_add, BitVec.ofInt_toInt, BitVec.ofInt_natCast, BitVec.ofNat_add, BitVec.ofNat_toNat,
    BitVec.setWidth_eq]

/-- The overflow of a sum by its sign bits is that of the exact signed sum (R302, R306): operands of different signs
give a sum that fits, and operands of one sign a sum of that sign. -/
theorem addC_ov (hn : 0 < n) (x y : BitVec n) (c : Bool) :
    (addC x y c).ov = !fits n (x.toInt + y.toInt + c.toNat) := by
  have hc := c.toNat_le
  have hxl := x.le_toInt
  have hxu := x.toInt_lt
  have hyl := y.le_toInt
  have hyu := y.toInt_lt
  have hp := two_pow_eq hn
  simp only [addC]
  rw [← ofInt_sum, msb_ofInt hn (by omega) (by omega), BitVec.msb_eq_toInt, BitVec.msb_eq_toInt]
  by_cases hx : x.toInt < 0 <;> by_cases hy : y.toInt < 0
  · have hv : x.toInt + y.toInt + c.toNat < 0 := by omega
    simp [hx, hy, hv]
  · have hfits : fits n (x.toInt + y.toInt + c.toNat) = true := fits_iff.2 (by omega)
    simp [hx, hy, hfits]
  · have hfits : fits n (x.toInt + y.toInt + c.toNat) = true := fits_iff.2 (by omega)
    simp [hx, hy, hfits]
  · have hv : ¬ x.toInt + y.toInt + c.toNat < 0 := by omega
    simp [hx, hy, hv]

theorem addC_eq (hn : 0 < n) (x y : BitVec n) (c : Bool) :
    addC x y c = ⟨BitVec.ofInt n (x.toInt + y.toInt + c.toNat), decide (2 ^ n ≤ x.toNat + y.toNat + c.toNat),
      !fits n (x.toInt + y.toInt + c.toNat)⟩ := by
  rw [← addC_ov hn, ofInt_sum]
  rfl

/-- A difference is the sum with the complement (Table 5-1). -/
theorem subC_eq_addC (hn : 0 < n) (x y : BitVec n) (c : Bool) : subC x y c = addC x (~~~y) c := by
  rw [subC, addC, BitVec.msb_not, decide_eq_true hn]
  cases x.msb <;> cases y.msb <;> simp

theorem Rule.sum_congr {x1 x2 y1 y2 : BitVec n} {x3 y3 : Bool}
    (hi : x1.toInt + x2.toInt + x3.toNat = y1.toInt + y2.toInt + y3.toNat)
    (hn : x1.toNat + x2.toNat + x3.toNat = y1.toNat + y2.toNat + y3.toNat) :
    Rule.sum us x1 x2 x3 = Rule.sum us y1 y2 y3 := by
  rw [Rule.sum, Rule.sum, hi, hn]

theorem Rule.sum_comm (x y : BitVec n) (c : Bool) : Rule.sum us x y c = Rule.sum us y x c :=
  Rule.sum_congr (by rw [add_comm x.toInt]) (by rw [add_comm x.toNat])

/-- Subtracting one by Table 5-1 is adding minus one (R355). -/
theorem Rule.sum_neg_one (hn : 1 < n) (y : BitVec n) : Rule.sum us (-1) y false = Rule.sum us y (~~~1) true := by
  have hpos : 0 < n := Nat.zero_lt_of_lt hn
  have hp : 1 < 2 ^ n := Nat.one_lt_two_pow hpos.ne'
  have hint : (1 : BitVec n).toInt = 1 := BitVec.toInt_one hn
  have hnat : (1 : BitVec n).toNat = 1 := BitVec.toNat_one hpos
  have hneg : (-1 : BitVec n) = BitVec.allOnes n := BitVec.neg_one_eq_allOnes
  rw [hneg]
  apply Rule.sum_congr
  · rw [BitVec.toInt_allOnes, if_pos hpos, toInt_not_eq hpos, hint, Bool.toNat_false, Bool.toNat_true]
    omega
  · rw [BitVec.toNat_allOnes, BitVec.toNat_not, hnat, Bool.toNat_false, Bool.toNat_true]
    omega

theorem agrees_addC (hn : 0 < n) (x y : BitVec n) (c : Bool) :
    Agrees (deliverSum us (addC x y c)) (Rule.sum us x y c) := by
  rw [addC_eq hn]
  exact agrees_overflow _ _

theorem agrees_subC (hn : 0 < n) (x y : BitVec n) (c : Bool) :
    Agrees (deliverSum us (subC x y c)) (Rule.sum us x (~~~y) c) := by
  rw [subC_eq_addC hn]
  exact agrees_addC hn x (~~~y) c

theorem agrees_subC_reverse (hn : 0 < n) (x y : BitVec n) (c : Bool) :
    Agrees (deliverSum us (subC y x c)) (Rule.sum us (~~~x) y c) := by
  rw [Rule.sum_comm]
  exact agrees_subC hn y x c

theorem agrees_inc (hn : 0 < n) (y : BitVec n) : Agrees (aluInc us y) (Rule.sum us 1 y false) := by
  rw [Rule.sum_comm]
  exact agrees_addC hn y 1 false

theorem agrees_dec (hn : 1 < n) (y : BitVec n) : Agrees (aluDec us y) (Rule.sum us (-1) y false) := by
  rw [Rule.sum_neg_one hn]
  exact agrees_subC (Nat.zero_lt_of_lt hn) y 1 true

/-! ### Magnitudes (R361) -/

theorem subC_zero (hn : 0 < n) (y : BitVec n) :
    subC 0 y true = ⟨BitVec.ofInt n (-y.toInt), decide (2 ^ n ≤ (~~~y).toNat + 1), !fits n (-y.toInt)⟩ := by
  have hint : (0 : BitVec n).toInt + (~~~y).toInt + true.toNat = -y.toInt := by
    rw [BitVec.ofNat_eq_ofNat, BitVec.toInt_zero, toInt_not_eq hn, Bool.toNat_true]
    omega
  have hnat : (0 : BitVec n).toNat + (~~~y).toNat + true.toNat = (~~~y).toNat + 1 := by
    rw [BitVec.ofNat_eq_ofNat, BitVec.toNat_zero, Nat.zero_add, Bool.toNat_true]
  rw [subC_eq_addC hn, addC_eq hn, hint, hnat]

/-- The negation of a word carries exactly when the word is zero. -/
theorem carry_neg_iff (y : BitVec n) : 2 ^ n ≤ (~~~y).toNat + 1 ↔ y = 0 := by
  have hy := y.isLt
  rw [BitVec.toNat_not, ← BitVec.toNat_inj, BitVec.ofNat_eq_ofNat, BitVec.toNat_zero]
  omega

theorem agrees_abs (hn : 0 < n) (y : BitVec n) : Agrees (aluAbs us y) (Rule.abs us y) := by
  have hov : (y.msb && !fits n (-y.toInt)) = !fits n |y.toInt| := by
    cases h : y.msb with
    | false => rw [abs_of_nonneg (BitVec.toInt_nonneg_of_msb_false h), fits_toInt]; rfl
    | true => rw [abs_of_neg (BitVec.toInt_neg_of_msb_true h), Bool.true_and]
  have hval : (if y.msb then BitVec.ofInt n (-y.toInt) else y) = BitVec.ofInt n |y.toInt| := by
    cases h : y.msb with
    | false => rw [abs_of_nonneg (BitVec.toInt_nonneg_of_msb_false h), BitVec.ofInt_toInt, if_neg Bool.false_ne_true]
    | true => rw [abs_of_neg (BitVec.toInt_neg_of_msb_true h), if_pos rfl]
  simp only [aluAbs, subC_zero hn, Rule.abs, hov, hval, carry_neg_iff, ← beq_eq_decide]
  exact agrees_overflow _ _

/-! ### Products (R320, R370) -/

theorem msb_of_le_one (hn : 1 < n) {x : BitVec n} (h : x.toNat ≤ 1) : x.msb = false := by
  have hp : 1 < 2 ^ (n - 1) := Nat.one_lt_two_pow (by omega)
  rw [BitVec.msb_eq_decide, decide_eq_false_iff_not]
  omega

/-- Zero and one as factors: neither form of the overflow of `UMULT` holds. -/
theorem umult_ov_of_le_one (hn : 1 < n) {x : BitVec n} (h : x.toNat ≤ 1) (y : BitVec n) :
    fits n (x.toInt * y.toInt) = true ∧ ¬ (2 ^ (n - 1) ≤ x.toNat * y.toNat ∧ x.toNat ≠ 1) := by
  rw [toInt_of_msb_false (msb_of_le_one hn h)]
  obtain h0 | h1 := Nat.le_one_iff_eq_zero_or_eq_one.1 h
  · rw [h0, Nat.cast_zero, Int.zero_mul, Nat.zero_mul]
    exact ⟨fits_iff.2 (by simp), fun hx => absurd hx.1 (by simp)⟩
  · rw [h1, Nat.cast_one, Int.one_mul]
    exact ⟨fits_toInt y, fun hx => hx.2 rfl⟩

/-- A factor with its sign bit set reaches `2^(n-1)` in every product but that with zero. -/
theorem two_pow_le_mul_of_msb {x : BitVec n} (h : x.msb = true) {b : Nat} (hb : 0 < b) : 2 ^ (n - 1) ≤ x.toNat * b :=
  (BitVec.le_toNat_of_msb_true h).trans (Nat.le_mul_of_pos_right _ hb)

/-- The overflow of `UMULT` and its equivalent form (R370). -/
theorem umult_ov (hn : 1 < n) (x y : BitVec n) :
    (!fits n (x.toInt * y.toInt) || (x.msb && decide (1 < y.toNat)) || (y.msb && decide (1 < x.toNat))) =
      decide (2 ^ (n - 1) ≤ x.toNat * y.toNat ∧ x.toNat ≠ 1 ∧ y.toNat ≠ 1) := by
  by_cases hx : x.toNat ≤ 1
  · obtain ⟨hfits, hno⟩ := umult_ov_of_le_one hn hx y
    have hfalse : ¬ (2 ^ (n - 1) ≤ x.toNat * y.toNat ∧ x.toNat ≠ 1 ∧ y.toNat ≠ 1) :=
      fun ⟨hle, hne, _⟩ => hno ⟨hle, hne⟩
    rw [hfits, msb_of_le_one hn hx, decide_eq_false (not_lt.2 hx), decide_eq_false hfalse]
    simp
  by_cases hy : y.toNat ≤ 1
  · obtain ⟨hfits, hno⟩ := umult_ov_of_le_one hn hy x
    rw [mul_comm] at hfits
    rw [mul_comm] at hno
    have hfalse : ¬ (2 ^ (n - 1) ≤ x.toNat * y.toNat ∧ x.toNat ≠ 1 ∧ y.toNat ≠ 1) :=
      fun ⟨hle, _, hne⟩ => hno ⟨hle, hne⟩
    rw [hfits, msb_of_le_one hn hy, decide_eq_false (not_lt.2 hy), decide_eq_false hfalse]
    simp
  rw [not_le] at hx hy
  cases hmx : x.msb with
  | true => simp [hx, hy, hx.ne', hy.ne', two_pow_le_mul_of_msb hmx (Nat.zero_lt_of_lt hy)]
  | false =>
    cases hmy : y.msb with
    | true =>
      rw [mul_comm x.toNat]
      simp [hx, hy, hx.ne', hy.ne', two_pow_le_mul_of_msb hmy (Nat.zero_lt_of_lt hx)]
    | false =>
      rw [toInt_of_msb_false hmx, toInt_of_msb_false hmy, ← Nat.cast_mul, not_fits_natCast]
      simp [hx.ne', hy.ne']

theorem agrees_umult (hn : 1 < n) (x y : BitVec n) : Agrees (aluUmult us x y) (Rule.umult us x y) := by
  rw [aluUmult, umult_ov hn]
  exact agrees_overflow _ _

/-! ### The smaller and the larger (R364, R365) -/

theorem minInt_rule (x y : BitVec n) : minInt x y = Rule.min x y := by
  rw [minInt, Rule.min]
  split
  next h => rw [min_eq_left h.le, BitVec.ofInt_toInt]
  next h => rw [min_eq_right (not_lt.1 h), BitVec.ofInt_toInt]

theorem maxInt_rule (x y : BitVec n) : maxInt x y = Rule.max x y := by
  rw [maxInt, Rule.max]
  split
  next h => rw [max_eq_left h.le, BitVec.ofInt_toInt]
  next h => rw [max_eq_right (not_lt.1 h), BitVec.ofInt_toInt]

theorem agrees_plain {a b : α} (h : a = b) : Agrees (.ok (a, us)) (.plain us b) := by
  rw [h]
  rfl

/-! ### Quotients, remainders and moduli (R322, R323) -/

theorem Rule.quo_eq_tdiv (a b : Int) : Rule.quo a b = a.tdiv b := by
  rw [Rule.quo, ← Int.sign_mul_natAbs (a.tdiv b), Int.natAbs_tdiv, Int.sign_tdiv]
  by_cases h : a.natAbs < b.natAbs
  · rw [Nat.div_eq_of_lt h, if_pos h, Int.natCast_zero, mul_zero, zero_mul]
  · rw [if_neg h]
    rfl

theorem Rule.rem_eq_tmod (a b : Int) : Rule.rem a b = a.tmod b := by
  rw [Rule.rem, Rule.quo_eq_tdiv, Int.tmod_def]

theorem floor_div_eq_fdiv (a b : Int) : ⌊(a : ℚ) / b⌋ = a.fdiv b := by
  obtain ⟨k, rfl | rfl⟩ := b.eq_nat_or_neg
  · rw [Int.fdiv_eq_ediv_of_nonneg _ (Int.natCast_nonneg k), Int.cast_natCast, Rat.floor_intCast_div_natCast]
  · rw [← Int.neg_fdiv_neg, neg_neg, Int.fdiv_eq_ediv_of_nonneg _ (Int.natCast_nonneg k),
      ← Rat.floor_intCast_div_natCast]
    push_cast
    rw [div_neg, neg_div]

theorem Rule.mod_eq_fmod (a b : Int) : Rule.mod a b = a.fmod b := by
  rw [Rule.mod, floor_div_eq_fdiv, Int.fmod_def]

theorem agrees_divideQuo (a b : Int) : Agrees (divideQuo us n a b) (Rule.divQuo us n a b) := by
  rw [Rule.divQuo, Rule.quo_eq_tdiv]
  exact agrees_zeroDivide Iff.rfl _ fun _ => agrees_int _

theorem agrees_divideRem {f g : Int → Int → Int} (h : ∀ a b, f a b = g a b) (a b : Int) :
    Agrees (divideRem f us n a b) (Rule.divRem g us n a b) := by
  rw [Rule.divRem, ← h]
  exact agrees_zeroDivide Iff.rfl _ fun _ => rfl

theorem agrees_rem (a b : Int) : Agrees (divideRem remInt us n a b) (Rule.divRem Rule.rem us n a b) :=
  agrees_divideRem (fun a b => (Rule.rem_eq_tmod a b).symm) a b

theorem agrees_mod (a b : Int) : Agrees (divideRem modInt us n a b) (Rule.divRem Rule.mod us n a b) :=
  agrees_divideRem (fun a b => (Rule.mod_eq_fmod a b).symm) a b

theorem agrees_divideBoth (a b : Int) : Agrees (divideBoth us n a b) (Rule.divBoth us n a b) := by
  rw [Rule.divBoth, Rule.quo_eq_tdiv, Rule.rem_eq_tmod]
  exact agrees_zeroDivide Iff.rfl _ fun _ => agrees_overflow _ _

theorem agrees_udiv (x : BitVec m) (y : BitVec n) : Agrees (aluUdiv us x y) (Rule.udiv us x y) := by
  have hy : y = 0 ↔ (y.toNat : Int) = 0 := by
    rw [← BitVec.toNat_inj, BitVec.ofNat_eq_ofNat, BitVec.toNat_zero, Int.natCast_eq_zero]
  rw [aluUdiv, beq_eq_decide]
  exact agrees_zeroDivide hy _ fun _ => agrees_overflow _ _

/-! ### Quotients by powers of two (R307, R328) -/

/-- No word reaches the power of two of its length or a larger one. -/
theorem quo_two_pow_of_le (x : BitVec m) {k : Nat} (h : m ≤ k) : Rule.quo x.toInt (2 ^ k) = 0 := by
  have hpow : (2 : Int) ^ m ≤ 2 ^ k := pow_le_pow_right₀ (by decide) h
  have hl := x.le_two_mul_toInt
  have hu := x.two_mul_toInt_lt
  have hlt : x.toInt.natAbs < ((2 : Int) ^ k).natAbs := by
    have := pow_pos (by decide : (0 : Int) < 2) k
    omega
  rw [Rule.quo, Nat.div_eq_of_lt hlt, Nat.cast_zero, mul_zero]

/-- A multiple of the power of two of the word's length or a larger one fits only when it is zero. -/
theorem fits_mul_two_pow {e : Nat} (hn : 0 < n) (h : n ≤ e) (x : Int) : fits n (x * 2 ^ e) = decide (x = 0) := by
  have hlt : (2 : Int) ^ (n - 1) < 2 ^ e := pow_lt_pow_right₀ (by decide) (by omega)
  rw [Bool.eq_iff_iff, fits_iff, decide_eq_true_eq]
  constructor
  · intro ⟨hl, hu⟩
    have hzero := Int.eq_zero_of_abs_lt_dvd (dvd_mul_left (2 ^ e) x) (abs_lt.2 ⟨by omega, by omega⟩)
    exact (mul_eq_zero.1 hzero).resolve_right (pow_ne_zero e (by decide))
  · rintro rfl
    simp

theorem ofInt_mul_two_pow {e : Nat} (h : n ≤ e) (x : Int) : BitVec.ofInt n (x * 2 ^ e) = 0 := by
  apply BitVec.eq_of_toNat_eq
  rw [BitVec.toNat_ofInt, Nat.cast_pow, Nat.cast_ofNat,
    Int.emod_eq_zero_of_dvd (dvd_mul_of_dvd_right (pow_dvd_pow 2 h) x)]
  rfl

theorem agrees_quo2 (hn : 0 < n) (x : BitVec m) (k : Int) :
    Agrees (quo2 us m n x.toInt k) (Rule.quo2 us n x.toInt k) := by
  rw [quo2, Rule.quo2]
  split_ifs with hk hm hb
  · rw [quo_two_pow_of_le x (by omega)]
    exact agrees_int 0
  · rw [Rule.quo_eq_tdiv]
    exact agrees_int _
  · rw [Rule.int, fits_mul_two_pow hn (by omega), ofInt_mul_two_pow (by omega), ← decide_not]
    exact agrees_overflow _ _
  · exact agrees_int _

end

/-- Settles O29: the machine subtracts by the rows of Table 5-1 that add a complement. -/
theorem integerSums : Obligations.IntegerSums := by
  refine ⟨?add, ?addc, ?sub, ?subv, ?subc, ?subcv⟩
  case add => and_intros <;> exact top3Gives_of (fun _ _ _ _ => rfl) fun _ x y _ => agrees_addC (bits_pos _) x y _
  case addc => and_intros <;> exact top3Gives_of (fun _ _ _ _ => rfl) fun _ x y _ => agrees_addC (bits_pos _) x y _
  case sub => and_intros <;> exact top3Gives_of (fun _ _ _ _ => rfl) fun _ x y _ => agrees_subC (bits_pos _) x y _
  case subv =>
    and_intros <;> exact top3Gives_of (fun _ _ _ _ => rfl) fun _ x y _ => agrees_subC_reverse (bits_pos _) x y _
  case subc => and_intros <;> exact top3Gives_of (fun _ _ _ _ => rfl) fun _ x y _ => agrees_subC (bits_pos _) x y _
  case subcv =>
    and_intros <;> exact top3Gives_of (fun _ _ _ _ => rfl) fun _ x y _ => agrees_subC_reverse (bits_pos _) x y _

/-- Settles O30, one law of the computation for each family. -/
theorem integerUnaryOperations : Obligations.IntegerUnaryOperations := by
  refine ⟨?inc, ?dec, ?neg, ?abs, ?trans⟩
  case inc => and_intros <;> exact xop2Gives_of (fun _ _ _ => rfl) fun _ y _ => agrees_inc (bits_pos _) y
  case dec => and_intros <;> exact xop2Gives_of (fun _ _ _ => rfl) fun _ y _ => agrees_dec (one_lt_bits _) y
  case neg => and_intros <;> exact xop2Gives_of (fun _ _ _ => rfl) fun _ y _ => agrees_subC (bits_pos _) 0 y true
  case abs => and_intros <;> exact xop2Gives_of (fun _ _ _ => rfl) fun _ y _ => agrees_abs (bits_pos _) y
  case trans => and_intros <;> exact xop2Gives_of (fun _ _ _ => rfl) fun _ y _ => agrees_int y.toInt

/-- Settles O31: `MULT` delivers the exact product, `UMULT` overflows by the equivalent form of R370, the others set no flag. -/
theorem integerProducts : Obligations.IntegerProducts := by
  refine ⟨?mult, ?multl, ?umult, ?umultl, ?min, ?max⟩
  case mult => and_intros <;> exact top3Gives_of (fun _ _ _ _ => rfl) fun _ x y _ => agrees_int (x.toInt * y.toInt)
  case multl => and_intros <;> exact top3Gives_of (fun _ _ _ _ => rfl) fun _ _ _ _ => agrees_plain rfl
  case umult => and_intros <;> exact top3Gives_of (fun _ _ _ _ => rfl) fun _ x y _ => agrees_umult (one_lt_bits _) x y
  case umultl => and_intros <;> exact top3Gives_of (fun _ _ _ _ => rfl) fun _ _ _ _ => agrees_plain rfl
  case min => and_intros <;> exact top3Gives_of (fun _ _ _ _ => rfl) fun _ x y _ => agrees_plain (minInt_rule x y)
  case max => and_intros <;> exact top3Gives_of (fun _ _ _ _ => rfl) fun _ x y _ => agrees_plain (maxInt_rule x y)

/-- Settles O32: the machine's truncating and flooring divisions are the quotient and modulus of R322. -/
theorem quotientsAndRemainders : Obligations.QuotientsAndRemainders := by
  refine ⟨?quo, ?quov, ?quol, ?quolv, ?rem, ?remv, ?reml, ?remlv, ?mod, ?modv, ?modl, ?modlv⟩
  case quo | quol =>
    and_intros <;> exact top3Gives_of (fun _ _ _ _ => rfl) fun _ x y _ => agrees_divideQuo x.toInt y.toInt
  case quov | quolv =>
    and_intros <;> exact top3Gives_of (fun _ _ _ _ => rfl) fun _ x y _ => agrees_divideQuo y.toInt x.toInt
  case rem | reml =>
    and_intros <;> exact top3Gives_of (fun _ _ _ _ => rfl) fun _ x y _ => agrees_rem x.toInt y.toInt
  case remv | remlv =>
    and_intros <;> exact top3Gives_of (fun _ _ _ _ => rfl) fun _ x y _ => agrees_rem y.toInt x.toInt
  case mod | modl =>
    and_intros <;> exact top3Gives_of (fun _ _ _ _ => rfl) fun _ x y _ => agrees_mod x.toInt y.toInt
  case modv | modlv =>
    and_intros <;> exact top3Gives_of (fun _ _ _ _ => rfl) fun _ x y _ => agrees_mod y.toInt x.toInt

/-- Settles O33: the two results of a division are those of the quotient and the remainder. -/
theorem divisions : Obligations.Divisions := by
  refine ⟨?div, ?divv, ?divl, ?divlv, ?udiv, ?udivl⟩
  case div | divl =>
    and_intros <;> exact top3NextGives_of (fun _ _ _ _ => rfl) fun _ x y _ => agrees_divideBoth x.toInt y.toInt
  case divv | divlv =>
    and_intros <;> exact top3NextGives_of (fun _ _ _ _ => rfl) fun _ x y _ => agrees_divideBoth y.toInt x.toInt
  case udiv | udivl =>
    and_intros <;> exact top3NextGives_of (fun _ _ _ _ => rfl) fun _ x y _ => agrees_udiv x y

/-- Settles O34: past the length of the word, the machine's short cuts are the exact quotient and product. -/
theorem quotientsByPowersOfTwo : Obligations.QuotientsByPowersOfTwo := by
  refine ⟨?quo2, ?quo2v, ?quo2l, ?quo2lv⟩
  case quo2 | quo2l =>
    and_intros <;> exact top3Gives_of (fun _ _ _ _ => rfl) fun _ x k _ => agrees_quo2 (bits_pos _) x k.toInt
  case quo2v | quo2lv =>
    and_intros <;> exact top3Gives_of (fun _ _ _ _ => rfl) fun _ k x _ => agrees_quo2 (bits_pos _) x k.toInt

end Sys2Proof.Machine

namespace Sys2Proof.Machine

/-! Floating-point instructions (41_float.md). The machine computes on an integer, a denominator and a binary exponent, the rules on
rationals: rounding and encoding agree at every precision, so each instruction does when its exact number stands for the
rational of its rule. -/

/-! ### Powers of two and binades -/

theorem zpow_mul_pow_toNat_neg (k : ℤ) : (2 : ℚ) ^ k * 2 ^ (-k).toNat = 2 ^ k.toNat := by
  rw [← zpow_natCast, ← zpow_natCast, ← zpow_add₀ two_ne_zero]
  congr 1
  omega

/-- A number scaled by a power of two that does not exceed its own is an integer with the smaller exponent. -/
theorem pow_toNat_sub_mul_zpow {e k : ℤ} (h : e ≤ k) : (2 : ℚ) ^ (k - e).toNat * 2 ^ e = 2 ^ k := by
  rw [← zpow_natCast, ← zpow_add₀ two_ne_zero, Int.toNat_of_nonneg (sub_nonneg.2 h), sub_add_cancel]

theorem two_zpow_log_le {x : ℚ} (hx : 0 < x) : (2 : ℚ) ^ Int.log 2 x ≤ x := by
  exact_mod_cast Int.zpow_log_le_self one_lt_two hx

theorem lt_two_zpow_log (x : ℚ) : x < (2 : ℚ) ^ (Int.log 2 x + 1) := by
  exact_mod_cast Int.lt_zpow_succ_log_self one_lt_two x

theorem log_two_eq {x : ℚ} {k : ℤ} (hl : (2 : ℚ) ^ k ≤ x) (hu : x < 2 ^ (k + 1)) : Int.log 2 x = k := by
  have hx : 0 < x := lt_of_lt_of_le (by positivity) hl
  have hle : k ≤ Int.log 2 x := (Int.zpow_le_iff_le_log one_lt_two hx).1 (by exact_mod_cast hl)
  have hlt : Int.log 2 x < k + 1 := (Int.lt_zpow_iff_log_lt one_lt_two hx).1 (by exact_mod_cast hu)
  omega

theorem log_two_mul_zpow {x : ℚ} (hx : 0 < x) (k : ℤ) : Int.log 2 (x * 2 ^ k) = Int.log 2 x + k := by
  apply log_two_eq
  · rw [zpow_add₀ two_ne_zero]
    exact mul_le_mul_of_nonneg_right (two_zpow_log_le hx) (by positivity)
  · rw [add_right_comm, zpow_add₀ two_ne_zero]
    exact mul_lt_mul_of_pos_right (lt_two_zpow_log x) (by positivity)

/-- The machine's binade of a quotient, from the lengths of its terms and one comparison. -/
theorem binade_eq {a b : Nat} (ha : 0 < a) (hb : 0 < b) : binade a b = Int.log 2 ((a : ℚ) / b) + 1 := by
  have hb' : (0 : ℚ) < b := Nat.cast_pos.2 hb
  have hal : (2 : ℚ) ^ (a.log2 : ℤ) ≤ a := by exact_mod_cast Nat.log2_self_le ha.ne'
  have hau : (a : ℚ) < 2 ^ ((a.log2 : ℤ) + 1) := by exact_mod_cast Nat.lt_log2_self
  have hbl : (2 : ℚ) ^ (b.log2 : ℤ) ≤ b := by exact_mod_cast Nat.log2_self_le hb.ne'
  have hbu : (b : ℚ) < 2 ^ ((b.log2 : ℤ) + 1) := by exact_mod_cast Nat.lt_log2_self
  rw [binade]
  set l : ℤ := (a.log2 : ℤ) - b.log2 with hl
  have hcmp : a * 2 ^ (-l).toNat < b * 2 ^ l.toNat ↔ (a : ℚ) / b < 2 ^ l := by
    rw [div_lt_iff₀ hb', ← mul_lt_mul_iff_left₀ (by positivity : (0 : ℚ) < 2 ^ (-l).toNat), mul_right_comm,
      zpow_mul_pow_toNat_neg, mul_comm (2 ^ l.toNat : ℚ)]
    exact_mod_cast Iff.rfl
  have hlow : (2 : ℚ) ^ (l - 1) ≤ a / b := by
    rw [le_div_iff₀ hb']
    calc (2 : ℚ) ^ (l - 1) * b ≤ 2 ^ (l - 1) * 2 ^ ((b.log2 : ℤ) + 1) := by gcongr
      _ = 2 ^ (a.log2 : ℤ) := by rw [← zpow_add₀ two_ne_zero, hl]; congr 1; ring
      _ ≤ a := hal
  have hhigh : (a : ℚ) / b < 2 ^ (l + 1) := by
    rw [div_lt_iff₀ hb']
    calc (a : ℚ) < 2 ^ ((a.log2 : ℤ) + 1) := hau
      _ = 2 ^ (l + 1) * 2 ^ (b.log2 : ℤ) := by rw [← zpow_add₀ two_ne_zero, hl]; congr 1; ring
      _ ≤ 2 ^ (l + 1) * b := by gcongr
  simp only [hcmp]
  split
  next h => rw [log_two_eq hlow (by rwa [sub_add_cancel]), sub_add_cancel]
  next h => rw [log_two_eq (not_lt.1 h) hhigh]

/-! ### Rounding to an integer (R411) -/

theorem Rule.le_roundInt {rm : BitVec 5} {q : ℚ} {z : ℤ} (h : z ≤ q) : z ≤ Rule.roundInt rm q := by
  have hz : z ≤ ⌊q⌋ := Int.le_floor.2 h
  rw [Rule.roundInt]
  split <;> omega

theorem Rule.roundInt_le {rm : BitVec 5} {q : ℚ} {z : ℤ} (h : q ≤ z) : Rule.roundInt rm q ≤ z := by
  rw [Rule.roundInt]
  split
  next hup =>
    have hlt : (⌊q⌋ : ℚ) < q := lt_of_le_of_ne (Int.floor_le q) fun he => by
      simp [Rule.roundsUp, sub_eq_zero.2 he.symm] at hup
    exact_mod_cast hlt.trans_le h
  next => exact_mod_cast (Int.floor_le q).trans h

/-- The machine's choice, made on the remainder of an integer division, is that of the rule on the quotient. -/
theorem roundChoice_eq (rm : BitVec 5) (a : ℤ) {b : Nat} (hb : 0 < b) (neg : Bool) :
    roundChoice rm (a / b) (a % b) b neg =
      if Rule.roundsUp rm (a / b) ((a : ℚ) / b - (a / b : ℤ)) neg then a / b + 1 else a / b := by
  have hb' : (0 : ℚ) < b := Nat.cast_pos.2 hb
  have hfrac : (a : ℚ) / b - (a / b : ℤ) = (a % b : ℤ) / b := by
    rw [← Rat.floor_intCast_div_natCast, Int.self_sub_floor, Int.fract_div_intCast_eq_div_intCast_mod]
  have hzero : ((a % b : ℤ) : ℚ) / b = 0 ↔ a % b = 0 := by
    rw [div_eq_zero_iff, or_iff_left hb'.ne', Int.cast_eq_zero]
  have hlow : ((a % b : ℤ) : ℚ) / b < 1 / 2 ↔ 2 * (a % b) < b := by
    rw [div_lt_div_iff₀ hb' two_pos, mul_comm, one_mul]
    exact_mod_cast Iff.rfl
  have hhigh : 1 / 2 < ((a % b : ℤ) : ℚ) / b ↔ 2 * (a % b) > b := by
    rw [div_lt_div_iff₀ two_pos hb', mul_comm _ (2 : ℚ), one_mul]
    exact_mod_cast Iff.rfl
  rw [roundChoice, Rule.roundsUp, hfrac]
  simp only [hzero, hlow, hhigh]
  by_cases h0 : a % (b : ℤ) = 0
  · simp [h0]
  · cases bitAt rm 1
    · simp [h0]
    · simp only [h0, if_false, Bool.true_and, decide_eq_true_eq, Bool.true_eq_false]

/-- Scaling by a positive denominator and a power of two keeps the sign. -/
theorem div_mul_zpow_neg_iff (num : ℤ) {den : Nat} (hd : 0 < den) (e : ℤ) : (num : ℚ) / den * 2 ^ e < 0 ↔ num < 0 := by
  have hd' : (0 : ℚ) < den := Nat.cast_pos.2 hd
  rw [← lt_div_iff₀ (by positivity), zero_div, div_lt_iff₀ hd', zero_mul, Int.cast_lt_zero]

theorem roundScaled_eq (rm : BitVec 5) (num : ℤ) {den : Nat} (hd : 0 < den) (sh : ℤ) :
    roundScaled rm num den sh = Rule.roundInt rm ((num : ℚ) / den * 2 ^ sh) := by
  have hq : (num : ℚ) / den * 2 ^ sh = ((num * 2 ^ sh.toNat : ℤ) : ℚ) / (den * 2 ^ (-sh).toNat : ℕ) := by
    push_cast
    rw [← zpow_mul_pow_toNat_neg]
    field_simp
  have hchoice := roundChoice_eq rm (num * 2 ^ sh.toNat) (b := den * 2 ^ (-sh).toNat) (by positivity)
  simp only [roundScaled, Rule.roundInt, div_mul_zpow_neg_iff num hd]
  rw [hq, Rat.floor_intCast_div_natCast, ← hchoice]

/-! ### Rounding to a number of fraction bits (R411) -/

/-- `Round` is `RoundInt` on the grid of its binade. -/
theorem Rule.round_eq (m : Nat) (rm : BitVec 5) (r : ℚ) :
    Rule.round m rm r = Rule.roundInt rm (r / 2 ^ (Int.log 2 |r| - m)) * 2 ^ (Int.log 2 |r| - m) := by
  have hneg : r / 2 ^ (Int.log 2 |r| - m) < 0 ↔ r < 0 := by rw [div_lt_iff₀ (by positivity), zero_mul]
  simp only [Rule.round, Rule.roundInt, hneg]
  split <;> push_cast <;> rfl

/-- A number that is not zero has `m + 1` bits before the point on the grid of its binade. -/
theorem abs_div_ulp {r : ℚ} (hr : r ≠ 0) (m : Nat) :
    2 ^ m ≤ |r / 2 ^ (Int.log 2 |r| - m)| ∧ |r / 2 ^ (Int.log 2 |r| - m)| < 2 ^ (m + 1) := by
  have hpos : (0 : ℚ) < 2 ^ (Int.log 2 |r| - m) := by positivity
  rw [abs_div, abs_of_pos hpos, le_div_iff₀ hpos, div_lt_iff₀ hpos, ← zpow_natCast, ← zpow_natCast,
    ← zpow_add₀ two_ne_zero, ← zpow_add₀ two_ne_zero]
  have hl : (m : ℤ) + (Int.log 2 |r| - m) = Int.log 2 |r| := by ring
  have hu : ((m + 1 : Nat) : ℤ) + (Int.log 2 |r| - m) = Int.log 2 |r| + 1 := by push_cast; ring
  rw [hl, hu]
  exact ⟨two_zpow_log_le (abs_pos.2 hr), lt_two_zpow_log _⟩

/-- Rounding a number of `m + 1` bits gives one, or the first of `m + 2` bits, of the same sign. -/
theorem Rule.natAbs_roundInt {rm : BitVec 5} {q : ℚ} {m : Nat} (hl : 2 ^ m ≤ |q|) (hu : |q| < 2 ^ (m + 1)) :
    2 ^ m ≤ (Rule.roundInt rm q).natAbs ∧ (Rule.roundInt rm q).natAbs ≤ 2 ^ (m + 1) ∧
      (Rule.roundInt rm q < 0 ↔ q < 0) := by
  have hpos : (0 : ℤ) < 2 ^ m := by positivity
  have hup := hu.le
  zify
  by_cases hq : q < 0
  · rw [abs_of_neg hq] at hl hup
    have h1 : Rule.roundInt rm q ≤ -2 ^ m := Rule.roundInt_le (by push_cast; linarith)
    have h2 : -2 ^ (m + 1) ≤ Rule.roundInt rm q := Rule.le_roundInt (by push_cast; linarith)
    rw [abs_of_neg (by omega)]
    exact ⟨by omega, by omega, iff_of_true (by omega) hq⟩
  · rw [abs_of_nonneg (not_lt.1 hq)] at hl hup
    have h1 : 2 ^ m ≤ Rule.roundInt rm q := Rule.le_roundInt (by push_cast; exact hl)
    have h2 : Rule.roundInt rm q ≤ 2 ^ (m + 1) := Rule.roundInt_le (by push_cast; exact hup)
    rw [abs_of_nonneg (by omega)]
    exact ⟨h1, h2, iff_of_false (by omega) hq⟩

/-- The rational a rounded result stands for. -/
def Rounded.toRat (m : Nat) (x : Rounded) : ℚ := x.k * 2 ^ (x.e - m - 1)

/-- A rounded result has exactly `m + 1` bits. -/
def Rounded.Normal (m : Nat) (x : Rounded) : Prop := 2 ^ m ≤ x.k.natAbs ∧ x.k.natAbs < 2 ^ (m + 1)

theorem Exact.toRat_neg_iff {a : Exact} (hd : 0 < a.den) : a.toRat < 0 ↔ a.num < 0 := div_mul_zpow_neg_iff a.num hd a.exp

theorem Exact.toRat_eq_zero_iff {a : Exact} (hd : 0 < a.den) : a.toRat = 0 ↔ a.num = 0 := by
  have hd' : (a.den : ℚ) ≠ 0 := Nat.cast_ne_zero.2 hd.ne'
  have hp : (2 : ℚ) ^ a.exp ≠ 0 := by positivity
  rw [Exact.toRat, mul_eq_zero, or_iff_left hp, div_eq_zero_iff, or_iff_left hd', Int.cast_eq_zero]

theorem Exact.log_abs_toRat {a : Exact} (hd : 0 < a.den) (hn : a.num ≠ 0) :
    Int.log 2 |a.toRat| = binade a.num.natAbs a.den - 1 + a.exp := by
  have hnum : 0 < a.num.natAbs := Int.natAbs_pos.2 hn
  have habs : |a.toRat| = (a.num.natAbs : ℚ) / a.den * 2 ^ a.exp := by
    rw [Exact.toRat, abs_mul, abs_div, Nat.abs_cast, abs_of_pos (by positivity : (0 : ℚ) < 2 ^ a.exp), Nat.cast_natAbs,
      Int.cast_abs]
  rw [habs, log_two_mul_zpow (by positivity), binade_eq hnum hd, add_sub_cancel_right]

/-- The first number of a binade is twice that of the binade before. -/
theorem exists_half_of_natAbs_eq {k : ℤ} {m : Nat} (h : k.natAbs = 2 ^ (m + 1)) :
    ∃ j : ℤ, (if k < 0 then -2 ^ m else 2 ^ m) = j ∧ k = 2 * j ∧ j.natAbs = 2 ^ m ∧ (j < 0 ↔ k < 0) := by
  have hk : k = 2 * 2 ^ m ∨ k = -(2 * 2 ^ m) := by
    rw [← pow_succ', ← Int.natAbs_eq_natAbs_iff, h, Int.natAbs_pow]
    rfl
  have hpos : (0 : ℤ) < 2 ^ m := by positivity
  obtain ⟨j, hj, hkj⟩ : ∃ j : ℤ, (if k < 0 then -2 ^ m else 2 ^ m) = j ∧ k = 2 * j := ⟨_, rfl, by split <;> omega⟩
  rw [hkj, Int.natAbs_mul, pow_succ'] at h
  exact ⟨j, hj, hkj, Nat.eq_of_mul_eq_mul_left two_pos h, by omega⟩

/-- The machine rounds the exact number to that of the rule, normalized, and keeps its sign. -/
theorem roundTo_spec {m : Nat} {rm : BitVec 5} {a : Exact} (hd : 0 < a.den) (hn : a.num ≠ 0) :
    (roundTo m rm a).Normal m ∧ (roundTo m rm a).toRat m = Rule.round m rm a.toRat ∧
      ((roundTo m rm a).k < 0 ↔ a.num < 0) := by
  have hr : a.toRat ≠ 0 := mt (Exact.toRat_eq_zero_iff hd).1 hn
  obtain ⟨hql, hqu⟩ := abs_div_ulp hr m
  have hround := Rule.round_eq m rm a.toRat
  rw [Exact.log_abs_toRat hd hn] at hql hqu hround
  have hk : roundScaled rm a.num a.den (m + 1 - binade a.num.natAbs a.den) =
      Rule.roundInt rm (a.toRat / 2 ^ (binade a.num.natAbs a.den - 1 + a.exp - m)) := by
    rw [roundScaled_eq rm a.num hd, Exact.toRat, mul_div_assoc, ← zpow_sub₀ two_ne_zero]
    congr 3
    ring
  obtain ⟨hkl, hku, hsign⟩ := Rule.natAbs_roundInt (rm := rm) hql hqu
  rw [div_lt_iff₀ (by positivity), zero_mul, Exact.toRat_neg_iff hd] at hsign
  rw [← hk] at hkl hku hsign hround
  simp only [roundTo]
  generalize roundScaled rm a.num a.den (m + 1 - binade a.num.natAbs a.den) = k at *
  generalize binade a.num.natAbs a.den = l at *
  split
  next htop =>
    have hulp : (2 : ℚ) ^ (l + a.exp + 1 - m - 1) = 2 * 2 ^ (l - 1 + a.exp - m) := by
      rw [← zpow_one_add₀ two_ne_zero]
      congr 1
      ring
    obtain ⟨j, hj, hkj, hjm, hjneg⟩ := exists_half_of_natAbs_eq htop
    rw [hj]
    refine ⟨⟨hjm.ge, hjm.trans_lt (Nat.pow_lt_pow_succ one_lt_two)⟩, ?_, hjneg.trans hsign⟩
    rw [hround, Rounded.toRat, hulp, hkj, Int.cast_mul, Int.cast_ofNat]
    ring
  next hne =>
    refine ⟨⟨hkl, lt_of_le_of_ne hku hne⟩, ?_, hsign⟩
    rw [hround, Rounded.toRat]
    congr 2
    ring

theorem Rounded.Normal.toRat_pos_iff {m : Nat} {x : Rounded} (hx : x.Normal m) : 0 < x.toRat m ↔ ¬ x.k < 0 := by
  have hk : 0 < x.k.natAbs := (Nat.two_pow_pos m).trans_le hx.1
  rw [Rounded.toRat, mul_pos_iff_of_pos_right (by positivity), Int.cast_pos]
  omega

/-- Encoding a normalized result: its binade is its exponent, and its mantissa is `k` without the leading bit. -/
theorem encFloat_eq {p : Prec} {x : Rounded} (hx : x.Normal (mantBits p)) :
    encFloat p x = Rule.enc p (x.toRat (mantBits p)) := by
  have hsign := hx.toRat_pos_iff
  obtain ⟨hl, hu⟩ := hx
  have hpos : 0 < 2 ^ mantBits p := by positivity
  have hulp : (0 : ℚ) < 2 ^ (x.e - mantBits p - 1) := by positivity
  have habs : |x.toRat (mantBits p)| = (x.k.natAbs : ℚ) * 2 ^ (x.e - mantBits p - 1) := by
    rw [Rounded.toRat, abs_mul, abs_of_pos hulp, Nat.cast_natAbs, Int.cast_abs]
  have hlog : Int.log 2 |x.toRat (mantBits p)| + 1 = x.e := by
    have hk : Int.log 2 (x.k.natAbs : ℚ) = mantBits p := log_two_eq (by exact_mod_cast hl) (by exact_mod_cast hu)
    have hkpos : (0 : ℚ) < x.k.natAbs := Nat.cast_pos.2 (hpos.trans_le hl)
    rw [habs, log_two_mul_zpow hkpos, hk]
    ring
  have hfloor : ⌊|x.toRat (mantBits p)| / 2 ^ (x.e - mantBits p - 1)⌋.toNat = x.k.natAbs := by
    rw [habs, mul_div_cancel_right₀ _ hulp.ne', Int.floor_natCast, Int.toNat_natCast]
  have hfrac : x.k.natAbs % 2 ^ mantBits p = x.k.natAbs - 2 ^ mantBits p := by
    rw [Nat.mod_eq_sub_mod hl, Nat.mod_eq_of_lt (by omega)]
  simp only [encFloat, Rule.enc, hlog, hfloor, hfrac, hsign, ite_not, Bool.decide_and, beq_eq_decide]

/-! ### Exact numbers (R401, R402) -/

section
variable {a b : Exact}

theorem Exact.toRat_ofInt (v : ℤ) : (Exact.ofInt v).toRat = v := by simp [Exact.toRat, Exact.ofInt]

theorem Exact.toRat_of_den_one (hd : a.den = 1) : a.toRat = a.num * 2 ^ a.exp := by
  rw [Exact.toRat, hd, Nat.cast_one, div_one]

theorem Exact.toRat_add (ha : a.den = 1) (hb : b.den = 1) : (a.add b).toRat = a.toRat + b.toRat := by
  rw [toRat_of_den_one ha, toRat_of_den_one hb, toRat_of_den_one (a := a.add b) rfl,
    ← pow_toNat_sub_mul_zpow (min_le_left a.exp b.exp), ← pow_toNat_sub_mul_zpow (min_le_right a.exp b.exp)]
  simp only [Exact.add]
  push_cast
  ring

theorem Exact.toRat_mul : (a.mul b).toRat = a.toRat * b.toRat := by
  simp only [Exact.toRat, Exact.mul, zpow_add₀ (two_ne_zero (α := ℚ))]
  push_cast
  ring

theorem Exact.toRat_div (ha : a.den = 1) (hb : b.den = 1) : (a.div b).toRat = a.toRat / b.toRat := by
  have hquo : ((if b.num < 0 then -a.num else a.num : ℤ) : ℚ) / b.num.natAbs = a.num / b.num := by
    rw [Nat.cast_natAbs]
    split
    next h => rw [abs_of_neg h, Int.cast_neg, Int.cast_neg, neg_div_neg_eq]
    next h => rw [abs_of_nonneg (not_lt.1 h)]
  rw [toRat_of_den_one ha, toRat_of_den_one hb, mul_div_mul_comm, ← hquo, ← zpow_sub₀ two_ne_zero]
  rfl

theorem Exact.toRat_scale (k : ℤ) : (a.scale k).toRat = a.toRat * 2 ^ k := by
  simp only [Exact.toRat, Exact.scale, zpow_add₀ (two_ne_zero (α := ℚ)), mul_assoc]

end

theorem toRat_fval (p : Prec) (w : BitVec p.bits) : (fval p w).toRat = Rule.val p w := by
  rw [Exact.toRat_of_den_one rfl]
  simp only [fval, Rule.val, Rule.posVal]
  split
  next => rw [Int.cast_neg, Int.cast_natCast, neg_mul]
  next => rw [Int.cast_natCast]

theorem fval_num_ne_zero (p : Prec) (w : BitVec p.bits) : (fval p w).num ≠ 0 := by
  have hpos : 0 < 2 ^ mantBits p := by positivity
  simp only [fval]
  split <;> omega

/-! ### Delivery (R419) -/

section
variable {us : SW}

theorem Us.legal_modes (h : Us.legal us = true) :
    Us.fltOvflMode us ≠ 3 ∧ Us.fltUnflMode us ≠ 3 ∧ Us.fltNanMode us ≠ 2 ∧ Us.fltNanMode us ≠ 3 := by
  simp only [Us.legal, Bool.and_eq_true, bne_iff_ne] at h
  obtain ⟨⟨⟨⟨_, hovfl⟩, hunfl⟩, hnan2⟩, hnan3⟩ := h
  exact ⟨hovfl, hunfl, hnan2, hnan3⟩

/-- A mode field with a legal value traps exactly when it is zero. -/
theorem agrees_fltMode {α : Type} {mode : BitVec 2} (h : mode ≠ 3) (k : SoftVec) (x : α) :
    Agrees (fltMode mode k >>= fun _ => .ok x) (if mode = 0 then .trap k else .value x) := by
  rw [fltMode, if_neg h]
  split <;> rfl

theorem agrees_nanMode {α : Type} (h : Us.legal us = true) (x : α) :
    Agrees (nanMode us >>= fun _ => .ok x) (if Us.fltNanMode us = 0 then .trap .fltNan else .value x) := by
  obtain ⟨-, -, h2, h3⟩ := Us.legal_modes h
  have hmode : ∀ m : BitVec 2, m ≠ 2 → m ≠ 3 → m ≠ 0 → m = 1 := by decide
  rw [nanMode]
  split
  next => rfl
  next h0 =>
    rw [if_pos (hmode _ h2 h3 h0)]
    rfl

theorem agrees_deliverSym (h : Us.legal us = true) (wn : Bool) (n : Nat) (c : FClass) :
    Agrees (deliverSym us wn n c) (Rule.deliverSym us wn n c) := by
  obtain ⟨hovfl, hunfl, -, -⟩ := Us.legal_modes h
  cases c with
  | nan => exact agrees_nanMode h _
  | ovf | movf => exact agrees_fltMode hovfl _ _
  | unf | munf => exact agrees_fltMode hunfl _ _
  | zero | neg | pos => rfl

theorem agrees_deliverNum (h : Us.legal us = true) (wn : Bool) (p : Prec) {a : Exact} (hd : 0 < a.den) :
    Agrees (deliverNum us wn p a) (Rule.deliverNum us wn p a.toRat) := by
  rw [deliverNum, Rule.deliverNum]
  by_cases h0 : a.num = 0
  · rw [if_pos h0, if_pos ((Exact.toRat_eq_zero_iff hd).2 h0)]
    exact agrees_deliverSym h wn p.bits .zero
  · obtain ⟨hovfl, hunfl, -, -⟩ := Us.legal_modes h
    obtain ⟨hnormal, hround, hsign⟩ := roundTo_spec (m := mantBits p) (rm := Us.rndMode us) hd h0
    have hpos : 0 < Rule.round (mantBits p) (Us.rndMode us) a.toRat ↔ ¬ a.num < 0 := by
      rw [← hsign, ← hround, hnormal.toRat_pos_iff]
    rw [if_neg h0, if_neg (mt (Exact.toRat_eq_zero_iff hd).1 h0)]
    simp only [encFloat_eq hnormal, hround, hpos, ite_not]
    split
    next => exact agrees_fltMode hovfl _ _
    split
    next => exact agrees_fltMode hunfl _ _
    next => rfl

end

/-! ### Propagation (R421 to R423) -/

theorem lookup_addTable (a b : FClass) : Rule.lookup Rule.addTable a b = addEntry a b := by
  cases a <;> cases b <;> rfl

theorem lookup_mulTable (a b : FClass) : Rule.lookup Rule.mulTable a b = mulEntry a b := by
  cases a <;> cases b <;> rfl

theorem lookup_divTable (a b : FClass) : Rule.lookup Rule.divTable a b = divEntry a b := by
  cases a <;> cases b <;> rfl

section
variable {us : SW}

theorem agrees_fAdd (h : Us.legal us = true) (p : Prec) (x y : BitVec p.bits) :
    Agrees (fAdd p us x y) (Rule.fadd p us x y) := by
  rw [fAdd, Rule.fadd, lookup_addTable, ← toRat_fval, ← toRat_fval, ← Exact.toRat_add rfl rfl]
  cases addEntry (fclass x) (fclass y) with
  | sym c => exact agrees_deliverSym h true p.bits c
  | left | right => rfl
  | expr => exact agrees_deliverNum h true p one_pos

theorem fnegWord_eq {n : Nat} (w : BitVec n) : Rule.fnegWord w = -w := by
  rw [Rule.fnegWord, BitVec.ofInt_neg, BitVec.ofInt_toInt]

theorem agrees_fSub (h : Us.legal us = true) (p : Prec) (x y : BitVec p.bits) :
    Agrees (fSub p us x y) (Rule.fadd p us x (Rule.fnegWord y)) := by
  rw [fnegWord_eq]
  exact agrees_fAdd h p x (-y)

theorem agrees_fMul (h : Us.legal us = true) (pd p : Prec) (x y : BitVec p.bits) :
    Agrees (fMul pd p us x y) (Rule.fmul pd p us x y) := by
  rw [fMul, Rule.fmul, lookup_mulTable, ← toRat_fval, ← toRat_fval, ← Exact.toRat_mul]
  cases mulEntry (fclass x) (fclass y) with
  | sym c => exact agrees_deliverSym h true pd.bits c
  | _ => exact agrees_deliverNum h true pd one_pos

theorem agrees_fDiv (h : Us.legal us = true) (pd pa pb : Prec) (x : BitVec pa.bits) (y : BitVec pb.bits) :
    Agrees (fDiv pd pa pb us x y) (Rule.fdiv pd pa pb us x y) := by
  rw [fDiv, Rule.fdiv, lookup_divTable, ← toRat_fval, ← toRat_fval, ← Exact.toRat_div rfl rfl]
  cases divEntry (fclass x) (fclass y) with
  | sym c => exact agrees_deliverSym h true pd.bits c
  | _ => exact agrees_deliverNum h true pd (Int.natAbs_pos.2 (fval_num_ne_zero pb y))

theorem agrees_fSc (h : Us.legal us = true) (p : Prec) (x : BitVec p.bits) (k : SW) :
    Agrees (fSc p us x k) (Rule.fsc p us x k) := by
  rw [fSc, Rule.fsc, ← toRat_fval, ← Exact.toRat_scale]
  cases fclass x with
  | pos | neg => exact agrees_deliverNum h true p one_pos
  | _ => exact agrees_deliverSym h true p.bits _

theorem agrees_fTrans (h : Us.legal us = true) (pd p : Prec) (y : BitVec p.bits) :
    Agrees (fTrans pd p us y) (Rule.ftrans pd p us y) := by
  rw [fTrans, Rule.ftrans, ← toRat_fval]
  cases fclass y with
  | pos | neg => exact agrees_deliverNum h true pd one_pos
  | _ => exact agrees_deliverSym h true pd.bits _

theorem agrees_fFloat (h : Us.legal us = true) {n : Nat} (p : Prec) (y : BitVec n) :
    Agrees (fFloat p us y) (Rule.deliverNum us false p y.toInt) := by
  rw [fFloat, ← Exact.toRat_ofInt]
  exact agrees_deliverNum h false p one_pos

theorem roundInt_eq (rm : BitVec 5) {a : Exact} (hd : 0 < a.den) : roundInt rm a = Rule.roundInt rm a.toRat :=
  roundScaled_eq rm a.num hd a.exp

theorem agrees_fFix (h : Us.legal us = true) (rnd : FixRnd) (n : Nat) (p : Prec) (y : BitVec p.bits) :
    Agrees (fFix rnd n p us y) (Rule.fix (fixMode us rnd) n p us y) := by
  rw [fFix, Rule.fix, ← toRat_fval, ← roundInt_eq _ one_pos]
  cases fclass y with
  | zero => exact agrees_int 0
  | pos | neg => exact agrees_int _
  | _ => exact agrees_nanMode h _

/-! ### Words of the opposite sign (R424, R452, R453) -/

theorem msb_intMax {n : Nat} (hn : 0 < n) : (BitVec.intMax n).msb = false := by
  have hpos : 0 < 2 ^ (n - 1) := by positivity
  rw [BitVec.msb_eq_false_iff_two_mul_lt, BitVec.toNat_intMax]
  have := Nat.two_pow_pred_add_two_pow_pred hn
  omega

/-- The word of minus infinity is the negated word of infinity. -/
theorem intMin_add_one (n : Nat) : BitVec.intMin n + 1 = -BitVec.intMax n := by
  rw [← BitVec.neg_intMin, ← BitVec.intMax_add_one, BitVec.neg_add, BitVec.ofNat_eq_ofNat, BitVec.sub_add_cancel]

theorem msb_intMin_add_one {n : Nat} (hn : 1 < n) : (BitVec.intMin n + 1).msb = true := by
  have hpow : 2 ^ 1 ≤ 2 ^ (n - 1) := Nat.pow_le_pow_right two_pos (by omega)
  have hne : BitVec.intMax n ≠ 0 := by
    rw [Ne, ← BitVec.toNat_inj, BitVec.toNat_intMax, BitVec.ofNat_eq_ofNat, BitVec.toNat_zero]
    omega
  have hmin : BitVec.intMax n ≠ BitVec.intMin n := fun he => by
    have hmsb := congrArg BitVec.msb he
    rw [msb_intMax (by omega), BitVec.msb_intMin, decide_eq_true (by omega)] at hmsb
    exact Bool.false_ne_true hmsb
  rw [intMin_add_one, BitVec.msb_neg, msb_intMax (by omega)]
  simpa using ⟨hne, hmin⟩

theorem msb_one_eq_false {n : Nat} (hn : 1 < n) : (1 : BitVec n).msb = false :=
  msb_of_le_one hn (BitVec.toNat_one (Nat.zero_lt_of_lt hn)).le

/-- The classes of the negative words are the negative ones, NAN apart. -/
theorem isNeg_fclass {n : Nat} (hn : 1 < n) (w : BitVec n) : (fclass w).isNeg = (w.msb && w != BitVec.intMin n) := by
  have hpos : 0 < n := Nat.zero_lt_of_lt hn
  rw [fclass]
  split_ifs with hzero hnan hovf hmovf hunf hmunf hmsb
  · simp [hzero, FClass.isNeg]
  · simp [hnan, FClass.isNeg]
  · rw [hovf, msb_intMax hpos]
    rfl
  · rw [bne_iff_ne.2 hnan, hmovf, msb_intMin_add_one hn]
    rfl
  · rw [hunf, msb_one_eq_false hn]
    rfl
  · rw [bne_iff_ne.2 hnan, hmunf, BitVec.msb_allOnes hpos]
    rfl
  · rw [bne_iff_ne.2 hnan, hmsb]
    rfl
  · rw [Bool.eq_false_of_not_eq_true hmsb]
    rfl

/-- Negation exchanges the patterns of the infinities and of the infinitesimals, and keeps that of NAN. -/
theorem fclass_neg {n : Nat} (hn : 1 < n) (w : BitVec n) : fclass (-w) = negSym (fclass w) := by
  have hpos : 0 < n := Nat.zero_lt_of_lt hn
  have hone : (-1 : BitVec n) = BitVec.allOnes n := BitVec.neg_one_eq_allOnes
  have hzero : -w = 0 ↔ w = 0 := by rw [BitVec.neg_eq_iff_eq_neg, BitVec.ofNat_eq_ofNat, BitVec.neg_zero]
  have hnan : -w = BitVec.intMin n ↔ w = BitVec.intMin n := by rw [BitVec.neg_eq_iff_eq_neg, BitVec.neg_intMin]
  have hovf : -w = BitVec.intMax n ↔ w = BitVec.intMin n + 1 := by rw [BitVec.neg_eq_iff_eq_neg, intMin_add_one]
  have hmovf : -w = BitVec.intMin n + 1 ↔ w = BitVec.intMax n := by rw [intMin_add_one, neg_inj]
  have hunf : -w = 1 ↔ w = BitVec.allOnes n := by rw [BitVec.neg_eq_iff_eq_neg, hone]
  have hmunf : -w = BitVec.allOnes n ↔ w = 1 := by rw [← hone, neg_inj]
  have hinf : BitVec.intMax n ≠ BitVec.intMin n + 1 := ne_of_apply_ne BitVec.msb (by
    rw [msb_intMax hpos, msb_intMin_add_one hn]
    exact Bool.false_ne_true)
  have heps : 1 ≠ BitVec.allOnes n := ne_of_apply_ne BitVec.msb (by
    rw [msb_one_eq_false hn, BitVec.msb_allOnes hpos]
    exact Bool.false_ne_true)
  by_cases hw0 : w = 0
  · simp [hw0, fclass, negSym]
  by_cases hwnan : w = BitVec.intMin n
  · rw [fclass, if_neg (mt hzero.1 hw0), if_pos (hnan.2 hwnan), fclass, if_neg hw0, if_pos hwnan]
    rfl
  have hmsb : (-w).msb = true ↔ ¬ w.msb = true := by
    have hne : (w != 0#n) = true := bne_iff_ne.2 hw0
    rw [BitVec.msb_neg, hne, bne_iff_ne.2 hwnan, Bool.and_self, Bool.true_xor, Bool.not_eq_true', Bool.not_eq_true]
  simp only [fclass, hzero, hnan, hovf, hmovf, hunf, hmunf, hw0, hwnan, if_false, hmsb, ite_not]
  split_ifs
  any_goals rfl
  · exact absurd (‹w = BitVec.intMax n›.symm.trans ‹_›) hinf
  · exact absurd (‹w = 1›.symm.trans ‹_›) heps

theorem agrees_deliverWord (h : Us.legal us = true) {n : Nat} (w : BitVec n) :
    Agrees (if (fclass w).isOrd then deliverWord us w else deliverSym us true n (fclass w)) (Rule.deliverWord us w) := by
  rw [Rule.deliverWord]
  cases fclass w with
  | pos | neg => rfl
  | _ => exact agrees_deliverSym h true n _

theorem isOrd_negSym (c : FClass) : (negSym c).isOrd = c.isOrd := by cases c <;> rfl

theorem agrees_fNeg (h : Us.legal us = true) {n : Nat} (hn : 1 < n) (y : BitVec n) :
    Agrees (fNeg us y) (Rule.deliverWord us (Rule.fnegWord y)) := by
  rw [fNeg, ← isOrd_negSym, ← fclass_neg hn, fnegWord_eq]
  exact agrees_deliverWord h (-y)

theorem fclass_abs {n : Nat} (hn : 1 < n) (w : BitVec n) :
    fclass (if w.msb then -w else w) = if (fclass w).isNeg then negSym (fclass w) else fclass w := by
  rw [isNeg_fclass hn]
  by_cases hmin : w = BitVec.intMin n
  · simp [hmin]
  · simp only [bne_iff_ne.2 hmin, Bool.and_true, ← fclass_neg hn]
    split <;> rfl

theorem agrees_fAbs (h : Us.legal us = true) {n : Nat} (hn : 1 < n) (y : BitVec n) :
    Agrees (fAbs us y) (Rule.deliverWord us (if y.toInt < 0 then Rule.fnegWord y else y)) := by
  have hord : (fclass y).isOrd = (fclass (if y.msb then -y else y)).isOrd := by
    rw [fclass_abs hn]
    split
    next => rw [isOrd_negSym]
    next => rfl
  rw [fAbs, fnegWord_eq, ← fclass_abs hn, hord]
  simp only [BitVec.msb_eq_toInt, decide_eq_true_eq]
  exact agrees_deliverWord h _

theorem agrees_fMin (h : Us.legal us = true) {n : Nat} (x y : BitVec n) :
    Agrees (fMin us x y) (Rule.fpick Rule.min us x y) := by
  rw [fMin, Rule.fpick, ← minInt_rule]
  split
  next => exact agrees_deliverSym h true n .nan
  next => exact agrees_deliverWord h _

theorem agrees_fMax (h : Us.legal us = true) {n : Nat} (x y : BitVec n) :
    Agrees (fMax us x y) (Rule.fpick Rule.max us x y) := by
  rw [fMax, Rule.fpick, ← maxInt_rule]
  split
  next => exact agrees_deliverSym h true n .nan
  next => exact agrees_deliverWord h _

end

/-- Settles O35: on ordinary words the machine's aligned sum is the exact rational one. -/
theorem floatSums : Obligations.FloatSums := by
  refine ⟨?fadd, ?fsub, ?fsubv⟩
  case fadd => and_intros <;> exact top3Gives_of (fun _ _ _ _ => rfl) fun _ x y h => agrees_fAdd h _ x y
  case fsub => and_intros <;> exact top3Gives_of (fun _ _ _ _ => rfl) fun _ x y h => agrees_fSub h _ x y
  case fsubv => and_intros <;> exact top3Gives_of (fun _ _ _ _ => rfl) fun _ x y h => agrees_fSub h _ y x

/-- Settles O36: sign and magnitude of the classes give the printed tables, and a divisor that is an ordinary word is not zero. -/
theorem floatProductsAndQuotients : Obligations.FloatProductsAndQuotients := by
  refine ⟨?fmult, ?fmultlH, ?fmultlS, ?fdiv, ?fdivv, ?fdivlH, ?fdivlS, ?fdivlvH, ?fdivlvS⟩
  case fmult => and_intros <;> exact top3Gives_of (fun _ _ _ _ => rfl) fun _ x y h => agrees_fMul h _ _ x y
  case fmultlH | fmultlS => exact top3Gives_of (fun _ _ _ _ => rfl) fun _ x y h => agrees_fMul h _ _ x y
  case fdiv => and_intros <;> exact top3Gives_of (fun _ _ _ _ => rfl) fun _ x y h => agrees_fDiv h _ _ _ x y
  case fdivv => and_intros <;> exact top3Gives_of (fun _ _ _ _ => rfl) fun _ x y h => agrees_fDiv h _ _ _ y x
  case fdivlH | fdivlS => exact top3Gives_of (fun _ _ _ _ => rfl) fun _ x y h => agrees_fDiv h _ _ _ x y
  case fdivlvH | fdivlvS => exact top3Gives_of (fun _ _ _ _ => rfl) fun _ x y h => agrees_fDiv h _ _ _ y x

/-- Settles O37: each value of the rules is one exact number delivered, or one word or its symbol. -/
theorem floatScalesAndConversions : Obligations.FloatScalesAndConversions := by
  refine ⟨?fsc, ?fscv, ?ftransH, ?ftransS, ?ftransD, ?floatH, ?floatS, ?floatD, ?fneg, ?fabs, ?fmin, ?fmax⟩
  case fsc => and_intros <;> exact top3Gives_of (fun _ _ _ _ => rfl) fun _ x k h => agrees_fSc h _ x k
  case fscv => and_intros <;> exact top3Gives_of (fun _ _ _ _ => rfl) fun _ k x h => agrees_fSc h _ x k
  case ftransH | ftransS | ftransD =>
    and_intros <;> exact xop2Gives_of (fun _ _ _ => rfl) fun _ y h => agrees_fTrans h _ _ y
  case floatH | floatS | floatD => and_intros <;> exact xop2Gives_of (fun _ _ _ => rfl) fun _ y h => agrees_fFloat h _ y
  case fneg => and_intros <;> exact xop2Gives_of (fun _ _ _ => rfl) fun _ y h => agrees_fNeg h (one_lt_bits _) y
  case fabs => and_intros <;> exact xop2Gives_of (fun _ _ _ => rfl) fun _ y h => agrees_fAbs h (one_lt_bits _) y
  case fmin => and_intros <;> exact top3Gives_of (fun _ _ _ _ => rfl) fun _ x y h => agrees_fMin h x y
  case fmax => and_intros <;> exact top3Gives_of (fun _ _ _ _ => rfl) fun _ x y h => agrees_fMax h x y

/-- Settles O38: each rounding modifier is the mode of `FixMode` (R413). -/
theorem floatsToIntegers : Obligations.FloatsToIntegers := by
  refine ⟨?fl, ?cl, ?dm, ?hp, ?us⟩
  case fl => and_intros <;> exact xop2Gives_of (fun _ _ _ => rfl) fun _ y h => agrees_fFix h .fl _ _ y
  case cl => and_intros <;> exact xop2Gives_of (fun _ _ _ => rfl) fun _ y h => agrees_fFix h .cl _ _ y
  case dm => and_intros <;> exact xop2Gives_of (fun _ _ _ => rfl) fun _ y h => agrees_fFix h .dm _ _ y
  case hp => and_intros <;> exact xop2Gives_of (fun _ _ _ => rfl) fun _ y h => agrees_fFix h .hp _ _ y
  case us => and_intros <;> exact xop2Gives_of (fun _ _ _ => rfl) fun _ y h => agrees_fFix h .us _ _ y

end Sys2Proof.Machine

namespace Sys2Proof.Machine

/-! Moves, flags and logical instructions (42_move_flag_boolean.md): what the operations of this family add to the frames of
`Laws/Families.lean`. -/

/-! ### Families numbered in the mnemonic (R474, R475, R479, R480) -/

/-- The instruction with number `k` of a family runs the body `b k`. -/
def RunsNumbered (mks : List (OD → OD → Instr)) (b : Nat → OD → OD → Body) : Prop :=
  ∀ ⦃k mk⦄, mks[k]? = some mk → ∀ o1 o2 s, exec (mk o1 o2) s = runInstr (mk o1 o2).form (b k o1 o2) s

theorem RunsNumbered.nil {b : Nat → OD → OD → Body} : RunsNumbered [] b := by
  rintro k mk ⟨⟩

theorem RunsNumbered.cons {mk : OD → OD → Instr} {mks : List (OD → OD → Instr)} {b : Nat → OD → OD → Body}
    (h0 : ∀ o1 o2 s, exec (mk o1 o2) s = runInstr (mk o1 o2).form (b 0 o1 o2) s)
    (h : RunsNumbered mks fun k => b (k + 1)) : RunsNumbered (mk :: mks) b
  | 0, _, rfl => h0
  | _ + 1, _, hk => h hk

theorem movmqs_run : RunsNumbered movmqs fun k => moveMany .q (k + 2) := by
  iterate 31 refine .cons (fun _ _ _ => rfl) ?_
  exact .nil

theorem movmss_run : RunsNumbered movmss fun k => moveMany .s (k + 2) := by
  iterate 31 refine .cons (fun _ _ _ => rfl) ?_
  exact .nil

theorem slrs_run : RunsNumbered slrs fun k => saveLoadReg (BitVec.ofNat 5 k) := by
  iterate 32 refine .cons (fun _ _ _ => rfl) ?_
  exact .nil

theorem slradrs_run : RunsNumbered slradrs fun k => saveLoadRegAddr (BitVec.ofNat 5 k) := by
  iterate 32 refine .cons (fun _ _ _ => rfl) ?_
  exact .nil

/-! ### Addresses (R484, R486) -/

section
variable {s : State} {o1 o2 : OD} {x1 : Operand} {k : ConstKind} {w : SW} {l : Loc} {d : Span} {env : Env}

theorem moveAddr_imm (h1 : s.evalOD o1 = .ok x1) (h2 : s.evalOD o2 = .ok (.imm k w)) :
    moveAddr o1 o2 env s = .error (.fatal .immediate) := by
  simp only [moveAddr, h1, h2, Operand.asLoc, M.ok_bind, M.error_bind]

theorem moveAddr_loc (h1 : s.evalOD o1 = .ok x1) (h2 : s.evalOD o2 = .ok (.loc l)) (hd : s.checkWrite x1 .s = .ok d) :
    moveAddr o1 o2 env s = .ok ((s.writeSpan .s d (Rule.addrWord l)).setPc env.next) := by
  simp only [moveAddr, h1, h2, hd, Operand.asLoc, M.ok_bind, addrWord_rule]

theorem movePhys_imm (hm : Ps.crntMode s.ps = true) (h1 : s.evalOD o1 = .ok x1) (h2 : s.evalOD o2 = .ok (.imm k w)) :
    movePhys o1 o2 env s = .error (.fatal .immediate) := by
  have hpriv : s.privileged env = .ok () := State.privileged_ok.2 hm
  simp only [movePhys, hpriv, h1, h2, Operand.asLoc, M.ok_bind, M.error_bind]

/-- In executive mode `MOVPHY` translates every address, those of the registers included, and checks no access. -/
theorem movePhys_loc {pa : PAddr} {acc : Option (BitVec 6)} (hm : Ps.crntMode s.ps = true) (h1 : s.evalOD o1 = .ok x1)
    (h2 : s.evalOD o2 = .ok (.loc l)) (hd : s.checkWrite x1 .s = .ok d)
    (hpa : s.translate (s.space l.ctx) l.va = .ok (pa, acc)) :
    movePhys o1 o2 env s = .ok ((s.writeSpan .s d (BitVec.ofNat 36 pa.toNat)).setPc env.next) := by
  have hpriv : s.privileged env = .ok () := State.privileged_ok.2 hm
  simp only [movePhys, hpriv, h1, h2, hd, hpa, Operand.asLoc, M.ok_bind, BitVec.ofNat_toNat]

end

/-! ### Flags (R490, R492, R494) -/

theorem compareFlag_rule {n : Nat} (c : ACond) (x y : BitVec n) :
    compareFlag c x y = Rule.flag (Rule.acond c x.toInt y.toInt) := by
  rw [compareFlag, flagWord_rule, ACond.rel_rule]

theorem boundFlag_rule {n : Nat} (b : BoundKind) (x y : BitVec n) :
    boundFlag b x y = Rule.flag (decide (b.lo n ≤ y.toInt ∧ y.toInt ≤ x.toInt)) := by
  rw [boundFlag, flagWord_rule, inBounds_rule]

theorem cmpsfGives_of {c : ACond} {p : Prec} {mk : TMode → OD → OD → Instr}
    (he : ∀ t o1 o2 s, exec (mk t o1 o2) s =
      runInstr (mk t o1 o2).form (top3 .s p p (pureAlu (compareFlag c)) t o1 o2) s) : CmpsfGives c p mk :=
  top3Gives_of he fun _ x y _ => agrees_plain (compareFlag_rule c x y)

theorem bndsfGives_of {b : BoundKind} {p : Prec} {mk : TMode → OD → OD → Instr}
    (he : ∀ t o1 o2 s, exec (mk t o1 o2) s =
      runInstr (mk t o1 o2).form (top3 .s p p (pureAlu (boundFlag b)) t o1 o2) s) :
    BndsfGives (fun p => b.lo p.bits) p mk :=
  top3Gives_of he fun _ x y _ => agrees_plain (boundFlag_rule b x y)

/-! ### Bits of the logical instructions (R502 to R513) -/

theorem getLsbD_not_fin {n : Nat} (x : BitVec n) (i : Fin n) : (~~~x).getLsbD i = !x.getLsbD i := by
  rw [BitVec.getLsbD_not, decide_eq_true i.isLt, Bool.true_and]

theorem eq_ofFnLE {n : Nat} {z : BitVec n} {g : Fin n → Bool} (h : ∀ i : Fin n, z.getLsbD i = g i) :
    z = BitVec.ofFnLE g := by
  refine BitVec.eq_of_getLsbD_eq fun i hi => ?_
  rw [BitVec.getLsbD_ofFnLE, dif_pos hi]
  exact h ⟨i, hi⟩

/-- A logical instruction of three addresses gives its truth function when each bit of its operation is that function. -/
theorem bitwiseGives_of {f : Bool → Bool → Bool} {p : Prec} {mk : TMode → OD → OD → Instr}
    {op : BitVec p.bits → BitVec p.bits → BitVec p.bits}
    (he : ∀ t o1 o2 s, exec (mk t o1 o2) s = runInstr (mk t o1 o2).form (top3 p p p (pureAlu op) t o1 o2) s)
    (h : ∀ x y (i : Fin p.bits), (op x y).getLsbD i = f (x.getLsbD i) (y.getLsbD i)) : BitwiseGives f p mk :=
  top3Gives_of he fun _ x y _ => agrees_plain (eq_ofFnLE (h x y))

/-! ### The obligations -/

/-- Settles O39: `MOV` by the width of its destination, `MOVADR` and `MOVPHY` by the kind of OP2. -/
theorem singleMoves : Obligations.SingleMoves := by
  refine ⟨?movQ, ?movH, ?movS, ?movD, ?movadr, ?movphy⟩
  case movQ | movH | movS | movD =>
    and_intros <;> exact xop2Gives_of (fun _ _ _ => rfl) fun _ y _ => agrees_plain (BitVec.ofNat_toNat _ y).symm
  case movadr =>
    intro o1 o2 s x1 x2 hwf h1 h2
    cases x2 with
    | imm k w => exact trapsFatal_of rfl (moveAddr_imm h1 h2)
    | loc l => exact fun d hd => stores_of [⟨.s, d, _⟩] rfl (moveAddr_loc h1 h2 hd) rfl hwf fun _ hx => hx
  case movphy =>
    intro o1 o2 s x1 x2 hwf hm h1 h2
    cases x2 with
    | imm k w => exact trapsFatal_of rfl (movePhys_imm hm h1 h2)
    | loc l =>
      exact fun d pa acc hd hpa =>
        stores_of [⟨.s, d, _⟩] rfl (movePhys_loc hm h1 h2 hd hpa) rfl hwf fun _ hx => hx

/-- Settles O40: each instruction of a numbered family runs its operation with the number of its mnemonic. -/
theorem multipleMoves : Obligations.MultipleMoves := by
  refine ⟨?movmq, ?movmq64, ?movmq128, ?movms, ?exch, ?slr, ?slradr⟩
  case movmq => exact fun _ _ hk => movesMany_of (movmqs_run hk)
  case movmq64 | movmq128 => exact movesMany_of fun _ _ _ => rfl
  case movms => exact fun _ _ hk => movesMany_of (movmss_run hk)
  case exch => and_intros <;> exact exchanges_of fun _ _ _ => rfl
  case slr => exact fun _ _ hk => savesAndLoads_of (slrs_run hk)
  case slradr => exact fun _ _ hk => savesAndLoadsAddress_of (slradrs_run hk)

/-- Settles O41: a flag is the relation of R561, or the bounds check of R494, of the signed operands. -/
theorem flagResults : Obligations.FlagResults := by
  refine ⟨?gtr, ?eql, ?geq, ?lss, ?neq, ?leq, ?between, ?min, ?minusOne, ?zero, ?one⟩
  case gtr | eql | geq | lss | neq | leq => and_intros <;> exact cmpsfGives_of fun _ _ _ _ => rfl
  case between => and_intros <;> exact bndsfBetween_of fun _ _ _ _ => rfl
  case min => and_intros <;> exact bndsfGives_of (b := .min) fun _ _ _ _ => rfl
  case minusOne => and_intros <;> exact bndsfGives_of (b := .m1) fun _ _ _ _ => rfl
  case zero => and_intros <;> exact bndsfGives_of (b := .zero) fun _ _ _ _ => rfl
  case one => and_intros <;> exact bndsfGives_of (b := .one) fun _ _ _ _ => rfl

/-- Settles O42: the bits of each operation of the machine. -/
theorem logicalOperations : Obligations.LogicalOperations := by
  refine ⟨?not, ?and, ?andtc, ?andct, ?or, ?ortc, ?orct, ?nand, ?nor, ?xor, ?eqv⟩
  case not =>
    and_intros <;> exact xop2Gives_of (fun _ _ _ => rfl) fun _ y _ => agrees_plain (eq_ofFnLE (getLsbD_not_fin y))
  case and => and_intros <;> exact bitwiseGives_of (fun _ _ _ _ => rfl) fun _ _ _ => BitVec.getLsbD_and
  case andtc | andct =>
    and_intros <;>
      exact bitwiseGives_of (fun _ _ _ _ => rfl) fun _ _ _ => by rw [BitVec.getLsbD_and, getLsbD_not_fin]
  case or => and_intros <;> exact bitwiseGives_of (fun _ _ _ _ => rfl) fun _ _ _ => BitVec.getLsbD_or
  case ortc | orct =>
    and_intros <;>
      exact bitwiseGives_of (fun _ _ _ _ => rfl) fun _ _ _ => by rw [BitVec.getLsbD_or, getLsbD_not_fin]
  case nand =>
    and_intros <;>
      exact bitwiseGives_of (fun _ _ _ _ => rfl) fun _ _ _ => by rw [getLsbD_not_fin, BitVec.getLsbD_and]
  case nor =>
    and_intros <;>
      exact bitwiseGives_of (fun _ _ _ _ => rfl) fun _ _ _ => by rw [getLsbD_not_fin, BitVec.getLsbD_or]
  case xor => and_intros <;> exact bitwiseGives_of (fun _ _ _ _ => rfl) fun _ _ _ => BitVec.getLsbD_xor
  case eqv =>
    and_intros <;>
      exact bitwiseGives_of (fun _ _ _ _ => rfl) fun _ _ _ => by
        rw [getLsbD_not_fin, BitVec.getLsbD_xor, ← Bool.bne_eq_xor, bne, Bool.not_not]

end Sys2Proof.Machine

namespace Sys2Proof.Machine

/-! Shifts and rotates (43_shift_rotate.md): the machine cuts a count off at the width of the word, the rules form the power
of two of every count. -/

section
variable {n : Nat}

/-! ### The distance (R530) -/

theorem shiftK_rule (d : ShiftDir) (cnt : SW) : shiftK d cnt = Rule.distance d cnt := by cases d <;> rfl

/-! ### Logical shifts (R531) -/

theorem shiftLeft_eq_mul (x : BitVec n) (k : Nat) : x <<< k = BitVec.ofNat n (x.toNat * 2 ^ k) := by
  apply BitVec.eq_of_toNat_eq
  rw [BitVec.toNat_shiftLeft, BitVec.toNat_ofNat, Nat.shiftLeft_eq]

theorem ushiftRight_eq_div (x : BitVec n) (k : Nat) : x >>> k = BitVec.ofNat n (x.toNat / 2 ^ k) := by
  apply BitVec.eq_of_toNat_eq
  rw [BitVec.toNat_ushiftRight, BitVec.toNat_ofNat, Nat.shiftRight_eq_div_pow,
    Nat.mod_eq_of_lt ((Nat.div_le_self _ _).trans_lt x.isLt)]

/-- Past the width no bit of the word is left, in either direction: the machine's zero is the shift itself. -/
theorem shiftWord_eq (x : BitVec n) (k : Int) : shiftWord x k = if 0 ≤ k then x <<< k.toNat else x >>> (-k).toNat := by
  rw [shiftWord]
  split
  next hwide =>
    split
    next hk => exact (BitVec.shiftLeft_eq_zero (by omega)).symm
    next hk => exact (BitVec.ushiftRight_eq_zero (by omega)).symm
  next => rfl

theorem shiftWord_rule (x : BitVec n) (k : Int) : shiftWord x k = Rule.shift x k := by
  rw [shiftWord_eq, shiftLeft_eq_mul, ushiftRight_eq_div, Rule.shift]

theorem shf_rule (d : ShiftDir) (x : BitVec n) (cnt : SW) : shf d x cnt = Rule.shift x (Rule.distance d cnt) := by
  rw [shf, shiftWord_rule, shiftK_rule]

/-! ### Rotates (R532) -/

theorem rotWord_rule (hn : 0 < n) (x : BitVec n) (k : Int) : rotWord x k = Rule.rot x k := by
  have hlt : (k % (n : Int)).toNat < n := by
    have := Int.emod_nonneg k (b := n) (by omega)
    have := Int.emod_lt_of_pos k (b := n) (by omega)
    omega
  rw [rotWord, Rule.rot, BitVec.rotateLeft_def, Nat.mod_eq_of_lt hlt]

theorem rot_rule (hn : 0 < n) (d : ShiftDir) (x : BitVec n) (cnt : SW) :
    rot d x cnt = Rule.rot x (Rule.distance d cnt) := by
  rw [rot, rotWord_rule hn, shiftK_rule]

/-! ### Arithmetic shifts (R541, R542) -/

/-- `x * 2^k` rounded to minus infinity, the number that an arithmetic shift delivers. -/
def exactShift (x k : Int) : Int := if 0 ≤ k then x * 2 ^ k.toNat else x / 2 ^ (-k).toNat

theorem Rule.ashift_eq (us : SW) (x : BitVec n) (k : Int) :
    Rule.ashift us x k = Rule.overflow us (!fits n (exactShift x.toInt k)) fun us1 =>
      (if fits n (exactShift x.toInt k) then BitVec.ofInt n (exactShift x.toInt k)
        else setBit (BitVec.ofInt n (exactShift x.toInt k)) 0 x.msb, us1) := rfl

theorem toInt_sshiftRight_eq_div (x : BitVec n) (j : Nat) : (x.sshiftRight j).toInt = x.toInt / 2 ^ j := by
  rw [BitVec.toInt_sshiftRight, Int.shiftRight_eq_div_pow, Nat.cast_pow, Nat.cast_ofNat]

/-- From the width on only the sign is left. -/
theorem toInt_div_two_pow_of_le (x : BitVec n) {j : Nat} (h : n ≤ j) :
    x.toInt / 2 ^ j = if x.toInt < 0 then -1 else 0 := by
  have hpow : (2 : Int) ^ n ≤ 2 ^ j := pow_le_pow_right₀ (by decide) h
  have hl := x.le_two_mul_toInt
  have hu := x.two_mul_toInt_lt
  split
  next hneg => exact Int.ediv_eq_neg_one_of_neg_of_le hneg (by omega)
  next hneg => exact Int.ediv_eq_zero_of_lt (by omega) (by omega)

/-- The machine cuts the distance of a right shift off at the width. -/
theorem sshiftRight_min (x : BitVec n) (j : Nat) : x.sshiftRight (min j n) = x.sshiftRight j := by
  apply BitVec.eq_of_toInt_eq
  rw [toInt_sshiftRight_eq_div, toInt_sshiftRight_eq_div]
  rcases le_total j n with h | h
  · rw [min_eq_left h]
  · rw [min_eq_right h, toInt_div_two_pow_of_le x le_rfl, toInt_div_two_pow_of_le x h]

/-- The machine's overflow and word are those of the exact number: a right shift always fits; from the width on a left shift
fits only zero, and its low-order bits are zero. -/
theorem ashiftWord_eq (hn : 0 < n) (x : BitVec n) (k : Int) :
    ashiftWord x k = (if fits n (exactShift x.toInt k) then BitVec.ofInt n (exactShift x.toInt k)
      else setBit (BitVec.ofInt n (exactShift x.toInt k)) 0 x.msb, !fits n (exactShift x.toInt k)) := by
  rw [ashiftWord, exactShift]
  by_cases hk : 0 ≤ k
  · simp only [if_pos hk]
    by_cases hwide : (n : Int) ≤ k
    · have hkn : n ≤ k.toNat := by omega
      have hne : (x != 0) = !decide (x.toInt = 0) := by
        rw [← BitVec.toInt_zero (w := n), decide_eq_decide.2 BitVec.toInt_inj]
        rfl
      simp only [if_pos hwide, fits_mul_two_pow hn hkn, ofInt_mul_two_pow hkn, hne]
      by_cases hx : x.toInt = 0 <;> simp [hx]
    · simp only [if_neg hwide]
      by_cases hf : fits n (x.toInt * 2 ^ k.toNat) <;> simp [hf]
  · simp only [if_neg hk]
    rw [← toInt_sshiftRight_eq_div, fits_toInt, if_pos rfl, BitVec.ofInt_toInt, sshiftRight_min, Bool.not_true]

theorem agrees_shfa (hn : 0 < n) (d : ShiftDir) (us : SW) (x : BitVec n) (cnt : SW) :
    Agrees (shfa d us x cnt) (Rule.ashift us x (Rule.distance d cnt)) := by
  rw [shfa, ashiftWord_eq hn, shiftK_rule, Rule.ashift_eq]
  exact agrees_overflow _ _

/-! ### Double-width shifts (R537, R538) -/

theorem shiftHalf_rule (d : ShiftDir) (hi lo : BitVec n) (cnt : SW) : shiftHalf d hi lo cnt = Rule.dshift d hi lo cnt := by
  cases d <;> simp only [shiftHalf, Rule.dshift, shiftWord_rule, shiftK_rule] <;> rfl

theorem field_high_half (v : BitVec (2 * n)) : field v 0 n = BitVec.ofNat n (v.toNat / 2 ^ n) := by
  apply BitVec.eq_of_toNat_eq
  rw [toNat_field, BitVec.toNat_ofNat, show 2 * n - 0 - n = n by omega]

theorem field_low_half (v : BitVec (2 * n)) : field v n n = BitVec.ofNat n v.toNat := by
  apply BitVec.eq_of_toNat_eq
  rw [toNat_field, BitVec.toNat_ofNat, show 2 * n - n - n = 0 by omega, Nat.pow_zero, Nat.div_one]

/-- The pair of an immediate is the constant at twice the precision, where there is one. -/
theorem immPair_rule (k : ConstKind) (w : SW) {p : Prec} (hp : p ≠ .d) :
    immPair k w p = (BitVec.ofNat p.bits ((Rule.imm k w (2 * p.bits)).toNat / 2 ^ p.bits),
      BitVec.ofNat p.bits (Rule.imm k w (2 * p.bits)).toNat) := by
  rw [← field_high_half, ← field_low_half]
  cases p with
  | q | h | s => rw [immPair, immValue_eq]; rfl
  | d => exact absurd rfl hp

end

/-! ### The instructions -/

theorem doubleShiftGives_of {d : ShiftDir} {rev : Bool} {p : Prec} {mk : TMode → OD → OD → Instr} (hp : p ≠ .d)
    (he : ∀ t o1 o2 s, exec (mk t o1 o2) s = runInstr (mk t o1 o2).form (doubleShift p d rev t o1 o2) s) :
    DoubleShiftGives d rev p mk :=
  doubleShift_of he (shiftHalf_rule d) fun k w => immPair_rule k w hp

/-- Settles O43: counts past the width are those of the exact shift, for words, pairs and signed numbers. -/
theorem shiftsAndRotates : Obligations.ShiftsAndRotates := by
  refine ⟨⟨?shfLf, ?shfRt⟩, ⟨?shfvLf, ?shfvRt⟩, ⟨?rotLf, ?rotRt⟩, ⟨?rotvLf, ?rotvRt⟩, ⟨?shfaLf, ?shfaRt⟩,
    ⟨?shfavLf, ?shfavRt⟩, ?dshf⟩
  case shfLf | shfRt =>
    and_intros <;> exact top3Gives_of (fun _ _ _ _ => rfl) fun _ x k _ => agrees_plain (shf_rule _ x k)
  case shfvLf | shfvRt =>
    and_intros <;> exact top3Gives_of (fun _ _ _ _ => rfl) fun _ k x _ => agrees_plain (shf_rule _ x k)
  case rotLf | rotRt =>
    and_intros <;> exact top3Gives_of (fun _ _ _ _ => rfl) fun _ x k _ => agrees_plain (rot_rule (bits_pos _) _ x k)
  case rotvLf | rotvRt =>
    and_intros <;> exact top3Gives_of (fun _ _ _ _ => rfl) fun _ k x _ => agrees_plain (rot_rule (bits_pos _) _ x k)
  case shfaLf | shfaRt =>
    and_intros <;> exact top3Gives_of (fun _ _ _ _ => rfl) fun us x k _ => agrees_shfa (bits_pos _) _ us x k
  case shfavLf | shfavRt =>
    and_intros <;> exact top3Gives_of (fun _ _ _ _ => rfl) fun us k x _ => agrees_shfa (bits_pos _) _ us x k
  case dshf =>
    simp only [List.forall_mem_cons]
    and_intros
    iterate 12 exact doubleShiftGives_of (by decide) fun _ _ _ _ => rfl
    exact List.forall_mem_nil _

end Sys2Proof.Machine

namespace Sys2Proof.Machine

/-! Skips and jumps (44_skip_jump.md): the machine's tests and counts agree with the rules, and each instruction runs the
shape of `Laws/Families.lean` that its statement names. -/

/-! ### Tests (R561) -/

section
variable {n : Nat}

/-- A word masked is zero exactly when every bit that the mask selects is zero. -/
theorem and_eq_zero_iff_bitAt (x m : BitVec n) : x &&& m = 0 ↔ ∀ i < n, bitAt m i = true → bitAt x i = false := by
  constructor
  · intro h i _ hm
    have hbit : (x &&& m).getMsbD i = false := by rw [h, BitVec.ofNat_eq_ofNat, BitVec.getMsbD_zero]
    rwa [BitVec.getMsbD_and, show m.getMsbD i = true from hm, Bool.and_true] at hbit
  · intro h
    refine BitVec.eq_of_getMsbD_eq fun i hi => ?_
    rw [BitVec.getMsbD_and, BitVec.ofNat_eq_ofNat, BitVec.getMsbD_zero]
    cases hm : m.getMsbD i with
    | false => exact Bool.and_false _
    | true => rw [Bool.and_true]; exact h i hi hm

/-- A word complemented and masked is zero exactly when every bit that the mask selects is one. -/
theorem not_and_eq_zero_iff_bitAt (x m : BitVec n) : ~~~x &&& m = 0 ↔ ∀ i < n, bitAt m i = true → bitAt x i = true := by
  rw [and_eq_zero_iff_bitAt]
  refine forall₂_congr fun i hi => ?_
  rw [bitAt, bitAt, bitAt, BitVec.getMsbD_not, decide_eq_true hi, Bool.true_and, Bool.not_eq_false']

/-- A logical test of the machine is the test of the rules. -/
theorem LCond.rel_rule (c : LCond) (a m : BitVec n) : c.rel a m = Rule.lcond c a m := by
  cases c with
  | non => rw [LCond.rel, Rule.lcond, beq_eq_decide, decide_eq_decide, and_eq_zero_iff_bitAt]
  | all => rw [LCond.rel, Rule.lcond, beq_eq_decide, decide_eq_decide, not_and_eq_zero_iff_bitAt]
  | nal =>
    rw [LCond.rel, Rule.lcond, bne, beq_eq_decide, ← decide_not, decide_eq_decide, not_and_eq_zero_iff_bitAt]
    push Not
    simp only [ne_eq, Bool.not_eq_true]
  | any =>
    rw [LCond.rel, Rule.lcond, bne, beq_eq_decide, ← decide_not, decide_eq_decide, and_eq_zero_iff_bitAt]
    push Not
    simp only [ne_eq, Bool.not_eq_false]

/-- The machine tests against the word zero, the rules against the number. -/
theorem ACond.rel_zero_rule (c : ACond) (a : BitVec n) : c.rel a 0 = Rule.acond c a.toInt 0 := by
  rw [ACond.rel_rule, BitVec.ofNat_eq_ofNat, BitVec.toInt_zero]

end

/-! ### Counts (R563) -/

/-- A sum delivered without its carry is the exact integer delivered. -/
theorem agrees_addC_int {n : Nat} (hn : 0 < n) {x y : BitVec n} {c : Bool} {v : Int} (us : SW)
    (h : x.toInt + y.toInt + c.toNat = v) :
    Agrees (intOvf us (addC x y c).ov >>= fun us1 => .ok ((addC x y c).val, us1)) (Rule.int us n v) := by
  subst h
  rw [addC_eq hn]
  exact agrees_overflow _ _

/-- The machine decrements by adding the complement of one with a carry in (Table 5-1). -/
theorem agrees_incDec (up : Bool) (us a : SW) :
    Agrees (incDec up us a) (Rule.int us 36 (a.toInt + if up then 1 else -1)) := by
  cases up with
  | true => exact agrees_addC_int (by decide) us (Int.add_zero _)
  | false =>
    simp only [incDec, Bool.false_eq_true, if_false, subC_eq_addC (by decide : 0 < 36)]
    exact agrees_addC_int (by decide) us (Int.add_assoc _ _ _)

/-! ### The always-taken jumps (R578, R596) -/

theorem jumpAlways_noOD {env : Env} {s : State} {j : JDest} {d : VAddr} (hd : s.jumpDest j = .ok d) :
    jumpAlways noOD j env s = .ok (s.setPc d) := by
  simp only [jumpAlways, checkUnused, hd]
  rfl

theorem jumpPatch_eq (k : BitVec 24) (env : Env) (s : State) :
    jumpPatch k env s = if (Rule.target s.pc k.toInt).toNat < 128 then .error (.fatal .jumpToRegisters)
      else .ok (s.setPc (Rule.target s.pc k.toInt)) := by
  rw [jumpPatch, State.hopDest_rule]
  split <;> rfl

/-! ### The obligations -/

/-- Settles O44: `SKP` by its test, `ISKP` and `DSKP` by their count. -/
theorem skips : Obligations.Skips := by
  refine ⟨?gtr, ?eql, ?geq, ?lss, ?neq, ?leq, ?non, ?all, ?nal, ?any, ?iskp, ?dskp⟩
  case gtr | eql | geq | lss | neq | leq => and_intros <;> exact skip_of (fun _ _ _ _ => rfl) (ACond.rel_rule _)
  case non | all | nal | any => and_intros <;> exact skip_of (fun _ _ _ _ => rfl) (LCond.rel_rule _)
  case iskp | dskp =>
    simp only [List.forall_mem_cons]
    and_intros
    iterate 6 exact countSkip_of (fun _ _ _ _ => rfl) (agrees_incDec _)
    exact List.forall_mem_nil _

/-- Settles O45: the tests of the rules, the checked destination of `JPATCH`, and the bounds of each modifier of `BNDTRP`. -/
theorem jumps : Obligations.Jumps := by
  refine ⟨?jmp, ?gtr, ?eql, ?geq, ?lss, ?neq, ?leq, ?jmpa, ?jpatch, ?between, ?min, ?minusOne, ?zero, ?one⟩
  case jmp =>
    simp only [List.forall_mem_cons]
    and_intros
    iterate 6 exact jump_of fun _ _ _ => rfl
    exact List.forall_mem_nil _
  case gtr | eql | geq | lss | neq | leq => and_intros <;> exact jumpZero_of fun _ _ _ => rfl
  case jmpa => exact fun j s d hd => jumpsTo_of rfl (jumpAlways_noOD hd)
  case jpatch =>
    intro k s
    split
    next h => exact trapsFatal_of rfl ((jumpPatch_eq k _ _).trans (if_pos h))
    next h => exact jumpsTo_of rfl ((jumpPatch_eq k _ _).trans (if_neg h))
  case between => and_intros <;> exact boundTrapBetween_of fun _ _ _ => rfl
  case min => and_intros <;> exact boundTrap_of (b := .min) (fun _ _ _ => rfl) rfl
  case minusOne => and_intros <;> exact boundTrap_of (b := .m1) (fun _ _ _ => rfl) rfl
  case zero => and_intros <;> exact boundTrap_of (b := .zero) (fun _ _ _ => rfl) rfl
  case one => and_intros <;> exact boundTrap_of (b := .one) (fun _ _ _ => rfl) rfl

/-- Settles O46: the count delivers the exact sum, and the jump tests what it delivers. -/
theorem countingJumps : Obligations.CountingJumps := by
  refine ⟨?ijmp, ?djmp, ?ijmpz, ?djmpz, ?ijmpa, ?djmpa⟩
  case ijmp | djmp =>
    simp only [List.forall_mem_cons]
    and_intros
    iterate 6 exact countJumpNext_of (fun _ _ _ => rfl) (agrees_incDec _)
    exact List.forall_mem_nil _
  case ijmpz | djmpz =>
    simp only [List.forall_mem_cons]
    and_intros
    iterate 6 exact countJump_of (fun _ _ _ => rfl) (agrees_incDec _) (ACond.rel_zero_rule _)
    exact List.forall_mem_nil _
  case ijmpa | djmpa => exact countJump_of (fun _ _ _ => rfl) (agrees_incDec _) fun _ => rfl

end Sys2Proof.Machine

namespace Sys2Proof.Machine

/-! Routine linkage (45_routine_linkage.md): calls, returns, and the programmed traps with the parameters they deliver. Each
body is an equation under the operands of its statement; the frames are those of `Laws/Families.lean`. -/

/-! ### Words that are loaded in the PC (R615) -/

theorem addrOfWord_mod_four (w : SW) : (addrOfWord w).toNat % 4 = w.toNat % 4 := by
  rw [addrOfWord, BitVec.toNat_setWidth, Nat.mod_mod_of_dvd _ (by decide)]

/-! ### The stack pointer after a return (R632) -/

theorem addr36_eq_pcWord (z : Int) : Rule.addr36 z = pcWord (BitVec.ofInt 30 z) := by
  have hnn : 0 ≤ z % 2 ^ 30 := Int.emod_nonneg _ (by decide)
  apply BitVec.eq_of_toNat_eq
  rw [Rule.addr36, pcWord, BitVec.toNat_setWidth, BitVec.toNat_ofInt, BitVec.toNat_ofInt]
  omega

/-- Four times the number in a word, modulo the address space. -/
theorem addrOfWord_shiftLeft_two (n : SW) : addrOfWord n <<< 2 = BitVec.ofInt 30 (4 * n.toInt) := by
  have h : addrOfWord n = BitVec.ofInt 30 n.toInt := (BitVec.signExtend_eq_setWidth_of_le n (by decide)).symm
  rw [BitVec.shiftLeft_eq_mul_twoPow, h, BitVec.ofInt_mul, BitVec.mul_comm]
  rfl

theorem poppedSp_rule (l : Loc) (k : Nat) (n : SW) : poppedSp l k n = Rule.addr36 (l.va.toNat - k - 4 * n.toInt) := by
  rw [poppedSp, addr36_eq_pcWord, addrOfWord_shiftLeft_two, Int.sub_eq_add_neg, Int.sub_eq_add_neg, BitVec.ofInt_add,
    BitVec.ofInt_add, BitVec.ofInt_neg, BitVec.ofInt_neg, BitVec.ofInt_natCast, BitVec.ofInt_natCast, BitVec.ofNat_toNat,
    BitVec.setWidth_eq, BitVec.sub_eq_add_neg, BitVec.sub_eq_add_neg]

theorem poppedSp_zero (l : Loc) (k : Nat) : poppedSp l k 0 = Rule.addr36 (l.va.toNat - k) := by
  rw [poppedSp_rule]
  congr 1
  simp

/-! ### Calls (R612, R613, R620, R624, R628) -/

section
variable {s : State} {o1 o2 : OD} {x : Operand} {l : Loc} {env : Env}

theorem State.pushWords_overflow {ws : List SW} {new : SW} (hn : s.sp + BitVec.ofNat 36 (4 * ws.length) = new)
    (h : s.sl.toInt < new.toInt) : s.pushWords ws = .error (.hard .stkOvfl new) := by
  have hc : s.stackCheck new = .error (.hard .stkOvfl new) := if_pos h
  rw [State.pushWords, hn, hc, M.error_bind]

section
variable {j : JDest} {d : VAddr} {a : SW}

theorem jumpSub_eq (h1 : s.evalOD o1 = .ok x) (hj : s.jumpDest j = .ok d) (ha : s.readOp x .s = .ok a) :
    jumpSub o1 j env s = s.pushWords [a, pcWord env.next] >>= fun u => .ok (u.setPc d) := by
  rw [jumpSub, h1, M.ok_bind, hj, M.ok_bind, ha, M.ok_bind]

theorem jumpSub_overflow (h1 : s.evalOD o1 = .ok x) (hj : s.jumpDest j = .ok d) (ha : s.readOp x .s = .ok a)
    (h : s.sl.toInt < (s.sp + 8).toInt) : jumpSub o1 j env s = .error (.hard .stkOvfl (s.sp + 8)) := by
  rw [jumpSub_eq h1 hj ha, State.pushWords_overflow (new := s.sp + 8) rfl h, M.error_bind]

theorem jumpSub_push {sps : List Span} (h1 : s.evalOD o1 = .ok x) (hj : s.jumpDest j = .ok d)
    (ha : s.readOp x .s = .ok a) (h : ¬ s.sl.toInt < (s.sp + 8).toInt)
    (hsps : s.locateRun .write .cur .s 2 (addrOfWord s.sp) = .ok sps) :
    jumpSub o1 j env s =
      .ok (((s.writeRun .s sps [a, pcWord env.next]).putReg (Us.spId s.us) (s.sp + 8)).setPc d) := by
  rw [jumpSub_eq h1 hj ha, State.pushWords_of (ws := [a, pcWord env.next]) (new := s.sp + 8) rfl h hsps, M.ok_bind]

end

theorem jumpCoroutine_eq {d1 d2 dn : Span} {a b t : SW} (h1 : s.evalOD o1 = .ok x) (h2 : s.evalOD o2 = .ok (.loc l))
    (hd1 : s.checkWrite x .s = .ok d1) (hd2 : s.checkWriteLoc l .s = .ok d2)
    (hdn : s.checkWriteLoc (l.next .s) .s = .ok dn) (ha : s.readOp x .s = .ok a) (hb : s.readLoc l .s = .ok b)
    (ht : s.readLoc (l.next .s) .s = .ok t) :
    jumpCoroutine o1 o2 env s =
      if t.toNat % 4 ≠ 0 then .error (.fatal .notAligned)
      else if (addrOfWord t).toNat < 128 then .error (.fatal .jumpToRegisters)
      else .ok ((((s.writeSpan .s d2 a).writeSpan .s dn (pcWord env.next)).writeSpan .s d1 b).setPc (addrOfWord t)) := by
  simp only [jumpCoroutine, h1, h2, hd1, hd2, hdn, ha, hb, ht, Operand.asLoc, M.ok_bind, checkPC_bind,
    addrOfWord_mod_four]

end

theorem allocs_run : RunsNumbered allocs fun k => allocStack (k + 1) := by
  iterate 32 refine .cons (fun _ _ _ => rfl) ?_
  exact .nil

/-! ### Returns (R632 to R640) -/

section
variable {s : State} {o1 o2 : OD} {x : Operand} {l : Loc} {w4 k us ps : SW} {env : Env}

theorem checkUS_bind {α : Type} (w : SW) (m : M α) :
    (checkUS w >>= fun _ => m) = if Us.legal w = true then m else .error (.fatal .other) := by
  rw [checkUS, fatalIf_bind]
  cases Us.legal w <;> rfl

theorem checkPC_of_usable (hal : w4.toNat % 4 = 0) (hlow : 128 ≤ (addrOfWord w4).toNat) :
    checkPC (addrOfWord w4) = .ok () :=
  checkPC_ok.2 ⟨aligned_s_iff_mod.2 ((addrOfWord_mod_four w4).trans hal), hlow⟩

/-- The operands of a return and the usable PC below ADDRESS(OP2). -/
structure State.ReturnsVia (s : State) (o1 o2 : OD) (x : Operand) (l : Loc) (w4 : SW) : Prop where
  op1 : s.evalOD o1 = .ok x
  op2 : s.evalOD o2 = .ok (.loc l)
  word : s.wordBelow l 4 = .ok w4
  usable : checkPC (addrOfWord w4) = .ok ()

theorem returnSub_eq {d : Span} {v : SW} (h : s.ReturnsVia o1 o2 x l w4) (hd : s.checkWrite x .s = .ok d)
    (hv : s.wordBelow l 8 = .ok v) :
    returnSub o1 o2 env s =
      .ok (((s.putReg (Us.spId s.us) (Rule.addr36 (l.va.toNat - 8))).writeSpan .s d v).setPc (addrOfWord w4)) := by
  simp only [returnSub, h.op1, h.op2, h.word, h.usable, hd, hv, Operand.asLoc, M.ok_bind, poppedSp_zero]
  rfl

theorem returnPop_eq (h : s.ReturnsVia o1 o2 x l w4) (hk : s.readOp x .s = .ok k) :
    returnPop o1 o2 env s =
      .ok (s.returnTo (Rule.addr36 (l.va.toNat - 4 - 4 * k.toInt)) none none (addrOfWord w4)) := by
  simp only [returnPop, h.op1, h.op2, h.word, h.usable, hk, Operand.asLoc, M.ok_bind, poppedSp_rule]
  rfl

theorem returnUser_eq (h : s.ReturnsVia o1 o2 x l w4) (hk : s.readOp x .s = .ok k) (hus : s.wordBelow l 8 = .ok us) :
    returnUser o1 o2 env s =
      if Us.legal us = true then
        .ok (s.returnTo (Rule.addr36 (l.va.toNat - 8 - 4 * k.toInt)) (some us) none (addrOfWord w4))
      else .error (.fatal .other) := by
  simp only [returnUser, h.op1, h.op2, h.word, h.usable, hk, hus, Operand.asLoc, M.ok_bind, checkUS_bind, poppedSp_rule]
  rfl

theorem returnFull_eq (hm : Ps.crntMode s.ps = true) (h : s.ReturnsVia o1 o2 x l w4) (hk : s.readOp x .s = .ok k)
    (hus : s.wordBelow l 12 = .ok us) (hps : s.wordBelow l 8 = .ok ps) :
    returnFull o1 o2 env s =
      if Us.legal us = true then
        .ok (s.returnTo (Rule.addr36 (l.va.toNat - 12 - 4 * k.toInt)) (some us) (some ps) (addrOfWord w4))
      else .error (.fatal .other) := by
  have hpriv : s.privileged env = .ok () := State.privileged_ok.2 hm
  simp only [returnFull, hpriv, h.op1, h.op2, h.word, h.usable, hk, hus, hps, Operand.asLoc, M.ok_bind, checkUS_bind,
    poppedSp_rule]
  rfl

/-- A body that ends in a return: the stack pointer of the old status, then the status words given, then the PC. -/
theorem completes_of_returnTo {i : Instr} {b : Body} {sp : SW} {us ps : Option SW} {pc : VAddr}
    (he : exec i s = runInstr i.form b s) (hwf : Memory.wf s.mem = true)
    (h : b (s.envOf i.form) s.stage4 = .ok (s.stage4.returnTo sp us ps pc)) :
    Completes s i (s.setPs (ps.getD s.ps))
      (s.done (fun u => (u.putReg (Us.spId s.us) sp).setPs (ps.getD s.ps)) (us.getD s.us) pc)
      [(.s, s.regSpan (Us.spId s.us))] := by
  refine completes_of (fun u => u.setPs (ps.getD s.ps)) [⟨.s, s.regSpan (Us.spId s.us), sp⟩] (exec_of he h) ?_ rfl
    (fun _ => hwf) fun _ hx => hx
  rw [State.putReg_store]
  rfl

end

/-! ### The parameters of a programmed trap (R645 to R648) -/

/-- The P-bit is bit 0 of an address word (R244). -/
theorem setBit_addrWord (l : Loc) : setBit (Rule.addrWord l) 0 true = Rule.addrWord ⟨.prev, l.va, l.rd⟩ := by
  rw [← addrWord_rule, ← addrWord_rule]
  apply BitVec.eq_of_getLsbD_eq
  intro i hi
  rw [setBit, getLsbD_setField _ _ (by decide)]
  split
  next h =>
    obtain rfl : i = 35 := by omega
    simp only [Loc.addrWord, BitVec.getLsbD_append]
    rfl
  next h => simp only [Loc.addrWord, BitVec.getLsbD_append, if_pos (show i - 30 < 5 by omega)]

/-- The trap mode that delivers the value of an operand at a precision (Table 5-8). -/
def trapModeOf : Prec → BitVec 9
  | .q => 4
  | .h => 5
  | .s => 6
  | .d => 7

section
variable {s : State} {od : OD} {x : Operand}

/-- Modes 4 to 7 deliver the words of a source value (R647). -/
theorem trapParm_value {p : Prec} {v : BitVec p.bits} (hx : s.evalOD od = .ok x) (exe : Bool)
    (hv : s.readOp x p = .ok v) : s.trapParm (trapModeOf p) od exe = .ok (SoftWords.ofValue p v) := by
  cases p with
  | q | h | s | d => simp [State.trapParm, trapModeOf, hx, hv]

/-- Mode 3 delivers the address of an operand; an immediate has none. -/
theorem trapParm_addressMode (od : OD) (exe : Bool) : s.trapParm 3 od exe = (s.evalOD od >>= fun x => x.asLoc >>= fun l =>
    .ok (some (if exe then Rule.addrWord ⟨.prev, l.va, l.rd⟩ else Rule.addrWord l), none)) := by
  rw [show s.trapParm 3 od exe = (s.evalOD od >>= fun x => x.asLoc >>= fun l =>
    .ok (some (if exe then setBit l.addrWord 0 true else l.addrWord), none)) from rfl]
  simp only [addrWord_rule, setBit_addrWord]

theorem trapParm_descriptor (od : OD) (exe : Bool) :
    s.trapParm 1 od exe = .ok (some (BitVec.ofNat 36 (encodeOD od).1.toNat), none) := by
  rw [BitVec.ofNat_toNat]
  rfl

theorem trapParm_descriptorWords (od : OD) (exe : Bool) :
    s.trapParm 2 od exe = .ok (some (BitVec.ofNat 36 (encodeOD od).1.toNat), (encodeOD od).2) := by
  rw [BitVec.ofNat_toNat]
  rfl

theorem trapParm_outside {tm : BitVec 9} (od : OD) (exe : Bool) (h : tm.toInt < 0 ∨ 7 < tm.toInt) :
    s.trapParm tm od exe = .error (.fatal .trapDescriptor) := by
  obtain ⟨k, hk⟩ : ∃ k, tm.toNat = k + 8 := by
    rw [BitVec.toInt_eq_toNat_cond] at h
    exact ⟨tm.toNat - 8, by split at h <;> omega⟩
  rw [State.trapParm, hk]
  rfl

end

theorem trpslfs_run : RunsNumbered trpslfs trapSelf := by
  iterate 64 refine .cons (fun _ _ _ => rfl) ?_
  exact .nil

theorem trpexes_run : RunsNumbered trpexes trapExec := by
  iterate 64 refine .cons (fun _ _ _ => rfl) ?_
  exact .nil

/-! ### The obligations -/

/-- Settles O47: `JSR` by its push, `JCR` by the PC it loads, `ALLOC` by the number of its mnemonic. -/
theorem calls : Obligations.Calls := by
  refine ⟨?jsr, ?jcr, fun _ _ hk => alloc_of (allocs_run hk)⟩
  case jsr =>
    intro o1 j s x d a hm h1 hj ha
    split
    next h => exact trapsHard_of rfl (jumpSub_overflow (s := s.stage4) h1 hj ha h)
    next h =>
      exact fun sps hsps =>
        stores_of (runStores .s sps [a, pcWord (s.after (.jsr o1 j))] ++ [⟨.s, s.regSpan (Us.spId s.us), s.sp + 8⟩]) rfl
          (jumpSub_push (s := s.stage4) h1 hj ha h ((State.stage4_locateRun ..).trans hsps))
          (writeRun_putReg_storeAll _ _ _ _ _ _) hm fun _ hx => mem_spansOf_runStores_append hx
  case jcr =>
    intro o1 o2 s x l d1 d2 dn a b t hm h1 h2 hd1 hd2 hdn ha hb ht
    have he := jumpCoroutine_eq (s := s.stage4) (env := s.envOf (Instr.jcr o1 o2).form) h1 h2 hd1 hd2 hdn ha hb ht
    split
    next h => exact trapsFatal_of rfl (he.trans (if_pos h))
    next h =>
      rw [if_neg h] at he
      split
      next hlow => exact trapsFatal_of rfl (he.trans (if_pos hlow))
      next hlow =>
        exact stores_of [⟨.s, d2, a⟩, ⟨.s, dn, pcWord (s.after (.jcr o1 o2))⟩, ⟨.s, d1, b⟩] rfl (he.trans (if_neg hlow))
          rfl hm fun _ hx => hx

/-- Settles O48: each return is its equation, an illegal `USER_STATUS` the fatal trap of its check. -/
theorem returns : Obligations.Returns := by
  intro o1 o2 s x l w4 hm h1 h2 hw hal hlow
  have h : s.stage4.ReturnsVia o1 o2 x l w4 := ⟨h1, h2, hw, checkPC_of_usable hal hlow⟩
  refine ⟨fun d v hd hv => ?retsr, fun k hk => ?ret, fun k us hk hus => ?retus, fun k us ps hmode hk hus hps => ?retfs⟩
  case retsr =>
    refine stores_of [⟨.s, s.regSpan (Us.spId s.us), Rule.addr36 (l.va.toNat - 8)⟩, ⟨.s, d, v⟩] rfl (returnSub_eq h hd hv)
      ?_ hm fun _ hx => hx
    rw [State.putReg_store]
    rfl
  case ret => exact completes_of_returnTo (us := none) (ps := none) rfl hm (returnPop_eq h hk)
  case retus =>
    have hb := returnUser_eq (env := s.envOf (Instr.retus o1 o2).form) h hk hus
    split
    next hlegal => exact completes_of_returnTo (us := some us) (ps := none) rfl hm (hb.trans (if_pos hlegal))
    next hlegal => exact trapsFatal_of rfl (hb.trans (if_neg hlegal))
  case retfs =>
    have hb := returnFull_eq (s := s.stage4) (env := s.envOf (Instr.retfs o1 o2).form) hmode h hk hus hps
    split
    next hlegal => exact completes_of_returnTo (us := some us) (ps := some ps) rfl hm (hb.trans (if_pos hlegal))
    next hlegal => exact trapsFatal_of rfl (hb.trans (if_neg hlegal))

/-- Settles O49: the parameters mode by mode, then the traps by the number of their mnemonic. -/
theorem programmedTraps : Obligations.ProgrammedTraps := by
  refine ⟨fun s od exe => ⟨rfl, trapParm_descriptor od exe, trapParm_descriptorWords od exe,
      fun _ => trapParm_outside od exe,
      fun x hx => ⟨?address, fun v hv => ?quarter, fun v hv => ?half, fun v hv => ?single,
        fun v hv => ?double⟩⟩,
    fun _ _ hk => trapsToSelf_of (trpslfs_run hk), fun _ _ hk => trapsToExecutive_of (trpexes_run hk)⟩
  case address =>
    rw [trapParm_addressMode, hx]
    cases x <;> rfl
  case quarter => exact (trapParm_value (p := .q) hx exe hv).trans (congrArg Except.ok (SoftWords.ofValue_eq .q v))
  case half => exact (trapParm_value (p := .h) hx exe hv).trans (congrArg Except.ok (SoftWords.ofValue_eq .h v))
  case single => exact trapParm_value (p := .s) hx exe hv
  case double =>
    refine (trapParm_value (p := .d) hx exe hv).trans ?_
    have hlow : BitVec.ofNat 36 (v.toNat % 2 ^ 36) = BitVec.ofNat 36 v.toNat := BitVec.eq_of_toNat_eq (by simp)
    simp only [SoftWords.ofValue_eq, hlow]

end Sys2Proof.Machine

namespace Sys2Proof.Machine

/-! Stacks, bytes and bits (46_stack_byte_bit.md). `Laws/Families.lean` says which stores these instructions make; what is
left is that the words stored are those of the rules. -/

section
variable {n : Nat}

/-! ### Loading bytes (R682) -/

theorem getLsbD_lowMask (n len i : Nat) : (lowMask n len).getLsbD i = (decide (i < n) && decide (i < len)) := by
  rw [lowMask, BitVec.getLsbD_ofNat, Nat.testBit_two_pow_sub_one]

/-- The number of a byte is that of the field in its place. -/
theorem Rule.ofNat_byteOf (w : BitVec n) (pos len k : Nat) :
    BitVec.ofNat k (Rule.byteOf w pos len) = (field w pos len).setWidth k := by
  rw [Rule.byteOf, ← toNat_field, BitVec.ofNat_toNat]

theorem Rule.signedByte_eq (w : BitVec n) (pos len : Nat) : Rule.signedByte w pos len = (field w pos len).signExtend n := by
  rw [Rule.signedByte, Rule.ofNat_byteOf, BitVec.setWidth_eq, BitVec.signExtend]

theorem loadByte_eq (w : BitVec n) (pos len : Nat) : loadByte w ⟨pos, len⟩ = (field w pos len).setWidth n := by
  refine BitVec.eq_of_getLsbD_eq fun i hi => ?_
  rw [loadByte, BitVec.getLsbD_and, BitVec.getLsbD_ushiftRight, getLsbD_lowMask, BitVec.getLsbD_setWidth, getLsbD_field,
    decide_eq_true hi, Bool.true_and, Bool.true_and, Bool.and_comm]

theorem loadByte_rule (w : BitVec n) (pos len : Nat) :
    loadByte w ⟨pos, len⟩ = BitVec.ofNat n (Rule.byteOf w pos len) := by
  rw [loadByte_eq, Rule.ofNat_byteOf]

/-- The sign of a byte is the bit at its position. -/
theorem msb_field (w : BitVec n) {pos len : Nat} (hlen : 0 < len) (h : pos + len ≤ n) :
    (field w pos len).msb = bitAt w pos := by
  rw [BitVec.msb_eq_getLsbD_last, getLsbD_field, decide_eq_true (Nat.sub_one_lt hlen.ne'), Bool.true_and,
    bitAt_eq_getLsbD w (by omega), show n - pos - len + (len - 1) = n - 1 - pos by omega]

theorem loadSignedByte_rule (w : BitVec n) {pos len : Nat} (h : pos + len ≤ n) :
    loadSignedByte w ⟨pos, len⟩ = Rule.signedByte w pos len := by
  rw [Rule.signedByte_eq]
  rcases Nat.eq_zero_or_pos len with rfl | hlen
  · rw [BitVec.signExtend, BitVec.toInt_zero_length]
    rfl
  · have hmsb := msb_field w hlen h
    rw [loadSignedByte, if_neg hlen.ne', loadByte_eq]
    cases hsign : bitAt w pos with
    | false => rw [if_neg Bool.false_ne_true, BitVec.signExtend_eq_setWidth_of_msb_false (hmsb.trans hsign)]
    | true =>
      refine BitVec.eq_of_getLsbD_eq fun i hi => ?_
      rw [if_pos rfl, BitVec.getLsbD_signExtend, hmsb, hsign, BitVec.getLsbD_or, BitVec.getLsbD_setWidth, BitVec.getLsbD_not,
        getLsbD_lowMask]
      by_cases hil : i < len <;> simp [hi, hil]

/-! ### Depositing bytes (R682) -/

theorem depositByte_eq_setField (w b : BitVec n) (pos len : Nat) :
    depositByte w ⟨pos, len⟩ b = setField w pos (b.setWidth len) := by
  have hmask : lowMask n len = (BitVec.allOnes len).setWidth n :=
    BitVec.eq_of_getLsbD_eq fun i _ => by rw [getLsbD_lowMask, BitVec.getLsbD_setWidth, BitVec.getLsbD_allOnes]
  have hbyte : b &&& lowMask n len = (b.setWidth len).setWidth n :=
    BitVec.eq_of_getLsbD_eq fun i hi => by
      rw [BitVec.getLsbD_and, getLsbD_lowMask, BitVec.getLsbD_setWidth, BitVec.getLsbD_setWidth, decide_eq_true hi,
        Bool.true_and, Bool.true_and, Bool.and_comm]
  simp only [depositByte, setField]
  rw [hbyte, hmask]

/-- The three parts of a deposit do not overlap: the bits of the sum are those of the part they lie in. -/
theorem Rule.deposit_eq_setField (w b : BitVec n) {pos len : Nat} (h : pos + len ≤ n) :
    Rule.deposit w pos len b = setField w pos (b.setWidth len) := by
  obtain ⟨k, rfl⟩ := Nat.exists_eq_add_of_le h
  have hk : pos + len + k - pos - len = k := by omega
  have hlk : pos + len + k - pos = k + len := by omega
  refine BitVec.eq_of_getLsbD_eq fun i hi => ?_
  rw [getLsbD_setField w _ h, Rule.deposit, hk, hlk, BitVec.getLsbD_ofNat, decide_eq_true hi, Bool.true_and, Nat.add_assoc,
    Nat.mul_comm, Nat.mul_comm (b.toNat % _)]
  have hlow := Nat.mod_lt w.toNat (Nat.two_pow_pos k)
  have hmid : 2 ^ k * (b.toNat % 2 ^ len) + w.toNat % 2 ^ k < 2 ^ (k + len) := by
    have hb := Nat.mod_lt b.toNat (Nat.two_pow_pos len)
    calc 2 ^ k * (b.toNat % 2 ^ len) + w.toNat % 2 ^ k < 2 ^ k * (b.toNat % 2 ^ len + 1) := Nat.add_lt_add_left hlow _
      _ ≤ 2 ^ k * 2 ^ len := Nat.mul_le_mul_left _ hb
      _ = 2 ^ (k + len) := (Nat.pow_add ..).symm
  rw [Nat.testBit_two_pow_mul_add _ hmid, Nat.testBit_two_pow_mul_add _ hlow]
  simp only [Nat.testBit_mod_two_pow, Nat.testBit_div_two_pow, BitVec.testBit_toNat, BitVec.getLsbD_setWidth]
  by_cases hik : i < k
  · rw [if_pos (by omega), if_pos hik, if_neg (by omega), decide_eq_true hik, Bool.true_and]
  · by_cases hil : i < k + len
    · rw [if_pos hil, if_neg hik, if_pos ⟨by omega, hil⟩]
    · rw [if_neg hil, if_neg (by omega), Nat.sub_add_cancel (by omega)]

theorem depositByte_rule (w b : BitVec n) {pos len : Nat} (h : pos + len ≤ n) :
    depositByte w ⟨pos, len⟩ b = Rule.deposit w pos len b := by
  rw [depositByte_eq_setField, Rule.deposit_eq_setField w b h]

/-! ### Bits (R700 to R709) -/

theorem reverseBits_rule (x : BitVec n) {k : Nat} (hk : k ≤ n) : Rule.reversed x k (reverseBits x k) := by
  intro i hi
  rw [reverseBits, BitVec.getLsbD_ushiftRight, BitVec.getLsbD_reverse, BitVec.getMsbD]
  by_cases hik : i < k
  · rw [decide_eq_true hik, decide_eq_true (by omega), show n - 1 - (n - k + i) = k - 1 - i by omega]
  · rw [decide_eq_false hik, decide_eq_false (by omega), Bool.false_and, Bool.false_and]

/-- Appending a binary digit doubles the number and adds the digit. -/
theorem shiftLeft_one_or_ofBool (a : Nat) (b : Bool) :
    BitVec.ofNat n a <<< 1 ||| (BitVec.ofBool b).setWidth n = BitVec.ofNat n (2 * a + b.toNat) := by
  refine BitVec.eq_of_getLsbD_eq fun i hi => ?_
  have hb : b.toNat < 2 ^ 1 := Bool.toNat_lt b
  rw [BitVec.getLsbD_ofNat, show 2 * a + b.toNat = 2 ^ 1 * a + b.toNat from rfl, Nat.testBit_two_pow_mul_add _ hb]
  cases i with
  | zero => cases b <;> simp [hi]
  | succ i =>
    rw [if_neg (by omega), BitVec.getLsbD_or, BitVec.getLsbD_shiftLeft, BitVec.getLsbD_ofNat]
    simp [hi, show i < n by omega]

theorem extractBits_rule (x m : BitVec n) : extractBits x m = BitVec.ofNat n (Rule.ofBits (Rule.selected x m)) := by
  rw [Rule.ofBits, Rule.selected, List.foldl_map, List.foldl_filter, extractBits]
  refine List.foldl_hom (BitVec.ofNat n) (init := 0) fun a i => ?_
  rw [shiftLeft_one_or_ofBool]
  split <;> rfl

/-- The ones counted from the left are the ones counted from the right. -/
theorem countOnes_rule (y : BitVec n) : countOnes y = BitVec.ofNat 36 ((List.range n).countP fun i => y.toNat.testBit i) := by
  have hrev : (List.range n).reverse = (List.range n).map (n - 1 - ·) := by
    rw [List.range_eq_range', List.reverse_range', Nat.zero_add, ← List.range_eq_range']
  rw [countOnes, ← List.countP_reverse (l := List.range n) (p := fun i => y.toNat.testBit i), hrev, List.countP_map]
  congr 1
  exact List.countP_congr fun i hi => by rw [bitAt_eq_getLsbD y (List.mem_range.1 hi)]; rfl

/-- The first one from the left is the highest power of two in the word. -/
theorem log_two_of_bitAt {y : BitVec n} {i : Nat} (hi : i < n) (hone : bitAt y i = true)
    (hzero : ∀ j < i, bitAt y j = false) : Nat.log 2 y.toNat = n - 1 - i := by
  rw [bitAt_eq_getLsbD y hi] at hone
  refine Nat.log_eq_of_pow_le_of_lt_pow (Nat.ge_two_pow_of_testBit hone) (Nat.lt_pow_two_of_testBit _ fun k hk => ?_)
  rcases Nat.lt_or_ge k n with hkn | hkn
  · have hbit := hzero (n - 1 - k) (by omega)
    rwa [bitAt_eq_getLsbD y (by omega), show n - 1 - (n - 1 - k) = k by omega] at hbit
  · exact BitVec.getLsbD_of_ge y k hkn

theorem firstOneBit_rule (y : BitVec n) :
    firstOneBit y = BitVec.ofInt 36 (if y = 0 then -1 else (n : Int) - 1 - Nat.log 2 y.toNat) := by
  rw [firstOneBit]
  split
  next i hfind =>
    obtain ⟨hone, hi, hzero⟩ := List.find?_range_eq_some.1 hfind
    have hi := List.mem_range.1 hi
    have hne : y ≠ 0 := by
      rintro rfl
      simp [bitAt] at hone
    rw [if_neg hne, log_two_of_bitAt hi hone fun j hj => by simpa using hzero j hj, ← BitVec.ofInt_natCast]
    congr 1
    omega
  next hfind =>
    have hy : y = 0 := BitVec.eq_of_getMsbD_eq fun i hi => by
      simpa [bitAt] using List.find?_range_eq_none.1 hfind i hi
    rw [if_pos hy]
    rfl

end

/-! ### Byte pointers (R680, R694) -/

/-- The words of a byte pointer whose address is moved by `z`, with the byte at `pos`. -/
theorem bytePointer_eq (bp : DW) (z : Int) {pos len : Nat} (hpos : pos < 2 ^ 18) (hlen : len < 2 ^ 18) :
    field bp 0 6 ++ (field bp 6 30 + BitVec.ofInt 30 z) ++ BitVec.ofNat 18 pos ++ BitVec.ofNat 18 len =
      BitVec.ofNat 72 (bp.toNat / 2 ^ 66 * 2 ^ 66 + (((bp.toNat / 2 ^ 36 % 2 ^ 30 : Nat) + z) % 2 ^ 30).toNat * 2 ^ 36 +
        pos * 2 ^ 18 + len) := by
  have hbp := bp.isLt
  have haddr : field bp 6 30 + BitVec.ofInt 30 z = BitVec.ofInt 30 ((bp.toNat / 2 ^ 36 % 2 ^ 30 : Nat) + z) := by
    rw [BitVec.ofInt_add, BitVec.ofInt_natCast, ← toNat_field bp 6 30, BitVec.ofNat_toNat, BitVec.setWidth_eq]
  rw [haddr]
  apply BitVec.eq_of_toNat_eq
  rw [toNat_append_eq, toNat_append_eq, toNat_append_eq, toNat_field, BitVec.toNat_ofInt, BitVec.toNat_ofNat,
    BitVec.toNat_ofNat, BitVec.toNat_ofNat]
  push_cast
  omega

/-- Each of the bytes that lie in a word ends in it. -/
theorem byte_in_word {bits first len : Nat} (hlen : 0 < len) (h : first + len ≤ bits) (j : Int) :
    first + (j % ((bits - first) / len : Nat)).toNat * len + len ≤ bits := by
  have hper : 0 < (bits - first) / len := Nat.div_pos (by omega) hlen
  have hj : (j % ((bits - first) / len : Nat)).toNat < (bits - first) / len := by
    have := Int.emod_nonneg j (b := ((bits - first) / len : Nat)) (by omega)
    have := Int.emod_lt_of_pos j (b := ((bits - first) / len : Nat)) (by omega)
    omega
  have hend := (Nat.mul_le_mul_right len hj).trans (Nat.div_mul_le_self (bits - first) len)
  rw [Nat.succ_mul] at hend
  omega

theorem adjustPointer_rule {p : Prec} {bp : DW} {cnt : SW}
    (h : Rule.pos (field bp 36 36) + Rule.len (field bp 36 36) ≤ p.bits) :
    adjustPointer p bp cnt = .ok (if Rule.len (field bp 36 36) = 0 ∨ cnt = 0 then bp
      else Rule.adjust p bp (Rule.pos (field bp 36 36)) (Rule.len (field bp 36 36)) cnt.toInt) := by
  have hsel := (selector_rule (field bp 36 36) p).trans (if_neg (Nat.not_lt.2 h))
  simp only [adjustPointer, hsel, M.ok_bind, Int.fdiv_eq_ediv_of_nonneg _ (Int.natCast_nonneg _),
    Int.fmod_eq_emod_of_nonneg _ (Int.natCast_nonneg _)]
  generalize Rule.pos (field bp 36 36) = pos at h ⊢
  generalize Rule.len (field bp 36 36) = len at h ⊢
  split
  next => rfl
  next hne =>
    have hbits : p.bits < 2 ^ 18 := by cases p <;> decide
    have hfirst : pos % len + len ≤ p.bits := (Nat.add_le_add_right (Nat.mod_le pos len) len).trans h
    have hin := byte_in_word (by omega) hfirst (((pos - pos % len) / len : Nat) + cnt.toInt)
    rw [bytePointer_eq _ _ (by omega) (by omega)]
    rfl

/-! ### The obligations -/

/-- Settles O50: each instruction runs the operation of its direction and precision. -/
theorem explicitStacks : Obligations.ExplicitStacks := by
  refine ⟨?adjspUp, ?adjspDn, ?pushUp, ?pushDn, ?popUp, ?popDn⟩
  case adjspUp | adjspDn => exact adjustsStack_of fun _ _ _ => rfl
  case pushUp | pushDn => and_intros <;> exact pushesItem_of fun _ _ _ => rfl
  case popUp | popDn => and_intros <;> exact popsItem_of fun _ _ _ => rfl

/-- Settles O51: a byte is the field in its place, loaded or replaced, and a pointer moves by whole bytes of its words. -/
theorem bytes : Obligations.Bytes := by
  refine ⟨⟨?lbytS, ?lbytD⟩, ⟨?lsbytS, ?lsbytD⟩, ⟨?libytS, ?libytD⟩, ⟨?lisbytS, ?lisbytD⟩, ⟨?dbytS, ?dbytD⟩,
    ⟨?dibytS, ?dibytD⟩, ⟨?adjbpS, ?adjbpD⟩⟩
  case lbytS | lbytD => exact loadsByte_of (fun _ _ _ => rfl) fun w pos len _ => loadByte_rule w pos len
  case lsbytS | lsbytD => exact loadsByte_of (fun _ _ _ => rfl) fun w _ _ h => loadSignedByte_rule w h
  case libytS | libytD => exact loadsImmediateByte_of (fun _ _ _ _ => rfl) fun w pos len _ => loadByte_rule w pos len
  case lisbytS | lisbytD => exact loadsImmediateByte_of (fun _ _ _ _ => rfl) fun w _ _ h => loadSignedByte_rule w h
  case dbytS | dbytD => exact depositsByte_of (fun _ _ _ => rfl) fun w _ _ v h => depositByte_rule w v h
  case dibytS | dibytD => exact depositsImmediateByte_of (fun _ _ _ _ => rfl) fun w _ _ v h => depositByte_rule w v h
  case adjbpS | adjbpD => exact adjustsPointer_of (fun _ _ _ _ => rfl) fun _ _ h => adjustPointer_rule h

/-- Settles O52: each result is the word or the number of the rules, at every width. -/
theorem bitOperations : Obligations.BitOperations := by
  refine ⟨?bitrv, ?bitrvv, ?bitex, ?bitexv, ?bitcnt, ?bitfst⟩
  case bitrv | bitrvv => and_intros <;> exact reversesBits_of (fun _ _ _ _ => rfl) fun x _ h => reverseBits_rule x h
  case bitex =>
    and_intros <;> exact top3Gives_of (fun _ _ _ _ => rfl) fun _ x m _ => agrees_plain (extractBits_rule x m)
  case bitexv =>
    and_intros <;> exact top3Gives_of (fun _ _ _ _ => rfl) fun _ m x _ => agrees_plain (extractBits_rule x m)
  case bitcnt => and_intros <;> exact xop2Gives_of (fun _ _ _ => rfl) fun _ y _ => agrees_plain (countOnes_rule y)
  case bitfst => and_intros <;> exact xop2Gives_of (fun _ _ _ => rfl) fun _ y _ => agrees_plain (firstOneBit_rule y)

end Sys2Proof.Machine

namespace Sys2Proof.Machine

/-! Privileged instructions (R940), blocks and status words (47_block_status.md). `Laws/Families.lean` says what the shapes of
these instructions do; what is left is that the numbers and tests of the machine are those of the rules, and the loads that
can draw a free value. -/

/-! ### Privilege (R769, R940) -/

/-- An instruction whose body begins with the check of its privilege, in user mode. -/
theorem trapsHard_of_privileged {s : State} {i : Instr} {b : Body} {k : Unit → M State} (hm : Ps.crntMode s.ps = false)
    (he : exec i s = runInstr i.form b s)
    (hb : b (s.envOf i.form) s.stage4 = (s.stage4.privileged (s.envOf i.form) >>= k)) :
    TrapsHard s i .execOnly i.firstWord := by
  have hpriv : s.stage4.privileged (s.envOf i.form) = .error (.hard .execOnly i.firstWord) :=
    if_neg (by rw [State.stage4_ps, hm]; exact Bool.false_ne_true)
  exact trapsHard_of he (by rw [hb, hpriv, M.error_bind])

/-- Settles O13: the check of the privilege comes before that of any descriptor. -/
theorem privilegedInstructionsTrap : Obligations.PrivilegedInstructionsTrap := by
  intro o1 o2 j s hm
  simp only [List.forall_mem_cons]
  and_intros
  iterate 28 exact trapsHard_of_privileged hm rfl rfl
  exact List.forall_mem_nil _

/-! ### Blocks (R721 to R738) -/

/-- Alignment is asked for up to a single-word (R123): a double-word may lie at any multiple of four. -/
theorem aligned_eq_decide (p : Prec) (va : VAddr) : aligned p va = decide (va.toNat % min p.qws 4 = 0) := by
  rw [Bool.eq_iff_iff, aligned_iff, decide_eq_true_iff]
  cases p <;> simp [Prec.qws, Nat.mod_one]

/-- Settles O53: each instruction runs its shape with its count register, its precision and the access checks of its pages. -/
theorem blocks : Obligations.Blocks := by
  refine ⟨⟨?strcmpRta, ?strcmpRtb⟩, ⟨?blkmovRta, ?blkmovRtb⟩, ⟨?blkidRta, ?blkidRtb⟩, ⟨?blkdiRta, ?blkdiRtb⟩,
    ?blkiniRta, ?blkiniRtb⟩
  case strcmpRta | strcmpRtb => exact comparesBlocks_of fun _ _ _ => rfl
  case blkmovRta | blkmovRtb | blkidRta | blkidRtb | blkdiRta | blkdiRtb => exact movesBlock_of fun _ _ _ => rfl
  case blkiniRta | blkiniRtb => and_intros <;> exact fillsBlock_of (fun _ _ _ => rfl) (aligned_eq_decide _)

/-! ### Numbers in a word (R763, R766, R778, R780) -/

/-- A signed word lies in `0 .. m` exactly when its unsigned number is below `m + 1`. -/
theorem toInt_mem_range_iff {v : SW} {m : Int} {k : Nat} (hm : m + 1 = k) (hk : k ≤ 2 ^ 35) :
    (0 ≤ v.toInt ∧ v.toInt ≤ m) ↔ v.toNat < k := by
  have := v.isLt
  rw [BitVec.toInt_eq_toNat_cond]
  split <;> omega

/-- A register number taken from a word that holds one is that of the word. -/
theorem setWidth_five_eq_iff {v : SW} (hv : v.toNat < 32) {k : Nat} (hk : k < 32) :
    v.setWidth 5 = BitVec.ofNat 5 k ↔ v = BitVec.ofNat 36 k := by
  rw [← BitVec.toNat_inj, ← BitVec.toNat_inj, BitVec.toNat_setWidth, BitVec.toNat_ofNat, BitVec.toNat_ofNat]
  omega

section
variable {v : SW} (s : State)

theorem writeSpId_of_lt (hv : v.toNat < 32) : writeSpId v s = if v = 3 ∨ v = 31 then .error (.fatal .other)
    else .ok (s.setUs (setField s.us 0 (BitVec.ofNat 5 v.toNat))) := by
  rw [writeSpId, if_pos ((toInt_mem_range_iff (m := 31) rfl (by decide)).2 hv), BitVec.ofNat_toNat]
  exact if_congr (or_congr (setWidth_five_eq_iff hv (by decide)) (setWidth_five_eq_iff hv (by decide))) rfl rfl

theorem writeSpId_of_ge (hv : ¬ v.toNat < 32) : writeSpId v s =
    if Config.freeValue 5 s.freeCount = 3 ∨ Config.freeValue 5 s.freeCount = 31 then .error (.drawnFatal .other)
    else .ok (s.drawn.setUs (setField s.us 0 (Config.freeValue 5 s.freeCount))) :=
  if_neg (mt (toInt_mem_range_iff (m := 31) rfl (by decide)).1 hv)

theorem writeRndMode_of_lt (hv : v.toNat < 32) :
    writeRndMode v s = .ok (s.setUs (setField s.us 19 (BitVec.ofNat 5 v.toNat))) := by
  rw [writeRndMode, if_pos ((toInt_mem_range_iff (m := 31) rfl (by decide)).2 hv), BitVec.ofNat_toNat]
  rfl

theorem writeRndMode_of_ge (hv : ¬ v.toNat < 32) :
    writeRndMode v s = .ok (s.drawn.setUs (setField s.us 19 (Config.freeValue 5 s.freeCount))) :=
  if_neg (mt (toInt_mem_range_iff (m := 31) rfl (by decide)).1 hv)

theorem writeFile_of_lt (set : SW → FileNum → SW) (hv : v.toNat < 16) :
    writeFile set v s = .ok (s.setPs (set s.ps (BitVec.ofNat 4 v.toNat))) := by
  rw [writeFile, if_pos ((toInt_mem_range_iff (m := 15) rfl (by decide)).2 hv), BitVec.ofNat_toNat]

theorem writeFile_of_ge (set : SW → FileNum → SW) (hv : ¬ v.toNat < 16) :
    writeFile set v s = .ok (s.drawn.setPs (set s.ps (Config.freeValue 4 s.freeCount))) :=
  if_neg (mt (toInt_mem_range_iff (m := 15) rfl (by decide)).1 hv)

end

/-! ### Loads of a status word -/

section
variable {s : State} {o1 : OD} {x : Operand} {v : SW} {priv : Bool} {f : SW → State → M State} {i : Instr}

/-- A load of a status word is the change it makes, once OP1 has been read. -/
theorem loadStatus_noOD {env : Env} (hp : s.mayRun priv) (h1 : s.evalOD o1 = .ok x) (h2 : s.readOp x .s = .ok v) :
    loadStatus priv f o1 noOD env s = f v s >>= fun t => .ok (t.setPc env.next) := by
  have hu : checkUnused noOD = .ok () := rfl
  cases priv with
  | false => simp only [loadStatus, Bool.false_eq_true, if_false, hu, h1, h2, M.ok_bind]
  | true =>
    have hpriv : s.privileged env = .ok () := State.privileged_ok.2 (hp rfl)
    simp only [loadStatus, if_true, hpriv, hu, h1, h2, M.ok_bind]

/-- A load that makes the change `g` and leaves `us` in `USER_STATUS` stores nothing. -/
theorem completes_of_loadStatus {g : State → State} {base : State} {us : SW}
    (he : exec i s = runInstr i.form (loadStatus priv f o1 noOD) s) (hp : s.mayRun priv) (h1 : s.evalOD o1 = .ok x)
    (h2 : s.readOp x .s = .ok v) (hf : f v s.stage4 = .ok ((g s.stage4).setUs us))
    (hg : g s.stage4 = { base with traceEnbOld := Ps.traceEnb s.ps }) :
    Completes s i base (s.done g us (s.after i)) [] := by
  refine completes_of g [] (exec_of he ?_) rfl hg (absurd rfl) (List.forall_mem_nil _)
  rw [loadStatus_noOD (s := s.stage4) hp h1 h2, hf]
  rfl

/-- A load that is refused is the exception of its change. -/
theorem exec_of_loadStatus_error {e : Exc} (he : exec i s = runInstr i.form (loadStatus priv f o1 noOD) s)
    (hp : s.mayRun priv) (h1 : s.evalOD o1 = .ok x) (h2 : s.readOp x .s = .ok v) (hf : f v s.stage4 = .error e)
    (hstuck : e ≠ .stuck) : exec i s = s.stage4.takeExc e := by
  rw [he]
  refine runInstr_exc ?_ hstuck
  rw [loadStatus_noOD (s := s.stage4) hp h1 h2, hf, M.error_bind]

end

/-! ### `WCFILE` and `WPFILE` (R778, R780) -/

theorem loadsFile_of {set : SW → FileNum → SW} {mk : OD → OD → Instr}
    (he : ∀ o1 o2 s, exec (mk o1 o2) s = runInstr (mk o1 o2).form (loadStatus true (writeFile set) o1 o2) s) :
    LoadsFile set mk := by
  intro o1 s x v hm h1 h2
  have hp : s.mayRun true := fun _ => hm
  split
  next hv => exact completes_of_loadStatus (he o1 noOD s) hp h1 h2 (writeFile_of_lt s.stage4 set hv) rfl
  next hv => exact completes_of_loadStatus (he o1 noOD s) hp h1 h2 (writeFile_of_ge s.stage4 set hv) rfl

/-! ### Jumps that load the status words (R751, R756, R774) -/

section
variable {s : State} {o1 : OD} {j : JDest} {d : VAddr} {us ps : SW} {env : Env}

theorem State.loadUs_eq (s : State) (w : SW) :
    s.loadUs w = if Us.legal w = true then .ok (s.setUs w) else .error (.fatal .other) :=
  checkUS_bind w _

theorem writeUsJump_eq {x : Operand} (h1 : s.evalOD o1 = .ok x) (hj : s.jumpDest j = .ok d) (hv : s.readOp x .s = .ok us) :
    writeUsJump o1 j env s =
      if Us.legal us = true then .ok ((s.setUs us).setPc d) else .error (.fatal .other) := by
  simp only [writeUsJump, h1, hj, hv, State.loadUs_eq, M.ok_bind]
  split <;> rfl

theorem writeFullJump_eq {l : Loc} (hm : Ps.crntMode s.ps = true) (h1 : s.evalOD o1 = .ok (.loc l))
    (hj : s.jumpDest j = .ok d) (hus : s.readLoc l .s = .ok us) (hps : s.readLoc (l.next .s) .s = .ok ps) :
    writeFullJump o1 j env s =
      if Us.legal us = true then .ok (((s.setUs us).setPs ps).setPc d) else .error (.fatal .other) := by
  have hpriv : s.privileged env = .ok () := State.privileged_ok.2 hm
  simp only [writeFullJump, hpriv, h1, hj, hus, hps, Operand.asLoc, State.loadUs_eq, M.ok_bind]
  split <;> rfl

end

/-! ### The obligations on the status words -/

/-- Settles O54: the words and fields stored are those of the rules; a load is its check or, outside its range, its draw. -/
theorem userStatusInstructions : Obligations.UserStatusInstructions := by
  refine ⟨?rus, ?rspid, ?rrndmd, ?setus, ?clrus, ?fields, ?jus, ?jusclr, ?wusjmp⟩
  case rus => exact storesWord_of (fun _ _ _ => rfl) fun _ => rfl
  case rspid | rrndmd => exact storesWord_of (fun _ _ _ => rfl) fun _ => (BitVec.ofNat_toNat _ _).symm
  case setus | clrus => exact loadsUserStatus_of fun _ _ _ => rfl
  case fields =>
    intro o1 s x v h1 h2
    have hp : s.mayRun false := fun h => absurd h Bool.false_ne_true
    split
    next hv =>
      have hsp := writeSpId_of_lt s.stage4 hv
      refine ⟨?_, completes_of_loadStatus rfl hp h1 h2 (g := id) (writeRndMode_of_lt s.stage4 hv) rfl⟩
      split
      next h => exact exec_of_loadStatus_error rfl hp h1 h2 (hsp.trans (if_pos h)) (by simp)
      next h => exact completes_of_loadStatus rfl hp h1 h2 (g := id) (hsp.trans (if_neg h)) rfl
    next hv =>
      have hsp := writeSpId_of_ge s.stage4 hv
      refine ⟨?_, completes_of_loadStatus rfl hp h1 h2 (writeRndMode_of_ge s.stage4 hv) rfl⟩
      split
      next h => exact exec_of_loadStatus_error rfl hp h1 h2 (hsp.trans (if_pos h)) (by simp)
      next h => exact completes_of_loadStatus rfl hp h1 h2 (hsp.trans (if_neg h)) rfl
  case jus =>
    simp only [List.forall_mem_cons]
    and_intros
    iterate 4 exact jumpsOnStatus_of (fun _ _ _ => rfl) (LCond.rel_rule _)
    exact List.forall_mem_nil _
  case jusclr =>
    simp only [List.forall_mem_cons]
    and_intros
    iterate 4 exact jumpsAndClears_of (fun _ _ _ => rfl) (LCond.rel_rule _)
    exact List.forall_mem_nil _
  case wusjmp =>
    intro o1 j s x d v h1 hj hv
    have hb := writeUsJump_eq (s := s.stage4) (env := s.envOf (Instr.wusjmp o1 j).form) h1 hj hv
    split
    next h =>
      exact completes_of id [] (exec_of rfl (hb.trans (if_pos h))) rfl rfl (absurd rfl) (List.forall_mem_nil _)
    next h => exact trapsFatal_of rfl (hb.trans (if_neg h))

/-- Settles O55: the words and fields are those of the rules, and `WFSJMP` loads both words or, on its check, neither. -/
theorem processorStatusInstructions : Obligations.ProcessorStatusInstructions := by
  refine ⟨?rps, ?rpid, ?rcfile, ?rpfile, ?wcfile, ?wpfile, ?wfsjmp⟩
  case rps | rpid => exact storesWord_of (fun _ _ _ => rfl) fun _ => rfl
  case rcfile | rpfile => exact storesWord_of (fun _ _ _ => rfl) fun _ => (BitVec.ofNat_toNat _ _).symm
  case wcfile | wpfile => exact loadsFile_of fun _ _ _ => rfl
  case wfsjmp =>
    intro o1 j s l d us ps hm h1 hj hus hps
    have hb := writeFullJump_eq (s := s.stage4) (env := s.envOf (Instr.wfsjmp o1 j).form) hm h1 hj hus hps
    split
    next h =>
      exact completes_of (fun u => u.setPs ps) [] (exec_of rfl (hb.trans (if_pos h))) rfl rfl (absurd rfl)
        (List.forall_mem_nil _)
    next h => exact trapsFatal_of rfl (hb.trans (if_neg h))

end Sys2Proof.Machine

namespace Sys2Proof.Machine

/-! Entry through the vectors of the executive (60_exceptions.md): a hard trap or an interrupt whose vector and stack are
usable, and the interrupt that a step accepts. -/

/-! ### A usable vector (R890, R904) -/

section
variable {s v : State} {h us ps : SW} {ws : List SW} {sps : List Span}

/-- An initiation through a vector that gives an address for the PC, a legal `USER_STATUS`, and a stack with room for the
save area. -/
theorem State.initiateFull_usable {base k : Nat} {new : SW} (hh : s.vecRead (BitVec.ofNat 30 (base + 12 * k)) = .ok h)
    (hus : s.vecRead (BitVec.ofNat 30 (base + 4 + 12 * k)) = .ok us)
    (hps : s.vecRead (BitVec.ofNat 30 (base + 8 + 12 * k)) = .ok ps) (hal : field h 34 2 = 0)
    (hlow : 128 ≤ (addrOfWord h).toNat) (hlegal : Us.legal us = true)
    (hv : (s.setUs us).setPs (Ps.partialLoad s.ps ps) = v) (hnew : v.sp + BitVec.ofNat 36 (4 * ws.length) = new)
    (hsl : new.toInt ≤ v.sl.toInt) (hsps : v.locateRun .write .cur .s ws.length (addrOfWord v.sp) = .ok sps) :
    s.initiateFull (BitVec.ofNat 30 (base + 12 * k)) ws =
      .ok ((((v.writeRun .s sps ws).putReg (Us.spId v.us) new).setPc (addrOfWord h)).setRun .running) := by
  have hpush := State.pushWords_of hnew (Int.not_lt.2 hsl) hsps
  have hload : s.loadAndPush h us ps ws = .ok _ := State.loadAndPush_ok.2 ⟨_, by rw [hv]; exact hpush, rfl⟩
  rw [Nat.add_right_comm, BitVec.ofNat_add] at hus hps
  exact State.initiateFull_ok.2
    ⟨h, us, ps, hh, hus, hps, aligned_s_iff_mod.2 (addrOfWord_aligned.2 hal), hlow, hlegal, hload⟩

end

/-- Settles O9: the initiation of the trap through its vector succeeds. -/
theorem hardTrapEntry : Obligations.HardTrapEntry := by
  intro s v k first h us ps sps hk hh hus hps hal hlow hlegal hv hsl hsps t
  have hi : s.initiateFull (hrdVecAddr k) (s.hardSaveArea first) = .ok { t with pc := addrOfWord h, run := .running } := by
    subst hv
    exact State.initiateFull_usable hh hus hps hal hlow hlegal rfl rfl hsl hsps
  rw [State.enterHard, hi]

/-! ### The interrupt accepted (R920, R921) -/

/-- The search for the first one ends at the first bit that is one. -/
theorem firstOne_eq {w : BitVec 32} {n j k : Nat} (hj : j ≤ k) (hk : k < j + n) (hone : bitAt w k = true)
    (hzero : ∀ i < k, bitAt w i = false) : firstOne w n j = k := by
  induction n generalizing j with
  | zero => omega
  | succ n ih =>
    rw [firstOne]
    split
    next hbit =>
      by_contra hne
      rw [hzero j (by omega)] at hbit
      contradiction
    next hbit =>
      have hne : j ≠ k := fun he => hbit (he ▸ hone)
      exact ih (by omega) (by omega)

/-- The smallest level below `PRIO` with a request, and its smallest bit. -/
theorem State.pendingInterrupt_eq_some {s : State} {i : Fin 8} {j : Nat} (hprio : i.val < (Ps.prio s.ps).toNat)
    (hj : j < 32) (hone : bitAt (s.levelRequests i) j = true) (hzero : ∀ k < j, bitAt (s.levelRequests i) k = false)
    (hlevel : ∀ k < i, s.levelRequests k = 0) : s.pendingInterrupt = some (i, j) := by
  have hreq : s.levelRequests i ≠ 0 := by
    intro h
    rw [h] at hone
    simp [bitAt] at hone
  have hfind : (List.finRange 8).find? (fun i => decide (i.val < (Ps.prio s.ps).toNat) && s.levelRequests i != 0) =
      some i := by
    rw [← Fin.find?_eq_find?_finRange, Fin.find?_eq_some_iff]
    exact ⟨by rw [decide_eq_true hprio, bne_iff_ne.2 hreq]; rfl, fun k hk => by simp [hlevel k hk]⟩
  simp only [State.pendingInterrupt, hfind, firstOne_eq (n := 32) (Nat.zero_le j) (by omega) hone hzero]

/-- An interrupt to accept comes before everything else that a processor not halted does (R871). -/
theorem step_interrupt {s : State} {i : Fin 8} {j : Nat} (hrun : s.run ≠ .halted) (hdom : s.outOfDomain = none)
    (hint : s.pendingInterrupt = some (i, j)) : step s = s.acceptInterrupt i j := by
  simp [step, hrun, hdom, hint]

/-- A bit of a field. -/
theorem bitAt_field {n : Nat} (w : BitVec n) {i l k : Nat} (hk : k < l) (h : i + l ≤ n) :
    bitAt (field w i l) k = bitAt w (i + k) := by
  rw [bitAt_eq_getLsbD _ hk, getLsbD_field, bitAt_eq_getLsbD w (by omega), decide_eq_true (by omega), Bool.true_and,
    show n - i - l + (l - 1 - k) = n - 1 - (i + k) by omega]

/-- The parameter of interrupt `v` of 256 (R79). -/
theorem State.intParmAt_ofNat {s : State} {v : Nat} (hv : v < 256) :
    s.intParmAt (BitVec.ofNat 8 v) = s.intParm[v]?.getD 0 := by
  have hnat : (BitVec.ofNat 8 v).toNat = v := by rw [BitVec.toNat_ofNat, Nat.mod_eq_of_lt hv]
  simp only [State.intParmAt, hnat, Vector.getElem?_eq_getElem hv, Option.getD_some]

/-- Settles O7: the search finds level and bit, and the initiation of the interrupt through its vector succeeds. -/
theorem interruptIsAccepted : Obligations.InterruptIsAccepted := by
  intro s v i j h us ps sps hrun hemu hlegal0 hprio hj hone hlevel hzero hh hus hps hal hlow hlegal hv hsl hsps t
  have hbit (k : Nat) (hk : k < 32) : bitAt (s.levelRequests i) k = bitAt (s.intPend[i] &&& s.intEnb[i]) k := by
    rw [State.levelRequests, bitAt_field _ hk (by decide), Nat.zero_add]
  have hint := State.pendingInterrupt_eq_some hprio hj ((hbit j hj).trans hone)
    (fun k hk => (hbit k (by omega)).trans (hzero k hk)) hlevel
  have hi : s.initiateFull (intVecAddr (32 * i.val + j))
      [s.intParmAt (BitVec.ofNat 8 (32 * i.val + j)), s.instructionState, s.us, s.ps, pcWord s.pc] =
        .ok { t with pc := addrOfWord h, run := .running } := by
    subst hv
    rw [State.intParmAt_ofNat (by omega)]
    exact State.initiateFull_usable hh hus hps hal hlow hlegal rfl rfl hsl hsps
  have hpend : t.intPend = s.intPend := by
    rw [State.putReg_intPend, State.writeRun_intPend, hv]
    rfl
  rw [step_interrupt hrun (State.outOfDomain_eq_none hemu hlegal0) hint, State.acceptInterrupt]
  simp only [hi, hpend]

end Sys2Proof.Machine

namespace Sys2Proof.Machine

/-! Sweeps, segment registers, interrupt registers and counters (48_cache_intr_io_misc.md). `Laws/Families.lean` says what the
shapes of these instructions do; what is left is which part of the state a number names and which values are refused. -/

/-! ### Sweeps and segment registers (R792 to R808) -/

/-- The low-order 34 bits of a word (R804). -/
theorem field_low_34 (w : SW) : field w 2 34 = BitVec.ofNat 34 w.toNat := by
  apply BitVec.eq_of_toNat_eq
  rw [toNat_field, BitVec.toNat_ofNat, Nat.sub_self, Nat.pow_zero, Nat.div_one]

/-- The low `k` bits of a word are zero. -/
theorem field_low_bne {i k : Nat} (w : SW) (h : i + k = 36) :
    (field w i k != 0) = !decide (w.toNat % 2 ^ k = 0) := by
  have hiff : field w i k = 0 ↔ w.toNat % 2 ^ k = 0 := by
    rw [← BitVec.toNat_inj, toNat_field, show 36 - i - k = 0 by omega, Nat.pow_zero, Nat.div_one]
    rfl
  rw [← decide_eq_decide.2 hiff]
  rfl

/-- Settles O56: each sweep runs its shape with its count register, and a segment load is the write of its two registers. -/
theorem sweepsAndSegments : Obligations.SweepsAndSegments := by
  refine ⟨?rtaV, ?rtaP, ?rtbV, ?rtbP, ?maps, ?user, ?exec⟩
  case rtaV | rtaP | rtbV | rtbP =>
    simp only [List.forall_mem_cons]
    and_intros
    iterate 3 exact sweepsCache_of fun _ _ _ => rfl
    exact List.forall_mem_nil _
  case maps =>
    simp only [List.forall_mem_cons]
    and_intros
    iterate 4 exact sweepsMap_of fun _ _ _ => rfl
    exact List.forall_mem_nil _
  case user | exec =>
    exact loadsSegment_of (fun _ _ _ => rfl) (fun _ _ _ => rfl) (fun _ _ _ => rfl) (fun _ _ _ => rfl) field_low_34
      fun w => field_low_bne w rfl

/-! ### The part that a number names (R812, R848) -/

section
variable {α : Type}

/-- A number of `n` bits is refused when a bit above them is set. -/
theorem numberField_bind {n : Nat} (hn : n ≤ 36) (w : SW) (f : BitVec n → M α) :
    ((if field w 0 (36 - n) != 0 then .error (.fatal .other) else .ok (field w (36 - n) n) : M (BitVec n)) >>= f) =
      if h : w.toNat < 2 ^ n then f (.ofFin ⟨w.toNat, h⟩) else .error (.fatal .other) := by
  have hhigh : field w 0 (36 - n) = 0 ↔ w.toNat < 2 ^ n := by
    have hw : w.toNat / 2 ^ n < 2 ^ (36 - n) := by
      rw [Nat.div_lt_iff_lt_mul (Nat.two_pow_pos n), ← Nat.pow_add, Nat.sub_add_cancel hn]
      exact w.isLt
    rw [← BitVec.toNat_inj, toNat_field, show 36 - 0 - (36 - n) = n by omega, Nat.mod_eq_of_lt hw,
      show (0 : BitVec (36 - n)).toNat = 0 from Nat.zero_mod _, Nat.div_eq_zero_iff_lt (Nat.two_pow_pos n)]
  by_cases h : w.toNat < 2 ^ n
  case pos =>
    have hlow : field w (36 - n) n = .ofFin ⟨w.toNat, h⟩ := by
      apply BitVec.eq_of_toNat_eq
      rw [toNat_field, show 36 - (36 - n) - n = 0 by omega, Nat.pow_zero, Nat.div_one]
      exact Nat.mod_eq_of_lt h
    rw [if_neg (by simpa using hhigh.2 h), hlow, M.ok_bind, dif_pos h]
  case neg => rw [if_pos (by simpa using mt hhigh.1 h), M.error_bind, dif_neg h]

theorem intLevel_bind (w : SW) (f : BitVec 3 → M α) :
    (intLevel w >>= f) = if h : w.toNat < 8 then f (.ofFin ⟨w.toNat, h⟩) else .error (.fatal .other) :=
  numberField_bind (by decide) w f

theorem intVector_bind (w : SW) (f : BitVec 8 → M α) :
    (intVector w >>= f) = if h : w.toNat < 256 then f (.ofFin ⟨w.toNat, h⟩) else .error (.fatal .other) :=
  numberField_bind (by decide) w f

theorem counterNum_bind (w : SW) (f : Fin Config.nCtr → M α) :
    (counterNum w >>= f) = if h : w.toNat < Config.nCtr then f ⟨w.toNat, h⟩ else .error (.fatal .other) := by
  unfold counterNum
  split <;> rfl

end

/-! ### Words written in an interrupt register (R76, R77, R815, R821) -/

/-- A word with bits 32 to 35 set is refused. -/
theorem fatalIf_lowFour_bind {α : Type} (v : SW) (x : M α) :
    (fatalIf (field v 32 4 != 0) .other >>= fun _ => x) =
      if (v.toNat % 16 == 0) = true then x else .error (.fatal .other) := by
  have hlow : (field v 32 4 != 0) = !(v.toNat % 16 == 0) := field_low_bne (i := 32) (k := 4) v rfl
  rw [hlow, fatalIf_bind]
  cases v.toNat % 16 == 0 <;> rfl

/-- A set instruction ignores bits 32 to 35 (R816, R822). -/
theorem levelMask_eq (v : SW) : levelMask v = v &&& 0o777777777760 := by
  have hmask : (0o777777777760 : SW) = BitVec.allOnes 32 ++ 0#4 := by decide
  have hv : field v 0 32 ++ field v 32 4 = v := (field_append_field v (by decide)).trans (field_full v)
  calc levelMask v = (field v 0 32 &&& BitVec.allOnes 32) ++ (field v 32 4 &&& 0#4) := by
        rw [BitVec.and_allOnes, BitVec.and_zero, levelMask]
    _ = v &&& 0o777777777760 := by rw [hmask, ← BitVec.and_append, hv]

/-! ### The obligation on the interrupt registers and the counters -/

section
variable {s : State} {o1 o2 : OD} {x1 x2 : Operand} {d : Span} {k : SW} {pd : Prec}

/-- An unprivileged instruction that stores a part of the state is the read of that part, once its operands are known. -/
theorem storePart_eq {f : SW → State → M (BitVec pd.bits × State)} {env : Env} (h1 : s.evalOD o1 = .ok x1)
    (h2 : s.evalOD o2 = .ok x2) (hd : s.checkWrite x1 pd = .ok d) (hk : s.readOp x2 .s = .ok k) :
    storePart false pd f o1 o2 env s = f k s >>= fun r => .ok ((r.2.writeSpan pd d r.1).setPc env.next) := by
  simp only [storePart, Bool.false_eq_true, if_false, h1, h2, hd, hk, M.ok_bind]

/-- A read of counter 0 delivers what it has advanced to (R81, R850). -/
theorem readCounter_zero {c : DW} (hc : c = s.ctr[0] + 1 + BitVec.ofNat 72 (Config.cycleAdvance s.freeCount)) :
    readCounter 0 s = .ok (c, { s with ctr := s.ctr.set 0 c, freeCount := s.freeCount + 1 }) := by
  have hread : s.advanceClock.ctr[0] = c := (Vector.getElem_set_self _).trans hc.symm
  have hclock : s.advanceClock = { s with ctr := s.ctr.set 0 c, freeCount := s.freeCount + 1 } := by
    rw [hc]
    rfl
  calc readCounter 0 s = .ok (s.advanceClock.ctr[0], s.advanceClock) := rfl
    _ = _ := by rw [hread, hclock]

end

/-- Settles O57: the number names the part, and a read of counter 0 advances it first. -/
theorem interruptRegistersAndCounters : Obligations.InterruptRegistersAndCounters := by
  refine ⟨?rien, ?ripnd, ?ripar, ?wien, ?wipnd, ?sien, ?cien, ?sipnd, ?cipnd, ?wipar, ?rectr, ?wctr, ?wectr, ?rctr⟩
  case rien | ripnd => exact storesPart_of (fun _ _ _ => rfl) fun k _ => intLevel_bind k _
  case ripar => exact storesPart_of (fun _ _ _ => rfl) fun k _ => intVector_bind k _
  case rectr => exact storesPart_of (fun _ _ _ => rfl) fun k _ => counterNum_bind k _
  case wien | wipnd =>
    refine loadsPart_of (fun _ _ _ => rfl) (fun k v s => (intLevel_bind k _).trans ?_) (fun _ _ _ => rfl) fun _ _ _ => rfl
    simp only [fatalIf_lowFour_bind]
    rfl
  case sien | sipnd =>
    refine loadsPart_of (fun _ _ _ => rfl) (fun k v s => (intLevel_bind k _).trans ?_) (fun _ _ _ => rfl) fun _ _ _ => rfl
    rw [levelMask_eq]
    rfl
  case cien | cipnd =>
    exact loadsPart_of (fun _ _ _ => rfl) (fun k _ _ => intLevel_bind k _) (fun _ _ _ => rfl) fun _ _ _ => rfl
  case wipar => exact loadsPart_of (fun _ _ _ => rfl) (fun k _ _ => intVector_bind k _) (fun _ _ _ => rfl) fun _ _ _ => rfl
  case wctr | wectr =>
    exact loadsPart_of (fun _ _ _ => rfl) (fun k _ _ => counterNum_bind k _) (fun _ _ _ => rfl) fun _ _ _ => rfl
  case rctr =>
    intro o1 o2 s x1 x2 d k c hm h1 h2 hd hk hc
    have hbody := storePart_eq (s := s.stage4) (pd := .d) (f := readCounter)
      (env := s.envOf (Instr.rctr o1 o2).form) h1 h2 hd hk
    split
    next h0 =>
      rw [h0, readCounter_zero (s := s.stage4) hc, M.ok_bind] at hbody
      refine completes_of (fun u => { u with ctr := u.ctr.set 0 c, freeCount := u.freeCount + 1 }) [⟨.d, d, c⟩]
        (exec_of_plain rfl hbody ?_) rfl rfl (fun _ => hm) fun x hx => hx
      exact State.writeSpan_us ..
    next h0 =>
      have hnum : ¬ k.toNat < Config.nCtr := fun h => h0 (BitVec.eq_of_toNat_eq (Nat.lt_one_iff.1 h))
      have hread : readCounter k s.stage4 = .error (.fatal .other) := (counterNum_bind k _).trans (dif_neg hnum)
      rw [hread, M.error_bind] at hbody
      exact trapsFatal_of rfl hbody

end Sys2Proof.Machine

namespace Sys2Proof.Machine

/-! The miscellaneous instructions (48_cache_intr_io_misc.md): `NOP`, `RMW`, `WAIT`, `HALT`, and `XCT`, whose chain of links is
followed by its length. -/

/-- An unused descriptor that is zero is accepted (R218). -/
theorem checkUnused_noOD : checkUnused noOD = .ok () := rfl

/-! ### `NOP`, `RMW`, `WAIT` and `HALT` (R856, R860, R864, R866) -/

section
variable {s : State} {env : Env} {o1 o2 : OD} {x1 x2 : Operand}

theorem noOperation_eq (h1 : s.evalOD o1 = .ok x1) (h2 : s.evalOD o2 = .ok x2) :
    noOperation o1 o2 env s = .ok (s.setPc env.next) := by
  simp only [noOperation, h1, h2, M.ok_bind]

/-- An operand that can be written is a location. -/
theorem State.checkWrite_ok {o : Operand} {p : Prec} {d : Span} :
    s.checkWrite o p = .ok d ↔ ∃ l, o = .loc l ∧ s.checkWriteLoc l p = .ok d := by
  cases o with
  | imm k w => exact ⟨nofun, fun ⟨_, h, _⟩ => nomatch h⟩
  | loc l => exact ⟨fun h => ⟨l, rfl, h⟩, fun ⟨_, rfl, h⟩ => h⟩

theorem readModifyWrite_eq {t : TMode} {a : TopArgs} {w2 wd : Span} {x old : SW} (ha : s.evalTop t o1 o2 = .ok a)
    (hx : s.readOp a.s1 .s = .ok x) (h2 : s.checkWrite a.s2 .s = .ok w2) (hd : s.checkWrite a.dest .s = .ok wd)
    (hold : s.readOp a.s2 .s = .ok old) :
    readModifyWrite t o1 o2 env s = .ok (((s.writeSpan .s w2 x).writeSpan .s wd old).setPc env.next) := by
  obtain ⟨l2, hl2, h2⟩ := State.checkWrite_ok.1 h2
  obtain ⟨ld, hld, hd⟩ := State.checkWrite_ok.1 hd
  rw [hl2, State.readOp] at hold
  simp only [readModifyWrite, ha, hl2, hld, Operand.asLoc, hx, h2, hd, hold, M.ok_bind]

end

/-- Settles O59: each instruction is its equation. -/
theorem miscellaneousInstructions : Obligations.MiscellaneousInstructions := by
  refine ⟨?nop, ?rmw, ?wait, ?halt⟩
  case nop =>
    intro o1 o2 s x1 x2 h1 h2
    exact jumpsTo_of rfl (noOperation_eq (s := s.stage4) h1 h2)
  case rmw =>
    intro t o1 o2 s a w2 wd x old hm ha hx h2 hd hold
    exact stores_of [⟨.s, w2, x⟩, ⟨.s, wd, old⟩] rfl (readModifyWrite_eq (s := s.stage4) ha hx h2 hd hold) rfl hm
      fun y hy => hy
  case wait =>
    intro s hm
    have hpriv (env : Env) : s.stage4.privileged env = .ok () := State.privileged_ok.2 hm
    refine completes_of (fun u => { u with run := .waiting }) [] (exec_of_plain rfl ?_ rfl) rfl rfl (absurd rfl)
      (List.forall_mem_nil _)
    simp only [bodyWait, waitInterrupt, hpriv, checkUnused_noOD, M.ok_bind]
    rfl
  case halt =>
    intro j s d hm hj
    have hpriv (env : Env) : s.stage4.privileged env = .ok () := State.privileged_ok.2 hm
    refine completes_of (fun u => { u with run := .halted }) [] (exec_of_plain rfl ?_ rfl) rfl rfl (absurd rfl)
      (List.forall_mem_nil _)
    simp only [bodyHalt, haltAt, hpriv, State.stage4_jumpDest, hj, checkUnused_noOD, M.ok_bind]
    rfl

/-! ### Bodies that are not a link of a chain (R862) -/

/-- Entry `k` of a table of which one entry of one block is replaced. -/
theorem tableGet_set {α : Type} {t : List (List α)} {b : List α} {m j k : Nat} {a : α} (hb : t[m]? = some b)
    (hk : ¬ (k / 40 = m ∧ k % 40 = j)) : tableGet (t.set m (b.set j a)) k = tableGet t k := by
  by_cases hm : k / 40 = m
  · have hkj : k % 40 ≠ j := by omega
    have hlen : m < t.length := (List.getElem?_eq_some_iff.1 hb).1
    simp only [tableGet, hm, hb, List.getElem?_set_self hlen, List.getElem?_set_ne hkj.symm]
  · simp only [tableGet, List.getElem?_set_ne (Ne.symm hm)]

/-- Only the entry of `XCT` depends on what a link of a chain is handed to. -/
theorem xopBodies_eq_set (x y : OD → OD → Body) : xopBodies x = (xopBodies y).set 14 ((xopBodies14 y).set 7 x) := rfl

theorem perform_congr (x y : OD → OD → Body) {f : Form} (h : ∀ o1 o2, f ≠ .xop 567 o1 o2) :
    perform x f = perform y f := by
  cases f with
  | xop k o1 o2 =>
    have hk : ¬ (k / 40 = 14 ∧ k % 40 = 7) := fun hk => h o1 o2 (by rw [show k = 567 by omega])
    have hget : tableGet (xopBodies x) k = tableGet (xopBodies y) k :=
      (congrArg (tableGet · k) (xopBodies_eq_set x y)).trans (tableGet_set rfl hk)
    simp only [perform, hget]
  | _ => rfl

/-- The instruction with the number of `XCT` is `XCT`. -/
theorem Instr.eq_xct_of_form {i : Instr} {o1 o2 : OD} (h : i.form = .xop 567 o1 o2) : i = .xct o1 o2 := by
  have hi := i.instr_form
  rw [h] at hi
  exact (Option.some.inj hi).symm

/-! ### A link of a chain (R862, R863) -/

section
variable {s : State} {env : Env} {o1 : OD} {l : Loc} {w0 w1 w2 : SW} {run : Form → Body}

theorem xctLink_immediate {k : ConstKind} {w : SW} (h : s.evalOD o1 = .ok (.imm k w)) :
    xctLink run o1 noOD env s = .error (.fatal .immediate) := by
  simp only [xctLink, checkUnused_noOD, h, Operand.asLoc, M.ok_bind, M.error_bind]

theorem xctLink_prev (h : s.evalOD o1 = .ok (.loc l)) (hc : l.ctx = .prev) :
    xctLink run o1 noOD env s = .error (.fatal .pBit) := by
  simp only [xctLink, checkUnused_noOD, h, Operand.asLoc, hc, fatalIf_bind, M.ok_bind]
  rfl

/-- The words that OP1 names run with the next address of the `XCT`. -/
theorem xctLink_ok {f : Form} (h : s.evalOD o1 = .ok (.loc l)) (hc : l.ctx ≠ .prev) (h0 : s.readLoc l .s = .ok w0)
    (h1 : s.readLoc (l.next .s) .s = .ok w1) (h2 : s.readLoc ((l.next .s).next .s) .s = .ok w2)
    (hf : decodeForm w0 w1 w2 = .ok f) : xctLink run o1 noOD env s = run f ⟨w0, env.next⟩ s := by
  have hp : fatalIf (l.ctx == .prev) .pBit = .ok () := by simp [fatalIf, hc]
  simp only [xctLink, checkUnused_noOD, h, Operand.asLoc, hp, h0, h1, h2, hf, M.ok_bind]

/-- Words that hold no instruction are fatal 6 (R272). -/
theorem xctLink_illegal {e : DecodeError} (h : s.evalOD o1 = .ok (.loc l)) (hc : l.ctx ≠ .prev)
    (h0 : s.readLoc l .s = .ok w0) (h1 : s.readLoc (l.next .s) .s = .ok w1)
    (h2 : s.readLoc ((l.next .s).next .s) .s = .ok w2) (hf : decodeForm w0 w1 w2 = .error e) :
    xctLink run o1 noOD env s = .error (.fatal .illegalInstruction) := by
  have hp : fatalIf (l.ctx == .prev) .pBit = .ok () := by simp [fatalIf, hc]
  simp only [xctLink, checkUnused_noOD, h, Operand.asLoc, hp, h0, h1, h2, hf, M.ok_bind]

/-- Words that are no instruction have no form either. -/
theorem decodeForm_error_of_decodeWords {e : DecodeError} (h : decodeWords w0 w1 w2 = .error e) :
    ∃ e', decodeForm w0 w1 w2 = .error e' := by
  cases hf : decodeForm w0 w1 w2 with
  | error e' => exact ⟨e', rfl⟩
  | ok f =>
    obtain ⟨-, -, hn⟩ := decodeForm_ok_iff.1 hf
    obtain ⟨i, -, rfl⟩ := Form.exists_instr hn
    rw [decodeWords_ok_iff.2 hf] at h
    contradiction

/-- An `XCT` that executes itself comes to the end of every chain (R863). -/
theorem xctChain_self (h : s.evalOD o1 = .ok (.loc l)) (hc : l.ctx ≠ .prev) (h0 : s.readLoc l .s = .ok w0)
    (h1 : s.readLoc (l.next .s) .s = .ok w1) (h2 : s.readLoc ((l.next .s).next .s) .s = .ok w2)
    (hd : decodeForm w0 w1 w2 = .ok (.xop 567 o1 noOD)) (n : Nat) (env : Env) :
    xctChain n o1 noOD env s = .error .stuck := by
  induction n generalizing env with
  | zero => rfl
  | succ n ih => exact (xctLink_ok h hc h0 h1 h2 hd).trans (ih ⟨w0, env.next⟩)

/-- The first word of the three that an instruction was decoded from is its own. -/
theorem firstWord_of_decodeWords {i : Instr} (h : decodeWords w0 w1 w2 = .ok i) : i.firstWord = w0 :=
  (List.cons_prefix_cons.1 (encode_prefix_of_decodeWords h).2).1

end

/-- An instruction is what its body answers. -/
theorem runInstr_congr {f g : Form} {b c : Body} {s : State}
    (h : b (s.envOf f) s.stage4 = c (s.envOf g) s.stage4) : runInstr f b s = runInstr g c s := by
  rw [runInstr, runInstr, h]

/-- Settles O60: what one link does, and the chain of an `XCT` of itself. -/
theorem executeInstruction : Obligations.ExecuteInstruction := by
  intro o1 s x hx
  have hx4 : s.stage4.evalOD o1 = .ok x := hx
  cases x with
  | imm k w => exact trapsFatal_of rfl (xctLink_immediate hx4)
  | loc l =>
    dsimp only
    split
    next hc => exact trapsFatal_of rfl (xctLink_prev hx4 hc)
    next hc =>
      intro w0 w1 w2 h0 h1 h2
      split
      next e hd =>
        obtain ⟨e', hf⟩ := decodeForm_error_of_decodeWords hd
        exact trapsFatal_of rfl (xctLink_illegal hx4 hc h0 h1 h2 hf)
      next i hd =>
        have hf := decodeWords_ok_iff.1 hd
        refine ⟨?self, ?nop, fun hi => ?link⟩
        case self =>
          rintro rfl
          exact runInstr_stuck (xctChain_self (s := s.stage4) hx4 hc h0 h1 h2 hf 8 _)
        case nop =>
          rintro p q x1 x2 rfl hp hq
          exact jumpsTo_of rfl ((xctLink_ok hx4 hc h0 h1 h2 hf).trans (noOperation_eq (s := s.stage4) hp hq))
        case link =>
          have hrun : perform (xctChain 7) i.form = perform bodyXct i.form :=
            perform_congr _ _ fun p q h => hi p q (Instr.eq_xct_of_form h)
          have hexec : exec (.xct o1 noOD) s =
              runInstr i.form (fun _ u => perform bodyXct i.form ⟨w0, s.after (.xct o1 noOD)⟩ u) s :=
            runInstr_congr ((xctLink_ok hx4 hc h0 h1 h2 hf).trans (by rw [hrun]; rfl))
          refine ⟨hexec, fun hlen => hexec.trans ?_⟩
          have henv : (⟨w0, s.after (.xct o1 noOD)⟩ : Env) = s.envOf i.form := by
            rw [← firstWord_of_decodeWords hd, State.after, ← hlen]
            rfl
          rw [exec_eq i s, henv]
          rfl

end Sys2Proof.Machine

namespace Sys2Proof.Machine

/-! Input and output (48_cache_intr_io_misc.md). The machine packs elements in one number, the rules in one list of binary digits:
the number of the digits is the machine's, and a part of the list is a field of the number. -/

/-! ### Numbers in binary digits (R838) -/

section
variable {α : Type}

theorem Rule.ofBits_append (a b : List Bool) :
    Rule.ofBits (a ++ b) = Rule.ofBits a * 2 ^ b.length + Rule.ofBits b := by
  have hstart (b : List Bool) (n : Nat) :
      b.foldl (fun a d => 2 * a + d.toNat) n = n * 2 ^ b.length + b.foldl (fun a d => 2 * a + d.toNat) 0 := by
    induction b generalizing n with
    | nil => simp
    | cons d b ih =>
      rw [List.foldl_cons, List.foldl_cons, ih, ih (2 * 0 + d.toNat), List.length_cons, Nat.pow_succ]
      ring
  rw [Rule.ofBits, List.foldl_append, hstart]
  rfl

theorem Rule.ofBits_lt (a : List Bool) : Rule.ofBits a < 2 ^ a.length := by
  induction a using List.reverseRecOn with
  | nil => decide
  | append_singleton a d ih =>
    have hd : Rule.ofBits [d] < 2 := by cases d <;> decide
    rw [Rule.ofBits_append, List.length_append, List.length_singleton, Nat.pow_succ]
    omega

/-- A part of a list of digits is a field of their number. -/
theorem Rule.ofBits_slice {l : List Bool} {i k : Nat} (h : i + k ≤ l.length) :
    Rule.ofBits ((l.drop i).take k) = streamField (Rule.ofBits l) l.length i k := by
  have hrest : (l.drop i).drop k = l.drop (i + k) := List.drop_drop
  have hnum : Rule.ofBits l = (Rule.ofBits (l.take i) * 2 ^ k + Rule.ofBits ((l.drop i).take k)) * 2 ^ (l.length - i - k) +
      Rule.ofBits (l.drop (i + k)) := by
    calc Rule.ofBits l = Rule.ofBits (l.take i ++ ((l.drop i).take k ++ l.drop (i + k))) := by
          rw [← hrest, List.take_append_drop, List.take_append_drop]
      _ = _ := by
          rw [← List.append_assoc, Rule.ofBits_append, Rule.ofBits_append, List.length_drop, List.length_take,
            List.length_drop, Nat.min_eq_left (by omega), Nat.sub_sub]
  have hlow := Rule.ofBits_lt (l.drop (i + k))
  have hmid := Rule.ofBits_lt ((l.drop i).take k)
  rw [List.length_drop, ← Nat.sub_sub] at hlow
  rw [List.length_take, List.length_drop, Nat.min_eq_left (by omega)] at hmid
  rw [streamField, Nat.shiftRight_eq_div_pow, hnum, Nat.mul_comm _ (2 ^ (l.length - i - k)),
    Nat.mul_add_div (Nat.two_pow_pos _), Nat.div_eq_of_lt hlow, Nat.add_zero, Nat.mul_comm _ (2 ^ k), Nat.mul_add_mod,
    Nat.mod_eq_of_lt hmid]

theorem Rule.digits_length (n k : Nat) : (Rule.digits n k).length = n := by simp [Rule.digits]

theorem Rule.ofBits_digits (n k : Nat) : Rule.ofBits (Rule.digits n k) = k % 2 ^ n := by
  induction n generalizing k with
  | zero => simp [Rule.digits, Rule.ofBits, Nat.mod_one]
  | succ n ih =>
    have hlast : Rule.digits (n + 1) k = Rule.digits n (k / 2) ++ [k.testBit 0] := by
      rw [Rule.digits, List.range_succ, List.map_append, Rule.digits]
      congr 1
      · refine List.map_congr_left fun i hi => ?_
        have hi := List.mem_range.1 hi
        rw [← Nat.testBit_succ, show (n - 1 - i).succ = n + 1 - 1 - i by omega]
      · simp
    have hbit : Rule.ofBits [k.testBit 0] = k % 2 := by
      rw [Nat.testBit_zero]
      rcases Nat.mod_two_eq_zero_or_one k with h | h <;> simp [h, Rule.ofBits]
    rw [hlast, Rule.ofBits_append, ih, hbit, List.length_singleton, Nat.pow_one, Nat.pow_succ', Nat.mod_mul, Nat.mul_comm,
      Nat.add_comm]

theorem length_flatMap_digits (n : Nat) (f : α → Nat) (l : List α) :
    (l.flatMap fun a => Rule.digits n (f a)).length = n * l.length := by
  simp [List.length_flatMap, Rule.digits_length, Nat.mul_comm]

/-- The digits of numbers of one length make the number in which each is shifted in after the others. -/
theorem Rule.ofBits_flatMap_digits (n : Nat) (f : α → Nat) (l : List α) :
    Rule.ofBits (l.flatMap fun a => Rule.digits n (f a)) = l.foldl (fun t a => t * 2 ^ n + f a % 2 ^ n) 0 := by
  induction l using List.reverseRecOn with
  | nil => rfl
  | append_singleton l a ih =>
    rw [List.flatMap_append, Rule.ofBits_append, ih, List.foldl_append, List.flatMap_singleton, Rule.digits_length,
      Rule.ofBits_digits]
    rfl

end

/-! ### Packing and unpacking (R838) -/

theorem bufferStream_eq (ws : List SW) : bufferStream ws = Rule.ofBits (ws.flatMap fun w => Rule.digits 32 w.toNat) := by
  simp only [bufferStream, Rule.ofBits_flatMap_digits, toNat_field, Nat.sub_self, Nat.pow_zero, Nat.div_one]

/-- The elements in as many buffer words as hold them. -/
theorem bufferElements_rule {t : IoKind} {n : Nat} {ws : List SW} (hlen : ws.length = t.words n) :
    bufferElements t n ws = Rule.ioElements t n ws := by
  have hbits := length_flatMap_digits 32 BitVec.toNat ws
  refine List.map_congr_left fun i hi => ?_
  have hin : i * t.bits + t.bits ≤ 32 * ws.length := by
    have hmul := Nat.mul_le_mul_right t.bits (Nat.succ_le_of_lt (List.mem_range.1 hi))
    rw [Nat.succ_mul] at hmul
    rw [hlen, IoKind.words]
    omega
  rw [bufferStream_eq, ← hbits, Nat.mul_comm t.bits, Rule.ofBits_slice (by rw [hbits]; exact hin)]

/-- The elements as digits, filled with zeros to whole buffer words. -/
theorem elementStream_eq (t : IoKind) (vs : List (BitVec t.prec.bits)) : elementStream t vs =
    Rule.ofBits ((vs.flatMap fun v => Rule.digits t.bits v.toNat) ++
      List.replicate (32 * t.words vs.length - vs.length * t.bits) false) := by
  have hzero (n : Nat) : Rule.ofBits (List.replicate n false) = 0 := by
    induction n with
    | zero => rfl
    | succ n ih => exact ih
  rw [Rule.ofBits_append, hzero, List.length_replicate, Rule.ofBits_flatMap_digits, elementStream, Nat.shiftLeft_eq,
    Nat.add_zero]

theorem bufferWords_rule (t : IoKind) (vs : List (BitVec t.prec.bits)) : bufferWords t vs = Rule.ioWords t vs := by
  have hbits := length_flatMap_digits t.bits BitVec.toNat vs
  refine List.map_congr_left fun j hj => ?_
  have hj : j < t.words vs.length := List.mem_range.1 hj
  have hwords : vs.length * t.bits ≤ 32 * t.words vs.length := by
    rw [IoKind.words]
    omega
  rw [Nat.mul_comm] at hbits
  rw [elementStream_eq]
  generalize vs.flatMap (fun v => Rule.digits t.bits v.toNat) = bits at hbits ⊢
  have hslice := Rule.ofBits_slice (i := 32 * j) (k := 32)
    (l := bits ++ List.replicate (32 * t.words vs.length - vs.length * t.bits) false)
    (by rw [List.length_append, List.length_replicate]; omega)
  rw [List.length_append, List.length_replicate, hbits, Nat.add_sub_cancel' hwords] at hslice
  rw [← hslice, List.drop_append, List.take_append, List.drop_replicate, List.take_replicate, List.length_drop]
  dsimp only
  rw [List.length_take, List.length_drop]
  congr 5
  omega

/-! ### The buffer word of an address (R830, R832) -/

section
variable {s : State} {ctx : Ctx} {va : VAddr}

/-- A page for input and output holds neither instructions nor data (R147). -/
theorem io_refused_iff {a : Option (BitVec 6)} : a.any (fun b => !Access.io.permits b) = true ↔
    ∃ b, a = some b ∧ (bitAt b 0 = true ∨ bitAt b 1 = true) := by
  rw [Option.any_eq_true]
  simp only [Access.permits, Bool.not_and, Bool.not_not, Bool.or_eq_true]

theorem State.ioBufLoc_eq {pa : PAddr} {a : Option (BitVec 6)} (hctx : ctx = .prev → Ps.crntMode s.ps = true)
    (ht : s.translate (s.space ctx) va = .ok (pa, a)) : s.ioBufLoc ctx va =
      if ∃ b, a = some b ∧ (bitAt b 0 = true ∨ bitAt b 1 = true) then
        .error (.hard .addressMd (faultParm (s.space ctx) va))
      else if 2 ^ 27 ≤ pa.toNat ∨ 8 ≤ pa.toNat / 2 ^ 18 ∨ 2048 ≤ pa.toNat % 2 ^ 18 then .error (.fatal .iobufRange)
      else .ok (2048 * (pa.toNat / 2 ^ 18) + pa.toNat % 2 ^ 18) := by
  have huser : (ctx == .prev && !Ps.crntMode s.ps) = false := by
    cases ctx with
    | cur => rfl
    | prev => simp [hctx rfl]
  have hpa := pa.isLt
  have hnum : (field pa 7 9).toNat = pa.toNat / 2 ^ 18 % 2 ^ 9 := toNat_field pa 7 9
  have haddr : (field pa 16 18).toNat = pa.toNat % 2 ^ 18 := (toNat_field pa 16 18).trans (by simp)
  have hhigh : (field pa 0 7 != 0) = true ↔ 2 ^ 27 ≤ pa.toNat := by
    rw [bne_iff_ne, ne_eq, ← BitVec.toNat_inj, toNat_field]
    simp
    omega
  rw [State.ioBufLoc, huser, if_neg Bool.false_ne_true, ht, M.ok_bind]
  simp only [checkAccess_eq, io_refused_iff, fatalIf_bind, hhigh, hnum, haddr, Bool.or_eq_true, decide_eq_true_eq,
    Config.nIobuf, Config.iobufSize]
  split
  next => rfl
  next =>
    rw [M.ok_bind]
    by_cases hhi : 2 ^ 27 ≤ pa.toNat
    · rw [if_pos hhi, if_pos (.inl hhi)]
    · rw [if_neg hhi, Nat.mod_eq_of_lt (by omega)]
      simp only [hhi, false_or]

/-- One index for each buffer word. -/
theorem State.ioBufRun_length {m : Nat} {ks : List Nat} (h : s.ioBufRun ctx m va = .ok ks) : ks.length = m := by
  induction m generalizing va ks with
  | zero => cases h; rfl
  | succ m ih =>
    obtain ⟨k, -, h⟩ := M.bind_ok.1 h
    obtain ⟨rest, hrest, h⟩ := M.bind_ok.1 h
    cases h
    rw [List.length_cons, ih hrest]

end

/-! ### The block transfers (R840, R842) -/

/-- Memory elements are no longer than a single-word, so their blocks are aligned as they are (R123). -/
theorem IoKind.aligned_eq (t : IoKind) (va : VAddr) : aligned t.prec va = decide (va.toNat % t.prec.qws = 0) := by
  rw [aligned_eq_decide]
  cases t <;> rfl

theorem State.stage4_ioSource (s : State) (t : IoKind) (x : Operand) (n : Nat) :
    s.stage4.ioSource t x n = s.ioSource t x n := by
  cases x with
  | imm k w => rfl
  | loc l => simp only [State.ioSource, State.stage4_locateRun, State.stage4_readRun]

section
variable {s : State} {env : Env} {cnt : RegNum} {t : IoKind} {o1 o2 : OD} {l1 l2 : Loc}

/-- A block to read that is no whole number of elements, or not aligned, is fatal 15 (R840). -/
theorem ioRead_unaligned (h1 : s.evalOD o1 = .ok (.loc l1)) (h2 : s.evalOD o2 = .ok (.loc l2))
    (h : s.count cnt % t.prec.qws ≠ 0 ∨ (s.count cnt ≠ 0 ∧ l1.va.toNat % t.prec.qws ≠ 0)) :
    ioRead cnt t o1 o2 env s = .error (.fatal .blockAlignment) := by
  simp only [ioRead, h1, h2, Operand.asLoc, M.ok_bind, fatalIf_bind, t.aligned_eq]
  split
  · rfl
  next hn => exact if_pos (by simpa using h.resolve_left (by simpa using hn))

/-- The elements of a block lie in the buffer words that its number of elements takes (R838, R840). -/
theorem ioRead_aligned {ks : List Nat} {ds : List Span} (h1 : s.evalOD o1 = .ok (.loc l1))
    (h2 : s.evalOD o2 = .ok (.loc l2))
    (h : ¬ (s.count cnt % t.prec.qws ≠ 0 ∨ (s.count cnt ≠ 0 ∧ l1.va.toNat % t.prec.qws ≠ 0)))
    (hin : l1.within (s.count cnt)) (hks : s.ioBufRun l2.ctx (t.words (s.count cnt / t.prec.qws)) l2.va = .ok ks)
    (hds : s.locateRun .write l1.ctx t.prec (s.count cnt / t.prec.qws) l1.va = .ok ds) :
    ioRead cnt t o1 o2 env s = .ok ((s.writeRun t.prec ds
      (Rule.ioElements t (s.count cnt / t.prec.qws) (ks.map fun k => Cells.get k s.iobuf))).setPc env.next) := by
  obtain ⟨hn, hal⟩ := not_or.1 h
  have hlen : (ks.map fun k => Cells.get k s.iobuf).length = t.words (s.count cnt / t.prec.qws) := by
    rw [List.length_map, State.ioBufRun_length hks]
  simp only [ioRead, h1, h2, Operand.asLoc, M.ok_bind, fatalIf_bind, t.aligned_eq]
  rw [if_neg (by simpa using hn), if_neg (by simpa using hal), regLoc_within hin, M.ok_bind, hks, M.ok_bind, hds, M.ok_bind,
    bufferElements_rule hlen]

end

theorem readsBuffer_of_ioRead {cnt : RegNum} {t : IoKind} {mk : OD → OD → Instr}
    (he : ∀ o1 o2 s, exec (mk o1 o2) s = runInstr (mk o1 o2).form (ioRead cnt t o1 o2) s) : ReadsBuffer cnt t mk := by
  intro o1 o2 s l1 l2 n hm h1 h2 hn
  subst hn
  split
  next h => exact trapsFatal_of (he o1 o2 s) (ioRead_unaligned (s := s.stage4) h1 h2 h)
  next h =>
    intro ks ds hin hks hds
    refine stores_of (runStores t.prec ds _) (he o1 o2 s) (ioRead_aligned (s := s.stage4) h1 h2 h hin ?_ ?_)
      (State.writeRun_storeAll _ _ _ _) hm fun x hx => mem_spansOf_runStores hx
    · exact (State.stage4_ioBufRun ..).trans hks
    · exact (State.stage4_locateRun ..).trans hds

theorem writesBuffer_of_ioWrite {cnt : RegNum} {t : IoKind} {mk : OD → OD → Instr}
    (he : ∀ o1 o2 s, exec (mk o1 o2) s = runInstr (mk o1 o2).form (ioWrite cnt t o1 o2) s) : WritesBuffer cnt t mk :=
  writesBuffer_of he (bufferWords_rule t) fun s x n => s.stage4_ioSource t x n

/-- Settles O58: the fields of a physical address are its buffer and word, and both transfers pack as the rules say. -/
theorem inputAndOutput : Obligations.InputAndOutput := by
  refine ⟨fun s ctx va pa a hctx ht => State.ioBufLoc_eq hctx ht, ?readA, ?readB, ?writeA, ?writeB, ?intiop⟩
  case readA | readB =>
    simp only [List.forall_mem_cons]
    and_intros
    iterate 4 exact readsBuffer_of_ioRead fun _ _ _ => rfl
    exact List.forall_mem_nil _
  case writeA | writeB =>
    simp only [List.forall_mem_cons]
    and_intros
    iterate 4 exact writesBuffer_of_ioWrite fun _ _ _ => rfl
    exact List.forall_mem_nil _
  case intiop =>
    intro o1 s l k h1 hk
    refine completes_of (fun u => { u with iopOut := u.iopOut ++ [BitVec.ofNat 9 (k / 2048)] }) []
      (exec_of_plain rfl ?_ rfl) rfl rfl (absurd rfl) (List.forall_mem_nil _)
    simp only [bodyIntiop, interruptIop, checkUnused_noOD, State.stage4_evalOD, h1, Operand.asLoc, State.stage4_ioBufLoc, hk,
      M.ok_bind]
    rfl

end Sys2Proof.Machine
